-- ==== Sys2Proof/Word.lean ====
section
/-! DEFINITION. The plain word types of the BM4030 and the rounding of R85. -/

namespace Sys2Proof

/-- A BAR0 register: 32 bits (R6). -/
abbrev Word := BitVec 32

/-- One byte of host memory, of the Cellar or of the NV store (R12). -/
abbrev Byte := BitVec 8

/-- A finite table from keys to values in one canonical form: keys strictly rising, and no entry equal to
what an unlisted key reads as. The operations are in `Sys2Proof/Machine/Tab.lean`. -/
abbrev Tab (α : Type) := List (Nat × α)

/-- A map over the pixels of an array: a value for every pixel not listed, and the listed exceptions. -/
structure PixMap (α : Type) where
  dflt : α
  ovr : Tab α
  deriving DecidableEq, Repr

/-- A plane of stage values: rows from top to bottom, each from left to right. -/
abbrev Plane := Array (Array Int)

end Sys2Proof
end

