-- ==== Sys2Proof/Syntax.lean ====
section
/-! DEFINITION. The commands of the block: one constructor of `Instr` per row of spec/opcode_table.json, and the
types of their operands. A row that is a host command carries the descriptor's header and its parameters (R262, R270);
a row that is an event carries what the outside world brings with it. -/

namespace Sys2Proof

/-- Header of a command descriptor (R262): TAG, RESULT_ADDR, FLAGS.FENCE. -/
structure Hdr where
  tag : Nat
  resultAddr : Nat
  fence : Bool
  deriving DecidableEq, Repr

/-- Profile fields of SET_PROFILE and ENERGY_PLAN (R270), offsets 0x10 to 0x1B. -/
structure ProfileReq where
  period : Nat
  x0 : Nat
  y0 : Nat
  w : Nat
  h : Nat
  fmt : Nat
  mode : Nat
  l : Nat
  preview : Nat
  deriving DecidableEq, Repr

/-- One entry of a requested stripe map (R216): ROLE_n, FIRST_n, COUNT_n. -/
structure MapReq where
  role : Nat
  first : Nat
  count : Nat
  deriving DecidableEq, Repr

/-- Parameters of ARM_TAKE (R236). -/
structure ArmReq where
  pre : Nat
  post : Nat
  extent : Nat
  retrig : Nat
  store : Nat
  immediate : Bool
  freeAll : Bool
  deriving DecidableEq, Repr

/-- Input of one pixel over a run of converter-clock edges (R31, R32): how many edges, and the charge per edge
after skimming, in attocoulomb. -/
structure Seg where
  edges : Nat
  charge : Int
  deriving DecidableEq, Repr

/-- What the pixel tier feeds the converters between two snapshots: the input of every physical pixel not listed,
and the listed ones by physical index 4120 * r + c (R42, R93). -/
structure Scene where
  dflt : List Seg
  px : List (Nat × List Seg)
  deriving DecidableEq, Repr

/-- A cask image as host memory or a replica holds it (R149): header fields, one 64-bit record per physical pixel
(default and exceptions) and the digest. `reservedOk`: every reserved header field is zero. -/
structure CaskImage where
  magic : Nat
  format : Nat
  gen : Nat
  e1 : Int
  e2 : Int
  bias : Nat
  qref : Nat
  captureFrame : Nat
  lastKind : Nat
  window : List Nat
  grid : List Nat
  reservedOk : Bool
  recs : PixMap (BitVec 64)
  digest : List Byte
  deriving DecidableEq, Repr

/-- A firmware image in host memory or in a SPI NOR slot (R384). -/
structure FwImage where
  magic : Nat
  format : Nat
  typ : Nat
  version : Nat
  svn : Nat
  bodyLen : Nat
  variantMask : Nat
  reservedOk : Bool
  bodyDigest : List Byte
  vendorKey : List Byte
  sig : List Byte
  body : List Byte
  deriving DecidableEq, Repr

/-- What host memory holds where a command points (ADDR): plain bytes, a cask image or a firmware image. -/
inductive HostData where
  | none
  | bytes (b : List Byte)
  | cask (c : CaskImage)
  | fw (f : FwImage)
  | error
  deriving DecidableEq, Repr

/-- A buffer descriptor of a buffer ring (R275). -/
structure BufDesc where
  addr : Nat
  len : Nat
  reserved : Nat
  deriving DecidableEq, Repr

/-- A Waymark message (R288): TYPE, SEQ, ORIGIN, FLAGS and the seven body bytes 2 to 8. -/
structure RingMsg where
  typ : Nat
  seq : Nat
  origin : Nat
  flags : Nat
  body : List Nat
  deriving DecidableEq, Repr

/-- Header of a work item between dies (R218): frame, first tile row, pass (`true`: preview) and map version. -/
structure ItemHdr where
  frame : Nat
  row : Nat
  preview : Bool
  version : Nat
  deriving DecidableEq, Repr

/-- Activity of one ledger interval as the counters of the dies report it (R314): management-core cycles, pool
bytes, hub bytes, eMRAM row writes, ticks of each link state, and per P die the core cycles, filler cycles, Cellar
bytes and Trellis bytes; coil energy of the interval in microjoule. -/
structure DieActivity where
  core : Nat
  filler : Nat
  cellar : Nat
  trellis : Nat
  deriving DecidableEq, Repr

structure Activity where
  mgmt : Nat
  pool : Nat
  hub : Nat
  rows : Nat
  linkL0 : Nat
  linkL1 : Nat
  linkL12 : Nat
  dies : List DieActivity
  deriving DecidableEq, Repr

/-- What the boot finds at each of its steps (R387): for each image type the two slots as the SPI NOR device holds
them. -/
structure SpiSlots where
  mgmtA : FwImage
  mgmtB : FwImage
  coilA : FwImage
  coilB : FwImage
  pdieA : FwImage
  pdieB : FwImage
  answers : Bool
  deriving DecidableEq, Repr

/-- The two coil groups and their engines (R184, R189). -/
inductive Group where
  | a
  | b
  deriving DecidableEq, Repr

/-- Regions of a die's Cellar (R234). -/
inductive CellarRegion where
  | caskA
  | caskB
  | history
  | lookahead
  | scratchMonitor (frame y x : Nat)
  | scratchAccum
  | scratchImage
  | hostwin
  | take (id : Nat) (frame : Nat)
  deriving DecidableEq, Repr

/-- The units of a die that self-test takes out of service (R410), with the die code of R333. -/
structure SliceId where
  die : Nat
  unit : Nat
  slice : Nat
  deriving DecidableEq, Repr

/-- A read of `size` bytes at an offset of BAR0 (R6, R7). -/
structure RegRead where
  off : Nat
  size : Nat
  deriving DecidableEq, Repr

/-- Where an LTC frame begins and ends, in device time (R70). -/
structure LtcSpan where
  start : Nat
  stop : Nat
  deriving DecidableEq, Repr

/-- The commands (rows of spec/opcode_table.json, in the table's order). -/
inductive Instr where
  -- host commands, as accepted from the command ring
  | startStream (h : Hdr)
  | stopStream (h : Hdr)
  | setProfile (h : Hdr) (p : ProfileReq) (frame : Nat)
  | armTake (h : Hdr) (r : ArmReq)
  | abortTake (h : Hdr)
  | abortReplay (h : Hdr)
  | replayTake (h : Hdr) (die take mode first count interval : Nat)
  | calibrate (h : Hdr) (kind flags capture : Nat)
  | rackCask (h : Hdr) (cask frame : Nat)
  | loadCask (h : Hdr) (cask addr : Nat) (data : HostData)
  | saveCask (h : Hdr) (cask addr : Nat)
  | calAbort (h : Hdr)
  | coilRun (h : Hdr) (coil entry : Nat)
  | coilStop (h : Hdr) (coil entry : Nat)
  | roleSet (h : Hdr) (expect handover frame : Nat) (map : List MapReq)
  | energyPlan (h : Hdr) (p : ProfileReq) (frames store : Nat)
  | setBudget (h : Hdr) (cap window allow flat mask : Nat)
  | bistRun (h : Hdr) (die unit slices : Nat)
  | nvRead (h : Hdr) (area offset length addr password : Nat)
  | nvWrite (h : Hdr) (area offset length addr password : Nat) (data : HostData)
  | nvStoreTrims (h : Hdr)
  | attest (h : Hdr) (nonce : List Byte) (addr : Nat)
  | fwStage (h : Hdr) (image length addr : Nat) (data : HostData)
  | fwCommit (h : Hdr) (image : Nat)
  | debugUnlockChallenge (h : Hdr) (addr : Nat)
  | debugUnlockResponse (h : Hdr) (length addr : Nat) (data : HostData)
  -- doorbells, fetching and interrupts
  | cmdProd (v : Nat)
  | chBufProd (ch v : Nat) (descs : List BufDesc)
  | cmpCons (v : Nat)
  | chScmpCons (ch v : Nat)
  | commandFetch (desc : List Byte) (data : HostData)
  | interruptModerationTimeout (vector : Nat)
  -- register accesses
  | registerWrite (off size : Nat) (v : BitVec 64)
  | loRegisterRead (a : RegRead)
  | senBiasWrite (v : Word)
  | senQrefWrite (v : Word)
  | senGridFrameLoRead
  | senGridFrameHiRead
  | gridFreezeTimeout
  | settlingEnd
  | tmgSyncConfigWrite (off : Nat) (v : Word)
  | tmgTrigConfigWrite (off : Nat) (v : Word)
  | pplRadDataWrite (v : Word)
  | swap (v : Word)
  | flush (v : Word)
  | trsTauWrite (off : Nat) (v : Word)
  | calTrimWrite (off : Nat) (v : Word)
  | coilUcodeWrite (w : Nat) (v : Word)
  | regGo
  | injGo
  | selfcal
  | qFlush
  | hkcQLoRead
  | censusRequest
  | userSend
  | wayCfgWrite (v : Word)
  | pstateRequest (v : Word)
  | critHoldClear
  | lock
  | secMboxReqWrite (v : Word)
  | cmdEn (v : Word)
  | channelEnable (ch : Nat) (v : Word)
  | channelDisable (ch : Nat) (v : Word)
  | glbIntSummaryWrite (v : Word)
  | glbIntEnWrite (v : Word)
  -- resets, supplies, link, boot and power states
  | busMasterEnableChange (on : Bool)
  | d3hotEntry
  | powerOn
  | rstNAssert
  | rstNRelease
  | vioLow
  | vddHLow
  | mgmtWatchdogExpire
  | perstNAssert
  | functionLevelReset
  | linkUp (speed width : Nat)
  | recallComplete (us : Nat)
  | bootComplete (slots : SpiSlots)
  | bootBistEnd
  | pstateReached
  -- snapshots, readout and frames
  | frameSnapshot (scene : Scene)
  | intermediateSnapshot (scene : Scene)
  | gridConversionDone (readings : List (Option Int))
  | readout (die : Nat) (i : ItemHdr)
  | halo (die : Nat) (i : ItemHdr) (part : Nat)
  | state (die : Nat) (i : ItemHdr)
  | history (die : Nat) (i : ItemHdr)
  | backfeed (die : Nat) (i : ItemHdr)
  | control (die : Nat) (cid : Nat)
  | misdeliveredItemReturn (sender : Nat) (i : ItemHdr)
  | previewFrameComplete (frame : Nat)
  | committedFrameComplete (frame : Nat)
  | egressBufferAvailable (ch : Nat)
  | recordTransferDone (ch : Nat) (dmaError : Bool)
  -- reference, timecode and triggers
  | refInEdge (t : Nat)
  | refLossTimeout
  | ltcFrame (span : LtcSpan) (code : Word) (user : Word) (reverse : Bool)
  | ltcLossTimeout
  | trigInEdge (t : Nat) (level : Bool)
  | triggerAccept
  -- takes and replay
  | takeTriggerFinal
  | takeFinalise
  | takeInterruptedClose
  | replayRecordQueue
  -- Cellar, dies and roles
  | cellarEccError (die : Nat) (region : CellarRegion) (corrected : Bool)
  | patrolScrub (die : Nat) (corrected : Nat)
  | trellisLinkFail (die : Nat)
  | dieWatchdogMiss (die : Nat)
  | diePrepared (die : Nat) (sizeGb : Nat)
  | replicaCheckDone (die : Nat) (okA okB : Bool)
  | replicaRestore (die : Nat) (cask : Nat)
  | roleSetReadyTimeout
  | drainEnd (die : Nat)
  | rotationDue
  -- casks and calibration
  | loadCaskCopyDone
  | saveCaskDone
  | calibrationDecision (meas : List Int)
  | calibrationCopyValid
  | calAutoStart
  -- coil drive
  | chopGridPoint (g : Group)
  | coilCurrentAtTarget (g : Group)
  | phase (g : Group)
  | phaseDurationEnd (g : Group)
  | waitKink (g : Group)
  | waitKinkTimeout (g : Group)
  | jumpIf (g : Group)
  | setFlag (g : Group)
  | endProfile (g : Group)
  | illegalWord (g : Group)
  | untimedLimit (g : Group)
  | kinkSampleTrigger (g : Group)
  | kinkWindowDecision (g : Group)
  | coilOc (g : Group)
  | gapEnd (g : Group)
  | gapStuck (g : Group)
  -- housekeeping converter
  | hkcRegTimer
  | hkcConversionComplete (raw : Int)
  | hkcHeldTriggerStart
  | hkcSelfcalStart
  | hkcSelfcalDone
  | hkcSelfcalPeriod
  -- ledger and thermal
  | ledgerInterval (act : Activity)
  | critNvResume
  | throttleStepTimer
  | xchkInterval
  | powerOnHour
  | logDeferredWrite
  -- security
  | signJobDone
  | milestoneSigned
  | debugChallengeExpire
  -- Waymark ring
  | timeSync (arrival : Nat) (field : Nat)
  | timeSyncSend
  | frameEpoch (m : RingMsg)
  | ringTrigger (m : RingMsg)
  | census (m : RingMsg)
  | censusReply (m : RingMsg)
  | censusTimeout
  | delay (m : RingMsg)
  | user (m : RingMsg)
  | nack (m : RingMsg)
  | censusReq (m : RingMsg)
  /-- the characters received; the command without any is not well formed -/
  | ringBadMessage (chars : List (BitVec 8) := []) (violation : Bool := false)
  | ringLoopTimeout (seq typ : Nat)
  | ringLock
  | masterConflictDecision
  | alignHoldoverTimeout
  -- self-test
  | sliceEnd (id : SliceId) (count : Nat) (misr : Nat) (failedBuffers : Nat)
  | sliceRetry (id : SliceId)
  | bgSliceTimer
  | egressSliceBufferTimeout
  -- later rows of the table
  | loadCaskCheckDone
  | fwStageDone (readBackOk : Bool)
  | nvAccessDone
  | ltcFreewheelEnd
  | mixedDecayFastEnd (g : Group)
  | coilBlankingEnd (g : Group) (atTarget : Bool)
  | hkcTrimGroupTrigger
  | perstNRelease
  | supplyResetRelease
  | linkDown
  | d3hotExit
  | trngHealthFail
  | ringMessageReturn (m : RingMsg)
  | ringLockLoss
  deriving DecidableEq, Repr

end Sys2Proof
end

