-- ==== Sys2Proof/Decode.lean ====
section
/-! DEFINITION. The decoder over spec/opcode_table.json. The table gives no row any bits: the block takes its commands
as register accesses, descriptors and events (the descriptors' layout is `descInstr` in Machine/Operands.lean). -/

namespace Sys2Proof

/-- The command that a word of the table spells: none, as no row of the table has bits. -/
def decodeTableWord (_nbits _w : Nat) : Option Instr := none

end Sys2Proof
end

