-- ==== Sys2Proof/Machine/Math.lean ====
section
/-! DEFINITION. Number formats: rounding (R85), clamping and wrapping, the median (R447), little-endian fields (R12),
and the fixed-point exponential that the tables of R120 and R125 need. -/

namespace Sys2Proof.Machine

open Sys2Proof

/-- `rnd(a / b)` for `b > 0`: the nearest integer, ties towards +∞ (R85). -/
def rndDiv (a : Int) (b : Nat) : Int := (2 * a + b) / (2 * (b : Int))

/-- `v` clamped to lo..hi. -/
def clampI (lo hi v : Int) : Int := if v < lo then lo else if hi < v then hi else v

/-- `v` clamped to the naturals up to `hi`. -/
def clampN (hi : Nat) (v : Int) : Nat := (clampI 0 hi v).toNat

/-- The low `w` bits of an integer as a natural number (two's complement). -/
def wrapN (w : Nat) (v : Int) : Nat := (v % (2 ^ w : Int)).toNat

/-- The signed value of the low `w` bits of a natural number. -/
def sgn (w : Nat) (v : Nat) : Int :=
  let u := v % 2 ^ w
  if u < 2 ^ (w - 1) then (u : Int) else (u : Int) - (2 ^ w : Int)

/-- Ticks from `a` on to `b` in 64-bit device time (R57), which a step of R58 may have carried through zero. -/
def tickSpan (a b : Nat) : Nat := (b + 2 ^ 64 - a % 2 ^ 64) % 2 ^ 64

/-- Is tick `a` at or before tick `b`? Ticks lie within half the range of each other. -/
def tickLe (a b : Nat) : Bool := tickSpan a b < 2 ^ 63

/-- `a − b` in ticks. -/
def tickDiff (a b : Nat) : Int := sgn 64 (tickSpan b a)

/-- The tick `d` after `t`. -/
def tickAdd (t : Nat) (d : Int) : Nat := wrapN 64 ((t : Int) + d)

/-- `⌈a / b⌉`. -/
def ceilDiv (a b : Nat) : Nat := (a + b - 1) / b

/-- Integer square root, rounded down. -/
def isqrtGo : Nat → Nat → Nat → Nat
  | 0, _, x => x
  | fuel + 1, n, x =>
    let y := (x + n / x) / 2
    if y < x then isqrtGo fuel n y else x

def isqrt (n : Nat) : Nat := if n = 0 then 0 else isqrtGo (n.log2 + 5) n (2 ^ (n.log2 / 2 + 1))

/-- A value put into a sorted list. -/
def insertI (v : Int) : List Int → List Int
  | [] => [v]
  | x :: t => if v ≤ x then v :: x :: t else x :: insertI v t

def sortI (l : List Int) : List Int := l.foldr insertI []

/-- The median of R447; 0 of no values. -/
def median (l : List Int) : Int :=
  let s := sortI l
  let n := s.length
  if n = 0 then 0
  else if n % 2 = 1 then s.getD (n / 2) 0
  else rndDiv (s.getD (n / 2 - 1) 0 + s.getD (n / 2) 0) 2

/-- The sum of a list. -/
def sumI (l : List Int) : Int := l.foldl (· + ·) 0
def sumN (l : List Nat) : Nat := l.foldl (· + ·) 0
def maxN (l : List Nat) : Nat := l.foldl max 0

/-- A natural number as `n` little-endian bytes (R12). -/
def leBytes : Nat → Nat → List Byte
  | 0, _ => []
  | n + 1, v => BitVec.ofNat 8 v :: leBytes n (v / 256)

/-- Little-endian bytes as a natural number (R12). -/
def ofLe : List Byte → Nat
  | [] => 0
  | b :: t => b.toNat + 256 * ofLe t

/-- `n` bytes of a byte list from offset `o`, as a little-endian number; bytes beyond the end read 0. -/
def fieldLe (b : List Byte) (o n : Nat) : Nat := ofLe ((b.drop o).take n)

/-- A byte list cut or padded with zeros to `n` bytes. -/
def padTo (n : Nat) (b : List Byte) : List Byte := (b ++ List.replicate (n - b.length) 0).take n

/-- Text as bytes. -/
def textBytes (t : String) : List Byte := t.toList.map fun c => BitVec.ofNat 8 c.toNat

/-- Bit `i` of a natural number. -/
def bitN (v i : Nat) : Bool := v.testBit i

def b2n (b : Bool) : Nat := if b then 1 else 0

/-- Fraction bits of the fixed-point exponential. -/
def expBits : Nat := 160

/-- Terms of the series of exp(-x), `x` in units of 2^-expBits below 1, alternating, added from the last. -/
def expSeries (x : Nat) : Nat → Nat → Nat
  | 0, _ => 2 ^ expBits
  | fuel + 1, k => 2 ^ expBits - x * expSeries x fuel (k + 1) / 2 ^ expBits / k

/-- Squaring `n` times in the same units. -/
def sqN : Nat → Nat → Nat
  | 0, v => v
  | n + 1, v => sqN n (v * v / 2 ^ expBits)

/-- exp(-a/b) in units of 2^-expBits, exact to far below the precision that any rule asks for. DESIGN CHOICE (log 30):
the tables of the rules are rounded real values, computed here by a series on integers. -/
def expNeg (a b : Nat) : Nat :=
  let h := (a / b).log2 + 2
  let x := a * 2 ^ expBits / (b * 2 ^ h)
  if 128 * b ≤ a then 0 else sqN h (expSeries x 60 1)

end Sys2Proof.Machine
end

