-- ==== Sys2Proof/Machine/Tab.lean ====
section
/-! DEFINITION. Finite tables in canonical form: what a table reads at a key, and writing one key. Registers, the NV
store and the pixel maps are such tables. -/

namespace Sys2Proof.Machine

open Sys2Proof

/-- What a table reads at key `k`; `d` is what an unlisted key reads as. -/
def tabGet {α : Type} (d : Nat → α) : Tab α → Nat → α
  | [], k => d k
  | (k', v) :: t, k => if k' = k then v else tabGet d t k

/-- A table without its entry for key `k`. -/
def tabDel {α : Type} : Tab α → Nat → Tab α
  | [], _ => []
  | (k', v) :: t, k => if k' = k then tabDel t k else (k', v) :: tabDel t k

/-- A table with an entry put in before the first greater key. -/
def tabIns {α : Type} : Tab α → Nat → α → Tab α
  | [], k, v => [(k, v)]
  | (k', v') :: t, k, v => if k < k' then (k, v) :: (k', v') :: t else (k', v') :: tabIns t k v

/-- Writing one key. Writing what an unlisted key reads as removes the entry, so that equal tables are equal data. -/
def tabSet {α : Type} [DecidableEq α] (d : Nat → α) (t : Tab α) (k : Nat) (v : α) : Tab α :=
  if v = d k then tabDel t k else tabIns (tabDel t k) k v

/-- Keys strictly rising, all of them at least `lo`, no entry equal to what an unlisted key reads as. -/
def tabWfFrom {α : Type} [DecidableEq α] (d : Nat → α) : Nat → Tab α → Bool
  | _, [] => true
  | lo, (k, v) :: t => decide (lo ≤ k) && decide (v ≠ d k) && tabWfFrom d (k + 1) t

/-- The canonical form of a table. -/
def tabWf {α : Type} [DecidableEq α] (d : Nat → α) (t : Tab α) : Bool := tabWfFrom d 0 t

/-- What a pixel map holds for pixel `i`. -/
def pixGet {α : Type} (m : PixMap α) (i : Nat) : α := tabGet (fun _ => m.dflt) m.ovr i

/-- A pixel map with one pixel set. -/
def pixSet {α : Type} [DecidableEq α] (m : PixMap α) (i : Nat) (v : α) : PixMap α :=
  { m with ovr := tabSet (fun _ => m.dflt) m.ovr i v }

/-- The map that holds `v` for every pixel. -/
def pixConst {α : Type} (v : α) : PixMap α := ⟨v, []⟩

/-- The pixels listed in either of two maps, in rising order. -/
def keysMerge : List Nat → List Nat → List Nat
  | ks, [] => ks
  | ks, k :: t => keysMerge (if ks.contains k then ks else ks ++ [k]) t

/-- A function of one map, pixel by pixel. -/
def pixMap {α β : Type} [DecidableEq β] (f : α → β) (m : PixMap α) : PixMap β :=
  let d := f m.dflt
  m.ovr.foldl (fun r (i, v) => pixSet r i (f v)) (pixConst d)

/-- A function of two maps, pixel by pixel. -/
def pixMap2 {α β γ : Type} [DecidableEq γ] (f : α → β → γ) (a : PixMap α) (b : PixMap β) : PixMap γ :=
  let ks := keysMerge (a.ovr.map (·.1)) (b.ovr.map (·.1))
  ks.foldl (fun r i => pixSet r i (f (pixGet a i) (pixGet b i))) (pixConst (f a.dflt b.dflt))

/-- Bytes written at successive addresses of a byte table. -/
def tabPutBytes (d : Nat → Byte) : Tab Byte → Nat → List Byte → Tab Byte
  | t, _, [] => t
  | t, a, b :: bs => tabPutBytes d (tabSet d t a b) (a + 1) bs

/-- `n` successive bytes of a byte table. -/
def tabBytes (d : Nat → Byte) (t : Tab Byte) (a n : Nat) : List Byte :=
  (List.range n).map fun i => tabGet d t (a + i)

end Sys2Proof.Machine
end

