-- ==== Sys2Proof/Machine/Types.lean ====
section
/-! DEFINITION. The parts of the state of the BM4030 as plain data: one structure per chapter for what the
registers do not hold. Each field names the rule of spec/ that gives it. -/

namespace Sys2Proof.Machine

open Sys2Proof

/-- The three variants of R1. -/
inductive Variant where
  | bm2
  | bm3
  | bm5
  deriving DecidableEq, Repr

/-- Power states of R24 and R334; OFF (R309) is `off`. -/
inductive PState where
  | off
  | recall
  | standby
  | keepWarm
  | ready
  | stream
  | take
  deriving DecidableEq, Repr

/-- SEC_BOOT.MODE (R405). -/
inductive BootMode where
  | booting
  | normal
  | recovery
  deriving DecidableEq, Repr

/-- Roles of R210. -/
inductive Role where
  | off
  | stripe
  | spare
  | replay
  | bist
  deriving DecidableEq, Repr

/-- SHUT_STATE and FILT_STATE (R162, R200): unknown, open or in, closed or out, moving. -/
inductive MechState where
  | unknown
  | one
  | two
  | moving
  deriving DecidableEq, Repr

/-- A profile (R60): period, window, output format, restoration mode, L, preview. -/
structure Profile where
  period : Nat
  x0 : Nat
  y0 : Nat
  w : Nat
  h : Nat
  fmt : Nat
  mode : Nat
  l : Nat
  preview : Bool
  deriving DecidableEq, Repr

/-! ## Host interface -/

/-- What an outstanding command still has to do, where its effect comes after its acceptance. -/
inductive Job where
  | none
  | nvRead (area offset length addr password : Nat)
  | nvWrite (area offset length password : Nat) (data : HostData)
  | nvTrims (vals : List Nat)
  | fwStage (image : Nat) (img : FwImage) (slot : Option Nat)
  | fwCommit (image : Nat)
  | attest (nonce : List Byte) (addr : Nat)
  | debugResponse (data : List Byte)
  | bist (die unit slices : Nat)
  | replay (die take mode first count interval : Nat)
  deriving DecidableEq, Repr

/-- A command accepted and not yet completed (R263): the model's serial number, TAG, OPCODE, RESULT_ADDR, the
acceptance tick (device time) and what is left to do. -/
structure OutCmd where
  cid : Nat
  tag : Nat
  opcode : Nat
  resultAddr : Nat
  accept : Nat
  job : Job
  deriving DecidableEq, Repr

/-- A completion entry of R265 with the result block written before it (R266). -/
structure CmpEntry where
  tag : Nat
  opcode : Nat
  status : Nat
  reason : Nat
  phase : Bool
  resultWritten : Bool
  value : Nat
  /-- where in the completion ring it is written (R257, R258) -/
  addr : Nat
  deriving DecidableEq, Repr

/-- A stream record on its way to host memory (R276, R278). `payload` is the whole record. -/
structure Rec where
  typ : Nat
  frame : Nat
  subtype : Nat
  len : Nat
  payload : List Byte
  last : Bool
  missing : Bool
  detail : Nat
  deriving DecidableEq, Repr

/-- A stream completion of R278. -/
structure ScmpEntry where
  ch : Nat
  frame : Nat
  len : Nat
  bufFirst : Nat
  bufCount : Nat
  typ : Nat
  phase : Bool
  drops : Bool
  missing : Bool
  last : Bool
  subtype : Nat
  dropped : Nat
  detail : Nat
  /-- where in the stream completion ring it is written (R257, R258) -/
  addr : Nat
  deriving DecidableEq, Repr

/-- A record being written to host memory: first buffer index, how many buffers it takes, pool buffers it holds, and the
host buffers themselves (R276). -/
structure Transfer where
  record : Rec
  first : Nat
  count : Nat
  held : Nat
  bufs : List BufDesc
  deriving DecidableEq, Repr

/-- One stream channel (R274 to R283). -/
structure Chan where
  enabled : Bool
  bufProd : Nat
  bufCons : Nat
  scmpProd : Nat
  scmpCons : Nat
  /-- posted and not yet used descriptors, oldest first (R275) -/
  bufs : List BufDesc
  halted : Bool
  /-- the record in transfer (R276, R282) -/
  xfer : Option Transfer
  /-- records formed whole and waiting to be written, oldest first; RETRACT records stand outside the pool (R283) -/
  queue : List Rec
  /-- every later record is discarded after a RETRACT overflow (R283) -/
  discard : Bool
  dropsSince : Nat
  used : Nat
  /-- ticks of the unconsumed entries, oldest first (R285) -/
  entryTicks : List Nat
  lastDoorbell : Nat
  signalled : Bool
  /-- the newest frames whose FRAME record was in transfer when it failed (R144, R281) -/
  lost : List Nat
  deriving DecidableEq, Repr

/-- Everything the device writes to the outside: host memory, MSI-X, the ring, the Trellis, pins and read data. -/
inductive Out where
  | completion (e : CmpEntry)
  | result (addr : Nat) (block : List Byte)
  | hostWrite (addr : Nat) (b : List Byte)
  | hostCask (addr : Nat) (img : CaskImage)
  | record (ch : Nat) (r : Rec) (bufs : List BufDesc)
  | hostRead (addr len : Nat)
  | scmp (e : ScmpEntry)
  | msix (vector : Nat)
  | ring (m : RingMsg) (crc : Nat)
  | timeSync (field : Nat) (crc : Nat)
  | ringRaw (chars : List Byte)
  | item (die : Nat) (kind : Nat) (i : ItemHdr)
  | readData (off : Nat) (v : Word)
  | thermAlert (asserted : Bool)
  | spiProgram (addr image slot : Nat) (img : FwImage)
  deriving DecidableEq, Repr

/-- Does the link carry it (R255)? -/
def Out.onLink : Out → Bool
  | .completion _ => true
  | .result _ _ => true
  | .hostWrite _ _ => true
  | .hostCask _ _ => true
  | .record _ _ _ => true
  | .hostRead _ _ => true
  | .scmp _ => true
  | .msix _ => true
  | .readData _ _ => true
  | .ring _ _ => false
  | .timeSync _ _ => false
  | .ringRaw _ => false
  | .item _ _ _ => false
  | .thermAlert _ => false
  | .spiProgram _ _ _ _ => false

/-- The PCIe function's configuration that the host assigns or that is loaded (R254): the base addresses of BAR0 and BAR2, the
payload and read request sizes in bytes, and the subsystem IDs. -/
structure Pci where
  bar0 : Nat
  bar2 : Nat
  maxPayload : Nat
  maxRead : Nat
  subVendor : Nat
  subDevice : Nat
  deriving DecidableEq, Repr

/-- What a ball of the package shows: a level, high impedance without or with its pull-up, an open drain released, electrical idle, or
what its interface drives (R433, R439). -/
inductive Level where
  | low
  | highZ
  | pulledUp
  | released
  | idle
  | driven
  deriving DecidableEq, Repr

/-- The balls whose states R430 and R439 fix: PCIE_TX, PCIE_CLKREQ_N, THERM_ALERT_N, the ring's bypass closed, every coil switch off,
SPI_CLK, SPI_CS_N and SPI_IO, CEL_Pn_RESET_N, CK_P and CS_0..1 of each P die, JTAG_TDO. -/
structure Balls where
  pcieTx : Level
  clkreq : Level
  thermAlert : Level
  bypassClosed : Bool
  coilOff : Bool
  spiClk : Level
  spiCs : Level
  spiIo : Level
  cellar : List Level
  jtagTdo : Level
  deriving DecidableEq, Repr

/-- The capabilities of the PCIe function (R254). -/
inductive PciCap where
  | powerManagement (noSoftReset : Bool)
  | pciExpress
  | msixVectors (n : Nat)
  | aer
  | l1Substates
  | functionLevelReset
  deriving DecidableEq, Repr

/-- What configuration space says of the function (R254). -/
structure PciIds where
  vendor : Nat
  device : Nat
  revision : Nat
  classCode : Nat
  subVendor : Nat
  subDevice : Nat
  bar0Size : Nat
  bar2Size : Nat
  caps : List PciCap
  deriving DecidableEq, Repr

/-- After a warm reset what the host assigned is gone, what RECALL read stays (R254, R437). -/
def Pci.afterWarm (p : Pci) : Pci := { p with bar0 := 0, bar2 := 0, maxPayload := 128, maxRead := 512 }

/-- A completion that follows a record's stream completion or its drop (R272): the record by channel, type and
frame, and the completion. -/
structure AfterRec where
  ch : Nat
  typ : Nat
  frame : Nat
  cid : Nat
  status : Nat
  reason : Nat
  value : Option Nat
  deriving DecidableEq, Repr

/-- The host interface apart from its registers (R256 to R286). -/
structure Hif where
  cmdProd : Nat
  cmdFetch : Nat
  cmpProd : Nat
  cmpCons : Nat
  cmpTicks : List Nat
  cmpLastDoorbell : Nat
  cmpSignalled : Bool
  nextCid : Nat
  /-- the acceptance tick of the newest command, in device time (R263) -/
  lastAccept : Option Nat
  outstanding : List OutCmd
  /-- completions waiting while Bus Master Enable is 0 (R256) -/
  held : List (CmpEntry × Nat × Option (List Byte))
  /-- other writes to host memory waiting for the same (R256) -/
  heldOuts : List Out
  /-- ranges of host memory, start and length, whose accesses fail (R268): the host's own, no command changes them -/
  badHost : List (Nat × Nat)
  /-- completions that wait for a record (R272) -/
  after : List AfterRec
  chans : List Chan
  /-- vectors due while Bus Master Enable is 0 or masked (R256, R285) -/
  pendingVectors : List Nat
  /-- a committed frame was dropped at channel 0 since the last one delivered there (R22) -/
  gap : Bool
  busMaster : Bool
  d3hot : Bool
  msixEnabled : Bool
  linkSpeed : Nat
  linkWidth : Nat
  pci : Pci
  /-- pool buffers retired by self-test and held by a slice (R414, R415) -/
  retired : Nat
  sliceHeld : Nat
  deriving DecidableEq, Repr

/-! ## Timing -/

/-- A trigger not yet accepted: timestamp, source (0 pin, 1 ring, 2 immediate start), the tick at which it was received
(R80), and the settings its edge came under (R74 to R76, R83). -/
structure TrigPend where
  t : Nat
  src : Nat
  recv : Nat
  cfg : Word
  holdoff : Word
  deriving DecidableEq, Repr

/-- Snapshot schedule, reference lock, timecode and triggers (chapter 3). -/
structure Tmg where
  /-- S_(k-1) of the frame now integrating, and its number k (R59, R61) -/
  lastSnap : Nat
  prevSnap : Nat
  nextSnap : Nat
  frame : Nat
  /-- no snapshot yet since the sensor was biased: the first frame closed is never processed (R61) -/
  first : Bool
  /-- the snapshot schedule runs: false while unbiased or while an S2 slice suspends it (R59, R414) -/
  scheduled : Bool
  /-- intermediate snapshots taken in the frame now integrating (R37) -/
  subDone : Nat
  /-- configuration in force since a frame snapshot (R63): TMG_SYNC_CFG, TMG_REF_OFS, TMG_REF_TOL -/
  syncCfg : Word
  refOfs : Word
  refTol : Word
  /-- last REF_IN edge, the last eight intervals, newest first, and how many in a row lay within tolerance since SRC = REF
  took effect (R64, R69) -/
  refLast : Option Nat
  refIntervals : List Nat
  refRun : Nat
  /-- no edge came within 1.5 p_ref of the last one (R68) -/
  refTimedOut : Bool
  /-- p_ref in 1/8 tick, 0 before eight intervals (R64), and the last one that was within tolerance (R68) -/
  pRef : Nat
  pHold : Nat
  /-- p_ref was formed from 8 in-tolerance intervals since SRC was last written (R69) -/
  refFormed : Bool
  refPresent : Bool
  locked : Bool
  holdover : Bool
  lockRun : Nat
  /-- since the reference was lost it has come back (R68) -/
  refBack : Bool
  /-- aligned snapshots whose edge has not come yet: their tick, and where their edge is expected (R66) -/
  alignWait : List (Nat × Nat)
  /-- remaining intervals of the reference cycle (R67) -/
  intervals : List Nat
  /-- the band phase of a TAU_MAP has ended, and the next aligned snapshot takes up its whole error (R171) -/
  realign : Bool
  /-- LTC: last decoded code and user bits, the start of the LTC frame now being received and of the last decoded one, whether the last frame
  decoded well, presence, freewheel and its end, validity of the timecode field (R70 to R73) -/
  ltcCode : Word
  ltcUser : Word
  ltcBoundary : Nat
  ltcStart : Nat
  ltcGood : Bool
  ltcPresent : Bool
  ltcFreewheel : Bool
  ltcFreeEnd : Nat
  ltcValid : Bool
  /-- tick of the last valid sync word (elapsed) -/
  ltcLastSync : Nat
  /-- frames whose code was predicted while their LTC frame was still being received, with the code and the
  snapshot's tick (R72) -/
  ltcPredicted : List (Nat × Nat × Nat)
  /-- trigger settings in force since the last tick, and earlier ones, newest first, with the elapsed tick at which the
  next ones took effect (R83) -/
  trigCfg : Word
  trigHoldoff : Word
  trigOld : List (Nat × Word × Word)
  /-- a TRIG_IN edge inside its width filter (R74) -/
  trigEdge : Option TrigPend
  /-- timestamps of accepted triggers since cold reset, newest first (R76, R81) -/
  trigs : List Nat
  /-- triggers waiting for acceptance, oldest first -/
  trigPending : List TrigPend
  deriving DecidableEq, Repr

/-! ## Sensor -/

/-- Pixel tier and converters (chapter 2). -/
structure Sen where
  /-- sensor biased and converting (R59) -/
  biased : Bool
  /-- codes in effect (R48, R50) -/
  biasCode : Nat
  qrefCode : Nat
  /-- written in KEEP_WARM or READY: the code takes effect at the next snapshot and not only at the next biasing (R48) -/
  biasDue : Bool
  qrefDue : Bool
  /-- end of the settling period (elapsed ticks), if one runs (R49) -/
  settleEnd : Option Nat
  /-- pixel counters at the last snapshot and residual charge in aC, by physical pixel (R31, R32, R35) -/
  counters : PixMap Nat
  residue : PixMap Int
  /-- counts and edges of the sub-intervals of the frame now integrating (R37) -/
  subCounts : List (Nat × PixMap Nat)
  /-- grid samples of the frame now integrating: length of the sub-interval and the 48 delivered values (R46) -/
  subGrids : List (Nat × List Int)
  /-- samples latched and not yet converted: length, and whether they close a frame (R45) -/
  gridDue : List (Nat × Option Nat)
  /-- values delivered in the previous sample since the sensor was last biased (R47) -/
  lastDelivered : Option (List Int)
  /-- validity of the diodes in the newest frame grid (R47) -/
  gridValid : List Bool
  subValid : List Bool
  /-- measured frame grids of the two newest frames with one, newest first: frame number and values (R135) -/
  grids : List (Nat × List Int)
  /-- grid registers frozen by a read of SEN_GRID_FRAME_LO: start of the freeze; and a newer grid has come since (R56) -/
  freeze : Option Nat
  gridWaits : Bool
  /-- trims in force since a frame snapshot (R177): CAL_TRIM_CONV, CAL_TRIM_SKIM and the 48 grid trims -/
  trimConv : Word
  trimSkim : Word
  trimGrid : List Int
  /-- accepted trims that wait for the next frame snapshot: bit 0 converter, 1 skimming, 2 grid, 3 HKC (R177) -/
  trimAccept : Nat
  /-- band whose rows' bias is stepped, and the step in percent of VB_PIX (R169) -/
  rowStep : Option (Nat × Nat)
  deriving DecidableEq, Repr

/-- One entry of a stripe map (R212). -/
structure MapEnt where
  role : Role
  first : Nat
  count : Nat
  deriving DecidableEq, Repr

/-! ## Frames in flight -/

/-- A tile row of one pass as RESTORE delivered it: values of the window's columns, and which of them some stage up to
RESTORE saturated (R84), 1 or 0. -/
structure RowRes where
  row : Nat
  y : Plane
  sat : Plane
  deriving DecidableEq, Repr

/-- One frame: the settings it started with at its opening snapshot, and from its closing snapshot on its data and its
results (R16, R86). -/
structure FrameW where
  k : Nat
  /-- S_k and S_(k-1); the closing snapshot has passed -/
  snap : Nat
  prev : Nat
  closed : Bool
  /-- edge counts of the sub-intervals (R36) -/
  edges : List Nat
  /-- frame value and converter mark (bit 0 saturated, bit 1 starved) per physical pixel (R35, R36, R37) -/
  d : PixMap Nat
  marks : PixMap Nat
  satCount : Nat
  starveCount : Nat
  prof : Profile
  /-- copy of the registers at the frame's opening snapshot, and the radiometric table then active (R86) -/
  cfg : Tab Word
  rad : Tab Nat
  /-- cask the frame started with: 0 A, 1 B, 0xFF none; its generation and contents (R94, R114) -/
  cask : Nat
  gen : Nat
  img : Option CaskImage
  /-- stripe-map version of the frame and its map (R218) -/
  version : Nat
  map : List MapEnt
  /-- delivered on channels and chained; processed in KEEP_WARM (R312); counted into a calibration (R165, R174);
  band number and frame in the band (R169) -/
  streamed : Bool
  keepWarm : Bool
  captured : Bool
  band : Option (Nat × Nat)
  shutter : Bool
  thermal : Bool
  tail : Bool
  cold : Bool
  /-- HISTORY_COLD as the preview pass knew it (R134) -/
  coldPrev : Bool
  /-- inside an episode whose notice has passed (R139) -/
  episode : Bool
  /-- tile rows seeded at this frame; all of them at an array seed (R126, R128) -/
  seedRows : List Nat
  arraySeed : Bool
  timecode : Nat
  ltcPhase : Nat
  trigOffset : Option Nat
  noiseGain : Nat
  gridMeas : Option (List Int)
  gridPred : Option (List Int)
  gridFault : Bool
  /-- value subtracted from every pixel of a physical column, once formed (R90) -/
  ref : Option (Array Int)
  /-- its processing has begun -/
  prepared : Bool
  /-- window tile rows that S2 has still to send, in their order (R17); those whose READOUT item is not resolved, and those
  accepted (R220) -/
  unread : List Nat
  openRows : List Nat
  gotRows : List Nat
  /-- restored rows: preview pass, committed pass -/
  prevRows : List RowRes
  yRows : List RowRes
  /-- tile rows TILE_MISSING on the preview and on the committed pass (R220) -/
  missPrev : List Nat
  missCom : List Nat
  /-- halo parts delivered: tile row above the edge, part, sent downwards, preview pass (R219) -/
  halos : List (Nat × Nat × Bool × Bool)
  prevDone : Bool
  prevQueued : Bool
  comDone : Bool
  /-- GAP of the committed copy, once that is out (R22) -/
  comGap : Bool
  /-- DEFECT output and flags of the preview pass, kept for R143 -/
  prevOut : Plane
  prevFlags : Plane
  deriving DecidableEq, Repr

/-- What a RETRACT record says. A field that is not known reads all ones. -/
structure FlushRec where
  first : Option Nat
  count : Nat
  causes : Nat
  seed : Option Nat
  handled : Option Nat
  start : Nat
  stop : Option Nat
  deriving DecidableEq, Repr

/-- A flush episode whose seed frame has not begun (R136 to R142). -/
structure Episode where
  causes : Nat
  /-- first affected frame -/
  f : Nat
  startTick : Nat
  /-- `none` while the end is not known (a burst, R138) -/
  endTick : Option Nat
  /-- end of the kink episodes merged into it (R142) -/
  kinkEnd : Nat
  seed : Option Nat
  /-- scheduled causes that fell due inside it, and those of them whose record waits for the end of a burst (R142) -/
  sched : Nat
  waiting : Nat
  /-- its records that were published OPEN, oldest first: each has a second one when the burst ends (R145, R147) -/
  opens : List FlushRec
  deriving DecidableEq, Repr

/-- One frame of the MONITOR history: its number, first tile row and map, and the high-pass plane (R104, R233). -/
structure MonEntry where
  k : Nat
  y0 : Nat
  map : List MapEnt
  h : Plane
  deriving DecidableEq, Repr

/-- Temporal restoration (chapter 5). -/
structure Trs where
  /-- committed carries, signed 40 bits, -2^39 the seed marker, by tile row over the window's columns (R122); a row not
  listed holds the marker everywhere -/
  carry : List (Nat × Plane)
  /-- inputs of the coefficient table in force: period, mode, governing tau in microseconds (R120, R121) -/
  tblPeriod : Nat
  tblMode : Nat
  tblTau : Nat
  tblValid : Bool
  /-- the table has been built anew since the last warm reset, so that its readout shows it (R148, R446) -/
  tblShown : Bool
  /-- snapshots taken, newest first: frame and tick (R137) -/
  snaps : List (Nat × Nat)
  episode : Option Episode
  /-- the newest kink episode: start and end (R136) -/
  kinkOpen : Option (Nat × Nat)
  /-- the newest late notice: its first affected frame and its elapsed tick (R140) -/
  notice : Option (Nat × Nat)
  /-- elapsed ticks of writes that changed the governing target constant and wait for a snapshot (R119) -/
  tauWrites : List Nat
  /-- causes of the flush scheduled for the frame now integrating, and the rows of a RESEED (R136) -/
  dueCauses : Nat
  dueRows : List Nat
  /-- first and last frame of the cold run, K, and the TAU code that gave it (R127) -/
  coldStart : Nat
  coldEnd : Option Nat
  coldK : Nat
  coldCode : Nat
  /-- seed frame of the newest array seed (R126) -/
  seed : Option Nat
  /-- consecutive burst frames so far and the last frame judged (R138) -/
  burstRun : Nat
  /-- the burst of that run has begun -/
  burstBegun : Bool
  burstSeen : Nat
  /-- preview frames queued and named by no RETRACT record, newest first (R140, R142) -/
  queuedPrev : List Nat
  /-- ref_c in 1/16 SU by physical column, while some die holds it seeded (R90, R448) -/
  refC : Array Int
  /-- MONITOR history, newest first (R104), and where it starts again: the frame and its tile rows (R106) -/
  mon : List MonEntry
  monCuts : List (Nat × List Nat)
  /-- committed frames since the last MONITOR_MAP record (R106) -/
  monSince : Nat
  /-- first frame of the stream, and its last frame once that is known (R130, R136) -/
  firstFrame : Nat
  lastFrame : Option Nat
  /-- REVISION records waiting: the preview frame they follow, the record (R144) -/
  revWait : List (Nat × Rec)
  /-- next frame time to process in KEEP_WARM, in device time (R312) -/
  kwNext : Nat
  deriving DecidableEq, Repr

/-- The radiometric table's two banks (R112). -/
structure Rad where
  bank0 : Tab Nat
  bank1 : Tab Nat
  active : Bool
  deriving DecidableEq, Repr

/-! ## Casks and calibration -/

/-- A cask held in the Cellar: the image, and per present die whether its replica passed its latest check (R25, R150):
`some true` passed, `some false` failed, `none` never checked; and whether the die has checked it since it was last
powered. -/
structure Cask where
  img : Option CaskImage
  replicas : List (Option Bool)
  checked : List Bool
  /-- a load or calibration copy is writing the region (R153, R157) -/
  copying : Bool
  deriving DecidableEq, Repr

/-- What a capture accumulates: the sums of each part of it, the sums of the checked value, and where a converter mark was seen
(1), over the columns and rows that the kind covers (R165, R172, R174). -/
structure Acc where
  sums : List Plane
  chk : Plane
  marked : Plane
  deriving DecidableEq, Repr

/-- The measured fields of a CALREPORT (R182). -/
structure CalRep where
  gen : Nat
  counted : Nat
  failing : Nat
  spread : Nat
  drift : Int
  qSu : Nat
  qMk : Nat
  old : Nat
  new : Nat
  deriving DecidableEq, Repr

/-- A calibration running (R156 to R182). -/
structure Cal where
  kind : Nat
  flags : Nat
  capture : Nat
  auto : Bool
  cid : Option Nat
  target : Nat
  /-- 0 closing the shutter, 1 waiting for the capture snapshot or for self-calibration, 2 capturing, 3 deciding, 4 copying,
  5 waiting for the racking snapshot -/
  stage : Nat
  /-- its close profile: 0 none, 1 asked for, 2 running; its open profile was asked for -/
  closing : Nat
  opening : Bool
  moved : Bool
  firstFrame : Option Nat
  lastFrame : Nat
  total : Nat
  /-- N of CAL_N at its start -/
  n : Nat
  /-- elapsed tick of acceptance, and the first at which a capture may start -/
  start : Nat
  settleUntil : Nat
  closeUs : Nat
  openUs : Nat
  /-- the cask in force at acceptance, the profile, and what its capture has summed: one entry, or one per band -/
  source : Option CaskImage
  win : Profile
  acc : List Acc
  gridSums : List Int
  gridHalf1 : List Int
  /-- CONVERTER_TRIM: counts of the shorted-row converters and ticks, summed over its frames (R177) -/
  shortCount : Nat
  shortTicks : Nat
  /-- for BIAS_TRIM: counts of the active pixels, and converter edges (R177) -/
  actCount : Nat
  trimEdges : Nat
  framesSeen : Nat
  /-- TAU_MAP: the displaced profile, P_cal, and a step that fell due in the band phase (R169, R170) -/
  displaced : Option Profile
  pCal : Nat
  interfered : Bool
  result : Option CaskImage
  rep : CalRep
  /-- HKC_TRIM: groups started, triggers made, raw codes of channels 22 and 23 (R354) -/
  groupsDone : Nat
  tries : Nat
  /-- HKC_TRIM: elapsed tick at which its own self-calibration completed (R354) -/
  groupBase : Option Nat
  raws22 : List Int
  raws23 : List Int
  deriving DecidableEq, Repr

/-- A held BLACKBODY_2P capture (R175): its calibration as it stood at its decision, and the pixels that failed it (1). -/
structure Held where
  cal : Cal
  failed : Plane
  deriving DecidableEq, Repr

/-- A LOAD_CASK or SAVE_CASK running (R153, R155). `stage`: 0 transfer and check, 1 copy, 2 effect at a snapshot. -/
structure Xfer where
  cask : Nat
  addr : Nat
  cid : Nat
  img : CaskImage
  stage : Nat
  deriving DecidableEq, Repr

/-- Casks, racking and calibration (chapter 6). -/
structure Casks where
  a : Cask
  b : Cask
  /-- cask in force: 0 A, 1 B, 0xFF none (R94) -/
  active : Nat
  /-- pending racking: cask, k0 (0: next snapshot), command if any (R151) -/
  rack : Option (Nat × Nat × Option Nat)
  load : Option Xfer
  save : Option Xfer
  /-- contents in force since a racking snapshot, of the cask in force (R154) -/
  force : Option CaskImage
  /-- contents of the cask in force change at the next frame snapshot (R154) -/
  reload : Bool
  shut : MechState
  cal : Option Cal
  held : Option Held
  /-- the profile that the next snapshot restores after a band phase that ended early (R161, R170) -/
  restore : Option Profile
  /-- elapsed tick of the last start under CAL_AUTO (R181) -/
  lastAuto : Option Nat
  /-- elapsed tick of the newest decision of a calibration (R160, R161) -/
  decided : Option Nat
  request : Bool
  deriving DecidableEq, Repr

/-! ## Coil drive -/

/-- Group states of R201. -/
inductive GroupState where
  | idle
  | running
  | gap
  deriving DecidableEq, Repr

/-- A request to a coil: coil code, entry word, and its command; none for a calibration's own profile (R163). -/
structure CoilReq where
  coil : Nat
  entry : Nat
  cid : Option Nat
  deriving DecidableEq, Repr

/-- One engine and its group (R184 to R207). -/
structure Eng where
  st : GroupState
  req : Option CoilReq
  hold : Option CoilReq
  /-- a restart waiting for the next grid point (R201) -/
  restart : Option CoilReq
  pc : Nat
  coil : Nat
  flags : Nat
  result : Nat
  kinked : Bool
  /-- a counting kink was made in this run (R199) -/
  counted : Bool
  gapRec : Bool
  reason : Nat
  tStart : Nat
  tKink : Nat
  /-- start of the chop grid (R187), elapsed ticks -/
  gridStart : Nat
  /-- outputs: high-side and low-side switch on -/
  hs : Bool
  ls : Bool
  /-- PHASE in force: supply off, decay code, target, end tick, reach flag (R192) -/
  phase : Option (Bool × Nat × Nat × Nat × Bool)
  /-- the engine is at a word and has not executed it; the first elapsed tick at which it may; a PHASE has run in this
  run (R189, R193) -/
  fetch : Bool
  readyAt : Nat
  ran : Bool
  reached : Option Bool
  /-- the latest word that executed (R209) -/
  last : Nat
  blankEnd : Option Nat
  offSince : Option Nat
  /-- since when the on-time of the switches has not been metered, elapsed ticks (R314) -/
  onSince : Nat
  untimed : Nat
  /-- WAIT_KINK in progress: start tick, polarity, MISS, timeout end (elapsed ticks) (R193) -/
  wait : Option (Nat × Bool × Nat × Nat)
  /-- samples of the current windows: window number, code (R197, R198) -/
  samples : List (Nat × Nat)
  /-- windows whose end has been dealt with -/
  decided : Nat
  /-- a sample's conversion is in progress: window number -/
  sampling : Option Nat
  dmax : Option Int
  /-- settings in force since the last start (R209): COIL_CFG, COIL_KINK_CFG -/
  cfg : Word
  kinkCfg : Word
  /-- the group entered GAP at this elapsed tick, and whether it followed END, and in which tick (R202, R206) -/
  gapStart : Nat
  gapAfterEnd : Bool
  endTick : Option Nat
  stuck : Bool
  deriving DecidableEq, Repr

structure Coil where
  a : Eng
  b : Eng
  filt : MechState
  /-- energy of the switches' on-time in the ledger interval that runs, in 40 fJ (R314) -/
  metered : Nat
  deriving DecidableEq, Repr

/-! ## Dies and roles -/

/-- One processing die (R210 to R227). -/
structure Die where
  present : Bool
  powered : Bool
  ready : Bool
  withdrawn : Bool
  /-- draining an earlier version: the version (R223) -/
  draining : Option Nat
  /-- the frame k0 that the drain waits for (R223) -/
  drainTo : Nat
  trained : Bool
  sizeGb : Nat
  blindSeeded : Bool
  previewAct : Bool
  commitAct : Bool
  /-- the role it takes when its drain ends -/
  nextRole : Option Role
  /-- preparing for a role (R211) -/
  preparing : Bool
  /-- initialised anew in BIST, no slice having run on it since: it may leave BIST (R211) -/
  renewed : Bool
  /-- elapsed tick of the last completed self-test run, if any (R230, R412) -/
  lastRun : Option Nat
  deriving DecidableEq, Repr

/-- A pending map change (R216): entries, k0 wanted, TRANSFER or RESEED, its command, what made it. -/
structure MapChange where
  map : List MapEnt
  frame : Nat
  reseed : Bool
  cid : Option Nat
  /-- 0 ROLE_SET, 1 balancing, 2 rotation, 3 end of a self-test run, 4 failover, 5 keep-warm, 6 leaving keep-warm -/
  cause : Nat
  accept : Nat
  deriving DecidableEq, Repr

/-- A tile row whose owner changes with state or history to move (R222 to R224): old and new owner, k0, what has
arrived, and the frames sent back. -/
structure Move where
  row : Nat
  src : Nat
  dst : Nat
  k0 : Nat
  stateDone : Bool
  historyDone : Bool
  backfed : List Nat
  deriving DecidableEq, Repr

structure Rol where
  dies : List Die
  version : Nat
  /-- map in force and maps of earlier versions still named by a frame (R213) -/
  map : List MapEnt
  maps : List (Nat × List MapEnt)
  pend : Option MapChange
  changeFrame : Nat
  /-- rows being handed over by TRANSFER (R224) -/
  moves : List Move
  /-- items returned to the dispatcher and not resolved: sender, kind, header (R220) -/
  returned : List (Nat × Nat × ItemHdr)
  /-- dies withdrawn and waiting for their failover map (R228) -/
  failover : List Nat
  /-- rotation: elapsed tick from which the period runs, its length, waiting, the dies in their runs (R230) -/
  rotFrom : Option Nat
  rotPeriod : Nat
  rotWait : Bool
  rotDies : List Nat
  /-- the map that was in force before KEEP_WARM (R214) -/
  before : Option (List MapEnt)
  deriving DecidableEq, Repr

/-! ## Takes -/

/-- One change-list entry of a take index (R243). -/
structure TakeChange where
  k0 : Nat
  kinds : Nat
  mode : Nat
  l : Nat
  cask : Nat
  version : Nat
  map : List (Nat × Nat)
  period : Nat
  gen : Nat
  deriving DecidableEq, Repr

/-- A frame record of a take (R240, R241): the metadata, the map and version of the frame, its window rows as they were
delivered, the format, and its milestone once signed. -/
structure TakeFrame where
  k : Nat
  metadata : List Byte
  fmt : Nat
  version : Nat
  map : List MapEnt
  rows : List (Nat × List Byte)
  milestone : Option (List Byte)
  /-- dies whose record is lost (R227, R249) -/
  lost : List Nat
  /-- each stripe die's record: die, offset in the extent, size (R240) -/
  recs : List (Nat × Nat × Nat)
  deriving DecidableEq, Repr

/-- The regions of a die's Cellar (R234). -/
inductive CellarArea where
  | caskA
  | caskB
  | history
  | lookahead
  | scratch
  | hostwin
  | take
  deriving DecidableEq, Repr

/-- A take: index slot (R243) and frame records. `state`: 1 ARMED, 2 RECORDING, 3 CLOSED, 4 INTERRUPTED;
`flags` and `trunc` as in the index. -/
structure Take where
  id : Nat
  state : Nat
  flags : Nat
  trunc : Nat
  fmt : Nat
  diesAt : Nat
  diesLost : Nat
  arm : Nat
  first : Nat
  last : Nat
  trig : Nat
  trigTick : Nat
  pre : Nat
  post : Nat
  retrig : Nat
  extent : Nat
  wBytes : Nat
  nMax : Nat
  win : List Nat
  offset : Nat
  complete : Option Nat
  linkBefore : List Byte
  linkLast : List Byte
  regs : List Nat
  trsRegs : List Nat
  radDigest : List Byte
  closing : List Byte
  changes : List TakeChange
  retrigTicks : List Nat
  frames : List TakeFrame
  deriving DecidableEq, Repr

/-- The take in progress: the index, and what the index does not hold (R235 to R246). -/
structure TakeRun where
  t : Take
  req : ArmReq
  cid : Nat
  /-- 0 waiting for S_a, 1 ARMED, 2 RECORDING, 3 CLOSING -/
  stage : Nat
  acceptTick : Nat
  /-- tick of S_e once it has passed; membership final (R80, R244) -/
  endSnap : Option Nat
  finalMembers : Bool
  aborted : Bool
  reduced : Bool
  /-- the last frame that R78 and R79 call for, which the capacity may cut (R242) -/
  want : Nat
  /-- per die, the end of the record it wrote last (R240) -/
  ends : List Nat
  /-- CEL_TAKE_* before the take was armed: offset and word (R253) -/
  before : List (Nat × Word)
  /-- the changes that fell due at S_e: they enter the list if a retrigger moves e; and whether a share grew (R243, R245) -/
  atEnd : Option (TakeChange × Bool)
  deriving DecidableEq, Repr

/-- A replay (R247 to R249). -/
structure Replay where
  cid : Nat
  die : Nat
  take : Nat
  decoded : Bool
  next : Nat
  last : Nat
  interval : Nat
  lastStart : Option Nat
  /-- the frame `next` is queued and its milestone comes next; missing rows have been delivered (R248, R249) -/
  mile : Bool
  missing : Bool
  queued : Nat
  deriving DecidableEq, Repr

structure Cel where
  stored : List Take
  run : Option TakeRun
  /-- an interrupted take that waits for the dies to be powered (R245) -/
  interrupted : Option TakeRun
  replay : Option Replay
  /-- S_e of the newest take whose trigger membership is final (R80) -/
  lastEnd : Option Nat
  /-- index slots as written, by take id (R243) -/
  slots : List (Nat × List Byte)
  /-- an interrupted take waits for P dies that are powered anew (R245) -/
  repowered : Bool
  /-- every die has trained since cold reset (R232) -/
  trained : Bool
  /-- elapsed tick at which the newest replay's completion was posted (R246, R269) -/
  replayEnd : Option Nat
  deriving DecidableEq, Repr

/-! ## Waymark -/

/-- A message originated here and expected back (R292): the message, when it was sent and its deadline (elapsed ticks), sent
twice. -/
structure RingSent where
  msg : RingMsg
  sentAt : Nat
  deadline : Nat
  again : Bool
  deriving DecidableEq, Repr

/-- A CENSUS_REPLY as the master took it (R297). -/
structure CensusRep where
  id : Nat
  position : Nat
  role : Nat
  latency : Nat
  deriving DecidableEq, Repr

/-- A census in progress: its start (elapsed ticks), the loop time once the CENSUS is back, the replies (R297). -/
structure CensusRun where
  start : Nat
  loop : Option Nat
  /-- hop count with which the CENSUS came back -/
  hops : Nat
  replies : List CensusRep
  deriving DecidableEq, Repr

/-- A message of this node's own that waits for the output (R290); `again` says that it is a retransmission. -/
structure RingOwn where
  msg : RingMsg
  again : Bool
  deriving DecidableEq, Repr

structure Way where
  /-- 0 UNALIGNED, 1 SLEWING, 2 ALIGNED, 3 HOLDOVER (R299, R300) -/
  align : Nat
  lock : Bool
  /-- the bypass is open: the node takes part in the ring (R304, R305) -/
  joined : Bool
  frozen : Bool
  /-- a CENSUS has come since steering was frozen: the DELAY that ends the freeze is one under its epoch (R300) -/
  censused : Bool
  /-- stepped down until ROLE is next written (R296) -/
  steppedDown : Bool
  epoch : Nat
  position : Nat
  delayValid : Bool
  /-- integral term and applied rate, in 1/1024 ppm (R299) -/
  fTerm : Int
  rate : Int
  goodRun : Nat
  badRun : Nat
  lastUsable : Nat
  /-- FRAME_EPOCH announcement for the next snapshot (R301) -/
  epochTick : Option Nat
  /-- sequence numbers per type, and the newest messages acted on: origin, type, sequence (R292) -/
  seqs : Tab Nat
  acted : List (Nat × Nat × Nat)
  sent : List RingSent
  census : Option CensusRun
  /-- another census is wanted once the running one has ended -/
  censusDue : Bool
  /-- loop time in 1/16 ns: at a master of its last census, elsewhere as this node's own reply to it took (R292) -/
  loopTime : Option Nat
  /-- elapsed tick from which RING_OUT is free (R290) -/
  sendEnd : Nat
  /-- this node's own messages that wait for it, oldest first (R290) -/
  waiting : List RingOwn
  /-- first and last foreign TIME_SYNC, and a CENSUS of another origin since the first (R296) -/
  foreign : Option (Nat × Nat × Bool)
  lastSync : Option Nat
  deriving DecidableEq, Repr

/-! ## Tollgate and thermal -/

/-- Thermal state machine of one monitored die (R327). -/
structure Thm where
  st : Nat
  up : List Nat
  dn : List Nat
  reading : Int
  /-- elapsed tick since which the die is monitored, and whether its reading is fresh (R326) -/
  since : Option Nat
  fresh : Bool
  deriving DecidableEq, Repr

structure Tol where
  /-- profile in force for the frame now integrating, and the requested profile (R60, R322) -/
  prof : Profile
  req : Profile
  /-- runtime steps in force (R318) and elapsed tick of the newest -/
  runtime : Nat
  runtimeAt : Nat
  runtimeDue : Bool
  /-- pending START_STREAM: command and reduced status; pending STOP_STREAM command (R62, R132) -/
  start : Option (Nat × Nat)
  stop : Option Nat
  /-- STOP_STREAM fell due at this frame: tail frames still to complete (R132) -/
  stopping : Option (Nat × Nat)
  /-- pending SET_PROFILE: command, profile, requested k0 (R29) -/
  setProf : Option (Nat × Profile × Nat)
  /-- pending SET_BUDGET: command, cap, window, allowance, flat, mask (R317) -/
  budget : Option (Nat × List Nat)
  /-- the ledger of the intervals in the averaging window, newest first, microjoule (R314) -/
  hist : List Nat
  energy : Nat
  allowUj : Nat
  allowOut : Bool
  flatUnmet : Bool
  flatRun : Nat
  flatLast : Option Nat
  capLimit : Bool
  capOver : Bool
  /-- filler planned per P die, in mW (R324) -/
  filler : List Nat
  flatSum : Nat
  coilUj : Nat
  /-- of the last interval, in microjoule: the always-on entry, and that of the Cellar devices (R314) -/
  alwaysOn : Nat
  devices : Nat
  /-- cross-check: rho times 4096 applied, sums of the running second (R316) -/
  rho : Nat
  xMeas : Nat
  xDies : Nat
  xSeen : Bool
  xSeen10 : Bool
  /-- elapsed tick of the monitor input's newest conversion (R316) -/
  xAt : Option Nat
  /-- the steps in force as the last BUDGET_STEP record showed them (R322) -/
  stepShape : List Nat
  /-- throttle level in force, the level due at the next snapshot, and the elapsed tick of its last change (R328) -/
  level : Nat
  levelDue : Nat
  levelAt : Nat
  thm : List Thm
  alert : Bool
  /-- each CRIT since step 5 of R330 last occurred: die, reading, t0 -/
  crit : List (Nat × Int × Nat)
  /-- per channel 15 to 21: elapsed tick and value of its newest conversion (R326) -/
  convAt : List (Option (Nat × Nat))
  deriving DecidableEq, Repr

/-! ## Housekeeping converter -/

/-- Source of a conversion (R343): 0 regular, 1 HOST, 2 COIL, 3 INTERNAL. -/
structure Conv where
  src : Nat
  ch : Nat
  idx : Nat
  start : Nat
  eng : Nat
  /-- its source domain was unpowered at the sampling instant (R338) -/
  gated : Bool
  deriving DecidableEq, Repr

structure HkcEntry where
  lo : Word
  hi : Word
  deriving DecidableEq, Repr

structure Hkc where
  /-- conversion in the converter now (R339) -/
  conv : Option Conv
  /-- regular run: next entry, length, channels, start tick (R340, R341) -/
  run : Option (Nat × Nat × List Nat × Nat)
  /-- RETRIG as the run in progress started with it (R340) -/
  retrig : Bool
  pend : Bool
  /-- injected group: source, next entry, channels, engine (R343 to R345) -/
  group : Option (Nat × Nat × List Nat × Nat)
  /-- elapsed tick of the group's trigger (R345) -/
  groupAt : Nat
  /-- a group triggered in the tick in which the one in progress is complete: source, channels, engine (R339) -/
  next : Option (Nat × List Nat × Nat)
  heldHost : Bool
  hostGroups : Nat
  coilGroupsA : Nat
  coilGroupsB : Nat
  internalGroups : Nat
  queue : List HkcEntry
  calDue : Bool
  calRun : Option Nat
  /-- elapsed tick and H reading at the last completed self-calibration (R351) -/
  calAt : Option Nat
  calTemp : Option Nat
  /-- a self-test slice holds the converter: its index (R353) -/
  slice : Option SliceId
  /-- CAL_TRIM_HKC in force (R177, R337) -/
  trim : Word
  deriving DecidableEq, Repr

/-! ## NV store, boot and security -/

/-- A row or word write of the firmware that has not begun: the elapsed tick at which it begins, its address, the bytes it replaces,
and the counter whose increment it commits (R357, R378). -/
structure NvRow where
  start : Nat
  addr : Nat
  old : List Byte
  redo : Option Nat
  deriving DecidableEq, Repr

structure Nv where
  /-- eMRAM contents, 512 KiB (R357, R359) -/
  mem : List Host.Cell
  /-- the writes of the command in progress, oldest first; empty between commands -/
  writes : List (Nat × List Byte)
  /-- log entries held for later writing, oldest first: type, payload, device time (R371) -/
  deferred : List (Nat × List Byte × Nat)
  /-- NV writes are barred (R330, R378) -/
  barred : Bool
  /-- counters whose increments the firmware holds for later, oldest first (R330) -/
  heldIncs : List Nat
  /-- firmware writes that have not begun, oldest first, and the elapsed tick at which the array is free (R357, R378) -/
  rows : List NvRow
  rowEnd : Nat
  /-- FW_META data that the firmware holds while NV writes are barred (R378) -/
  heldMeta : Option (List Byte)
  trimsSeq : Nat
  logSeq : Nat
  passwordRead : Nat
  passwordWrite : Nat
  deriving DecidableEq, Repr

/-- A job of the accelerator (R382). `cls`: 0 milestone, 1 attestation, 2 verification; `cid` its command;
`what` names the milestone frame or the image. -/
structure SignJob where
  cls : Nat
  cid : Option Nat
  what : Nat
  deriving DecidableEq, Repr

/-- A milestone waiting or being signed (R400 to R402). -/
structure Milestone where
  kind : Nat
  c0 : Nat
  frame : Nat
  first : Nat
  position : Nat
  snap : Nat
  before : List Byte
  link : List Byte
  drops : Nat
  takeId : Nat
  due : Nat
  record : List Byte
  deriving DecidableEq, Repr

structure Sec where
  boot : BootMode
  bootDone : Bool
  /-- the images the device runs: version, SVN, slot, header digest per type; none when not in use (R393) -/
  images : List (Option (Nat × Nat × Nat × List Byte))
  fallback : Bool
  trialBoot : Bool
  /-- contents of slots A and B per type, as the boot or an update left them; none for an erased slot (R383) -/
  slots : List (Option FwImage × Option FwImage)
  debugUnlocked : Bool
  scope : Nat
  debugLockout : Bool
  debugFails : Nat
  challenge : Option (List Byte × Nat)
  trngFail : Bool
  /-- register copies of secrets (R395): the accelerator's working state, the Keccak engine's state and the TRNG pool, all zero when
  zeroised; and whether the pool was filled and tested since (R409) -/
  accel : Nat
  keccak : Nat
  pool : Nat
  poolOk : Bool
  job : Option SignJob
  queue : List SignJob
  /-- provenance chain: c0, seed, newest link, newest frame, position (R397, R398); none outside a chain -/
  chain : Option (Nat × List Byte × List Byte × Nat × Nat)
  /-- no further chain starts in this stream (R398) -/
  chainOver : Bool
  chainStart : Nat
  msFirst : Option Nat
  msLink : List Byte
  msPrev : List Byte
  msSeq : Nat
  msDrops : Nat
  msQueue : List Milestone
  /-- interval settings latched at the chain's start, milestones absorbed since the newest one signed, and the chained
  frames since the last periodic one (R398, R400) -/
  msInterval : Nat
  msAbsorbed : List Nat
  /-- c0 of the chain that msSeq and msPrev count (R401) -/
  msC0 : Nat
  msRun : Nat
  signed : Option Milestone
  bootTimes : List Nat
  factoryOk : Bool
  deriving DecidableEq, Repr

/-! ## Self-test -/

/-- A slice running (R406): its unit, elapsed start tick, the number of consecutive aborts, whether it runs once more after
INCOMPLETE, and for whom it runs: 0 rotation run, 1 BIST_RUN, 2 boot, 3 shutdown, 4 background, 5 spare die. -/
structure SliceRun where
  id : SliceId
  start : Nat
  aborts : Nat
  again : Bool
  owner : Nat
  /-- the command whose run it belongs to -/
  cid : Option Nat
  deriving DecidableEq, Repr

/-- A BIST_RUN or a rotation run in progress (R412, R416). -/
structure BistRun where
  die : Nat
  unit : Nat
  todo : List (Nat × Nat)
  cid : Option Nat
  kind : Nat
  start : Nat
  requested : Nat
  pass : Nat
  fail : Nat
  incomplete : Nat
  aborted : Nat
  noRef : Nat
  firstBad : Option (Nat × Nat × Nat)
  deriving DecidableEq, Repr

structure Bst where
  running : List SliceRun
  /-- slices that were ABORTED and wait for their conflict to end (R407) -/
  retry : List SliceRun
  runs : List BistRun
  /-- a full BIST runs since this elapsed tick; one of its runs did not pass -/
  full : Option Nat
  fullBad : Bool
  /-- background slices (R413): place in the order of the live H units, elapsed tick of the last turn, and whether the
  slice of that turn waits for its unit -/
  bgNext : Nat
  bgLast : Nat
  bgWait : Bool
  /-- buffers of its range that the running EGRESS slice has not obtained yet (R414), and how many buffers of each range of 64 are
  retired (R415) -/
  egressLeft : Nat
  retiredIn : List Nat
  deriving DecidableEq, Repr

/-! ## Power and reset -/

structure Pow where
  st : PState
  /-- target of a transition in progress (R310) -/
  target : Option PState
  /-- a request stored before boot has completed (R311) -/
  stored : Option PState
  rstN : Bool
  perstN : Bool
  vioLow : Bool
  vddHLow : Bool
  cause : Nat
  warmCount : Nat
  /-- device time of the entry to KEEP_WARM (R312) -/
  kwEntry : Nat
  /-- elapsed tick of the cause of the transition (R310) -/
  since : Nat
  deriving DecidableEq, Repr

end Sys2Proof.Machine
end

