-- ==== Sys2Proof/Machine/Pixel.lean ====
section
/-! DEFINITION. The arithmetic of the correction chain (chapter 4) and of RESTORE and LOOKAHEAD (chapter 5) on single
values, as pure functions. -/

namespace Sys2Proof.Machine

open Sys2Proof

/-! ## Stage values -/

def stageMin : Int := -8388608
def stageMax : Int := 8388607

/-- A stage value and whether any stage so far saturated it (R84). -/
structure SV where
  v : Int
  sat : Bool
  deriving DecidableEq, Repr

/-- A stage delivers a result (R84). -/
def deliver (sat : Bool) (v : Int) : SV :=
  { v := clampI stageMin stageMax v, sat := sat || decide (v < stageMin ∨ stageMax < v) }

/-! ## Geometry (R42) -/

/-- Index of physical pixel (c, r) (R93). -/
def phys (c r : Nat) : Nat := 4120 * r + c

/-- Index of active pixel (x, y). -/
def activeIdx (x y : Nat) : Nat := phys (x + 12) (y + 16)

/-! ## NORM (R88) -/

def normFactor (period : Nat) : Int := rndDiv (2 ^ 22 * 50000000) (3 * period)
def normValue (d : Nat) (factor : Int) : Int := ((d : Int) * factor + 2 ^ 21) / 2 ^ 22

/-! ## The cask record (R93) -/

def recOfs (w : BitVec 64) : Int := sgn 18 w.toNat
def recGain (w : BitVec 64) : Nat := w.toNat / 2 ^ 18 % 4096
def recDrift1 (w : BitVec 64) : Int := sgn 8 (w.toNat / 2 ^ 30)
def recDrift2 (w : BitVec 64) : Int := sgn 8 (w.toNat / 2 ^ 38)
def recTau (w : BitVec 64) : Nat := w.toNat / 2 ^ 46 % 256
/-- FLAGS[0] or FLAGS[1]. -/
def recFlagged (w : BitVec 64) : Bool := w.toNat / 2 ^ 54 % 4 != 0
def recStatic (w : BitVec 64) : Bool := w.toNat / 2 ^ 54 % 2 != 0

/-- A record with one field replaced: lowest bit, width, value. -/
def recPut (w : BitVec 64) (lo wd v : Nat) : BitVec 64 :=
  BitVec.ofNat 64 (w.toNat - w.toNat / 2 ^ lo % 2 ^ wd * 2 ^ lo + v % 2 ^ wd * 2 ^ lo)

/-- The record of every pixel while no cask is in force (R94). -/
def defaultRec : BitVec 64 := BitVec.ofNat 64 (2048 * 2 ^ 18 + 125 * 2 ^ 46)

/-! ## BLIND (R90) -/

/-- The IIR of step 3. -/
def refStep (ref m : Int) : Int := ref + (16 * m - ref) / 16
def refSub (ref : Int) : Int := rndDiv ref 16

/-! ## DRIFT (R96, R97) -/

/-- ΔT at active (x, y) in 1/512,000 K, from the 48 node differences. -/
def driftU (dT : List Int) (x y : Nat) : Int :=
  let px := min (x - 256) 3584
  let py := min (y - 256) 2560
  let i0 := min (px / 512) 6
  let fx : Int := px - 512 * i0
  let j0 := min (py / 512) 4
  let fy : Int := py - 512 * j0
  let t := fun (i j : Nat) => dT.getD (i + 8 * j) 0
  rndDiv ((512 - fx) * (512 - fy) * t i0 j0 + fx * (512 - fy) * t (i0 + 1) j0 + (512 - fx) * fy * t i0 (j0 + 1) +
    fx * fy * t (i0 + 1) (j0 + 1)) (2 ^ 10)

def driftLim : Int := 8192000

/-- corr of R97 at clamped u. -/
def driftCorr (d1 d2 e1 e2 u : Int) : Int :=
  rndDiv (d1 * 2 ^ (e1 + 8).toNat * u * 512000 + d2 * 2 ^ (e2 + 8).toNat * (u * u)) (256 * 512000 ^ 2)

/-! ## GAIN (R95) -/

def gainValue (g : Nat) (v : Int) : Int := rndDiv (v * g) 2048

/-! ## RESTORE (R118 to R124) -/

def seedMarker : Int := -(2 ^ 39)
def carryClamp (u : Int) : Int := clampI (-(2 ^ 39 - 1)) (2 ^ 39 - 1) u

/-- Period in nanoseconds. -/
def periodNs (period : Nat) : Nat := 4 * period

/-- τ_n in nanoseconds. -/
def tauNs (n : Nat) : Nat := 1000000 + 20000 * n

/-- B of R120; `tau` is τ_e in microseconds. -/
def tblB (period tau : Nat) : Nat :=
  (rndDiv (65536 * expNeg (periodNs period) (1000 * tau)) (2 ^ expBits)).toNat

/-- C_n of R120. -/
def tblC (period tau n : Nat) : Nat :=
  (rndDiv ((65536 - tblB period tau : Nat) * 2 ^ expBits) (2 ^ expBits - expNeg (periodNs period) (tauNs n))).toNat

/-- AC_n of R120. -/
def tblAC (period tau n : Nat) : Int := (tblC period tau n : Int) + tblB period tau - 65536

/-- G_n² of R125 in units of 2^-64, from the exact a, b and c. -/
def noiseSq (period mode tau n : Nat) : Nat :=
  if mode = 0 then 2 ^ 64
  else
    let one := 2 ^ expBits
    let a := expNeg (periodNs period) (tauNs n)
    let b := expNeg (periodNs period) (1000 * tau)
    -- c = (1 - b)/(1 - a); G^2 = c^2 (1 + a^2 - 2ab)/(1 - b^2)
    let num := (one - b) * (one - b) * (one * one + a * a - 2 * a * b)
    let den := (one - a) * (one - a) * (one * one - b * b)
    num * 2 ^ 64 / den

/-- rnd(256 × √(G²)) of a value in units of 2^-64: rnd(√(2^16·G²)). -/
def noiseField (sq : Nat) : Nat := (isqrt (sq * 4 / 2 ^ 48) + 1) / 2

/-- The coefficients of one TAU code: b, c, ac; `none` under TR_OFF. -/
structure Coefs where
  b : Int
  c : Int
  ac : Int
  deriving DecidableEq, Repr

def coefsOf (period mode tau n : Nat) : Option Coefs :=
  if mode = 0 then none
  else some { b := tblB period tau, c := tblC period tau n, ac := tblAC period tau n }

/-- One step of the filter: delivered value and new carry (R122). -/
def filterStep (k : Coefs) (x u : Int) : Int × Int :=
  let yfull := k.c * x + u
  ((yfull + 32768) / 65536, carryClamp (rndDiv (k.b * yfull) 65536 - k.ac * x))

/-- RESTORE of one pixel: mark, pass-through inside an episode, seed or filter. Delivered value and new carry (R122 to
R124, R139). -/
def restorePix (k : Option Coefs) (marked through seed : Bool) (x u : Int) : Int × Int :=
  match k with
  | none => (x, seedMarker)
  | some k =>
    if marked then (x, seedMarker)
    else if through then (x, u)
    else if seed || u = seedMarker then (x, carryClamp ((65536 - k.c) * x))
    else filterStep k x u

/-! ## LOOKAHEAD (R129) -/

/-- The weight of a neighbouring frame's value. -/
def laWeight (theta : Nat) (y0 y : Int) : Int := max 0 (65536 - rndDiv (65536 * (y - y0).natAbs) theta)

/-- LOOKAHEAD from the centre value and the values of the frames in reach. -/
def lookahead (theta : Nat) (y0 : Int) (ys : List Int) : Int :=
  let ws := ys.map (laWeight theta y0)
  let num := 65536 * y0 + sumI (List.zipWith (· * ·) ws ys)
  let den := 65536 + sumI ws
  rndDiv num den.toNat

/-! ## DEFECT (R101, R102) -/

/-- Is a pixel with input `v` a dynamic defect among its unflagged 3 × 3 neighbours' inputs? -/
def isDynamic (limit isoMax : Nat) (v : Int) (ns : List Int) : Bool :=
  let m := median ns
  3 ≤ ns.length && limit < (v - m).natAbs &&
    (ns.filter fun w => limit < 2 * (w - m).natAbs).length ≤ isoMax

/-! ## MONITOR (R104, R105) -/

def monMarker : Int := -32768

/-- The high-pass of a pixel from its four neighbours. -/
def highPass (v a b c d : Int) : Int := clampI (-32767) 32767 (v - rndDiv (a + b + c + d) 4)

/-- A tile's score from the products of its valid pairs. -/
def tileScore (prods : List Int) : Nat :=
  let n := prods.length
  if n < 1024 then 0xFFFF
  else
    let c := max 0 (sumI prods)
    -- rnd(√(C/1.25)) with C = c/n, found on 4·C/1.25 = 16c/(5n)
    min ((isqrt (16 * c.toNat / (5 * n)) + 1) / 2) 0xFFFE

/-! ## MAP (R107 to R113) -/

/-- LIN16 and LIN20: output word and whether it was clamped. -/
def linWord (scale pedestal top : Nat) (v : Int) : Nat × Bool :=
  let o := rndDiv (v * scale) 4096 + pedestal
  (clampN top o, decide (o < 0 ∨ (top : Int) < o))

/-- TEMP16 (R111); `tab` is the active bank. -/
def tempWord (tab : Nat → Nat) (inMin : Int) (stepLog2 : Nat) (v : Int) : Nat × Bool :=
  let w := v - inMin
  let st : Int := 2 ^ stepLog2
  if w < 0 then (tab 0, true)
  else
    let i := (w / st).toNat
    let f := w % st
    if 4095 ≤ i then (tab 4095, decide (4095 < i ∨ 0 < f))
    else
      let o : Int := tab i + rndDiv (((tab (i + 1) : Int) - tab i) * f) (2 ^ stepLog2)
      ((o % 65536).toNat, false)

/-- A finite binary32 as an integer times 2^-149. -/
def f32Int (w : Nat) : Int :=
  let e := w / 2 ^ 23 % 256
  let m := w % 2 ^ 23
  let a : Nat := if e = 0 then m else (2 ^ 23 + m) * 2 ^ (e - 1)
  if w / 2 ^ 31 % 2 = 1 then -(a : Int) else a

/-- Is a binary32 a NaN or an infinity (R113)? -/
def f32Special (w : Nat) : Bool := w / 2 ^ 23 % 256 = 255

/-- The nearest binary32, ties to even, of a natural number times 2^-149 that is below the overflow point: as an
exponent and significand packed. -/
def f32Round (a : Nat) : Nat :=
  let n := if a = 0 then 0 else a.log2 + 1
  if n ≤ 24 then
    -- exact: subnormal or normal with all bits
    if a < 2 ^ 23 then a else 2 ^ 23 + (a - 2 ^ 23)
  else
    let sh := n - 24
    let q := a / 2 ^ sh
    let r := a % 2 ^ sh
    let half := 2 ^ (sh - 1)
    let q' := if half < r ∨ (r = half ∧ q % 2 = 1) then q + 1 else q
    -- biased exponent sh + 1, significand q' (a carry to 2^24 raises the exponent by itself)
    (sh + 1) * 2 ^ 23 + (q' - 2 ^ 23)

/-- RADF32 of an exact value times 2^-149 (R113): word and whether it was clamped. A zero is written as +0 (log 13). -/
def f32Word (x : Int) : Nat × Bool :=
  let a := x.natAbs
  let sign := if x < 0 then 2 ^ 31 else 0
  let w := f32Round a
  if 255 * 2 ^ 23 ≤ w then (sign + 255 * 2 ^ 23 - 1, true) else (sign + w, false)

def radWord (k l0 : Nat) (v : Int) : Nat × Bool := f32Word (v * f32Int k + f32Int l0)

/-- Two 20-bit words packed into five bytes (R108). -/
def pack20 : List Nat → List Byte
  | a :: b :: t => leBytes 5 (b % 2 ^ 20 * 2 ^ 20 + a % 2 ^ 20) ++ pack20 t
  | [a] => leBytes 5 (a % 2 ^ 20)
  | [] => []

/-- A row of output words as bytes (R107). -/
def packRow (fmt : Nat) (ws : List Nat) : List Byte :=
  if fmt = 0 ∨ fmt = 2 then pack20 ws
  else (ws.map fun w => leBytes (if fmt = 4 then 4 else 2) w).flatten

end Sys2Proof.Machine
end

