-- ==== Sys2Proof/Config.lean ====
section
/-! DEFINITION. What an implementation of the BM4030 fixes and the manual leaves open: opaque constants with no body.
Nothing can be proved about any of their values. Each is named in a log entry. -/

namespace Sys2Proof

/-- Free values (log 6): the i-th value drawn by the machine, as a natural number of whatever range the use takes
it in. -/
opaque Config.freeNat : Nat → Nat

/-- Contents of the FACTORY and BIST_REF areas of the NV store, written at manufacture, by address (log 20). -/
opaque Config.factoryByte : Nat → BitVec 8

/-- Does the FACTORY digest match at RECALL (R377)? (log 20) -/
opaque Config.factoryOk : Bool

/-- Factory values of the trim registers, in the order of R364 (log 20). -/
opaque Config.factoryTrim : Nat → Nat

/-- ML-DSA-65 signing (R382): the key's identity, the message and the hedging input give the 3,309-byte signature
(log 21). -/
opaque Config.sign : Nat → List (BitVec 8) → Nat → List (BitVec 8)

/-- ML-DSA-65 verification (R382, R384, R395): public key bytes, message, signature (log 21). -/
opaque Config.verify : List (BitVec 8) → List (BitVec 8) → List (BitVec 8) → Bool

/-- Coefficients of the plan and of the activity ledger, factory values that the manual gives as typical only (R314,
R320, R4; log 23). The indices are named in `Sys2Proof/Machine/Plan.lean`. -/
opaque Config.coeff : Nat → Nat

/-- The MiB of a die's SRAM that holds ref_c, which self-test of a spare leaves out (R411; log 24). -/
opaque Config.refMib : Nat

/-- Fields of the factory data whose place in FACTORY the manual does not give: item and byte (log 20). Item 0 is the serial
number, 1 the identity key's public half, 2 what hedged the endorsement, 4 the temperature offsets (one signed 16-bit number per die
code), 5 the vendor public key, 6 the bandgap code, 7 the test current, 8 the PCIe subsystem vendor and device
IDs, zero where FACTORY holds none (R254; log 109). -/
opaque Config.factoryField : Nat → Nat → BitVec 8

/-- The first tile row that a frame record or a VTL unit without tile rows names (R240, R241, R249; log 89). -/
opaque Config.noRow : BitVec 8

/-- Has the host enabled L1.2 in the link's configuration (R255)? The table has no row for its configuration writes (log 109). -/
opaque Config.l12Enabled : Bool

/-- Bits of the debug scope mask that are assigned: the manual reserves some of them and names none (R394; log 36). -/
opaque Config.scopeBits : BitVec 32

end Sys2Proof
end

