-- ==== Sys2Proof/Machine/Regs.lean ====
section
/-! DEFINITION. The BAR0 register map (R443): every register's offset, its fields, its reset value, the bits a host
write stores or clears (R9), and the bits a warm reset keeps (R446), as the owning chapters' tables give them. -/

namespace Sys2Proof.Machine

/-- A register field: offset of its register, lowest bit, width. -/
structure Fld where
  off : Nat
  lo : Nat
  wd : Nat
  deriving DecidableEq, Repr

/-- One row of a register table: first offset, stride and count of the family, reset value, mask of the bits a host
write sets (RW, RWS, RWL), mask of the W1C bits, mask of the bits kept across warm reset. -/
structure RegRow where
  off : Nat
  stride : Nat
  count : Nat
  reset : Nat
  rw : Nat
  w1c : Nat
  kept : Nat
  deriving DecidableEq, Repr

/-! ## Offsets -/

abbrev Reg.GLB_ID : Nat := 0x0000
abbrev Reg.GLB_REV : Nat := 0x0004
abbrev Reg.GLB_VARIANT : Nat := 0x0008
abbrev Reg.GLB_STATE : Nat := 0x000C
/-- GLB_SERIAL_0..3 (R444). -/
abbrev Reg.GLB_SERIAL (n : Nat) : Nat := 0x0010 + 4 * n
abbrev Reg.GLB_RESET_CAUSE : Nat := 0x0020
abbrev Reg.GLB_EVENT : Nat := 0x0024
abbrev Reg.GLB_INT_RAW : Nat := 0x0028
abbrev Reg.GLB_INT_EN : Nat := 0x002C
abbrev Reg.GLB_INT_SUMMARY : Nat := 0x0030
/-- GLB_SCRATCH_0..1 (R444). -/
abbrev Reg.GLB_SCRATCH (n : Nat) : Nat := 0x0040 + 4 * n
abbrev Reg.HIF_STATUS : Nat := 0x0400
abbrev Reg.HIF_CTRL : Nat := 0x0404
abbrev Reg.HIF_LINK : Nat := 0x0408
abbrev Reg.HIF_RING_CFG : Nat := 0x040C
abbrev Reg.HIF_CMD_BASE_LO : Nat := 0x0410
abbrev Reg.HIF_CMD_BASE_HI : Nat := 0x0414
abbrev Reg.HIF_CMP_BASE_LO : Nat := 0x0418
abbrev Reg.HIF_CMP_BASE_HI : Nat := 0x041C
abbrev Reg.HIF_CMD_CONS : Nat := 0x0420
abbrev Reg.HIF_CMP_MOD : Nat := 0x0424
abbrev Reg.HIF_POOL_FREE : Nat := 0x0428
/-- HIF_POOL_RSV_0..7 (R286). -/
abbrev Reg.HIF_POOL_RSV (n : Nat) : Nat := 0x0440 + 4 * n
/-- HIF_POOL_CAP_0..7 (R286). -/
abbrev Reg.HIF_POOL_CAP (n : Nat) : Nat := 0x0460 + 4 * n
/-- HIF_CH_n_BUF_BASE_LO (R286). -/
abbrev Reg.HIF_CH_BUF_BASE_LO (n : Nat) : Nat := 0x0480 + 32 * n
/-- HIF_CH_n_BUF_BASE_HI (R286). -/
abbrev Reg.HIF_CH_BUF_BASE_HI (n : Nat) : Nat := 0x0484 + 32 * n
/-- HIF_CH_n_SCMP_BASE_LO (R286). -/
abbrev Reg.HIF_CH_SCMP_BASE_LO (n : Nat) : Nat := 0x0488 + 32 * n
/-- HIF_CH_n_SCMP_BASE_HI (R286). -/
abbrev Reg.HIF_CH_SCMP_BASE_HI (n : Nat) : Nat := 0x048C + 32 * n
/-- HIF_CH_n_CTRL (R286). -/
abbrev Reg.HIF_CH_CTRL (n : Nat) : Nat := 0x0490 + 32 * n
/-- HIF_CH_n_STATUS (R286). -/
abbrev Reg.HIF_CH_STATUS (n : Nat) : Nat := 0x0494 + 32 * n
/-- HIF_CH_n_DROP_COUNT (R286). -/
abbrev Reg.HIF_CH_DROP_COUNT (n : Nat) : Nat := 0x0498 + 32 * n
/-- HIF_CH_n_MOD (R286). -/
abbrev Reg.HIF_CH_MOD (n : Nat) : Nat := 0x049C + 32 * n
abbrev Reg.TMG_STATUS : Nat := 0x0800
abbrev Reg.TMG_SYNC_CFG : Nat := 0x0804
abbrev Reg.TMG_PERIOD : Nat := 0x0808
abbrev Reg.TMG_WIN_ORIGIN : Nat := 0x080C
abbrev Reg.TMG_WIN_SIZE : Nat := 0x0810
abbrev Reg.TMG_TIME_LO : Nat := 0x0814
abbrev Reg.TMG_TIME_HI : Nat := 0x0818
abbrev Reg.TMG_SNAP_LO : Nat := 0x081C
abbrev Reg.TMG_SNAP_HI : Nat := 0x0820
abbrev Reg.TMG_FRAME_LO : Nat := 0x0824
abbrev Reg.TMG_FRAME_HI : Nat := 0x0828
abbrev Reg.TMG_REF_OFS : Nat := 0x082C
abbrev Reg.TMG_REF_TOL : Nat := 0x0830
abbrev Reg.TMG_REF_PERIOD : Nat := 0x0834
abbrev Reg.TMG_REF_ERR : Nat := 0x0838
abbrev Reg.TMG_LTC_CFG : Nat := 0x083C
abbrev Reg.TMG_LTC_CODE : Nat := 0x0840
abbrev Reg.TMG_LTC_USER : Nat := 0x0844
abbrev Reg.TMG_TRIG_CFG : Nat := 0x0848
abbrev Reg.TMG_TRIG_HOLDOFF : Nat := 0x084C
abbrev Reg.TMG_TRIG_TIME_LO : Nat := 0x0850
abbrev Reg.TMG_TRIG_TIME_HI : Nat := 0x0854
abbrev Reg.TMG_TRIG_COUNT : Nat := 0x0858
abbrev Reg.TMG_TRIG_HELD : Nat := 0x085C
abbrev Reg.TMG_TRIG_LATE : Nat := 0x0860
abbrev Reg.SEN_STATUS : Nat := 0x0C00
abbrev Reg.SEN_BIAS : Nat := 0x0C04
abbrev Reg.SEN_QREF : Nat := 0x0C08
abbrev Reg.SEN_VB_MEAS : Nat := 0x0C0C
abbrev Reg.SEN_VREFQ_MEAS : Nat := 0x0C10
abbrev Reg.SEN_SAT_COUNT : Nat := 0x0C14
abbrev Reg.SEN_STARVE_COUNT : Nat := 0x0C18
abbrev Reg.SEN_ARRAY_LEVEL : Nat := 0x0C1C
abbrev Reg.SEN_BLINDROW_MEAN : Nat := 0x0C20
abbrev Reg.SEN_SUBSNAP : Nat := 0x0C24
abbrev Reg.SEN_GRID_FRAME_LO : Nat := 0x0C28
abbrev Reg.SEN_GRID_FRAME_HI : Nat := 0x0C2C
abbrev Reg.SEN_GRID_MEAN : Nat := 0x0C30
/-- SEN_GRID_0..47 (R55). -/
abbrev Reg.SEN_GRID (n : Nat) : Nat := 0x0C40 + 4 * n
abbrev Reg.PPL_STATUS : Nat := 0x1000
abbrev Reg.PPL_FORMAT : Nat := 0x1004
abbrev Reg.PPL_LIN_SCALE : Nat := 0x1008
abbrev Reg.PPL_LIN_PEDESTAL : Nat := 0x100C
abbrev Reg.PPL_LIN20_PEDESTAL : Nat := 0x1010
abbrev Reg.PPL_BLIND_CFG : Nat := 0x1014
abbrev Reg.PPL_DEFECT_CFG : Nat := 0x1018
abbrev Reg.PPL_DYN_LIMIT : Nat := 0x101C
abbrev Reg.PPL_MON_CFG : Nat := 0x1020
abbrev Reg.PPL_MON_SCORE : Nat := 0x1024
abbrev Reg.PPL_DYN_COUNT : Nat := 0x1028
abbrev Reg.PPL_CLIP_COUNT : Nat := 0x102C
abbrev Reg.PPL_MAPCLAMP_COUNT : Nat := 0x1030
abbrev Reg.PPL_UNREPLACED : Nat := 0x1034
abbrev Reg.PPL_RAD_IN_MIN : Nat := 0x1038
abbrev Reg.PPL_RAD_CTRL : Nat := 0x103C
abbrev Reg.PPL_RAD_ADDR : Nat := 0x1040
abbrev Reg.PPL_RAD_DATA : Nat := 0x1044
abbrev Reg.PPL_RAD_K : Nat := 0x1048
abbrev Reg.PPL_RAD_L0 : Nat := 0x104C
/-- PPL_Pn_STATUS (R117). -/
abbrev Reg.PPL_P_STATUS (n : Nat) : Nat := 0x1400 + 256 * n
/-- PPL_Pn_FRAME_LO (R117). -/
abbrev Reg.PPL_P_FRAME_LO (n : Nat) : Nat := 0x1404 + 256 * n
/-- PPL_Pn_FRAME_HI (R117). -/
abbrev Reg.PPL_P_FRAME_HI (n : Nat) : Nat := 0x1408 + 256 * n
/-- PPL_Pn_DYN_COUNT (R117). -/
abbrev Reg.PPL_P_DYN_COUNT (n : Nat) : Nat := 0x140C + 256 * n
/-- PPL_Pn_CLIP_COUNT (R117). -/
abbrev Reg.PPL_P_CLIP_COUNT (n : Nat) : Nat := 0x1410 + 256 * n
abbrev Reg.TRS_STATUS : Nat := 0x1C00
abbrev Reg.TRS_CTRL : Nat := 0x1C04
abbrev Reg.TRS_TAU_EVEN : Nat := 0x1C08
abbrev Reg.TRS_TAU_FAST : Nat := 0x1C0C
abbrev Reg.TRS_DN_THETA : Nat := 0x1C10
abbrev Reg.TRS_REV_CFG : Nat := 0x1C14
abbrev Reg.TRS_REV_PIX : Nat := 0x1C18
abbrev Reg.TRS_SAT_CFG : Nat := 0x1C1C
abbrev Reg.TRS_COIL_CFG : Nat := 0x1C20
abbrev Reg.TRS_COLD : Nat := 0x1C24
abbrev Reg.TRS_NOISE_GAIN : Nat := 0x1C28
abbrev Reg.TRS_TBL_IDX : Nat := 0x1C2C
abbrev Reg.TRS_TBL_B : Nat := 0x1C30
abbrev Reg.TRS_TBL_C : Nat := 0x1C34
abbrev Reg.TRS_TBL_AC : Nat := 0x1C38
abbrev Reg.TRS_TBL_G : Nat := 0x1C3C
abbrev Reg.TRS_SEED_FRAME_LO : Nat := 0x1C40
abbrev Reg.TRS_SEED_FRAME_HI : Nat := 0x1C44
abbrev Reg.TRS_PRED_ERR : Nat := 0x1C48
abbrev Reg.TRS_RETRACT_COUNT : Nat := 0x1C4C
abbrev Reg.TRS_REVISION_COUNT : Nat := 0x1C50
abbrev Reg.CAL_STATUS : Nat := 0x2000
abbrev Reg.CAL_CTRL : Nat := 0x2004
abbrev Reg.CAL_CASK : Nat := 0x2008
abbrev Reg.CAL_GEN_A : Nat := 0x200C
abbrev Reg.CAL_GEN_B : Nat := 0x2010
abbrev Reg.CAL_DRIFT_EXP_1 : Nat := 0x2014
abbrev Reg.CAL_DRIFT_EXP_2 : Nat := 0x2018
abbrev Reg.CAL_N : Nat := 0x201C
abbrev Reg.CAL_AGREE_TOL : Nat := 0x2020
abbrev Reg.CAL_AGREE_MAX_FRAC : Nat := 0x2024
abbrev Reg.CAL_FLAT_LIMIT : Nat := 0x2028
abbrev Reg.CAL_RESP : Nat := 0x202C
abbrev Reg.CAL_REQ_LIMIT : Nat := 0x2030
abbrev Reg.CAL_REQ_FRAMES : Nat := 0x2034
abbrev Reg.CAL_AUTO_HOLDOFF : Nat := 0x2038
abbrev Reg.CAL_SHUT_CFG : Nat := 0x203C
abbrev Reg.CAL_TAU_CFG : Nat := 0x2040
abbrev Reg.CAL_2P_MIN_DELTA : Nat := 0x2044
abbrev Reg.CAL_LAST : Nat := 0x2048
abbrev Reg.CAL_LAST_QUALITY : Nat := 0x204C
abbrev Reg.CAL_REQ_RUN : Nat := 0x2050
abbrev Reg.CAL_TRIM_CONV : Nat := 0x2080
abbrev Reg.CAL_TRIM_SKIM : Nat := 0x2084
abbrev Reg.CAL_TRIM_HKC : Nat := 0x2088
abbrev Reg.CAL_TRIM_LIM : Nat := 0x208C
abbrev Reg.CAL_TRIM_LIM_GRID : Nat := 0x2090
/-- CAL_TRIM_GRID_0..47 (R183). -/
abbrev Reg.CAL_TRIM_GRID (n : Nat) : Nat := 0x2100 + 4 * n
abbrev Reg.CEL_STATUS : Nat := 0x2400
abbrev Reg.CEL_CFG : Nat := 0x2404
abbrev Reg.CEL_SIZE : Nat := 0x2408
abbrev Reg.CEL_TAKE_FREE : Nat := 0x240C
abbrev Reg.CEL_TAKE_STATE : Nat := 0x2410
abbrev Reg.CEL_TAKE_FIRST_LO : Nat := 0x2414
abbrev Reg.CEL_TAKE_FIRST_HI : Nat := 0x2418
abbrev Reg.CEL_TAKE_LAST_LO : Nat := 0x241C
abbrev Reg.CEL_TAKE_LAST_HI : Nat := 0x2420
abbrev Reg.CEL_TAKE_TRIG_LO : Nat := 0x2424
abbrev Reg.CEL_TAKE_TRIG_HI : Nat := 0x2428
abbrev Reg.CEL_TAKE_WC : Nat := 0x242C
abbrev Reg.CEL_TAKE_CAP : Nat := 0x2430
abbrev Reg.CEL_DIR : Nat := 0x2434
abbrev Reg.CEL_ECC_CORR : Nat := 0x2438
abbrev Reg.CEL_ECC_UNCORR : Nat := 0x243C
abbrev Reg.CEL_REPLAY_STATUS : Nat := 0x2440
abbrev Reg.CEL_REPLAY_FRAME_LO : Nat := 0x2444
abbrev Reg.CEL_REPLAY_FRAME_HI : Nat := 0x2448
/-- CEL_LOAD_0..4 (R253). -/
abbrev Reg.CEL_LOAD (n : Nat) : Nat := 0x2450 + 4 * n
abbrev Reg.ROL_STATUS : Nat := 0x2800
abbrev Reg.ROL_CFG : Nat := 0x2804
abbrev Reg.ROL_VERSION : Nat := 0x2808
abbrev Reg.ROL_PEND_FRAME_LO : Nat := 0x280C
abbrev Reg.ROL_PEND_FRAME_HI : Nat := 0x2810
abbrev Reg.ROL_CHANGE_FRAME_LO : Nat := 0x2814
abbrev Reg.ROL_CHANGE_FRAME_HI : Nat := 0x2818
abbrev Reg.ROL_HANDOVER_STAT : Nat := 0x281C
abbrev Reg.ROL_FWD_COUNT : Nat := 0x2820
abbrev Reg.ROL_STALE_COUNT : Nat := 0x2824
abbrev Reg.ROL_MISSING_COUNT : Nat := 0x2828
abbrev Reg.ROL_FAULT : Nat := 0x282C
abbrev Reg.ROL_FAULT_CAUSE : Nat := 0x2830
/-- ROL_MAP_0..4 (R231). -/
abbrev Reg.ROL_MAP (n : Nat) : Nat := 0x2840 + 4 * n
abbrev Reg.TOL_STATUS : Nat := 0x2C00
abbrev Reg.TOL_CFG : Nat := 0x2C04
abbrev Reg.TOL_PSTATE : Nat := 0x2C08
abbrev Reg.TOL_CAP_MW : Nat := 0x2C0C
abbrev Reg.TOL_WINDOW_MS : Nat := 0x2C10
abbrev Reg.TOL_ALLOW_MJ : Nat := 0x2C14
abbrev Reg.TOL_FLAT_MW : Nat := 0x2C18
abbrev Reg.TOL_ALLOW_LEFT_MJ : Nat := 0x2C1C
abbrev Reg.TOL_AVG_MW : Nat := 0x2C20
abbrev Reg.TOL_NOW_MW : Nat := 0x2C24
abbrev Reg.TOL_FILLER_MW : Nat := 0x2C28
abbrev Reg.TOL_STEPS : Nat := 0x2C2C
abbrev Reg.TOL_ENERGY_LO : Nat := 0x2C30
abbrev Reg.TOL_ENERGY_HI : Nat := 0x2C34
abbrev Reg.TOL_XCHK_CFG : Nat := 0x2C38
abbrev Reg.TOL_XCHK_RATIO : Nat := 0x2C3C
abbrev Reg.TOL_DRAM_PJB : Nat := 0x2C40
abbrev Reg.TOL_COIL_MJ : Nat := 0x2C44
abbrev Reg.TOL_SENSOR_MW : Nat := 0x2C48
abbrev Reg.TOL_H_MW : Nat := 0x2C4C
/-- TOL_DIE_MW_0..4 (R334). -/
abbrev Reg.TOL_DIE_MW (n : Nat) : Nat := 0x2C50 + 4 * n
abbrev Reg.THM_STATUS : Nat := 0x3000
abbrev Reg.THM_CFG : Nat := 0x3004
abbrev Reg.THM_STATE : Nat := 0x3008
abbrev Reg.THM_THR_P : Nat := 0x300C
abbrev Reg.THM_THR_H : Nat := 0x3010
abbrev Reg.THM_THR_S2 : Nat := 0x3014
abbrev Reg.THM_TEMP_H : Nat := 0x3018
abbrev Reg.THM_TEMP_S2 : Nat := 0x301C
/-- THM_TEMP_P_0..4 (R335). -/
abbrev Reg.THM_TEMP_P (n : Nat) : Nat := 0x3020 + 4 * n
abbrev Reg.THM_CRIT_DIE : Nat := 0x3034
abbrev Reg.THM_CRIT_TICK_LO : Nat := 0x3038
abbrev Reg.THM_CRIT_TICK_HI : Nat := 0x303C
abbrev Reg.THM_TRIP_COUNT : Nat := 0x3040
abbrev Reg.HKC_STATUS : Nat := 0x3400
abbrev Reg.HKC_CTRL : Nat := 0x3404
abbrev Reg.HKC_REG_CFG : Nat := 0x3408
abbrev Reg.HKC_INJ_CFG : Nat := 0x340C
abbrev Reg.HKC_SEQ_0 : Nat := 0x3410
abbrev Reg.HKC_SEQ_1 : Nat := 0x3414
abbrev Reg.HKC_SEQ_2 : Nat := 0x3418
abbrev Reg.HKC_SEQ_3 : Nat := 0x341C
abbrev Reg.HKC_INJ_SEQ : Nat := 0x3420
abbrev Reg.HKC_Q_CFG : Nat := 0x3424
abbrev Reg.HKC_Q_LEVEL : Nat := 0x3428
abbrev Reg.HKC_Q_LO : Nat := 0x342C
abbrev Reg.HKC_Q_HI : Nat := 0x3430
abbrev Reg.HKC_OVERRUN : Nat := 0x3434
abbrev Reg.HKC_INJ_BUSY : Nat := 0x3438
abbrev Reg.HKC_INJ_BLOCKED : Nat := 0x343C
abbrev Reg.HKC_Q_LOST : Nat := 0x3440
abbrev Reg.HKC_SEQ_COUNT : Nat := 0x3444
abbrev Reg.HKC_REG_DUR : Nat := 0x3448
abbrev Reg.HKC_CAL_CFG : Nat := 0x344C
/-- HKC_RES_0..15 (R356). -/
abbrev Reg.HKC_RES (n : Nat) : Nat := 0x3480 + 4 * n
/-- HKC_INJ_RES_0..3 (R356). -/
abbrev Reg.HKC_INJ_RES (n : Nat) : Nat := 0x34C0 + 4 * n
/-- HKC_CH_0..23 (R356). -/
abbrev Reg.HKC_CH (n : Nat) : Nat := 0x3500 + 4 * n
abbrev Reg.COIL_STATUS : Nat := 0x3800
abbrev Reg.COIL_OC : Nat := 0x3804
abbrev Reg.COIL_CFG : Nat := 0x3808
abbrev Reg.COIL_OC_LIMIT : Nat := 0x380C
abbrev Reg.COIL_VPP_MIN : Nat := 0x3810
abbrev Reg.COIL_KINK_CFG_A : Nat := 0x3814
abbrev Reg.COIL_KINK_CFG_B : Nat := 0x3818
abbrev Reg.COIL_ENTRY : Nat := 0x381C
abbrev Reg.COIL_ENG_A_STATUS : Nat := 0x3820
abbrev Reg.COIL_ENG_B_STATUS : Nat := 0x3824
abbrev Reg.COIL_ENG_A_START_LO : Nat := 0x3828
abbrev Reg.COIL_ENG_A_START_HI : Nat := 0x382C
abbrev Reg.COIL_ENG_A_KINK_LO : Nat := 0x3830
abbrev Reg.COIL_ENG_A_KINK_HI : Nat := 0x3834
abbrev Reg.COIL_ENG_B_START_LO : Nat := 0x3838
abbrev Reg.COIL_ENG_B_START_HI : Nat := 0x383C
abbrev Reg.COIL_ENG_B_KINK_LO : Nat := 0x3840
abbrev Reg.COIL_ENG_B_KINK_HI : Nat := 0x3844
abbrev Reg.COIL_ENG_A_DMAX : Nat := 0x3848
abbrev Reg.COIL_ENG_B_DMAX : Nat := 0x384C
/-- COIL_UCODE_0..127 (R209). -/
abbrev Reg.COIL_UCODE (n : Nat) : Nat := 0x3A00 + 4 * n
abbrev Reg.NVS_STATUS : Nat := 0x3C00
abbrev Reg.NVS_USER_FAIL : Nat := 0x3C04
abbrev Reg.NVS_TRIMS_SEQ : Nat := 0x3C08
abbrev Reg.NVS_LOG_SEQ : Nat := 0x3C0C
abbrev Reg.NVS_DEFER : Nat := 0x3C10
abbrev Reg.NVS_RECALL_US : Nat := 0x3C14
abbrev Reg.NVS_ROW_WRITES_LO : Nat := 0x3C18
abbrev Reg.NVS_ROW_WRITES_HI : Nat := 0x3C1C
abbrev Reg.BST_STATUS : Nat := 0x4000
abbrev Reg.BST_CFG : Nat := 0x4004
abbrev Reg.BST_ROTATE : Nat := 0x4008
abbrev Reg.BST_BG_PERIOD : Nat := 0x400C
abbrev Reg.BST_BOOT : Nat := 0x4010
abbrev Reg.BST_LAST_NONPASS : Nat := 0x4014
abbrev Reg.BST_SIG_LO : Nat := 0x4018
abbrev Reg.BST_SIG_HI : Nat := 0x401C
abbrev Reg.BST_REF_LO : Nat := 0x4020
abbrev Reg.BST_REF_HI : Nat := 0x4024
abbrev Reg.BST_PASS_COUNT : Nat := 0x4028
abbrev Reg.BST_FAIL_COUNT : Nat := 0x402C
abbrev Reg.BST_INCOMPLETE_COUNT : Nat := 0x4030
abbrev Reg.BST_ABORT_COUNT : Nat := 0x4034
abbrev Reg.BST_POOL_RETIRED : Nat := 0x4038
/-- BST_DIE_0..4 (R420). -/
abbrev Reg.BST_DIE (n : Nat) : Nat := 0x4040 + 4 * n
abbrev Reg.SEC_STATUS : Nat := 0x4400
abbrev Reg.SEC_CTRL : Nat := 0x4404
abbrev Reg.SEC_MS_CFG : Nat := 0x4408
abbrev Reg.SEC_MS_COUNT : Nat := 0x440C
abbrev Reg.SEC_CHAIN_FRAME_LO : Nat := 0x4410
abbrev Reg.SEC_CHAIN_FRAME_HI : Nat := 0x4414
abbrev Reg.SEC_FW_VER_MGMT : Nat := 0x4418
abbrev Reg.SEC_FW_VER_PDIE : Nat := 0x441C
abbrev Reg.SEC_FW_VER_COIL : Nat := 0x4420
abbrev Reg.SEC_SVN : Nat := 0x4424
abbrev Reg.SEC_BOOT : Nat := 0x4428
abbrev Reg.SEC_MBOX_REQ : Nat := 0x442C
abbrev Reg.SEC_MBOX_RSP : Nat := 0x4430
/-- SEC_MBOX_DATA_0..7 (R405). -/
abbrev Reg.SEC_MBOX_DATA (n : Nat) : Nat := 0x4440 + 4 * n
abbrev Reg.WAY_STATUS : Nat := 0x4800
abbrev Reg.WAY_CFG : Nat := 0x4804
abbrev Reg.WAY_CTRL : Nat := 0x4808
abbrev Reg.WAY_CENSUS : Nat := 0x480C
abbrev Reg.WAY_DELAY : Nat := 0x4810
abbrev Reg.WAY_LATENCY : Nat := 0x4814
abbrev Reg.WAY_LOOP : Nat := 0x4818
abbrev Reg.WAY_CENSUS_TOL : Nat := 0x481C
abbrev Reg.WAY_ERR : Nat := 0x4820
abbrev Reg.WAY_RATE : Nat := 0x4824
abbrev Reg.WAY_USER_TX : Nat := 0x4828
abbrev Reg.WAY_USER_DST : Nat := 0x482C
abbrev Reg.WAY_SYNC_REJ : Nat := 0x4830
abbrev Reg.WAY_RETX_COUNT : Nat := 0x4834
abbrev Reg.WAY_BAD_COUNT : Nat := 0x4838
abbrev Reg.WAY_EPOCH_MISS : Nat := 0x483C
/-- WAY_SEG_0..15 (R307). -/
abbrev Reg.WAY_SEG (n : Nat) : Nat := 0x4840 + 4 * n

/-! ## Fields -/

abbrev Fld.GLB_ID_VENDOR : Fld := ⟨Reg.GLB_ID, 0, 16⟩
abbrev Fld.GLB_ID_DEVICE : Fld := ⟨Reg.GLB_ID, 16, 16⟩
abbrev Fld.GLB_REV_STEP_DIGIT : Fld := ⟨Reg.GLB_REV, 0, 4⟩
abbrev Fld.GLB_REV_STEP_LETTER : Fld := ⟨Reg.GLB_REV, 4, 4⟩
abbrev Fld.GLB_REV_FW_MINOR : Fld := ⟨Reg.GLB_REV, 16, 8⟩
abbrev Fld.GLB_REV_FW_MAJOR : Fld := ⟨Reg.GLB_REV, 24, 8⟩
abbrev Fld.GLB_VARIANT_NP : Fld := ⟨Reg.GLB_VARIANT, 0, 3⟩
abbrev Fld.GLB_VARIANT_PRESENT : Fld := ⟨Reg.GLB_VARIANT, 8, 5⟩
abbrev Fld.GLB_VARIANT_POWERED : Fld := ⟨Reg.GLB_VARIANT, 16, 5⟩
abbrev Fld.GLB_STATE_PSTATE : Fld := ⟨Reg.GLB_STATE, 0, 3⟩
abbrev Fld.GLB_STATE_MOVING : Fld := ⟨Reg.GLB_STATE, 3, 1⟩
abbrev Fld.GLB_STATE_BOOT_DONE : Fld := ⟨Reg.GLB_STATE, 4, 1⟩
abbrev Fld.GLB_STATE_RECOVERY : Fld := ⟨Reg.GLB_STATE, 5, 1⟩
abbrev Fld.GLB_STATE_CRIT_HOLD : Fld := ⟨Reg.GLB_STATE, 6, 1⟩
abbrev Fld.GLB_STATE_ALERT : Fld := ⟨Reg.GLB_STATE, 7, 1⟩
abbrev Fld.GLB_RESET_CAUSE_CAUSE : Fld := ⟨Reg.GLB_RESET_CAUSE, 0, 4⟩
abbrev Fld.GLB_RESET_CAUSE_WARM_COUNT : Fld := ⟨Reg.GLB_RESET_CAUSE, 8, 8⟩
abbrev Fld.GLB_EVENT_PSTATE_CHG : Fld := ⟨Reg.GLB_EVENT, 0, 1⟩
abbrev Fld.GLB_EVENT_BOOT_EVT : Fld := ⟨Reg.GLB_EVENT, 1, 1⟩
abbrev Fld.GLB_EVENT_ALERT_EVT : Fld := ⟨Reg.GLB_EVENT, 2, 1⟩
abbrev Fld.GLB_INT_RAW_BLOCK : Fld := ⟨Reg.GLB_INT_RAW, 0, 17⟩
abbrev Fld.GLB_INT_EN_BLOCK : Fld := ⟨Reg.GLB_INT_EN, 0, 17⟩
abbrev Fld.GLB_INT_SUMMARY_BLOCK : Fld := ⟨Reg.GLB_INT_SUMMARY, 0, 17⟩
abbrev Fld.HIF_STATUS_CMD_RUN : Fld := ⟨Reg.HIF_STATUS, 0, 1⟩
abbrev Fld.HIF_STATUS_BME_OFF : Fld := ⟨Reg.HIF_STATUS, 1, 1⟩
abbrev Fld.HIF_STATUS_DB_REJ : Fld := ⟨Reg.HIF_STATUS, 8, 1⟩
abbrev Fld.HIF_STATUS_CFG_REJ : Fld := ⟨Reg.HIF_STATUS, 9, 1⟩
abbrev Fld.HIF_STATUS_DMA_ERR : Fld := ⟨Reg.HIF_STATUS, 10, 1⟩
abbrev Fld.HIF_STATUS_DB_RING : Fld := ⟨Reg.HIF_STATUS, 14, 2⟩
abbrev Fld.HIF_STATUS_DB_CH : Fld := ⟨Reg.HIF_STATUS, 16, 3⟩
abbrev Fld.HIF_CTRL_CMD_EN : Fld := ⟨Reg.HIF_CTRL, 0, 1⟩
abbrev Fld.HIF_LINK_SPEED : Fld := ⟨Reg.HIF_LINK, 0, 4⟩
abbrev Fld.HIF_LINK_WIDTH : Fld := ⟨Reg.HIF_LINK, 4, 6⟩
abbrev Fld.HIF_LINK_L12 : Fld := ⟨Reg.HIF_LINK, 10, 1⟩
abbrev Fld.HIF_RING_CFG_CMD_LOG2 : Fld := ⟨Reg.HIF_RING_CFG, 0, 4⟩
abbrev Fld.HIF_RING_CFG_CMP_LOG2 : Fld := ⟨Reg.HIF_RING_CFG, 8, 4⟩
abbrev Fld.HIF_CMD_BASE_LO_ADDR : Fld := ⟨Reg.HIF_CMD_BASE_LO, 12, 20⟩
abbrev Fld.HIF_CMP_BASE_LO_ADDR : Fld := ⟨Reg.HIF_CMP_BASE_LO, 12, 20⟩
abbrev Fld.HIF_CMD_CONS_FETCH : Fld := ⟨Reg.HIF_CMD_CONS, 0, 16⟩
abbrev Fld.HIF_CMD_CONS_OUTSTANDING : Fld := ⟨Reg.HIF_CMD_CONS, 16, 7⟩
abbrev Fld.HIF_CMP_MOD_COUNT : Fld := ⟨Reg.HIF_CMP_MOD, 0, 8⟩
abbrev Fld.HIF_CMP_MOD_TIME : Fld := ⟨Reg.HIF_CMP_MOD, 8, 16⟩
abbrev Fld.HIF_POOL_FREE_FREE : Fld := ⟨Reg.HIF_POOL_FREE, 0, 12⟩
abbrev Fld.HIF_POOL_FREE_MIN_FREE : Fld := ⟨Reg.HIF_POOL_FREE, 16, 12⟩
abbrev Fld.HIF_POOL_RSV_BUFFERS (n : Nat) : Fld := ⟨Reg.HIF_POOL_RSV n, 0, 12⟩
abbrev Fld.HIF_POOL_CAP_BUFFERS (n : Nat) : Fld := ⟨Reg.HIF_POOL_CAP n, 0, 12⟩
abbrev Fld.HIF_CH_BUF_BASE_LO_ADDR (n : Nat) : Fld := ⟨Reg.HIF_CH_BUF_BASE_LO n, 12, 20⟩
abbrev Fld.HIF_CH_SCMP_BASE_LO_ADDR (n : Nat) : Fld := ⟨Reg.HIF_CH_SCMP_BASE_LO n, 12, 20⟩
abbrev Fld.HIF_CH_CTRL_ENABLE (n : Nat) : Fld := ⟨Reg.HIF_CH_CTRL n, 0, 1⟩
abbrev Fld.HIF_CH_CTRL_BUF_LOG2 (n : Nat) : Fld := ⟨Reg.HIF_CH_CTRL n, 4, 4⟩
abbrev Fld.HIF_CH_CTRL_SCMP_LOG2 (n : Nat) : Fld := ⟨Reg.HIF_CH_CTRL n, 8, 4⟩
abbrev Fld.HIF_CH_STATUS_ACTIVE (n : Nat) : Fld := ⟨Reg.HIF_CH_STATUS n, 0, 1⟩
abbrev Fld.HIF_CH_STATUS_HALTED (n : Nat) : Fld := ⟨Reg.HIF_CH_STATUS n, 1, 1⟩
abbrev Fld.HIF_CH_STATUS_BUF_ERR (n : Nat) : Fld := ⟨Reg.HIF_CH_STATUS n, 8, 1⟩
abbrev Fld.HIF_CH_STATUS_DMA_ERR (n : Nat) : Fld := ⟨Reg.HIF_CH_STATUS n, 9, 1⟩
abbrev Fld.HIF_CH_STATUS_DROP_SEEN (n : Nat) : Fld := ⟨Reg.HIF_CH_STATUS n, 10, 1⟩
abbrev Fld.HIF_CH_STATUS_RETRACT_LOST (n : Nat) : Fld := ⟨Reg.HIF_CH_STATUS n, 11, 1⟩
abbrev Fld.HIF_CH_STATUS_BUF_CONS (n : Nat) : Fld := ⟨Reg.HIF_CH_STATUS n, 16, 16⟩
abbrev Fld.HIF_CH_MOD_COUNT (n : Nat) : Fld := ⟨Reg.HIF_CH_MOD n, 0, 8⟩
abbrev Fld.HIF_CH_MOD_TIME (n : Nat) : Fld := ⟨Reg.HIF_CH_MOD n, 8, 16⟩
abbrev Fld.TMG_STATUS_SRC_ACTIVE : Fld := ⟨Reg.TMG_STATUS, 0, 2⟩
abbrev Fld.TMG_STATUS_REF_PRESENT : Fld := ⟨Reg.TMG_STATUS, 2, 1⟩
abbrev Fld.TMG_STATUS_LOCKED : Fld := ⟨Reg.TMG_STATUS, 3, 1⟩
abbrev Fld.TMG_STATUS_LTC_PRESENT : Fld := ⟨Reg.TMG_STATUS, 4, 1⟩
abbrev Fld.TMG_STATUS_LTC_FREEWHEEL : Fld := ⟨Reg.TMG_STATUS, 5, 1⟩
abbrev Fld.TMG_STATUS_REF_LOST : Fld := ⟨Reg.TMG_STATUS, 8, 1⟩
abbrev Fld.TMG_STATUS_LTC_LOST : Fld := ⟨Reg.TMG_STATUS, 9, 1⟩
abbrev Fld.TMG_STATUS_LTC_MISMATCH : Fld := ⟨Reg.TMG_STATUS, 10, 1⟩
abbrev Fld.TMG_STATUS_CFG_REJ : Fld := ⟨Reg.TMG_STATUS, 11, 1⟩
abbrev Fld.TMG_STATUS_TRIG_SEEN : Fld := ⟨Reg.TMG_STATUS, 12, 1⟩
abbrev Fld.TMG_STATUS_TIME_STEPPED : Fld := ⟨Reg.TMG_STATUS, 13, 1⟩
abbrev Fld.TMG_SYNC_CFG_SRC : Fld := ⟨Reg.TMG_SYNC_CFG, 0, 2⟩
abbrev Fld.TMG_SYNC_CFG_REF_EDGE : Fld := ⟨Reg.TMG_SYNC_CFG, 2, 1⟩
abbrev Fld.TMG_SYNC_CFG_REF_MULT : Fld := ⟨Reg.TMG_SYNC_CFG, 8, 5⟩
abbrev Fld.TMG_SYNC_CFG_LTC_EN : Fld := ⟨Reg.TMG_SYNC_CFG, 16, 1⟩
abbrev Fld.TMG_WIN_ORIGIN_X0_T : Fld := ⟨Reg.TMG_WIN_ORIGIN, 0, 6⟩
abbrev Fld.TMG_WIN_ORIGIN_Y0_T : Fld := ⟨Reg.TMG_WIN_ORIGIN, 16, 6⟩
abbrev Fld.TMG_WIN_SIZE_W_T : Fld := ⟨Reg.TMG_WIN_SIZE, 0, 7⟩
abbrev Fld.TMG_WIN_SIZE_H_T : Fld := ⟨Reg.TMG_WIN_SIZE, 16, 6⟩
abbrev Fld.TMG_REF_TOL_TOL_PPM : Fld := ⟨Reg.TMG_REF_TOL, 0, 14⟩
abbrev Fld.TMG_LTC_CFG_FREEWHEEL : Fld := ⟨Reg.TMG_LTC_CFG, 0, 8⟩
abbrev Fld.TMG_LTC_CODE_FRAMES : Fld := ⟨Reg.TMG_LTC_CODE, 0, 5⟩
abbrev Fld.TMG_LTC_CODE_SECONDS : Fld := ⟨Reg.TMG_LTC_CODE, 5, 6⟩
abbrev Fld.TMG_LTC_CODE_MINUTES : Fld := ⟨Reg.TMG_LTC_CODE, 11, 6⟩
abbrev Fld.TMG_LTC_CODE_HOURS : Fld := ⟨Reg.TMG_LTC_CODE, 17, 5⟩
abbrev Fld.TMG_LTC_CODE_DF : Fld := ⟨Reg.TMG_LTC_CODE, 22, 1⟩
abbrev Fld.TMG_LTC_CODE_RATE : Fld := ⟨Reg.TMG_LTC_CODE, 23, 2⟩
abbrev Fld.TMG_LTC_CODE_VALID : Fld := ⟨Reg.TMG_LTC_CODE, 25, 1⟩
abbrev Fld.TMG_LTC_CODE_PREDICTED : Fld := ⟨Reg.TMG_LTC_CODE, 26, 1⟩
abbrev Fld.TMG_TRIG_CFG_PIN_EN : Fld := ⟨Reg.TMG_TRIG_CFG, 0, 1⟩
abbrev Fld.TMG_TRIG_CFG_RING_EN : Fld := ⟨Reg.TMG_TRIG_CFG, 1, 1⟩
abbrev Fld.TMG_TRIG_CFG_TRIG_EDGE : Fld := ⟨Reg.TMG_TRIG_CFG, 2, 1⟩
abbrev Fld.TMG_TRIG_CFG_RING_FWD : Fld := ⟨Reg.TMG_TRIG_CFG, 3, 1⟩
abbrev Fld.TMG_TRIG_CFG_TRIG_MIN_WIDTH : Fld := ⟨Reg.TMG_TRIG_CFG, 16, 16⟩
abbrev Fld.SEN_STATUS_BIASED : Fld := ⟨Reg.SEN_STATUS, 0, 1⟩
abbrev Fld.SEN_STATUS_SETTLING : Fld := ⟨Reg.SEN_STATUS, 1, 1⟩
abbrev Fld.SEN_STATUS_CAL_STALE : Fld := ⟨Reg.SEN_STATUS, 2, 1⟩
abbrev Fld.SEN_STATUS_SET_REJ : Fld := ⟨Reg.SEN_STATUS, 3, 1⟩
abbrev Fld.SEN_STATUS_GRID_FAULT : Fld := ⟨Reg.SEN_STATUS, 4, 1⟩
abbrev Fld.SEN_STATUS_SAT_SEEN : Fld := ⟨Reg.SEN_STATUS, 5, 1⟩
abbrev Fld.SEN_STATUS_STARVE_SEEN : Fld := ⟨Reg.SEN_STATUS, 6, 1⟩
abbrev Fld.SEN_BIAS_BIAS_CODE : Fld := ⟨Reg.SEN_BIAS, 0, 8⟩
abbrev Fld.SEN_QREF_QREF_CODE : Fld := ⟨Reg.SEN_QREF, 0, 7⟩
abbrev Fld.SEN_VB_MEAS_VOLTS : Fld := ⟨Reg.SEN_VB_MEAS, 0, 16⟩
abbrev Fld.SEN_VREFQ_MEAS_VOLTS : Fld := ⟨Reg.SEN_VREFQ_MEAS, 0, 16⟩
abbrev Fld.SEN_SAT_COUNT_COUNT : Fld := ⟨Reg.SEN_SAT_COUNT, 0, 24⟩
abbrev Fld.SEN_STARVE_COUNT_COUNT : Fld := ⟨Reg.SEN_STARVE_COUNT, 0, 24⟩
abbrev Fld.SEN_ARRAY_LEVEL_LEVEL : Fld := ⟨Reg.SEN_ARRAY_LEVEL, 0, 16⟩
abbrev Fld.SEN_SUBSNAP_INTERVALS : Fld := ⟨Reg.SEN_SUBSNAP, 0, 6⟩
abbrev Fld.SEN_GRID_MEAN_TEMP : Fld := ⟨Reg.SEN_GRID_MEAN, 0, 20⟩
abbrev Fld.SEN_GRID_MEAN_VALID : Fld := ⟨Reg.SEN_GRID_MEAN, 31, 1⟩
abbrev Fld.SEN_GRID_TEMP (n : Nat) : Fld := ⟨Reg.SEN_GRID n, 0, 20⟩
abbrev Fld.SEN_GRID_VALID (n : Nat) : Fld := ⟨Reg.SEN_GRID n, 31, 1⟩
abbrev Fld.PPL_STATUS_CFG_REJ : Fld := ⟨Reg.PPL_STATUS, 0, 1⟩
abbrev Fld.PPL_STATUS_CLIP_SEEN : Fld := ⟨Reg.PPL_STATUS, 1, 1⟩
abbrev Fld.PPL_STATUS_MAPCLAMP_SEEN : Fld := ⟨Reg.PPL_STATUS, 2, 1⟩
abbrev Fld.PPL_STATUS_DRIFT_RANGE : Fld := ⟨Reg.PPL_STATUS, 3, 1⟩
abbrev Fld.PPL_STATUS_BLIND_SUB : Fld := ⟨Reg.PPL_STATUS, 4, 1⟩
abbrev Fld.PPL_STATUS_UNREPLACED_SEEN : Fld := ⟨Reg.PPL_STATUS, 5, 1⟩
abbrev Fld.PPL_STATUS_MON_VALID : Fld := ⟨Reg.PPL_STATUS, 6, 1⟩
abbrev Fld.PPL_STATUS_NO_CASK : Fld := ⟨Reg.PPL_STATUS, 7, 1⟩
abbrev Fld.PPL_FORMAT_FORMAT : Fld := ⟨Reg.PPL_FORMAT, 0, 3⟩
abbrev Fld.PPL_LIN_SCALE_VALUE : Fld := ⟨Reg.PPL_LIN_SCALE, 0, 20⟩
abbrev Fld.PPL_LIN_PEDESTAL_VALUE : Fld := ⟨Reg.PPL_LIN_PEDESTAL, 0, 16⟩
abbrev Fld.PPL_LIN20_PEDESTAL_VALUE : Fld := ⟨Reg.PPL_LIN20_PEDESTAL, 0, 20⟩
abbrev Fld.PPL_BLIND_CFG_ROW_EN : Fld := ⟨Reg.PPL_BLIND_CFG, 0, 1⟩
abbrev Fld.PPL_BLIND_CFG_ROW_MIN : Fld := ⟨Reg.PPL_BLIND_CFG, 8, 5⟩
abbrev Fld.PPL_DEFECT_CFG_DYN_EN : Fld := ⟨Reg.PPL_DEFECT_CFG, 0, 1⟩
abbrev Fld.PPL_DEFECT_CFG_CONV_REPLACE : Fld := ⟨Reg.PPL_DEFECT_CFG, 1, 1⟩
abbrev Fld.PPL_DEFECT_CFG_ISO_MAX : Fld := ⟨Reg.PPL_DEFECT_CFG, 4, 3⟩
abbrev Fld.PPL_DYN_LIMIT_LIMIT : Fld := ⟨Reg.PPL_DYN_LIMIT, 0, 20⟩
abbrev Fld.PPL_MON_CFG_LAG : Fld := ⟨Reg.PPL_MON_CFG, 0, 5⟩
abbrev Fld.PPL_MON_CFG_PUBLISH : Fld := ⟨Reg.PPL_MON_CFG, 16, 16⟩
abbrev Fld.PPL_MON_SCORE_SCORE : Fld := ⟨Reg.PPL_MON_SCORE, 0, 16⟩
abbrev Fld.PPL_RAD_CTRL_STEP_LOG2 : Fld := ⟨Reg.PPL_RAD_CTRL, 0, 4⟩
abbrev Fld.PPL_RAD_CTRL_SWAP : Fld := ⟨Reg.PPL_RAD_CTRL, 8, 1⟩
abbrev Fld.PPL_RAD_CTRL_BANK : Fld := ⟨Reg.PPL_RAD_CTRL, 9, 1⟩
abbrev Fld.PPL_RAD_ADDR_VALUE : Fld := ⟨Reg.PPL_RAD_ADDR, 0, 12⟩
abbrev Fld.PPL_RAD_DATA_VALUE : Fld := ⟨Reg.PPL_RAD_DATA, 0, 16⟩
abbrev Fld.PPL_P_STATUS_PREVIEW_ACT (n : Nat) : Fld := ⟨Reg.PPL_P_STATUS n, 0, 1⟩
abbrev Fld.PPL_P_STATUS_COMMIT_ACT (n : Nat) : Fld := ⟨Reg.PPL_P_STATUS n, 1, 1⟩
abbrev Fld.PPL_P_STATUS_BLIND_SEEDED (n : Nat) : Fld := ⟨Reg.PPL_P_STATUS n, 2, 1⟩
abbrev Fld.TRS_STATUS_MODE : Fld := ⟨Reg.TRS_STATUS, 0, 2⟩
abbrev Fld.TRS_STATUS_L : Fld := ⟨Reg.TRS_STATUS, 2, 3⟩
abbrev Fld.TRS_STATUS_COLD : Fld := ⟨Reg.TRS_STATUS, 5, 1⟩
abbrev Fld.TRS_STATUS_EPISODE : Fld := ⟨Reg.TRS_STATUS, 6, 1⟩
abbrev Fld.TRS_STATUS_TBL_VALID : Fld := ⟨Reg.TRS_STATUS, 7, 1⟩
abbrev Fld.TRS_STATUS_FLUSH_SEEN : Fld := ⟨Reg.TRS_STATUS, 8, 1⟩
abbrev Fld.TRS_STATUS_RETRACT_SEEN : Fld := ⟨Reg.TRS_STATUS, 9, 1⟩
abbrev Fld.TRS_STATUS_REVISE_SEEN : Fld := ⟨Reg.TRS_STATUS, 10, 1⟩
abbrev Fld.TRS_STATUS_CFG_REJ : Fld := ⟨Reg.TRS_STATUS, 11, 1⟩
abbrev Fld.TRS_STATUS_SAT_BURST : Fld := ⟨Reg.TRS_STATUS, 12, 1⟩
abbrev Fld.TRS_CTRL_FLUSH : Fld := ⟨Reg.TRS_CTRL, 0, 1⟩
abbrev Fld.TRS_TAU_EVEN_VALUE : Fld := ⟨Reg.TRS_TAU_EVEN, 0, 20⟩
abbrev Fld.TRS_TAU_FAST_VALUE : Fld := ⟨Reg.TRS_TAU_FAST, 0, 20⟩
abbrev Fld.TRS_DN_THETA_VALUE : Fld := ⟨Reg.TRS_DN_THETA, 0, 20⟩
abbrev Fld.TRS_REV_CFG_MEAN_LIMIT : Fld := ⟨Reg.TRS_REV_CFG, 0, 16⟩
abbrev Fld.TRS_REV_CFG_COUNT_LIMIT : Fld := ⟨Reg.TRS_REV_CFG, 16, 16⟩
abbrev Fld.TRS_REV_PIX_VALUE : Fld := ⟨Reg.TRS_REV_PIX, 0, 20⟩
abbrev Fld.TRS_SAT_CFG_SAT_FRAC : Fld := ⟨Reg.TRS_SAT_CFG, 0, 16⟩
abbrev Fld.TRS_SAT_CFG_RUN : Fld := ⟨Reg.TRS_SAT_CFG, 16, 4⟩
abbrev Fld.TRS_COIL_CFG_TRAVEL : Fld := ⟨Reg.TRS_COIL_CFG, 0, 8⟩
abbrev Fld.TRS_COIL_CFG_SETTLE : Fld := ⟨Reg.TRS_COIL_CFG, 8, 8⟩
abbrev Fld.TRS_COLD_K : Fld := ⟨Reg.TRS_COLD, 0, 7⟩
abbrev Fld.TRS_COLD_TAU_MAX_CODE : Fld := ⟨Reg.TRS_COLD, 8, 8⟩
abbrev Fld.TRS_COLD_LEFT : Fld := ⟨Reg.TRS_COLD, 16, 7⟩
abbrev Fld.TRS_NOISE_GAIN_VALUE : Fld := ⟨Reg.TRS_NOISE_GAIN, 0, 20⟩
abbrev Fld.TRS_TBL_IDX_VALUE : Fld := ⟨Reg.TRS_TBL_IDX, 0, 8⟩
abbrev Fld.TRS_TBL_B_VALUE : Fld := ⟨Reg.TRS_TBL_B, 0, 20⟩
abbrev Fld.TRS_TBL_C_VALUE : Fld := ⟨Reg.TRS_TBL_C, 0, 20⟩
abbrev Fld.TRS_TBL_AC_VALUE : Fld := ⟨Reg.TRS_TBL_AC, 0, 20⟩
abbrev Fld.TRS_TBL_G_VALUE : Fld := ⟨Reg.TRS_TBL_G, 0, 20⟩
abbrev Fld.CAL_STATUS_CAL_ACTIVE : Fld := ⟨Reg.CAL_STATUS, 0, 1⟩
abbrev Fld.CAL_STATUS_SHUT_STATE : Fld := ⟨Reg.CAL_STATUS, 1, 2⟩
abbrev Fld.CAL_STATUS_CAPTURE_HELD : Fld := ⟨Reg.CAL_STATUS, 3, 1⟩
abbrev Fld.CAL_STATUS_COND_MISMATCH : Fld := ⟨Reg.CAL_STATUS, 4, 1⟩
abbrev Fld.CAL_STATUS_SHUTTER_REQUEST : Fld := ⟨Reg.CAL_STATUS, 5, 1⟩
abbrev Fld.CAL_STATUS_AUTO_PENDING : Fld := ⟨Reg.CAL_STATUS, 6, 1⟩
abbrev Fld.CAL_STATUS_REPORT : Fld := ⟨Reg.CAL_STATUS, 8, 1⟩
abbrev Fld.CAL_STATUS_REJECTED : Fld := ⟨Reg.CAL_STATUS, 9, 1⟩
abbrev Fld.CAL_STATUS_TRIM_STALE : Fld := ⟨Reg.CAL_STATUS, 10, 1⟩
abbrev Fld.CAL_STATUS_CFG_REJ : Fld := ⟨Reg.CAL_STATUS, 11, 1⟩
abbrev Fld.CAL_STATUS_REQ_SEEN : Fld := ⟨Reg.CAL_STATUS, 12, 1⟩
abbrev Fld.CAL_STATUS_REPLICA_RESTORED : Fld := ⟨Reg.CAL_STATUS, 13, 1⟩
abbrev Fld.CAL_STATUS_CASK_LOST : Fld := ⟨Reg.CAL_STATUS, 14, 1⟩
abbrev Fld.CAL_STATUS_KINK_GAP : Fld := ⟨Reg.CAL_STATUS, 15, 1⟩
abbrev Fld.CAL_CTRL_CAL_AUTO : Fld := ⟨Reg.CAL_CTRL, 0, 1⟩
abbrev Fld.CAL_CASK_ACTIVE : Fld := ⟨Reg.CAL_CASK, 0, 8⟩
abbrev Fld.CAL_CASK_VALID_A : Fld := ⟨Reg.CAL_CASK, 8, 1⟩
abbrev Fld.CAL_CASK_VALID_B : Fld := ⟨Reg.CAL_CASK, 9, 1⟩
abbrev Fld.CAL_CASK_RACK_PEND : Fld := ⟨Reg.CAL_CASK, 10, 1⟩
abbrev Fld.CAL_CASK_LOADING : Fld := ⟨Reg.CAL_CASK, 11, 1⟩
abbrev Fld.CAL_N_VALUE : Fld := ⟨Reg.CAL_N, 0, 20⟩
abbrev Fld.CAL_AGREE_TOL_VALUE : Fld := ⟨Reg.CAL_AGREE_TOL, 0, 20⟩
abbrev Fld.CAL_AGREE_MAX_FRAC_VALUE : Fld := ⟨Reg.CAL_AGREE_MAX_FRAC, 0, 20⟩
abbrev Fld.CAL_FLAT_LIMIT_VALUE : Fld := ⟨Reg.CAL_FLAT_LIMIT, 0, 20⟩
abbrev Fld.CAL_RESP_VALUE : Fld := ⟨Reg.CAL_RESP, 0, 20⟩
abbrev Fld.CAL_REQ_LIMIT_VALUE : Fld := ⟨Reg.CAL_REQ_LIMIT, 0, 20⟩
abbrev Fld.CAL_REQ_FRAMES_VALUE : Fld := ⟨Reg.CAL_REQ_FRAMES, 0, 20⟩
abbrev Fld.CAL_AUTO_HOLDOFF_VALUE : Fld := ⟨Reg.CAL_AUTO_HOLDOFF, 0, 20⟩
abbrev Fld.CAL_SHUT_CFG_CLOSE_ENTRY : Fld := ⟨Reg.CAL_SHUT_CFG, 0, 7⟩
abbrev Fld.CAL_SHUT_CFG_OPEN_ENTRY : Fld := ⟨Reg.CAL_SHUT_CFG, 8, 7⟩
abbrev Fld.CAL_SHUT_CFG_SETTLE_MS : Fld := ⟨Reg.CAL_SHUT_CFG, 16, 8⟩
abbrev Fld.CAL_TAU_CFG_N : Fld := ⟨Reg.CAL_TAU_CFG, 0, 6⟩
abbrev Fld.CAL_TAU_CFG_LEAD : Fld := ⟨Reg.CAL_TAU_CFG, 8, 6⟩
abbrev Fld.CAL_TAU_CFG_AGREE_PM : Fld := ⟨Reg.CAL_TAU_CFG, 16, 8⟩
abbrev Fld.CAL_2P_MIN_DELTA_VALUE : Fld := ⟨Reg.CAL_2P_MIN_DELTA, 0, 20⟩
abbrev Fld.CAL_TRIM_CONV_CPKT : Fld := ⟨Reg.CAL_TRIM_CONV, 0, 10⟩
abbrev Fld.CAL_TRIM_SKIM_ACT : Fld := ⟨Reg.CAL_TRIM_SKIM, 0, 12⟩
abbrev Fld.CAL_TRIM_SKIM_SH : Fld := ⟨Reg.CAL_TRIM_SKIM, 16, 12⟩
abbrev Fld.CAL_TRIM_HKC_OFS : Fld := ⟨Reg.CAL_TRIM_HKC, 0, 12⟩
abbrev Fld.CAL_TRIM_HKC_GAIN : Fld := ⟨Reg.CAL_TRIM_HKC, 16, 12⟩
abbrev Fld.CAL_TRIM_LIM_CONV : Fld := ⟨Reg.CAL_TRIM_LIM, 0, 8⟩
abbrev Fld.CAL_TRIM_LIM_SKIM : Fld := ⟨Reg.CAL_TRIM_LIM, 8, 8⟩
abbrev Fld.CAL_TRIM_LIM_HKC_OFS : Fld := ⟨Reg.CAL_TRIM_LIM, 16, 8⟩
abbrev Fld.CAL_TRIM_LIM_HKC_GAIN : Fld := ⟨Reg.CAL_TRIM_LIM, 24, 8⟩
abbrev Fld.CAL_TRIM_LIM_GRID_VALUE : Fld := ⟨Reg.CAL_TRIM_LIM_GRID, 0, 16⟩
abbrev Fld.CEL_STATUS_TRAINED : Fld := ⟨Reg.CEL_STATUS, 0, 1⟩
abbrev Fld.CEL_STATUS_TAKE_ACT : Fld := ⟨Reg.CEL_STATUS, 1, 1⟩
abbrev Fld.CEL_STATUS_REPLAY_ACT : Fld := ⟨Reg.CEL_STATUS, 2, 1⟩
abbrev Fld.CEL_STATUS_TAKE_END : Fld := ⟨Reg.CEL_STATUS, 8, 1⟩
abbrev Fld.CEL_STATUS_TRUNCATED : Fld := ⟨Reg.CEL_STATUS, 9, 1⟩
abbrev Fld.CEL_STATUS_ECC_CORR_SEEN : Fld := ⟨Reg.CEL_STATUS, 10, 1⟩
abbrev Fld.CEL_STATUS_ECC_UNCORR_SEEN : Fld := ⟨Reg.CEL_STATUS, 11, 1⟩
abbrev Fld.CEL_STATUS_TAKE_INTERRUPTED : Fld := ⟨Reg.CEL_STATUS, 12, 1⟩
abbrev Fld.CEL_STATUS_CFG_REJ : Fld := ⟨Reg.CEL_STATUS, 13, 1⟩
abbrev Fld.CEL_CFG_SCRUB_EN : Fld := ⟨Reg.CEL_CFG, 0, 1⟩
abbrev Fld.CEL_SIZE_SIZE_GB : Fld := ⟨Reg.CEL_SIZE, 0, 8⟩
abbrev Fld.CEL_SIZE_TAKE_DATA_MIB : Fld := ⟨Reg.CEL_SIZE, 16, 16⟩
abbrev Fld.CEL_TAKE_STATE_STATE : Fld := ⟨Reg.CEL_TAKE_STATE, 0, 2⟩
abbrev Fld.CEL_TAKE_STATE_TAKE_ID : Fld := ⟨Reg.CEL_TAKE_STATE, 4, 4⟩
abbrev Fld.CEL_TAKE_STATE_SHORT : Fld := ⟨Reg.CEL_TAKE_STATE, 8, 1⟩
abbrev Fld.CEL_TAKE_STATE_TRUNC : Fld := ⟨Reg.CEL_TAKE_STATE, 9, 1⟩
abbrev Fld.CEL_TAKE_STATE_EXTENDED : Fld := ⟨Reg.CEL_TAKE_STATE, 10, 1⟩
abbrev Fld.CEL_TAKE_STATE_RETRIG : Fld := ⟨Reg.CEL_TAKE_STATE, 16, 16⟩
abbrev Fld.CEL_DIR_TAKES : Fld := ⟨Reg.CEL_DIR, 0, 16⟩
abbrev Fld.CEL_REPLAY_STATUS_ACTIVE : Fld := ⟨Reg.CEL_REPLAY_STATUS, 0, 1⟩
abbrev Fld.CEL_REPLAY_STATUS_DIE : Fld := ⟨Reg.CEL_REPLAY_STATUS, 1, 3⟩
abbrev Fld.CEL_REPLAY_STATUS_TAKE_ID : Fld := ⟨Reg.CEL_REPLAY_STATUS, 4, 4⟩
abbrev Fld.CEL_REPLAY_STATUS_MISSING : Fld := ⟨Reg.CEL_REPLAY_STATUS, 8, 1⟩
abbrev Fld.CEL_LOAD_LOAD (n : Nat) : Fld := ⟨Reg.CEL_LOAD n, 0, 16⟩
abbrev Fld.ROL_STATUS_PENDING : Fld := ⟨Reg.ROL_STATUS, 0, 1⟩
abbrev Fld.ROL_STATUS_DRAIN : Fld := ⟨Reg.ROL_STATUS, 1, 1⟩
abbrev Fld.ROL_STATUS_ROT_WAIT : Fld := ⟨Reg.ROL_STATUS, 2, 1⟩
abbrev Fld.ROL_STATUS_MISDELIVER_SEEN : Fld := ⟨Reg.ROL_STATUS, 8, 1⟩
abbrev Fld.ROL_STATUS_MISSING_SEEN : Fld := ⟨Reg.ROL_STATUS, 9, 1⟩
abbrev Fld.ROL_STATUS_FAULT_SEEN : Fld := ⟨Reg.ROL_STATUS, 10, 1⟩
abbrev Fld.ROL_STATUS_FAILOVER : Fld := ⟨Reg.ROL_STATUS, 11, 1⟩
abbrev Fld.ROL_STATUS_RATE_FORCED : Fld := ⟨Reg.ROL_STATUS, 12, 1⟩
abbrev Fld.ROL_STATUS_CFG_REJ : Fld := ⟨Reg.ROL_STATUS, 13, 1⟩
abbrev Fld.ROL_CFG_HANDOVER : Fld := ⟨Reg.ROL_CFG, 0, 2⟩
abbrev Fld.ROL_CFG_AUTO_BALANCE : Fld := ⟨Reg.ROL_CFG, 2, 1⟩
abbrev Fld.ROL_CFG_FAILOVER_EN : Fld := ⟨Reg.ROL_CFG, 3, 1⟩
abbrev Fld.ROL_CFG_ROTATE_EN : Fld := ⟨Reg.ROL_CFG, 4, 1⟩
abbrev Fld.ROL_VERSION_CURRENT : Fld := ⟨Reg.ROL_VERSION, 0, 16⟩
abbrev Fld.ROL_VERSION_PENDING : Fld := ⟨Reg.ROL_VERSION, 16, 16⟩
abbrev Fld.ROL_HANDOVER_STAT_SIZE : Fld := ⟨Reg.ROL_HANDOVER_STAT, 0, 16⟩
abbrev Fld.ROL_HANDOVER_STAT_BUSY_US : Fld := ⟨Reg.ROL_HANDOVER_STAT, 16, 16⟩
abbrev Fld.ROL_FAULT_DIE : Fld := ⟨Reg.ROL_FAULT, 0, 5⟩
abbrev Fld.ROL_FAULT_CAUSE_CAUSE : Fld := ⟨Reg.ROL_FAULT_CAUSE, 0, 3⟩
abbrev Fld.ROL_FAULT_CAUSE_DIE : Fld := ⟨Reg.ROL_FAULT_CAUSE, 4, 3⟩
abbrev Fld.ROL_MAP_FIRST (n : Nat) : Fld := ⟨Reg.ROL_MAP n, 0, 6⟩
abbrev Fld.ROL_MAP_COUNT (n : Nat) : Fld := ⟨Reg.ROL_MAP n, 8, 6⟩
abbrev Fld.ROL_MAP_ROLE (n : Nat) : Fld := ⟨Reg.ROL_MAP n, 16, 3⟩
abbrev Fld.ROL_MAP_READY (n : Nat) : Fld := ⟨Reg.ROL_MAP n, 19, 1⟩
abbrev Fld.ROL_MAP_DRAINING (n : Nat) : Fld := ⟨Reg.ROL_MAP n, 20, 1⟩
abbrev Fld.ROL_MAP_WITHDRAWN (n : Nat) : Fld := ⟨Reg.ROL_MAP n, 21, 1⟩
abbrev Fld.TOL_STATUS_FLAT_ACTIVE : Fld := ⟨Reg.TOL_STATUS, 0, 1⟩
abbrev Fld.TOL_STATUS_FLAT_UNMET : Fld := ⟨Reg.TOL_STATUS, 1, 1⟩
abbrev Fld.TOL_STATUS_ALLOW_OUT : Fld := ⟨Reg.TOL_STATUS, 2, 1⟩
abbrev Fld.TOL_STATUS_CAP_LIMIT : Fld := ⟨Reg.TOL_STATUS, 3, 1⟩
abbrev Fld.TOL_STATUS_CAP_OVER : Fld := ⟨Reg.TOL_STATUS, 4, 1⟩
abbrev Fld.TOL_STATUS_STEP_SEEN : Fld := ⟨Reg.TOL_STATUS, 8, 1⟩
abbrev Fld.TOL_STATUS_FLAT_UNMET_SEEN : Fld := ⟨Reg.TOL_STATUS, 9, 1⟩
abbrev Fld.TOL_STATUS_ALLOW_LOW : Fld := ⟨Reg.TOL_STATUS, 10, 1⟩
abbrev Fld.TOL_STATUS_XCHK_DEV : Fld := ⟨Reg.TOL_STATUS, 11, 1⟩
abbrev Fld.TOL_STATUS_CFG_REJ : Fld := ⟨Reg.TOL_STATUS, 12, 1⟩
abbrev Fld.TOL_CFG_REDUCE_EN : Fld := ⟨Reg.TOL_CFG, 0, 1⟩
abbrev Fld.TOL_PSTATE_REQ : Fld := ⟨Reg.TOL_PSTATE, 0, 3⟩
abbrev Fld.TOL_PSTATE_CUR : Fld := ⟨Reg.TOL_PSTATE, 8, 3⟩
abbrev Fld.TOL_PSTATE_MOVING : Fld := ⟨Reg.TOL_PSTATE, 11, 1⟩
abbrev Fld.TOL_PSTATE_CRIT_HOLD : Fld := ⟨Reg.TOL_PSTATE, 12, 1⟩
abbrev Fld.TOL_STEPS_STEPS : Fld := ⟨Reg.TOL_STEPS, 0, 4⟩
abbrev Fld.TOL_STEPS_RUNTIME : Fld := ⟨Reg.TOL_STEPS, 4, 4⟩
abbrev Fld.TOL_XCHK_CFG_CH : Fld := ⟨Reg.TOL_XCHK_CFG, 0, 2⟩
abbrev Fld.TOL_XCHK_CFG_EN : Fld := ⟨Reg.TOL_XCHK_CFG, 2, 1⟩
abbrev Fld.TOL_XCHK_CFG_APPLY : Fld := ⟨Reg.TOL_XCHK_CFG, 3, 1⟩
abbrev Fld.TOL_XCHK_CFG_TOL_PM : Fld := ⟨Reg.TOL_XCHK_CFG, 8, 8⟩
abbrev Fld.TOL_XCHK_CFG_SCALE : Fld := ⟨Reg.TOL_XCHK_CFG, 16, 16⟩
abbrev Fld.TOL_XCHK_RATIO_VALUE : Fld := ⟨Reg.TOL_XCHK_RATIO, 0, 16⟩
abbrev Fld.TOL_DRAM_PJB_VALUE : Fld := ⟨Reg.TOL_DRAM_PJB, 0, 16⟩
abbrev Fld.THM_STATUS_LEVEL : Fld := ⟨Reg.THM_STATUS, 0, 3⟩
abbrev Fld.THM_STATUS_ALERT : Fld := ⟨Reg.THM_STATUS, 3, 1⟩
abbrev Fld.THM_STATUS_WARN_SEEN : Fld := ⟨Reg.THM_STATUS, 8, 1⟩
abbrev Fld.THM_STATUS_THROTTLE_SEEN : Fld := ⟨Reg.THM_STATUS, 9, 1⟩
abbrev Fld.THM_STATUS_CRIT_SEEN : Fld := ⟨Reg.THM_STATUS, 10, 1⟩
abbrev Fld.THM_STATUS_STALE_SEEN : Fld := ⟨Reg.THM_STATUS, 11, 1⟩
abbrev Fld.THM_STATUS_CFG_REJ : Fld := ⟨Reg.THM_STATUS, 12, 1⟩
abbrev Fld.THM_CFG_HYST : Fld := ⟨Reg.THM_CFG, 0, 4⟩
abbrev Fld.THM_CFG_DWELL : Fld := ⟨Reg.THM_CFG, 4, 4⟩
abbrev Fld.THM_CFG_STEP_MS : Fld := ⟨Reg.THM_CFG, 8, 16⟩
abbrev Fld.THM_STATE_STATES : Fld := ⟨Reg.THM_STATE, 0, 14⟩
abbrev Fld.THM_THR_P_WARN : Fld := ⟨Reg.THM_THR_P, 0, 8⟩
abbrev Fld.THM_THR_P_THROTTLE : Fld := ⟨Reg.THM_THR_P, 8, 8⟩
abbrev Fld.THM_THR_P_CRIT : Fld := ⟨Reg.THM_THR_P, 16, 8⟩
abbrev Fld.THM_THR_H_WARN : Fld := ⟨Reg.THM_THR_H, 0, 8⟩
abbrev Fld.THM_THR_H_THROTTLE : Fld := ⟨Reg.THM_THR_H, 8, 8⟩
abbrev Fld.THM_THR_H_CRIT : Fld := ⟨Reg.THM_THR_H, 16, 8⟩
abbrev Fld.THM_THR_S2_WARN : Fld := ⟨Reg.THM_THR_S2, 0, 8⟩
abbrev Fld.THM_THR_S2_THROTTLE : Fld := ⟨Reg.THM_THR_S2, 8, 8⟩
abbrev Fld.THM_THR_S2_CRIT : Fld := ⟨Reg.THM_THR_S2, 16, 8⟩
abbrev Fld.THM_TEMP_H_TEMP : Fld := ⟨Reg.THM_TEMP_H, 0, 16⟩
abbrev Fld.THM_TEMP_H_VALID : Fld := ⟨Reg.THM_TEMP_H, 31, 1⟩
abbrev Fld.THM_TEMP_S2_TEMP : Fld := ⟨Reg.THM_TEMP_S2, 0, 16⟩
abbrev Fld.THM_TEMP_S2_VALID : Fld := ⟨Reg.THM_TEMP_S2, 31, 1⟩
abbrev Fld.THM_TEMP_P_TEMP (n : Nat) : Fld := ⟨Reg.THM_TEMP_P n, 0, 16⟩
abbrev Fld.THM_TEMP_P_VALID (n : Nat) : Fld := ⟨Reg.THM_TEMP_P n, 31, 1⟩
abbrev Fld.THM_CRIT_DIE_DIE : Fld := ⟨Reg.THM_CRIT_DIE, 0, 3⟩
abbrev Fld.THM_TRIP_COUNT_THROTTLE : Fld := ⟨Reg.THM_TRIP_COUNT, 0, 16⟩
abbrev Fld.THM_TRIP_COUNT_CRIT : Fld := ⟨Reg.THM_TRIP_COUNT, 16, 16⟩
abbrev Fld.HKC_STATUS_REG_BUSY : Fld := ⟨Reg.HKC_STATUS, 0, 1⟩
abbrev Fld.HKC_STATUS_INJ_BUSY : Fld := ⟨Reg.HKC_STATUS, 1, 1⟩
abbrev Fld.HKC_STATUS_CAL_BUSY : Fld := ⟨Reg.HKC_STATUS, 2, 1⟩
abbrev Fld.HKC_STATUS_SLICE_BUSY : Fld := ⟨Reg.HKC_STATUS, 3, 1⟩
abbrev Fld.HKC_STATUS_INJ_HELD : Fld := ⟨Reg.HKC_STATUS, 4, 1⟩
abbrev Fld.HKC_STATUS_REG_PEND : Fld := ⟨Reg.HKC_STATUS, 5, 1⟩
abbrev Fld.HKC_STATUS_OVERRUN : Fld := ⟨Reg.HKC_STATUS, 8, 1⟩
abbrev Fld.HKC_STATUS_INJ_LOST : Fld := ⟨Reg.HKC_STATUS, 9, 1⟩
abbrev Fld.HKC_STATUS_Q_OVF : Fld := ⟨Reg.HKC_STATUS, 10, 1⟩
abbrev Fld.HKC_STATUS_CAL_DONE : Fld := ⟨Reg.HKC_STATUS, 11, 1⟩
abbrev Fld.HKC_STATUS_CAL_ABORTED : Fld := ⟨Reg.HKC_STATUS, 12, 1⟩
abbrev Fld.HKC_STATUS_CFG_REJ : Fld := ⟨Reg.HKC_STATUS, 13, 1⟩
abbrev Fld.HKC_CTRL_REG_GO : Fld := ⟨Reg.HKC_CTRL, 0, 1⟩
abbrev Fld.HKC_CTRL_INJ_GO : Fld := ⟨Reg.HKC_CTRL, 1, 1⟩
abbrev Fld.HKC_CTRL_SELFCAL : Fld := ⟨Reg.HKC_CTRL, 2, 1⟩
abbrev Fld.HKC_CTRL_Q_FLUSH : Fld := ⟨Reg.HKC_CTRL, 3, 1⟩
abbrev Fld.HKC_REG_CFG_EN : Fld := ⟨Reg.HKC_REG_CFG, 0, 1⟩
abbrev Fld.HKC_REG_CFG_TIMER_EN : Fld := ⟨Reg.HKC_REG_CFG, 1, 1⟩
abbrev Fld.HKC_REG_CFG_RETRIG : Fld := ⟨Reg.HKC_REG_CFG, 2, 1⟩
abbrev Fld.HKC_REG_CFG_LEN : Fld := ⟨Reg.HKC_REG_CFG, 4, 5⟩
abbrev Fld.HKC_REG_CFG_DIV : Fld := ⟨Reg.HKC_REG_CFG, 12, 4⟩
abbrev Fld.HKC_INJ_CFG_LEN : Fld := ⟨Reg.HKC_INJ_CFG, 0, 3⟩
abbrev Fld.HKC_INJ_CFG_SNAP_EN : Fld := ⟨Reg.HKC_INJ_CFG, 4, 1⟩
abbrev Fld.HKC_INJ_CFG_GUARD : Fld := ⟨Reg.HKC_INJ_CFG, 5, 1⟩
abbrev Fld.HKC_SEQ_0_CH_0 : Fld := ⟨Reg.HKC_SEQ_0, 0, 5⟩
abbrev Fld.HKC_SEQ_0_CH_1 : Fld := ⟨Reg.HKC_SEQ_0, 8, 5⟩
abbrev Fld.HKC_SEQ_0_CH_2 : Fld := ⟨Reg.HKC_SEQ_0, 16, 5⟩
abbrev Fld.HKC_SEQ_0_CH_3 : Fld := ⟨Reg.HKC_SEQ_0, 24, 5⟩
abbrev Fld.HKC_SEQ_1_CH_0 : Fld := ⟨Reg.HKC_SEQ_1, 0, 5⟩
abbrev Fld.HKC_SEQ_1_CH_1 : Fld := ⟨Reg.HKC_SEQ_1, 8, 5⟩
abbrev Fld.HKC_SEQ_1_CH_2 : Fld := ⟨Reg.HKC_SEQ_1, 16, 5⟩
abbrev Fld.HKC_SEQ_1_CH_3 : Fld := ⟨Reg.HKC_SEQ_1, 24, 5⟩
abbrev Fld.HKC_SEQ_2_CH_0 : Fld := ⟨Reg.HKC_SEQ_2, 0, 5⟩
abbrev Fld.HKC_SEQ_2_CH_1 : Fld := ⟨Reg.HKC_SEQ_2, 8, 5⟩
abbrev Fld.HKC_SEQ_2_CH_2 : Fld := ⟨Reg.HKC_SEQ_2, 16, 5⟩
abbrev Fld.HKC_SEQ_2_CH_3 : Fld := ⟨Reg.HKC_SEQ_2, 24, 5⟩
abbrev Fld.HKC_SEQ_3_CH_0 : Fld := ⟨Reg.HKC_SEQ_3, 0, 5⟩
abbrev Fld.HKC_SEQ_3_CH_1 : Fld := ⟨Reg.HKC_SEQ_3, 8, 5⟩
abbrev Fld.HKC_SEQ_3_CH_2 : Fld := ⟨Reg.HKC_SEQ_3, 16, 5⟩
abbrev Fld.HKC_SEQ_3_CH_3 : Fld := ⟨Reg.HKC_SEQ_3, 24, 5⟩
abbrev Fld.HKC_INJ_SEQ_CH_0 : Fld := ⟨Reg.HKC_INJ_SEQ, 0, 5⟩
abbrev Fld.HKC_INJ_SEQ_CH_1 : Fld := ⟨Reg.HKC_INJ_SEQ, 8, 5⟩
abbrev Fld.HKC_INJ_SEQ_CH_2 : Fld := ⟨Reg.HKC_INJ_SEQ, 16, 5⟩
abbrev Fld.HKC_INJ_SEQ_CH_3 : Fld := ⟨Reg.HKC_INJ_SEQ, 24, 5⟩
abbrev Fld.HKC_Q_CFG_SRC_MASK : Fld := ⟨Reg.HKC_Q_CFG, 0, 4⟩
abbrev Fld.HKC_Q_LEVEL_LEVEL : Fld := ⟨Reg.HKC_Q_LEVEL, 0, 7⟩
abbrev Fld.HKC_Q_LEVEL_HIGH : Fld := ⟨Reg.HKC_Q_LEVEL, 8, 7⟩
abbrev Fld.HKC_Q_LO_VALUE : Fld := ⟨Reg.HKC_Q_LO, 0, 12⟩
abbrev Fld.HKC_Q_LO_CHANNEL : Fld := ⟨Reg.HKC_Q_LO, 12, 5⟩
abbrev Fld.HKC_Q_LO_SOURCE : Fld := ⟨Reg.HKC_Q_LO, 17, 2⟩
abbrev Fld.HKC_Q_LO_GATED : Fld := ⟨Reg.HKC_Q_LO, 19, 1⟩
abbrev Fld.HKC_Q_LO_SEQ : Fld := ⟨Reg.HKC_Q_LO, 20, 8⟩
abbrev Fld.HKC_Q_LO_VALID : Fld := ⟨Reg.HKC_Q_LO, 31, 1⟩
abbrev Fld.HKC_Q_HI_TIME : Fld := ⟨Reg.HKC_Q_HI, 0, 16⟩
abbrev Fld.HKC_REG_DUR_LAST : Fld := ⟨Reg.HKC_REG_DUR, 0, 16⟩
abbrev Fld.HKC_REG_DUR_MAX : Fld := ⟨Reg.HKC_REG_DUR, 16, 16⟩
abbrev Fld.HKC_CAL_CFG_PERIOD_S : Fld := ⟨Reg.HKC_CAL_CFG, 0, 8⟩
abbrev Fld.HKC_CAL_CFG_DT_K : Fld := ⟨Reg.HKC_CAL_CFG, 8, 8⟩
abbrev Fld.HKC_RES_VALUE (n : Nat) : Fld := ⟨Reg.HKC_RES n, 0, 12⟩
abbrev Fld.HKC_RES_GATED (n : Nat) : Fld := ⟨Reg.HKC_RES n, 12, 1⟩
abbrev Fld.HKC_RES_SOURCE (n : Nat) : Fld := ⟨Reg.HKC_RES n, 13, 2⟩
abbrev Fld.HKC_RES_SEQ (n : Nat) : Fld := ⟨Reg.HKC_RES n, 16, 8⟩
abbrev Fld.HKC_RES_VALID (n : Nat) : Fld := ⟨Reg.HKC_RES n, 31, 1⟩
abbrev Fld.HKC_INJ_RES_VALUE (n : Nat) : Fld := ⟨Reg.HKC_INJ_RES n, 0, 12⟩
abbrev Fld.HKC_INJ_RES_GATED (n : Nat) : Fld := ⟨Reg.HKC_INJ_RES n, 12, 1⟩
abbrev Fld.HKC_INJ_RES_SOURCE (n : Nat) : Fld := ⟨Reg.HKC_INJ_RES n, 13, 2⟩
abbrev Fld.HKC_INJ_RES_SEQ (n : Nat) : Fld := ⟨Reg.HKC_INJ_RES n, 16, 8⟩
abbrev Fld.HKC_INJ_RES_VALID (n : Nat) : Fld := ⟨Reg.HKC_INJ_RES n, 31, 1⟩
abbrev Fld.HKC_CH_VALUE (n : Nat) : Fld := ⟨Reg.HKC_CH n, 0, 12⟩
abbrev Fld.HKC_CH_GATED (n : Nat) : Fld := ⟨Reg.HKC_CH n, 12, 1⟩
abbrev Fld.HKC_CH_SOURCE (n : Nat) : Fld := ⟨Reg.HKC_CH n, 13, 2⟩
abbrev Fld.HKC_CH_SEQ (n : Nat) : Fld := ⟨Reg.HKC_CH n, 16, 8⟩
abbrev Fld.HKC_CH_VALID (n : Nat) : Fld := ⟨Reg.HKC_CH n, 31, 1⟩
abbrev Fld.COIL_STATUS_ENG_A : Fld := ⟨Reg.COIL_STATUS, 0, 2⟩
abbrev Fld.COIL_STATUS_ENG_B : Fld := ⟨Reg.COIL_STATUS, 2, 2⟩
abbrev Fld.COIL_STATUS_HOLD_A : Fld := ⟨Reg.COIL_STATUS, 4, 1⟩
abbrev Fld.COIL_STATUS_HOLD_B : Fld := ⟨Reg.COIL_STATUS, 5, 1⟩
abbrev Fld.COIL_STATUS_FILT_STATE : Fld := ⟨Reg.COIL_STATUS, 6, 2⟩
abbrev Fld.COIL_STATUS_ENABLED : Fld := ⟨Reg.COIL_STATUS, 8, 1⟩
abbrev Fld.COIL_STATUS_GAP_STUCK : Fld := ⟨Reg.COIL_STATUS, 9, 1⟩
abbrev Fld.COIL_STATUS_KINK_A : Fld := ⟨Reg.COIL_STATUS, 10, 1⟩
abbrev Fld.COIL_STATUS_KINK_B : Fld := ⟨Reg.COIL_STATUS, 11, 1⟩
abbrev Fld.COIL_STATUS_GAP_SEEN : Fld := ⟨Reg.COIL_STATUS, 12, 1⟩
abbrev Fld.COIL_STATUS_ILLEGAL : Fld := ⟨Reg.COIL_STATUS, 13, 1⟩
abbrev Fld.COIL_STATUS_FLAG_EVT : Fld := ⟨Reg.COIL_STATUS, 14, 1⟩
abbrev Fld.COIL_STATUS_CFG_REJ : Fld := ⟨Reg.COIL_STATUS, 15, 1⟩
abbrev Fld.COIL_OC_GRP_A : Fld := ⟨Reg.COIL_OC, 0, 1⟩
abbrev Fld.COIL_OC_GRP_B : Fld := ⟨Reg.COIL_OC, 1, 1⟩
abbrev Fld.COIL_CFG_GAP_US : Fld := ⟨Reg.COIL_CFG, 0, 16⟩
abbrev Fld.COIL_CFG_MIX_US : Fld := ⟨Reg.COIL_CFG, 16, 5⟩
abbrev Fld.COIL_OC_LIMIT_VALUE : Fld := ⟨Reg.COIL_OC_LIMIT, 0, 9⟩
abbrev Fld.COIL_VPP_MIN_VALUE : Fld := ⟨Reg.COIL_VPP_MIN, 0, 12⟩
abbrev Fld.COIL_KINK_CFG_A_THR : Fld := ⟨Reg.COIL_KINK_CFG_A, 0, 12⟩
abbrev Fld.COIL_KINK_CFG_A_AVG : Fld := ⟨Reg.COIL_KINK_CFG_A, 12, 5⟩
abbrev Fld.COIL_KINK_CFG_A_SAMP : Fld := ⟨Reg.COIL_KINK_CFG_A, 17, 2⟩
abbrev Fld.COIL_KINK_CFG_A_BLANK : Fld := ⟨Reg.COIL_KINK_CFG_A, 20, 4⟩
abbrev Fld.COIL_KINK_CFG_B_THR : Fld := ⟨Reg.COIL_KINK_CFG_B, 0, 12⟩
abbrev Fld.COIL_KINK_CFG_B_AVG : Fld := ⟨Reg.COIL_KINK_CFG_B, 12, 5⟩
abbrev Fld.COIL_KINK_CFG_B_SAMP : Fld := ⟨Reg.COIL_KINK_CFG_B, 17, 2⟩
abbrev Fld.COIL_KINK_CFG_B_BLANK : Fld := ⟨Reg.COIL_KINK_CFG_B, 20, 4⟩
abbrev Fld.COIL_ENTRY_ENTRY_A0 : Fld := ⟨Reg.COIL_ENTRY, 0, 7⟩
abbrev Fld.COIL_ENTRY_ENTRY_A1 : Fld := ⟨Reg.COIL_ENTRY, 8, 7⟩
abbrev Fld.COIL_ENTRY_ENTRY_B0 : Fld := ⟨Reg.COIL_ENTRY, 16, 7⟩
abbrev Fld.COIL_ENTRY_ENTRY_B1 : Fld := ⟨Reg.COIL_ENTRY, 24, 7⟩
abbrev Fld.COIL_ENG_A_STATUS_PC : Fld := ⟨Reg.COIL_ENG_A_STATUS, 0, 7⟩
abbrev Fld.COIL_ENG_A_STATUS_COIL : Fld := ⟨Reg.COIL_ENG_A_STATUS, 8, 2⟩
abbrev Fld.COIL_ENG_A_STATUS_FLAGS : Fld := ⟨Reg.COIL_ENG_A_STATUS, 10, 4⟩
abbrev Fld.COIL_ENG_A_STATUS_RESULT : Fld := ⟨Reg.COIL_ENG_A_STATUS, 16, 2⟩
abbrev Fld.COIL_ENG_A_STATUS_KINKED : Fld := ⟨Reg.COIL_ENG_A_STATUS, 18, 1⟩
abbrev Fld.COIL_ENG_A_STATUS_GAP : Fld := ⟨Reg.COIL_ENG_A_STATUS, 19, 1⟩
abbrev Fld.COIL_ENG_A_STATUS_REASON : Fld := ⟨Reg.COIL_ENG_A_STATUS, 20, 3⟩
abbrev Fld.COIL_ENG_B_STATUS_PC : Fld := ⟨Reg.COIL_ENG_B_STATUS, 0, 7⟩
abbrev Fld.COIL_ENG_B_STATUS_COIL : Fld := ⟨Reg.COIL_ENG_B_STATUS, 8, 2⟩
abbrev Fld.COIL_ENG_B_STATUS_FLAGS : Fld := ⟨Reg.COIL_ENG_B_STATUS, 10, 4⟩
abbrev Fld.COIL_ENG_B_STATUS_RESULT : Fld := ⟨Reg.COIL_ENG_B_STATUS, 16, 2⟩
abbrev Fld.COIL_ENG_B_STATUS_KINKED : Fld := ⟨Reg.COIL_ENG_B_STATUS, 18, 1⟩
abbrev Fld.COIL_ENG_B_STATUS_GAP : Fld := ⟨Reg.COIL_ENG_B_STATUS, 19, 1⟩
abbrev Fld.COIL_ENG_B_STATUS_REASON : Fld := ⟨Reg.COIL_ENG_B_STATUS, 20, 3⟩
abbrev Fld.COIL_ENG_A_DMAX_DMAX : Fld := ⟨Reg.COIL_ENG_A_DMAX, 0, 16⟩
abbrev Fld.COIL_ENG_B_DMAX_DMAX : Fld := ⟨Reg.COIL_ENG_B_DMAX, 0, 16⟩
abbrev Fld.NVS_STATUS_RECALL_BUSY : Fld := ⟨Reg.NVS_STATUS, 0, 1⟩
abbrev Fld.NVS_STATUS_WRITE_BAR : Fld := ⟨Reg.NVS_STATUS, 1, 1⟩
abbrev Fld.NVS_STATUS_USER_LOCKED : Fld := ⟨Reg.NVS_STATUS, 2, 1⟩
abbrev Fld.NVS_STATUS_TRIMS_VALID : Fld := ⟨Reg.NVS_STATUS, 3, 1⟩
abbrev Fld.NVS_STATUS_FACTORY_OK : Fld := ⟨Reg.NVS_STATUS, 4, 1⟩
abbrev Fld.NVS_STATUS_NV_TIE : Fld := ⟨Reg.NVS_STATUS, 8, 1⟩
abbrev Fld.NVS_STATUS_AUTH_SEEN : Fld := ⟨Reg.NVS_STATUS, 9, 1⟩
abbrev Fld.NVS_STATUS_REPAIRED : Fld := ⟨Reg.NVS_STATUS, 10, 1⟩
abbrev Fld.NVS_STATUS_DEFER_LOST : Fld := ⟨Reg.NVS_STATUS, 11, 1⟩
abbrev Fld.NVS_USER_FAIL_COUNT : Fld := ⟨Reg.NVS_USER_FAIL, 0, 5⟩
abbrev Fld.NVS_DEFER_COUNT : Fld := ⟨Reg.NVS_DEFER, 0, 5⟩
abbrev Fld.BST_STATUS_RUN_ACT : Fld := ⟨Reg.BST_STATUS, 0, 1⟩
abbrev Fld.BST_STATUS_BG_ACT : Fld := ⟨Reg.BST_STATUS, 1, 1⟩
abbrev Fld.BST_STATUS_FULL_ACT : Fld := ⟨Reg.BST_STATUS, 2, 1⟩
abbrev Fld.BST_STATUS_REF_MISSING : Fld := ⟨Reg.BST_STATUS, 3, 1⟩
abbrev Fld.BST_STATUS_FAIL_SEEN : Fld := ⟨Reg.BST_STATUS, 8, 1⟩
abbrev Fld.BST_STATUS_INCOMPLETE_SEEN : Fld := ⟨Reg.BST_STATUS, 9, 1⟩
abbrev Fld.BST_STATUS_ABORT_SEEN : Fld := ⟨Reg.BST_STATUS, 10, 1⟩
abbrev Fld.BST_STATUS_RETIRED_SEEN : Fld := ⟨Reg.BST_STATUS, 11, 1⟩
abbrev Fld.BST_STATUS_CFG_REJ : Fld := ⟨Reg.BST_STATUS, 12, 1⟩
abbrev Fld.BST_CFG_BG_EN : Fld := ⟨Reg.BST_CFG, 0, 1⟩
abbrev Fld.BST_CFG_SPARE_EN : Fld := ⟨Reg.BST_CFG, 1, 1⟩
abbrev Fld.BST_CFG_SHUT_EN : Fld := ⟨Reg.BST_CFG, 2, 1⟩
abbrev Fld.BST_CFG_ROT_RUN_EN : Fld := ⟨Reg.BST_CFG, 3, 1⟩
abbrev Fld.BST_CFG_VALID_HOURS : Fld := ⟨Reg.BST_CFG, 16, 16⟩
abbrev Fld.BST_ROTATE_VALUE : Fld := ⟨Reg.BST_ROTATE, 0, 16⟩
abbrev Fld.BST_BG_PERIOD_VALUE : Fld := ⟨Reg.BST_BG_PERIOD, 0, 16⟩
abbrev Fld.BST_BOOT_RAN : Fld := ⟨Reg.BST_BOOT, 0, 1⟩
abbrev Fld.BST_BOOT_SKIPPED : Fld := ⟨Reg.BST_BOOT, 1, 1⟩
abbrev Fld.BST_BOOT_PASSED : Fld := ⟨Reg.BST_BOOT, 2, 1⟩
abbrev Fld.BST_BOOT_DUR_MS : Fld := ⟨Reg.BST_BOOT, 8, 8⟩
abbrev Fld.BST_BOOT_AGE_H : Fld := ⟨Reg.BST_BOOT, 16, 16⟩
abbrev Fld.BST_LAST_NONPASS_DIE : Fld := ⟨Reg.BST_LAST_NONPASS, 0, 3⟩
abbrev Fld.BST_LAST_NONPASS_UNIT : Fld := ⟨Reg.BST_LAST_NONPASS, 8, 4⟩
abbrev Fld.BST_LAST_NONPASS_SLICE : Fld := ⟨Reg.BST_LAST_NONPASS, 16, 5⟩
abbrev Fld.BST_LAST_NONPASS_RESULT : Fld := ⟨Reg.BST_LAST_NONPASS, 24, 3⟩
abbrev Fld.BST_LAST_NONPASS_VALID : Fld := ⟨Reg.BST_LAST_NONPASS, 31, 1⟩
abbrev Fld.BST_DIE_LAST (n : Nat) : Fld := ⟨Reg.BST_DIE n, 0, 3⟩
abbrev Fld.BST_DIE_AGE_S (n : Nat) : Fld := ⟨Reg.BST_DIE n, 8, 24⟩
abbrev Fld.SEC_STATUS_SEC_LOCK : Fld := ⟨Reg.SEC_STATUS, 0, 1⟩
abbrev Fld.SEC_STATUS_DEBUG_UNLOCKED : Fld := ⟨Reg.SEC_STATUS, 1, 1⟩
abbrev Fld.SEC_STATUS_DEBUG_LOCKOUT : Fld := ⟨Reg.SEC_STATUS, 2, 1⟩
abbrev Fld.SEC_STATUS_BOOT_DONE : Fld := ⟨Reg.SEC_STATUS, 3, 1⟩
abbrev Fld.SEC_STATUS_SIGN_BUSY : Fld := ⟨Reg.SEC_STATUS, 4, 1⟩
abbrev Fld.SEC_STATUS_TRNG_FAIL : Fld := ⟨Reg.SEC_STATUS, 5, 1⟩
abbrev Fld.SEC_STATUS_ZEROISED : Fld := ⟨Reg.SEC_STATUS, 8, 1⟩
abbrev Fld.SEC_STATUS_MS_MERGED : Fld := ⟨Reg.SEC_STATUS, 9, 1⟩
abbrev Fld.SEC_STATUS_FW_FALLBACK : Fld := ⟨Reg.SEC_STATUS, 10, 1⟩
abbrev Fld.SEC_STATUS_CFG_REJ : Fld := ⟨Reg.SEC_STATUS, 11, 1⟩
abbrev Fld.SEC_CTRL_LOCK : Fld := ⟨Reg.SEC_CTRL, 0, 1⟩
abbrev Fld.SEC_MS_CFG_INTERVAL : Fld := ⟨Reg.SEC_MS_CFG, 0, 16⟩
abbrev Fld.SEC_BOOT_MODE : Fld := ⟨Reg.SEC_BOOT, 0, 2⟩
abbrev Fld.SEC_BOOT_SLOT_MGMT : Fld := ⟨Reg.SEC_BOOT, 2, 1⟩
abbrev Fld.SEC_BOOT_SLOT_PDIE : Fld := ⟨Reg.SEC_BOOT, 3, 1⟩
abbrev Fld.SEC_BOOT_SLOT_COIL : Fld := ⟨Reg.SEC_BOOT, 4, 1⟩
abbrev Fld.SEC_BOOT_TRIAL : Fld := ⟨Reg.SEC_BOOT, 5, 1⟩
abbrev Fld.SEC_MBOX_REQ_CODE : Fld := ⟨Reg.SEC_MBOX_REQ, 0, 8⟩
abbrev Fld.SEC_MBOX_RSP_CODE : Fld := ⟨Reg.SEC_MBOX_RSP, 0, 8⟩
abbrev Fld.SEC_MBOX_RSP_DONE : Fld := ⟨Reg.SEC_MBOX_RSP, 8, 1⟩
abbrev Fld.SEC_MBOX_RSP_ERR : Fld := ⟨Reg.SEC_MBOX_RSP, 9, 1⟩
abbrev Fld.WAY_STATUS_ALIGN : Fld := ⟨Reg.WAY_STATUS, 0, 2⟩
abbrev Fld.WAY_STATUS_LOCK : Fld := ⟨Reg.WAY_STATUS, 2, 1⟩
abbrev Fld.WAY_STATUS_BYPASS : Fld := ⟨Reg.WAY_STATUS, 3, 1⟩
abbrev Fld.WAY_STATUS_FROZEN : Fld := ⟨Reg.WAY_STATUS, 4, 1⟩
abbrev Fld.WAY_STATUS_MASTER_CONFLICT : Fld := ⟨Reg.WAY_STATUS, 8, 1⟩
abbrev Fld.WAY_STATUS_MSG_LOST : Fld := ⟨Reg.WAY_STATUS, 9, 1⟩
abbrev Fld.WAY_STATUS_UNREACH : Fld := ⟨Reg.WAY_STATUS, 10, 1⟩
abbrev Fld.WAY_STATUS_NACK_RX : Fld := ⟨Reg.WAY_STATUS, 11, 1⟩
abbrev Fld.WAY_STATUS_EPOCH_SLIP : Fld := ⟨Reg.WAY_STATUS, 12, 1⟩
abbrev Fld.WAY_STATUS_TRIG_UNALIGNED : Fld := ⟨Reg.WAY_STATUS, 13, 1⟩
abbrev Fld.WAY_STATUS_CENSUS_FAIL : Fld := ⟨Reg.WAY_STATUS, 14, 1⟩
abbrev Fld.WAY_STATUS_CFG_REJ : Fld := ⟨Reg.WAY_STATUS, 15, 1⟩
abbrev Fld.WAY_STATUS_USER_ACK : Fld := ⟨Reg.WAY_STATUS, 16, 1⟩
abbrev Fld.WAY_CFG_ENABLE : Fld := ⟨Reg.WAY_CFG, 0, 1⟩
abbrev Fld.WAY_CFG_ROLE : Fld := ⟨Reg.WAY_CFG, 4, 2⟩
abbrev Fld.WAY_CFG_NODE_ID : Fld := ⟨Reg.WAY_CFG, 8, 4⟩
abbrev Fld.WAY_CFG_N_PHYS : Fld := ⟨Reg.WAY_CFG, 16, 5⟩
abbrev Fld.WAY_CTRL_CENSUS : Fld := ⟨Reg.WAY_CTRL, 0, 1⟩
abbrev Fld.WAY_CTRL_USER_SEND : Fld := ⟨Reg.WAY_CTRL, 1, 1⟩
abbrev Fld.WAY_CENSUS_EPOCH : Fld := ⟨Reg.WAY_CENSUS, 0, 8⟩
abbrev Fld.WAY_CENSUS_POSITION : Fld := ⟨Reg.WAY_CENSUS, 8, 4⟩
abbrev Fld.WAY_CENSUS_RESULT : Fld := ⟨Reg.WAY_CENSUS, 12, 3⟩
abbrev Fld.WAY_CENSUS_NODES : Fld := ⟨Reg.WAY_CENSUS, 16, 5⟩
abbrev Fld.WAY_DELAY_VALUE : Fld := ⟨Reg.WAY_DELAY, 0, 24⟩
abbrev Fld.WAY_LATENCY_VALUE : Fld := ⟨Reg.WAY_LATENCY, 0, 24⟩
abbrev Fld.WAY_LOOP_VALUE : Fld := ⟨Reg.WAY_LOOP, 0, 24⟩
abbrev Fld.WAY_CENSUS_TOL_VALUE : Fld := ⟨Reg.WAY_CENSUS_TOL, 0, 24⟩
abbrev Fld.WAY_USER_DST_DST : Fld := ⟨Reg.WAY_USER_DST, 0, 4⟩
abbrev Fld.WAY_USER_DST_TAG : Fld := ⟨Reg.WAY_USER_DST, 8, 8⟩
abbrev Fld.WAY_SEG_VALUE (n : Nat) : Fld := ⟨Reg.WAY_SEG n, 0, 24⟩

/-! ## Tables -/

/-- The GLB_ block. -/
def rowsGLB : List RegRow :=
  [⟨0x0000, 0, 1, 0x0, 0x0, 0x0, 0x0⟩,
   ⟨0x0004, 0, 1, 0x21, 0x0, 0x0, 0xFFFF00FF⟩,
   ⟨0x0008, 0, 1, 0x0, 0x0, 0x0, 0x0⟩,
   ⟨0x000C, 0, 1, 0x0, 0x0, 0x0, 0x0⟩,
   ⟨0x0010, 4, 4, 0x0, 0x0, 0x0, 0x0⟩,
   ⟨0x0020, 0, 1, 0x0, 0x0, 0x0, 0x0⟩,
   ⟨0x0024, 0, 1, 0x0, 0x0, 0x7, 0x0⟩,
   ⟨0x0028, 0, 1, 0x0, 0x0, 0x0, 0x0⟩,
   ⟨0x002C, 0, 1, 0x0, 0x1FFFF, 0x0, 0x0⟩,
   ⟨0x0030, 0, 1, 0x0, 0x0, 0x1FFFF, 0x0⟩,
   ⟨0x0040, 4, 2, 0x0, 0xFFFFFFFF, 0x0, 0xFFFFFFFF⟩]

/-- The HIF_ block. -/
def rowsHIF : List RegRow :=
  [⟨0x0400, 0, 1, 0x0, 0x0, 0x700, 0x0⟩,
   ⟨0x0404, 0, 1, 0x0, 0x1, 0x0, 0x0⟩,
   ⟨0x0408, 0, 1, 0x0, 0x0, 0x0, 0x0⟩,
   ⟨0x040C, 0, 1, 0x706, 0xF0F, 0x0, 0x0⟩,
   ⟨0x0410, 0, 1, 0x0, 0xFFFFF000, 0x0, 0x0⟩,
   ⟨0x0414, 0, 1, 0x0, 0xFFFFFFFF, 0x0, 0x0⟩,
   ⟨0x0418, 0, 1, 0x0, 0xFFFFF000, 0x0, 0x0⟩,
   ⟨0x041C, 0, 1, 0x0, 0xFFFFFFFF, 0x0, 0x0⟩,
   ⟨0x0420, 0, 1, 0x0, 0x0, 0x0, 0x0⟩,
   ⟨0x0424, 0, 1, 0x1, 0xFFFFFF, 0x0, 0x0⟩,
   ⟨0x0428, 0, 1, 0x8000800, 0x0, 0x0, 0xFFF0000⟩,
   ⟨0x0440, 0, 1, 0x180, 0xFFF, 0x0, 0x0⟩,
   ⟨0x0444, 0, 1, 0x100, 0xFFF, 0x0, 0x0⟩,
   ⟨0x0448, 0, 1, 0x8, 0xFFF, 0x0, 0x0⟩,
   ⟨0x044C, 0, 1, 0x20, 0xFFF, 0x0, 0x0⟩,
   ⟨0x0450, 0, 1, 0x100, 0xFFF, 0x0, 0x0⟩,
   ⟨0x0454, 0, 1, 0x80, 0xFFF, 0x0, 0x0⟩,
   ⟨0x0458, 0, 1, 0x8, 0xFFF, 0x0, 0x0⟩,
   ⟨0x045C, 0, 1, 0x10, 0xFFF, 0x0, 0x0⟩,
   ⟨0x0460, 0, 1, 0x600, 0xFFF, 0x0, 0x0⟩,
   ⟨0x0464, 0, 1, 0x400, 0xFFF, 0x0, 0x0⟩,
   ⟨0x0468, 0, 1, 0x40, 0xFFF, 0x0, 0x0⟩,
   ⟨0x046C, 0, 1, 0x100, 0xFFF, 0x0, 0x0⟩,
   ⟨0x0470, 0, 1, 0x400, 0xFFF, 0x0, 0x0⟩,
   ⟨0x0474, 0, 1, 0x200, 0xFFF, 0x0, 0x0⟩,
   ⟨0x0478, 0, 1, 0x40, 0xFFF, 0x0, 0x0⟩,
   ⟨0x047C, 0, 1, 0x80, 0xFFF, 0x0, 0x0⟩,
   ⟨0x0480, 32, 8, 0x0, 0xFFFFF000, 0x0, 0x0⟩,
   ⟨0x0484, 32, 8, 0x0, 0xFFFFFFFF, 0x0, 0x0⟩,
   ⟨0x0488, 32, 8, 0x0, 0xFFFFF000, 0x0, 0x0⟩] ++
  [⟨0x048C, 32, 8, 0x0, 0xFFFFFFFF, 0x0, 0x0⟩,
   ⟨0x0490, 32, 8, 0x880, 0xFF1, 0x0, 0x0⟩,
   ⟨0x0494, 32, 8, 0x0, 0x0, 0xF00, 0x0⟩,
   ⟨0x0498, 32, 8, 0x0, 0x0, 0x0, 0xFFFFFFFF⟩,
   ⟨0x049C, 32, 8, 0x1, 0xFFFFFF, 0x0, 0x0⟩]

/-- The TMG_ block. -/
def rowsTMG : List RegRow :=
  [⟨0x0800, 0, 1, 0x0, 0x0, 0x3F00, 0x0⟩,
   ⟨0x0804, 0, 1, 0x100, 0x11F07, 0x0, 0x0⟩,
   ⟨0x0808, 0, 1, 0x0, 0x0, 0x0, 0xFFFFFFFF⟩,
   ⟨0x080C, 0, 1, 0x0, 0x0, 0x0, 0x3F003F⟩,
   ⟨0x0810, 0, 1, 0x300040, 0x0, 0x0, 0x3F007F⟩,
   ⟨0x0814, 0, 1, 0x0, 0x0, 0x0, 0xFFFFFFFF⟩,
   ⟨0x0818, 0, 1, 0x0, 0x0, 0x0, 0xFFFFFFFF⟩,
   ⟨0x081C, 0, 1, 0x0, 0x0, 0x0, 0xFFFFFFFF⟩,
   ⟨0x0820, 0, 1, 0x0, 0x0, 0x0, 0xFFFFFFFF⟩,
   ⟨0x0824, 0, 1, 0x0, 0x0, 0x0, 0xFFFFFFFF⟩,
   ⟨0x0828, 0, 1, 0x0, 0x0, 0x0, 0xFFFFFFFF⟩,
   ⟨0x082C, 0, 1, 0x0, 0xFFFFFFFF, 0x0, 0x0⟩,
   ⟨0x0830, 0, 1, 0x1E, 0x3FFF, 0x0, 0x0⟩,
   ⟨0x0834, 0, 1, 0x0, 0x0, 0x0, 0x0⟩,
   ⟨0x0838, 0, 1, 0x0, 0x0, 0x0, 0x0⟩,
   ⟨0x083C, 0, 1, 0x32, 0xFF, 0x0, 0x0⟩,
   ⟨0x0840, 0, 1, 0x0, 0x0, 0x0, 0x0⟩,
   ⟨0x0844, 0, 1, 0x0, 0x0, 0x0, 0x0⟩,
   ⟨0x0848, 0, 1, 0x0, 0xFFFF000F, 0x0, 0x0⟩,
   ⟨0x084C, 0, 1, 0x0, 0xFFFFFFFF, 0x0, 0x0⟩,
   ⟨0x0850, 0, 1, 0x0, 0x0, 0x0, 0x0⟩,
   ⟨0x0854, 0, 1, 0x0, 0x0, 0x0, 0x0⟩,
   ⟨0x0858, 0, 1, 0x0, 0x0, 0x0, 0xFFFFFFFF⟩,
   ⟨0x085C, 0, 1, 0x0, 0x0, 0x0, 0xFFFFFFFF⟩,
   ⟨0x0860, 0, 1, 0x0, 0x0, 0x0, 0xFFFFFFFF⟩]

/-- The SEN_ block. -/
def rowsSEN : List RegRow :=
  [⟨0x0C00, 0, 1, 0x0, 0x0, 0x7C, 0x4⟩,
   ⟨0x0C04, 0, 1, 0x32, 0xFF, 0x0, 0xFF⟩,
   ⟨0x0C08, 0, 1, 0x28, 0x7F, 0x0, 0x7F⟩,
   ⟨0x0C0C, 0, 1, 0x0, 0x0, 0x0, 0x0⟩,
   ⟨0x0C10, 0, 1, 0x0, 0x0, 0x0, 0x0⟩,
   ⟨0x0C14, 0, 1, 0x0, 0x0, 0x0, 0x0⟩,
   ⟨0x0C18, 0, 1, 0x0, 0x0, 0x0, 0x0⟩,
   ⟨0x0C1C, 0, 1, 0x0, 0x0, 0x0, 0x0⟩,
   ⟨0x0C20, 0, 1, 0x0, 0x0, 0x0, 0x0⟩,
   ⟨0x0C24, 0, 1, 0x1, 0x0, 0x0, 0x0⟩,
   ⟨0x0C28, 0, 1, 0x0, 0x0, 0x0, 0x0⟩,
   ⟨0x0C2C, 0, 1, 0x0, 0x0, 0x0, 0x0⟩,
   ⟨0x0C30, 0, 1, 0x0, 0x0, 0x0, 0x0⟩,
   ⟨0x0C40, 4, 48, 0x0, 0x0, 0x0, 0x0⟩]

/-- The PPL_ block. -/
def rowsPPL : List RegRow :=
  [⟨0x1000, 0, 1, 0x0, 0x0, 0x3F, 0x0⟩,
   ⟨0x1004, 0, 1, 0x1, 0x0, 0x0, 0x7⟩,
   ⟨0x1008, 0, 1, 0x1000, 0xFFFFF, 0x0, 0x0⟩,
   ⟨0x100C, 0, 1, 0x8000, 0xFFFF, 0x0, 0x0⟩,
   ⟨0x1010, 0, 1, 0x80000, 0xFFFFF, 0x0, 0x0⟩,
   ⟨0x1014, 0, 1, 0xC00, 0x1F01, 0x0, 0x0⟩,
   ⟨0x1018, 0, 1, 0x13, 0x73, 0x0, 0x0⟩,
   ⟨0x101C, 0, 1, 0xFA0, 0xFFFFF, 0x0, 0x0⟩,
   ⟨0x1020, 0, 1, 0xF00009, 0xFFFF001F, 0x0, 0x0⟩,
   ⟨0x1024, 0, 1, 0xFFFF, 0x0, 0x0, 0x0⟩,
   ⟨0x1028, 0, 1, 0x0, 0x0, 0x0, 0x0⟩,
   ⟨0x102C, 0, 1, 0x0, 0x0, 0x0, 0x0⟩,
   ⟨0x1030, 0, 1, 0x0, 0x0, 0x0, 0x0⟩,
   ⟨0x1034, 0, 1, 0x0, 0x0, 0x0, 0xFFFFFFFF⟩,
   ⟨0x1038, 0, 1, 0x0, 0xFFFFFFFF, 0x0, 0x0⟩,
   ⟨0x103C, 0, 1, 0x0, 0xF, 0x0, 0x0⟩,
   ⟨0x1040, 0, 1, 0x0, 0xFFF, 0x0, 0x0⟩,
   ⟨0x1044, 0, 1, 0x0, 0xFFFF, 0x0, 0x0⟩,
   ⟨0x1048, 0, 1, 0x0, 0xFFFFFFFF, 0x0, 0x0⟩,
   ⟨0x104C, 0, 1, 0x0, 0xFFFFFFFF, 0x0, 0x0⟩]

/-- The PPL_Pn_ block. -/
def rowsPPLPn : List RegRow :=
  [⟨0x1400, 256, 5, 0x0, 0x0, 0x0, 0x0⟩,
   ⟨0x1404, 256, 5, 0x0, 0x0, 0x0, 0x0⟩,
   ⟨0x1408, 256, 5, 0x0, 0x0, 0x0, 0x0⟩,
   ⟨0x140C, 256, 5, 0x0, 0x0, 0x0, 0x0⟩,
   ⟨0x1410, 256, 5, 0x0, 0x0, 0x0, 0x0⟩]

/-- The TRS_ block. -/
def rowsTRS : List RegRow :=
  [⟨0x1C00, 0, 1, 0x0, 0x0, 0x1F00, 0x0⟩,
   ⟨0x1C04, 0, 1, 0x0, 0x0, 0x0, 0x0⟩,
   ⟨0x1C08, 0, 1, 0x3E8, 0xFFFFF, 0x0, 0x0⟩,
   ⟨0x1C0C, 0, 1, 0xFA, 0xFFFFF, 0x0, 0x0⟩,
   ⟨0x1C10, 0, 1, 0x190, 0xFFFFF, 0x0, 0x0⟩,
   ⟨0x1C14, 0, 1, 0x400008, 0xFFFFFFFF, 0x0, 0x0⟩,
   ⟨0x1C18, 0, 1, 0x7D0, 0xFFFFF, 0x0, 0x0⟩,
   ⟨0x1C1C, 0, 1, 0x2028F, 0xFFFFF, 0x0, 0x0⟩,
   ⟨0x1C20, 0, 1, 0x50C, 0xFFFF, 0x0, 0x0⟩,
   ⟨0x1C24, 0, 1, 0x0, 0x0, 0x0, 0x0⟩,
   ⟨0x1C28, 0, 1, 0x100, 0x0, 0x0, 0x0⟩,
   ⟨0x1C2C, 0, 1, 0x0, 0xFF, 0x0, 0x0⟩,
   ⟨0x1C30, 0, 1, 0x0, 0x0, 0x0, 0x0⟩,
   ⟨0x1C34, 0, 1, 0x0, 0x0, 0x0, 0x0⟩,
   ⟨0x1C38, 0, 1, 0x0, 0x0, 0x0, 0x0⟩,
   ⟨0x1C3C, 0, 1, 0x0, 0x0, 0x0, 0x0⟩,
   ⟨0x1C40, 0, 1, 0x0, 0x0, 0x0, 0x0⟩,
   ⟨0x1C44, 0, 1, 0x0, 0x0, 0x0, 0x0⟩,
   ⟨0x1C48, 0, 1, 0x0, 0x0, 0x0, 0x0⟩,
   ⟨0x1C4C, 0, 1, 0x0, 0x0, 0x0, 0xFFFFFFFF⟩,
   ⟨0x1C50, 0, 1, 0x0, 0x0, 0x0, 0xFFFFFFFF⟩]

/-- The CAL_ block. -/
def rowsCAL : List RegRow :=
  [⟨0x2000, 0, 1, 0x0, 0x0, 0xFF00, 0x406⟩,
   ⟨0x2004, 0, 1, 0x0, 0x1, 0x0, 0x0⟩,
   ⟨0x2008, 0, 1, 0xFF, 0x0, 0x0, 0xFFF⟩,
   ⟨0x200C, 0, 1, 0x0, 0x0, 0x0, 0xFFFFFFFF⟩,
   ⟨0x2010, 0, 1, 0x0, 0x0, 0x0, 0xFFFFFFFF⟩,
   ⟨0x2014, 0, 1, 0x0, 0x0, 0x0, 0xFFFFFFFF⟩,
   ⟨0x2018, 0, 1, 0x0, 0x0, 0x0, 0xFFFFFFFF⟩,
   ⟨0x201C, 0, 1, 0x10, 0xFFFFF, 0x0, 0x0⟩,
   ⟨0x2020, 0, 1, 0x28, 0xFFFFF, 0x0, 0x0⟩,
   ⟨0x2024, 0, 1, 0x3E8, 0xFFFFF, 0x0, 0x0⟩,
   ⟨0x2028, 0, 1, 0x190, 0xFFFFF, 0x0, 0x0⟩,
   ⟨0x202C, 0, 1, 0x1900, 0xFFFFF, 0x0, 0x0⟩,
   ⟨0x2030, 0, 1, 0x14, 0xFFFFF, 0x0, 0x0⟩,
   ⟨0x2034, 0, 1, 0xF0, 0xFFFFF, 0x0, 0x0⟩,
   ⟨0x2038, 0, 1, 0xA, 0xFFFFF, 0x0, 0x0⟩,
   ⟨0x203C, 0, 1, 0x140000, 0xFF7F7F, 0x0, 0x0⟩,
   ⟨0x2040, 0, 1, 0x320814, 0xFF3F3F, 0x0, 0x0⟩,
   ⟨0x2044, 0, 1, 0x190, 0xFFFFF, 0x0, 0x0⟩,
   ⟨0x2048, 0, 1, 0x300, 0x0, 0x0, 0x0⟩,
   ⟨0x204C, 0, 1, 0x0, 0x0, 0x0, 0x0⟩,
   ⟨0x2050, 0, 1, 0x0, 0x0, 0x0, 0x0⟩,
   ⟨0x2080, 0, 1, 0x1F4, 0x3FF, 0x0, 0x3FF⟩,
   ⟨0x2084, 0, 1, 0xDAC0C80, 0xFFF0FFF, 0x0, 0xFFF0FFF⟩,
   ⟨0x2088, 0, 1, 0x8000000, 0xFFF0FFF, 0x0, 0xFFF0FFF⟩,
   ⟨0x208C, 0, 1, 0x20104019, 0xFFFFFFFF, 0x0, 0xFFFFFFFF⟩,
   ⟨0x2090, 0, 1, 0x190, 0xFFFF, 0x0, 0xFFFF⟩,
   ⟨0x2100, 4, 48, 0x0, 0xFFFFFFFF, 0x0, 0xFFFFFFFF⟩]

/-- The CEL_ block. -/
def rowsCEL : List RegRow :=
  [⟨0x2400, 0, 1, 0x0, 0x0, 0x3F00, 0x0⟩,
   ⟨0x2404, 0, 1, 0x1, 0x1, 0x0, 0x0⟩,
   ⟨0x2408, 0, 1, 0x0, 0x0, 0x0, 0xFFFF00FF⟩,
   ⟨0x240C, 0, 1, 0x0, 0x0, 0x0, 0xFFFFFFFF⟩,
   ⟨0x2410, 0, 1, 0x0, 0x0, 0x0, 0xFFFF07F3⟩,
   ⟨0x2414, 0, 1, 0x0, 0x0, 0x0, 0xFFFFFFFF⟩,
   ⟨0x2418, 0, 1, 0x0, 0x0, 0x0, 0xFFFFFFFF⟩,
   ⟨0x241C, 0, 1, 0x0, 0x0, 0x0, 0xFFFFFFFF⟩,
   ⟨0x2420, 0, 1, 0x0, 0x0, 0x0, 0xFFFFFFFF⟩,
   ⟨0x2424, 0, 1, 0x0, 0x0, 0x0, 0xFFFFFFFF⟩,
   ⟨0x2428, 0, 1, 0x0, 0x0, 0x0, 0xFFFFFFFF⟩,
   ⟨0x242C, 0, 1, 0x0, 0x0, 0x0, 0xFFFFFFFF⟩,
   ⟨0x2430, 0, 1, 0x0, 0x0, 0x0, 0x0⟩,
   ⟨0x2434, 0, 1, 0x0, 0x0, 0x0, 0xFFFF⟩,
   ⟨0x2438, 0, 1, 0x0, 0x0, 0x0, 0xFFFFFFFF⟩,
   ⟨0x243C, 0, 1, 0x0, 0x0, 0x0, 0xFFFFFFFF⟩,
   ⟨0x2440, 0, 1, 0x0, 0x0, 0x0, 0x0⟩,
   ⟨0x2444, 0, 1, 0x0, 0x0, 0x0, 0x0⟩,
   ⟨0x2448, 0, 1, 0x0, 0x0, 0x0, 0x0⟩,
   ⟨0x2450, 4, 5, 0x0, 0x0, 0x0, 0x0⟩]

/-- The ROL_ block. -/
def rowsROL : List RegRow :=
  [⟨0x2800, 0, 1, 0x0, 0x0, 0x3F00, 0x0⟩,
   ⟨0x2804, 0, 1, 0x1C, 0x1F, 0x0, 0x0⟩,
   ⟨0x2808, 0, 1, 0x1, 0x0, 0x0, 0xFFFFFFFF⟩,
   ⟨0x280C, 0, 1, 0x0, 0x0, 0x0, 0x0⟩,
   ⟨0x2810, 0, 1, 0x0, 0x0, 0x0, 0x0⟩,
   ⟨0x2814, 0, 1, 0x0, 0x0, 0x0, 0xFFFFFFFF⟩,
   ⟨0x2818, 0, 1, 0x0, 0x0, 0x0, 0xFFFFFFFF⟩,
   ⟨0x281C, 0, 1, 0x0, 0x0, 0x0, 0x0⟩,
   ⟨0x2820, 0, 1, 0x0, 0x0, 0x0, 0xFFFFFFFF⟩,
   ⟨0x2824, 0, 1, 0x0, 0x0, 0x0, 0xFFFFFFFF⟩,
   ⟨0x2828, 0, 1, 0x0, 0x0, 0x0, 0xFFFFFFFF⟩,
   ⟨0x282C, 0, 1, 0x0, 0x0, 0x1F, 0x1F⟩,
   ⟨0x2830, 0, 1, 0x0, 0x0, 0x0, 0x77⟩,
   ⟨0x2840, 4, 5, 0x0, 0x0, 0x0, 0x3F3F3F⟩]

/-- The TOL_ block. -/
def rowsTOL : List RegRow :=
  [⟨0x2C00, 0, 1, 0x0, 0x0, 0x1F00, 0x0⟩,
   ⟨0x2C04, 0, 1, 0x1, 0x1, 0x0, 0x0⟩,
   ⟨0x2C08, 0, 1, 0x2, 0x7, 0x1000, 0x1000⟩,
   ⟨0x2C0C, 0, 1, 0x0, 0x0, 0x0, 0xFFFFFFFF⟩,
   ⟨0x2C10, 0, 1, 0x3E8, 0x0, 0x0, 0xFFFFFFFF⟩,
   ⟨0x2C14, 0, 1, 0x0, 0x0, 0x0, 0xFFFFFFFF⟩,
   ⟨0x2C18, 0, 1, 0x0, 0x0, 0x0, 0xFFFFFFFF⟩,
   ⟨0x2C1C, 0, 1, 0x0, 0x0, 0x0, 0xFFFFFFFF⟩,
   ⟨0x2C20, 0, 1, 0x0, 0x0, 0x0, 0x0⟩,
   ⟨0x2C24, 0, 1, 0x0, 0x0, 0x0, 0x0⟩,
   ⟨0x2C28, 0, 1, 0x0, 0x0, 0x0, 0x0⟩,
   ⟨0x2C2C, 0, 1, 0x0, 0x0, 0x0, 0x0⟩,
   ⟨0x2C30, 0, 1, 0x0, 0x0, 0x0, 0xFFFFFFFF⟩,
   ⟨0x2C34, 0, 1, 0x0, 0x0, 0x0, 0xFFFFFFFF⟩,
   ⟨0x2C38, 0, 1, 0x3200, 0xFFFFFF0F, 0x0, 0x0⟩,
   ⟨0x2C3C, 0, 1, 0x1000, 0x0, 0x0, 0x0⟩,
   ⟨0x2C40, 0, 1, 0x8, 0xFFFF, 0x0, 0x0⟩,
   ⟨0x2C44, 0, 1, 0x0, 0x0, 0x0, 0xFFFFFFFF⟩,
   ⟨0x2C48, 0, 1, 0x0, 0x0, 0x0, 0x0⟩,
   ⟨0x2C4C, 0, 1, 0x0, 0x0, 0x0, 0x0⟩,
   ⟨0x2C50, 4, 5, 0x0, 0x0, 0x0, 0x0⟩]

/-- The THM_ block. -/
def rowsTHM : List RegRow :=
  [⟨0x3000, 0, 1, 0x0, 0x0, 0x1F00, 0x0⟩,
   ⟨0x3004, 0, 1, 0xC833, 0xFFFFFF, 0x0, 0x0⟩,
   ⟨0x3008, 0, 1, 0x0, 0x0, 0x0, 0x3FFF⟩,
   ⟨0x300C, 0, 1, 0x736964, 0xFFFFFF, 0x0, 0x0⟩,
   ⟨0x3010, 0, 1, 0x6E645F, 0xFFFFFF, 0x0, 0x0⟩,
   ⟨0x3014, 0, 1, 0x4B413C, 0xFFFFFF, 0x0, 0x0⟩,
   ⟨0x3018, 0, 1, 0x0, 0x0, 0x0, 0x0⟩,
   ⟨0x301C, 0, 1, 0x0, 0x0, 0x0, 0x0⟩,
   ⟨0x3020, 4, 5, 0x0, 0x0, 0x0, 0x0⟩,
   ⟨0x3034, 0, 1, 0x7, 0x0, 0x0, 0x7⟩,
   ⟨0x3038, 0, 1, 0x0, 0x0, 0x0, 0xFFFFFFFF⟩,
   ⟨0x303C, 0, 1, 0x0, 0x0, 0x0, 0xFFFFFFFF⟩,
   ⟨0x3040, 0, 1, 0x0, 0x0, 0x0, 0xFFFFFFFF⟩]

/-- The HKC_ block. -/
def rowsHKC : List RegRow :=
  [⟨0x3400, 0, 1, 0x0, 0x0, 0x3F00, 0x0⟩,
   ⟨0x3404, 0, 1, 0x0, 0x0, 0x0, 0x0⟩,
   ⟨0x3408, 0, 1, 0x1103, 0xF1F7, 0x0, 0x0⟩,
   ⟨0x340C, 0, 1, 0x21, 0x37, 0x0, 0x0⟩,
   ⟨0x3410, 0, 1, 0x1211100F, 0x1F1F1F1F, 0x0, 0x0⟩,
   ⟨0x3414, 0, 1, 0x8151413, 0x1F1F1F1F, 0x0, 0x0⟩,
   ⟨0x3418, 0, 1, 0xC0B0A09, 0x1F1F1F1F, 0x0, 0x0⟩,
   ⟨0x341C, 0, 1, 0x1000E0D, 0x1F1F1F1F, 0x0, 0x0⟩,
   ⟨0x3420, 0, 1, 0x0, 0x1F1F1F1F, 0x0, 0x0⟩,
   ⟨0x3424, 0, 1, 0x1, 0xF, 0x0, 0x0⟩,
   ⟨0x3428, 0, 1, 0x0, 0x0, 0x0, 0x7F00⟩,
   ⟨0x342C, 0, 1, 0x0, 0x0, 0x0, 0x0⟩,
   ⟨0x3430, 0, 1, 0x0, 0x0, 0x0, 0x0⟩,
   ⟨0x3434, 0, 1, 0x0, 0x0, 0x0, 0xFFFFFFFF⟩,
   ⟨0x3438, 0, 1, 0x0, 0x0, 0x0, 0xFFFFFFFF⟩,
   ⟨0x343C, 0, 1, 0x0, 0x0, 0x0, 0xFFFFFFFF⟩,
   ⟨0x3440, 0, 1, 0x0, 0x0, 0x0, 0xFFFFFFFF⟩,
   ⟨0x3444, 0, 1, 0x0, 0x0, 0x0, 0xFFFFFFFF⟩,
   ⟨0x3448, 0, 1, 0x0, 0x0, 0x0, 0xFFFF0000⟩,
   ⟨0x344C, 0, 1, 0xA3C, 0xFFFF, 0x0, 0x0⟩,
   ⟨0x3480, 4, 16, 0x0, 0x0, 0x0, 0x0⟩,
   ⟨0x34C0, 4, 4, 0x0, 0x0, 0x0, 0x0⟩,
   ⟨0x3500, 4, 24, 0x0, 0x0, 0x0, 0x0⟩]

/-- The COIL_ block. -/
def rowsCOIL : List RegRow :=
  [⟨0x3800, 0, 1, 0x0, 0x0, 0xFE00, 0xC0⟩,
   ⟨0x3804, 0, 1, 0x0, 0x0, 0x3, 0x0⟩,
   ⟨0x3808, 0, 1, 0x400C8, 0x1FFFFF, 0x0, 0x0⟩,
   ⟨0x380C, 0, 1, 0x118, 0x1FF, 0x0, 0x0⟩,
   ⟨0x3810, 0, 1, 0x47E, 0xFFF, 0x0, 0x0⟩,
   ⟨0x3814, 0, 1, 0x204028, 0xF7FFFF, 0x0, 0x0⟩,
   ⟨0x3818, 0, 1, 0x204028, 0xF7FFFF, 0x0, 0x0⟩,
   ⟨0x381C, 0, 1, 0x10100000, 0x7F7F7F7F, 0x0, 0x7F7F7F7F⟩,
   ⟨0x3820, 0, 1, 0x700000, 0x0, 0x0, 0x0⟩,
   ⟨0x3824, 0, 1, 0x700000, 0x0, 0x0, 0x0⟩,
   ⟨0x3828, 0, 1, 0x0, 0x0, 0x0, 0x0⟩,
   ⟨0x382C, 0, 1, 0x0, 0x0, 0x0, 0x0⟩,
   ⟨0x3830, 0, 1, 0x0, 0x0, 0x0, 0x0⟩,
   ⟨0x3834, 0, 1, 0x0, 0x0, 0x0, 0x0⟩,
   ⟨0x3838, 0, 1, 0x0, 0x0, 0x0, 0x0⟩,
   ⟨0x383C, 0, 1, 0x0, 0x0, 0x0, 0x0⟩,
   ⟨0x3840, 0, 1, 0x0, 0x0, 0x0, 0x0⟩,
   ⟨0x3844, 0, 1, 0x0, 0x0, 0x0, 0x0⟩,
   ⟨0x3848, 0, 1, 0x8000, 0x0, 0x0, 0x0⟩,
   ⟨0x384C, 0, 1, 0x8000, 0x0, 0x0, 0x0⟩,
   ⟨0x3A00, 4, 128, 0x0, 0xFFFFFFFF, 0x0, 0xFFFFFFFF⟩]

/-- The NVS_ block. -/
def rowsNVS : List RegRow :=
  [⟨0x3C00, 0, 1, 0x0, 0x0, 0xF00, 0x4⟩,
   ⟨0x3C04, 0, 1, 0x0, 0x0, 0x0, 0x1F⟩,
   ⟨0x3C08, 0, 1, 0x0, 0x0, 0x0, 0x0⟩,
   ⟨0x3C0C, 0, 1, 0x0, 0x0, 0x0, 0x0⟩,
   ⟨0x3C10, 0, 1, 0x0, 0x0, 0x0, 0x0⟩,
   ⟨0x3C14, 0, 1, 0x0, 0x0, 0x0, 0x0⟩,
   ⟨0x3C18, 0, 1, 0x0, 0x0, 0x0, 0xFFFFFFFF⟩,
   ⟨0x3C1C, 0, 1, 0x0, 0x0, 0x0, 0xFFFFFFFF⟩]

/-- The BST_ block. -/
def rowsBST : List RegRow :=
  [⟨0x4000, 0, 1, 0x0, 0x0, 0x1F00, 0x0⟩,
   ⟨0x4004, 0, 1, 0xA8000F, 0xFFFF000F, 0x0, 0x0⟩,
   ⟨0x4008, 0, 1, 0x3C, 0xFFFF, 0x0, 0x0⟩,
   ⟨0x400C, 0, 1, 0xA, 0xFFFF, 0x0, 0x0⟩,
   ⟨0x4010, 0, 1, 0x0, 0x0, 0x0, 0xFFFFFF07⟩,
   ⟨0x4014, 0, 1, 0x0, 0x0, 0x0, 0x871F0F07⟩,
   ⟨0x4018, 0, 1, 0x0, 0x0, 0x0, 0xFFFFFFFF⟩,
   ⟨0x401C, 0, 1, 0x0, 0x0, 0x0, 0xFFFFFFFF⟩,
   ⟨0x4020, 0, 1, 0x0, 0x0, 0x0, 0xFFFFFFFF⟩,
   ⟨0x4024, 0, 1, 0x0, 0x0, 0x0, 0xFFFFFFFF⟩,
   ⟨0x4028, 0, 1, 0x0, 0x0, 0x0, 0xFFFFFFFF⟩,
   ⟨0x402C, 0, 1, 0x0, 0x0, 0x0, 0xFFFFFFFF⟩,
   ⟨0x4030, 0, 1, 0x0, 0x0, 0x0, 0xFFFFFFFF⟩,
   ⟨0x4034, 0, 1, 0x0, 0x0, 0x0, 0xFFFFFFFF⟩,
   ⟨0x4038, 0, 1, 0x0, 0x0, 0x0, 0xFFFFFFFF⟩,
   ⟨0x4040, 4, 5, 0xFFFFFF00, 0x0, 0x0, 0xFFFFFF07⟩]

/-- The SEC_ block. -/
def rowsSEC : List RegRow :=
  [⟨0x4400, 0, 1, 0x0, 0x0, 0xF00, 0x2F⟩,
   ⟨0x4404, 0, 1, 0x0, 0x0, 0x0, 0x0⟩,
   ⟨0x4408, 0, 1, 0xF0, 0xFFFF, 0x0, 0x0⟩,
   ⟨0x440C, 0, 1, 0x0, 0x0, 0x0, 0xFFFFFFFF⟩,
   ⟨0x4410, 0, 1, 0x0, 0x0, 0x0, 0x0⟩,
   ⟨0x4414, 0, 1, 0x0, 0x0, 0x0, 0x0⟩,
   ⟨0x4418, 0, 1, 0x0, 0x0, 0x0, 0xFFFFFFFF⟩,
   ⟨0x441C, 0, 1, 0x0, 0x0, 0x0, 0xFFFFFFFF⟩,
   ⟨0x4420, 0, 1, 0x0, 0x0, 0x0, 0xFFFFFFFF⟩,
   ⟨0x4424, 0, 1, 0x0, 0x0, 0x0, 0xFFFFFFFF⟩,
   ⟨0x4428, 0, 1, 0x0, 0x0, 0x0, 0x3F⟩,
   ⟨0x442C, 0, 1, 0x0, 0xFF, 0x0, 0x0⟩,
   ⟨0x4430, 0, 1, 0x0, 0x0, 0x0, 0x0⟩,
   ⟨0x4440, 4, 8, 0x0, 0x0, 0x0, 0x0⟩]

/-- The WAY_ block. -/
def rowsWAY : List RegRow :=
  [⟨0x4800, 0, 1, 0x0, 0x0, 0x1FF00, 0x1FF1F⟩,
   ⟨0x4804, 0, 1, 0x201, 0x1F0F31, 0x0, 0x1F0F31⟩,
   ⟨0x4808, 0, 1, 0x0, 0x0, 0x0, 0x3⟩,
   ⟨0x480C, 0, 1, 0x0, 0x0, 0x0, 0x1F7FFF⟩,
   ⟨0x4810, 0, 1, 0x0, 0x0, 0x0, 0xFFFFFF⟩,
   ⟨0x4814, 0, 1, 0x0, 0x0, 0x0, 0xFFFFFF⟩,
   ⟨0x4818, 0, 1, 0x0, 0x0, 0x0, 0xFFFFFF⟩,
   ⟨0x481C, 0, 1, 0x20, 0xFFFFFF, 0x0, 0xFFFFFF⟩,
   ⟨0x4820, 0, 1, 0x0, 0x0, 0x0, 0xFFFFFFFF⟩,
   ⟨0x4824, 0, 1, 0x0, 0x0, 0x0, 0xFFFFFFFF⟩,
   ⟨0x4828, 0, 1, 0x0, 0xFFFFFFFF, 0x0, 0x0⟩,
   ⟨0x482C, 0, 1, 0x0, 0xFF0F, 0x0, 0x0⟩,
   ⟨0x4830, 0, 1, 0x0, 0x0, 0x0, 0xFFFFFFFF⟩,
   ⟨0x4834, 0, 1, 0x0, 0x0, 0x0, 0xFFFFFFFF⟩,
   ⟨0x4838, 0, 1, 0x0, 0x0, 0x0, 0xFFFFFFFF⟩,
   ⟨0x483C, 0, 1, 0x0, 0x0, 0x0, 0xFFFFFFFF⟩,
   ⟨0x4840, 4, 16, 0x0, 0xFFFFFF, 0x0, 0xFFFFFF⟩]

/-- The rows of the block that an offset lies in (R443). -/
def regPage (off : Nat) : List RegRow :=
  match off / 1024 with
  | 0 => rowsGLB
  | 1 => rowsHIF
  | 2 => rowsTMG
  | 3 => rowsSEN
  | 4 => rowsPPL
  | 5 => rowsPPLPn
  | 6 => rowsPPLPn
  | 7 => rowsTRS
  | 8 => rowsCAL
  | 9 => rowsCEL
  | 10 => rowsROL
  | 11 => rowsTOL
  | 12 => rowsTHM
  | 13 => rowsHKC
  | 14 => rowsCOIL
  | 15 => rowsNVS
  | 16 => rowsBST
  | 17 => rowsSEC
  | 18 => rowsWAY
  | _ => []

/-- The row of a register, if there is a register at this offset. -/
def regRow (off : Nat) : Option RegRow :=
  (regPage off).find? fun r =>
    r.off ≤ off && (if r.stride = 0 then off == r.off else (off - r.off) % r.stride == 0 && (off - r.off) / r.stride < r.count)

/-- The value of a register after cold reset (R9). -/
def resetVal (off : Nat) : Word :=
  match regRow off with
  | some r => BitVec.ofNat 32 r.reset
  | none => 0

/-- The _LO registers of the 64-bit pairs of R7 (the _HI register follows at the next offset). -/
def pairRows : List (Nat × Nat × Nat) :=
  [(0x0410, 0, 1),
   (0x0418, 0, 1),
   (0x0480, 32, 8),
   (0x0488, 32, 8),
   (0x0814, 0, 1),
   (0x081C, 0, 1),
   (0x0824, 0, 1),
   (0x0850, 0, 1),
   (0x1404, 256, 5),
   (0x1C40, 0, 1),
   (0x2414, 0, 1),
   (0x241C, 0, 1),
   (0x2424, 0, 1),
   (0x2444, 0, 1),
   (0x280C, 0, 1),
   (0x2814, 0, 1),
   (0x2C30, 0, 1),
   (0x3038, 0, 1),
   (0x3828, 0, 1),
   (0x3830, 0, 1),
   (0x3838, 0, 1),
   (0x3840, 0, 1),
   (0x3C18, 0, 1),
   (0x4018, 0, 1),
   (0x4020, 0, 1),
   (0x4410, 0, 1)]

/-- Is this offset the _LO register of a pair that R7 governs? -/
def isPairLo (off : Nat) : Bool :=
  pairRows.any fun (o, st, c) =>
    o ≤ off && (if st = 0 then off == o else (off - o) % st == 0 && (off - o) / st < c)

end Sys2Proof.Machine
end

