-- ==== Sys2Proof/Machine/Cold.lean ====
section
/-! DEFINITION. What each part of the machine holds right after a cold reset (R10, R437), beside the registers. A
value that the rules do not give is a design choice of log 5. -/

namespace Sys2Proof.Machine

open Sys2Proof

/-- How many processing dies the variant has (R1, R30). -/
def Variant.dies : Variant → Nat
  | .bm2 => 2
  | .bm3 => 3
  | .bm5 => 5

/-- The tick count of R60 for the reset profile. -/
def resetPeriod : Variant → Nat
  | .bm2 => 2083334
  | .bm3 => 1388889
  | .bm5 => 1041667

/-- The reset profile (R60). -/
def resetProfile (v : Variant) : Profile :=
  { period := resetPeriod v, x0 := 0, y0 := 0, w := 64, h := 48, fmt := 1, mode := 1, l := 2, preview := true }

def mapOff : MapEnt := { role := .off, first := 0, count := 0 }

/-- The default map of R213, always five entries. -/
def defaultMap : Variant → List MapEnt
  | .bm2 => [⟨.stripe, 0, 24⟩, ⟨.stripe, 24, 24⟩, mapOff, mapOff, mapOff]
  | .bm3 => [⟨.stripe, 0, 16⟩, ⟨.stripe, 16, 16⟩, ⟨.stripe, 32, 16⟩, mapOff, mapOff]
  | .bm5 => [⟨.stripe, 0, 12⟩, ⟨.stripe, 12, 12⟩, ⟨.stripe, 24, 12⟩, ⟨.stripe, 36, 12⟩, ⟨.spare, 0, 0⟩]

/-- A channel with nothing posted and nothing waiting. -/
def chanIdle : Chan :=
  { enabled := false, bufProd := 0, bufCons := 0, scmpProd := 0, scmpCons := 0, bufs := [], halted := false,
    xfer := none, queue := [], discard := false, dropsSince := 0, used := 0, entryTicks := [], lastDoorbell := 0,
    signalled := false, lost := [] }

/-- The pin RST_N is released, PERST_N stands at its pull-up (R433), and RECALL runs (R437). -/
def powCold : Pow :=
  { st := .recall, target := none, stored := none, rstN := true, perstN := true, vioLow := false, vddHLow := false,
    cause := 0, warmCount := 0, kwEntry := 0, since := 0 }

/-- Configuration before the host has assigned any and before RECALL has read FACTORY (R254, log 109). -/
def pciCold : Pci := { bar0 := 0, bar2 := 0, maxPayload := 128, maxRead := 512, subVendor := 0, subDevice := 0 }

def hifCold : Hif :=
  { cmdProd := 0, cmdFetch := 0, cmpProd := 0, cmpCons := 0, cmpTicks := [], cmpLastDoorbell := 0,
    cmpSignalled := false, nextCid := 0, outstanding := [], held := [], after := [],
    chans := List.replicate 8 chanIdle, pendingVectors := [], gap := false, busMaster := false, d3hot := false,
    msixEnabled := true, linkSpeed := 0, linkWidth := 0, retired := 0, sliceHeld := 0, lastAccept := none
    heldOuts := [], badHost := [], pci := pciCold }

def tmgCold : Tmg :=
  { lastSnap := 0, prevSnap := 0, nextSnap := 0, frame := 0, first := true, scheduled := false, subDone := 0
    syncCfg := resetVal Reg.TMG_SYNC_CFG, refOfs := resetVal Reg.TMG_REF_OFS, refTol := resetVal Reg.TMG_REF_TOL
    refLast := none, refIntervals := [], refRun := 0, refTimedOut := false, pRef := 0, pHold := 0, refFormed := false, refPresent := false, locked := false
    holdover := false, lockRun := 0, refBack := false, alignWait := [], intervals := [], realign := false
    ltcCode := 0, ltcUser := 0, ltcBoundary := 0, ltcStart := 0, ltcGood := false, ltcPresent := false, ltcFreewheel := false
    ltcFreeEnd := 0, ltcValid := false, ltcLastSync := 0, ltcPredicted := []
    trigCfg := resetVal Reg.TMG_TRIG_CFG, trigHoldoff := resetVal Reg.TMG_TRIG_HOLDOFF, trigOld := [], trigEdge := none
    trigs := [], trigPending := [] }

def senCold : Sen :=
  { biased := false
    biasCode := (resetVal Reg.SEN_BIAS).toNat % 256, qrefCode := (resetVal Reg.SEN_QREF).toNat % 256
    biasDue := false, qrefDue := false, settleEnd := none, counters := ⟨0, []⟩, residue := ⟨0, []⟩, subCounts := [], subGrids := [], gridDue := []
    lastDelivered := none, gridValid := List.replicate 48 false, subValid := List.replicate 48 true, grids := []
    freeze := none, gridWaits := false, trimConv := resetVal Reg.CAL_TRIM_CONV, trimSkim := resetVal Reg.CAL_TRIM_SKIM
    trimGrid := List.replicate 48 0, trimAccept := 0, rowStep := none }

def trsCold : Trs :=
  { carry := [], tblPeriod := 0, tblMode := 0, tblTau := 0, tblValid := false, tblShown := false, snaps := [], episode := none
    kinkOpen := none, notice := none, tauWrites := [], dueCauses := 0, dueRows := [], coldStart := 0, coldEnd := none, coldK := 0, coldCode := 0
    seed := none, burstRun := 0, burstBegun := false, burstSeen := 0, queuedPrev := [], refC := #[], mon := []
    monCuts := [], monSince := 0, firstFrame := 0, lastFrame := none, revWait := [], kwNext := 0 }

def radCold : Rad := { bank0 := [], bank1 := [], active := false }

def caskCold : Cask := { img := none, replicas := List.replicate 5 none, checked := List.replicate 5 false, copying := false }

def casksCold : Casks :=
  { a := caskCold, b := caskCold, active := 0xFF, rack := none, load := none, save := none, force := none, reload := false
    shut := .unknown, cal := none, held := none, restore := none, lastAuto := none, decided := none, request := false }

/-- An engine at rest; `kink` is its kink register's offset. -/
def engCold (kink : Nat) : Eng :=
  { st := .idle, req := none, hold := none, restart := none, pc := 0, coil := 0, flags := 0, result := 0
    kinked := false, counted := false, gapRec := false, reason := 7, tStart := 0, tKink := 0, gridStart := 0
    hs := false, ls := false, phase := none, fetch := false, readyAt := 0, ran := false, reached := none, blankEnd := none, offSince := none
    onSince := 0, untimed := 0, last := 0, wait := none, samples := [], decided := 0, sampling := none, dmax := none
    cfg := resetVal Reg.COIL_CFG, kinkCfg := resetVal kink, gapStart := 0, gapAfterEnd := false
    endTick := none, stuck := false }

def coilCold : Coil := { a := engCold Reg.COIL_KINK_CFG_A, b := engCold Reg.COIL_KINK_CFG_B, filt := .unknown, metered := 0 }

def dieCold (present : Bool) : Die :=
  { present, powered := false, ready := false, withdrawn := false, draining := none, drainTo := 0, trained := false,
    sizeGb := 0, blindSeeded := false, previewAct := false, commitAct := false, nextRole := none, preparing := false, renewed := false,
    lastRun := none }

/-- `n` dies are present (R30); the default map is in force as version 1 (R213). -/
def rolCold (v : Variant) : Rol :=
  { dies := (List.range 5).map fun i => dieCold (i < v.dies)
    version := 1, map := defaultMap v, maps := [], pend := none, changeFrame := 0, moves := [], returned := [], failover := []
    rotFrom := none, rotPeriod := 0, rotWait := false, rotDies := [], before := none }

def celCold : Cel :=
  { stored := [], run := none, interrupted := none, replay := none, lastEnd := none, slots := [], repowered := false, trained := false, replayEnd := none }

def wayCold : Way :=
  { align := 0, lock := false, joined := false, frozen := false, censused := false, steppedDown := false, epoch := 0, position := 0, delayValid := false
    fTerm := 0, rate := 0, goodRun := 0, badRun := 0, lastUsable := 0, epochTick := none, seqs := [], acted := []
    sent := [], census := none, censusDue := false, loopTime := none, sendEnd := 0, waiting := [], foreign := none, lastSync := none }

def thmCold : Thm := { st := 0, up := [0, 0, 0], dn := [0, 0, 0], reading := 0, since := none, fresh := false }

def tolCold (v : Variant) : Tol :=
  { prof := resetProfile v, req := resetProfile v, runtime := 0, runtimeAt := 0, runtimeDue := false
    start := none, stop := none, stopping := none, setProf := none, budget := none, hist := []
    energy := 0, allowUj := 1000 * (resetVal Reg.TOL_ALLOW_MJ).toNat, allowOut := false, flatUnmet := false
    flatRun := 0, flatLast := none, capLimit := false, capOver := false, filler := [], flatSum := 0, coilUj := 0, alwaysOn := 0, devices := 0
    rho := 4096, xMeas := 0, xDies := 0, xSeen := false, xSeen10 := false, xAt := none, stepShape := [0, 0, 0, 0, 0], level := 0, levelDue := 0, levelAt := 0
    thm := List.replicate 7 thmCold, alert := false, crit := [], convAt := List.replicate 7 none }

def hkcCold : Hkc :=
  { conv := none, run := none, retrig := false, pend := false, group := none, heldHost := false, hostGroups := 0, coilGroupsA := 0
    coilGroupsB := 0, internalGroups := 0, queue := [], calDue := false, calRun := none, calAt := none, calTemp := none, groupAt := 0, next := none
    slice := none, trim := resetVal Reg.CAL_TRIM_HKC }

def nvCold : Nv :=
  { mem := [], writes := [], deferred := [], barred := false, heldIncs := [], rows := [], rowEnd := 0, heldMeta := none, trimsSeq := 0, logSeq := 0, passwordRead := 0
    passwordWrite := 0 }

def secCold : Sec :=
  { boot := .booting, bootDone := false, images := [none, none, none], fallback := false, trialBoot := false
    slots := List.replicate 3 (none, none), debugUnlocked := false, scope := 0, debugLockout := false, debugFails := 0, challenge := none
    trngFail := false, accel := 0, keccak := 0, pool := 0, poolOk := false, job := none, queue := [], chain := none, chainOver := false, chainStart := 0, msFirst := none, msLink := []
    msPrev := [], msSeq := 0, msDrops := 0, msQueue := [], msInterval := 0, msAbsorbed := [], msC0 := 0, msRun := 0, signed := none, bootTimes := [], factoryOk := false }

def bstCold : Bst :=
  { running := [], retry := [], runs := [], full := none, fullBad := false, bgNext := 0, bgLast := 0, bgWait := false
    egressLeft := 0, retiredIn := List.replicate 32 0 }

end Sys2Proof.Machine
end

