-- ==== Sys2Proof/Machine/State.lean ====
section
/-! DEFINITION. The state of the BM4030 as plain data: the register file, what the registers do not hold, the
queue of waiting commands, and what has left the block; its faults and refusals; and the state right after reset. -/

namespace Sys2Proof.Machine

open Sys2Proof

/-- Faults. `illFormed` is raised by every meaning whose operands name something the hardware does not have
(`Instr.wf` fails: a ninth channel, a sixth die, a descriptor that is not 64 bytes); it is a safe stop: the hardware
has no such input. -/
inductive Fault where
  | illFormed (mnemonic : String)
  deriving DecidableEq, Repr

/-- Refusals. `notModelled` stands only in arms of the dispatcher that have no meaning yet. It is safe: the run stops. -/
inductive Refusal where
  | notModelled (mnemonic : String)
  deriving DecidableEq, Repr

/-- The state of the block. -/
structure State where
  /-- which of the three variants the part is (R1); it never changes -/
  variant : Variant
  /-- commands waiting, first in first out -/
  pending : List Instr
  /-- device time in ticks (R57) and ticks elapsed since the PLL locked, which no step of R58 alters -/
  now : Nat
  mono : Nat
  /-- the model's own counter of free values drawn; nothing of the spec -/
  free : Nat
  /-- BAR0 register file: stored fields by offset (R6, R9, R443) -/
  regs : Tab Word
  /-- W1C bits the device set in the current tick (R11) -/
  fresh : Tab Word
  /-- the register file as the last tick left it: what a snapshot latches (R86) -/
  held : Tab Word
  /-- MSI-X table, word `j` of entry `v` at key `4 * v + j` (R443) -/
  msix : Tab Word
  /-- halves captured by reads of _LO registers (R7, R82, R117) -/
  cap : Tab Word
  /-- RO fields that a warm reset put to their reset value, each with what it would report: it reports that again once that has
  changed (R446, log 114) -/
  rested : List (Nat × Nat)
  /-- what has left the block, newest first -/
  outs : List Out
  /-- the PCIe link is in L1.2 (R24, R255, R311) -/
  linkL12 : Bool
  pow : Pow
  hif : Hif
  tmg : Tmg
  sen : Sen
  frames : List FrameW
  trs : Trs
  rad : Rad
  casks : Casks
  coil : Coil
  rol : Rol
  cel : Cel
  way : Way
  tol : Tol
  hkc : Hkc
  nv : Nv
  sec : Sec
  bst : Bst
  deriving DecidableEq, Repr

/-- The machine right after a cold reset (R437): the reset has ended, the main PLL has locked, device time is 0 and
RECALL has begun (log 5). The part is a BM4030-5 (log 4). Every register reads its reset value. -/
def State.reset : State :=
  { variant := .bm5, pending := [], now := 0, mono := 0, free := 0
    regs := [], fresh := [], held := [], msix := [], cap := [], rested := [], outs := [], linkL12 := false
    pow := powCold, hif := hifCold, tmg := tmgCold, sen := senCold, frames := [], trs := trsCold
    rad := radCold, casks := casksCold, coil := coilCold, rol := rolCold .bm5, cel := celCold, way := wayCold
    tol := tolCold .bm5, hkc := hkcCold, nv := nvCold, sec := secCold, bst := bstCold }

end Sys2Proof.Machine
end

