-- ==== Sys2Proof/WellFormed.lean ====
section
/-! DEFINITION. Which commands the hardware can be given: every operand lies in the width or the index range that the
manual gives it. A command outside these ranges is a thing the block has no wires for; its meaning is a fault. -/

namespace Sys2Proof

def u8 (v : Nat) : Bool := v < 2 ^ 8
def u16 (v : Nat) : Bool := v < 2 ^ 16
def u32 (v : Nat) : Bool := v < 2 ^ 32
def u64 (v : Nat) : Bool := v < 2 ^ 64

/-- A descriptor's header (R262). -/
def hdrOk (h : Hdr) : Bool := u32 h.tag && u64 h.resultAddr

/-- Profile fields of a descriptor (R270). -/
def profileReqOk (p : ProfileReq) : Bool :=
  u32 p.period && u8 p.x0 && u8 p.y0 && u8 p.w && u8 p.h && u8 p.fmt && u8 p.mode && u8 p.l && u8 p.preview

/-- Channels 0 to 7 (R274), dies 0 to 4 (R1), tile rows 0 to 47 (R42), vectors 0 to 8 that moderation serves (R285). -/
def chOk (ch : Nat) : Bool := ch < 8
def dieOk (n : Nat) : Bool := n < 5
def rowOk (r : Nat) : Bool := r < 48
def itemOk (i : ItemHdr) : Bool := rowOk i.row && u64 i.frame && u16 i.version

/-- A Waymark message's fields (R288). -/
def msgOk (m : RingMsg) : Bool :=
  m.typ < 16 && m.seq < 16 && m.origin < 16 && m.flags < 16 && m.body.length = 7 && m.body.all u8

/-- A register of BAR0 lies on a word boundary within 64 KiB (R6). -/
def offOk (off : Nat) : Bool := off < 0x10000

/-- A self-test slice by die code, unit and number (R333, R410). -/
def sliceOk (i : SliceId) : Bool := u8 i.die && u8 i.unit && i.slice < 32

/-- Is the command one that the hardware can be given? -/
def Instr.wf : Instr → Bool
  | .startStream h => hdrOk h
  | .stopStream h => hdrOk h
  | .setProfile h p frame => hdrOk h && profileReqOk p && u64 frame
  | .armTake h r => hdrOk h && u32 r.pre && u32 r.post && u32 r.extent && r.retrig < 2 && r.store < 2
  | .abortTake h => hdrOk h
  | .abortReplay h => hdrOk h
  | .replayTake h die take mode first count interval =>
      hdrOk h && u8 die && u8 take && u8 mode && u64 first && u32 count && u32 interval
  | .calibrate h kind flags capture => hdrOk h && u8 kind && u8 flags && u8 capture
  | .rackCask h cask frame => hdrOk h && u8 cask && u64 frame
  | .loadCask h cask addr _ => hdrOk h && u8 cask && u64 addr
  | .saveCask h cask addr => hdrOk h && u8 cask && u64 addr
  | .calAbort h => hdrOk h
  | .coilRun h coil entry => hdrOk h && u8 coil && u8 entry
  | .coilStop h coil entry => hdrOk h && u8 coil && u8 entry
  | .roleSet h expect handover frame map =>
      hdrOk h && u16 expect && u8 handover && u64 frame && map.length = 5 &&
        map.all fun e => u8 e.role && u8 e.first && u8 e.count
  | .energyPlan h p frames store => hdrOk h && profileReqOk p && u32 frames && u8 store
  | .setBudget h cap window allow flat mask => hdrOk h && u32 cap && u32 window && u32 allow && u32 flat && u8 mask
  | .bistRun h die unit slices => hdrOk h && u8 die && u8 unit && u32 slices
  | .nvRead h area offset length addr password =>
      hdrOk h && u8 area && u32 offset && u32 length && u64 addr && u64 password
  | .nvWrite h area offset length addr password _ =>
      hdrOk h && u8 area && u32 offset && u32 length && u64 addr && u64 password
  | .nvStoreTrims h => hdrOk h
  | .attest h nonce addr => hdrOk h && nonce.length = 32 && u64 addr
  | .fwStage h image length addr _ => hdrOk h && u8 image && u32 length && u64 addr
  | .fwCommit h image => hdrOk h && u8 image
  | .debugUnlockChallenge h addr => hdrOk h && u64 addr
  | .debugUnlockResponse h length addr _ => hdrOk h && u32 length && u64 addr
  | .cmdProd v => u32 v
  | .chBufProd ch v _ => chOk ch && u32 v
  | .cmpCons v => u32 v
  | .chScmpCons ch v => chOk ch && u32 v
  | .commandFetch desc _ => desc.length = 64
  | .interruptModerationTimeout vector => vector < 9
  | .registerWrite off _ _ => offOk off
  | .loRegisterRead a => offOk a.off
  | .senBiasWrite _ => true
  | .senQrefWrite _ => true
  | .senGridFrameLoRead => true
  | .senGridFrameHiRead => true
  | .gridFreezeTimeout => true
  | .settlingEnd => true
  | .tmgSyncConfigWrite off _ => [0x0804, 0x082C, 0x0830].contains off
  | .tmgTrigConfigWrite off _ => [0x0848, 0x084C].contains off
  | .pplRadDataWrite _ => true
  | .swap _ => true
  | .flush _ => true
  | .trsTauWrite off _ => [0x1C08, 0x1C0C].contains off
  | .calTrimWrite off _ => [0x2080, 0x2084, 0x2088, 0x208C, 0x2090].contains off || (0x2100 ≤ off && off < 0x21C0 && off % 4 = 0)
  | .coilUcodeWrite w _ => w < 128
  | .regGo => true
  | .injGo => true
  | .selfcal => true
  | .qFlush => true
  | .hkcQLoRead => true
  | .censusRequest => true
  | .userSend => true
  | .wayCfgWrite _ => true
  | .pstateRequest _ => true
  | .critHoldClear => true
  | .lock => true
  | .secMboxReqWrite _ => true
  | .cmdEn _ => true
  | .channelEnable ch v => chOk ch && v.getLsbD 0
  | .channelDisable ch v => chOk ch && !v.getLsbD 0
  | .glbIntSummaryWrite _ => true
  | .glbIntEnWrite _ => true
  | .busMasterEnableChange _ => true
  | .d3hotEntry => true
  | .powerOn => true
  | .rstNAssert => true
  | .rstNRelease => true
  | .vioLow => true
  | .vddHLow => true
  | .mgmtWatchdogExpire => true
  | .perstNAssert => true
  | .functionLevelReset => true
  | .linkUp speed width => 3 ≤ speed && speed ≤ 5 && [1, 2, 4, 8].contains width
  | .recallComplete us => u32 us
  | .bootComplete _ => true
  | .bootBistEnd => true
  | .pstateReached => true
  | .frameSnapshot _ => true
  | .intermediateSnapshot _ => true
  | .gridConversionDone readings => readings.length = 48
  | .readout die i => dieOk die && itemOk i
  | .halo die i part => dieOk die && itemOk i && 1 ≤ part && part ≤ 6
  | .state die i => dieOk die && itemOk i
  | .history die i => dieOk die && itemOk i
  | .backfeed die i => dieOk die && itemOk i
  | .control die _ => dieOk die
  | .misdeliveredItemReturn sender i => dieOk sender && itemOk i
  | .previewFrameComplete frame => u64 frame
  | .committedFrameComplete frame => u64 frame
  | .egressBufferAvailable ch => chOk ch
  | .recordTransferDone ch _ => chOk ch
  | .refInEdge t => u64 t
  | .refLossTimeout => true
  | .ltcFrame p _ _ _ => u64 p.start && u64 p.stop
  | .ltcLossTimeout => true
  | .trigInEdge t _ => u64 t
  | .triggerAccept => true
  | .takeTriggerFinal => true
  | .takeFinalise => true
  | .takeInterruptedClose => true
  | .replayRecordQueue => true
  | .cellarEccError die _ _ => dieOk die
  | .patrolScrub die corrected => dieOk die && u32 corrected
  | .trellisLinkFail die => dieOk die
  | .dieWatchdogMiss die => dieOk die
  | .diePrepared die sizeGb => dieOk die && u32 sizeGb
  | .replicaCheckDone die _ _ => dieOk die
  | .replicaRestore die cask => dieOk die && cask < 2
  | .roleSetReadyTimeout => true
  | .drainEnd die => dieOk die
  | .rotationDue => true
  | .loadCaskCopyDone => true
  | .saveCaskDone => true
  | .calibrationDecision _ => true
  | .calibrationCopyValid => true
  | .calAutoStart => true
  | .chopGridPoint _ => true
  | .coilCurrentAtTarget _ => true
  | .phase _ => true
  | .phaseDurationEnd _ => true
  | .waitKink _ => true
  | .waitKinkTimeout _ => true
  | .jumpIf _ => true
  | .setFlag _ => true
  | .endProfile _ => true
  | .illegalWord _ => true
  | .untimedLimit _ => true
  | .kinkSampleTrigger _ => true
  | .kinkWindowDecision _ => true
  | .coilOc _ => true
  | .gapEnd _ => true
  | .gapStuck _ => true
  | .hkcRegTimer => true
  | .hkcConversionComplete _ => true
  | .hkcHeldTriggerStart => true
  | .hkcSelfcalStart => true
  | .hkcSelfcalDone => true
  | .hkcSelfcalPeriod => true
  | .ledgerInterval act => act.dies.length = 5
  | .critNvResume => true
  | .throttleStepTimer => true
  | .xchkInterval => true
  | .powerOnHour => true
  | .logDeferredWrite => true
  | .signJobDone => true
  | .milestoneSigned => true
  | .debugChallengeExpire => true
  | .timeSync arrival field => arrival < 2 ^ 70 && field < 2 ^ 68
  | .timeSyncSend => true
  | .frameEpoch m => msgOk m
  | .ringTrigger m => msgOk m
  | .census m => msgOk m
  | .censusReply m => msgOk m
  | .censusTimeout => true
  | .delay m => msgOk m
  | .user m => msgOk m
  | .nack m => msgOk m
  | .censusReq m => msgOk m
  | .ringBadMessage chars _ => chars.length = 10
  | .ringLoopTimeout seq typ => seq < 16 && typ < 16
  | .ringLock => true
  | .masterConflictDecision => true
  | .alignHoldoverTimeout => true
  | .sliceEnd id count misr failed => sliceOk id && u64 count && u64 misr && u32 failed
  | .sliceRetry id => sliceOk id
  | .bgSliceTimer => true
  | .egressSliceBufferTimeout => true
  | .loadCaskCheckDone => true
  | .fwStageDone _ => true
  | .nvAccessDone => true
  | .ltcFreewheelEnd => true
  | .mixedDecayFastEnd _ => true
  | .coilBlankingEnd _ _ => true
  | .hkcTrimGroupTrigger => true
  | .perstNRelease => true
  | .supplyResetRelease => true
  | .linkDown => true
  | .d3hotExit => true
  | .trngHealthFail => true
  | .ringMessageReturn m => msgOk m
  | .ringLockLoss => true

end Sys2Proof
end

