-- ==== Sys2Proof/Machine/Ops.lean ====
section
/-! DEFINITION. The shared operations: registers and their fields, sticky bits, free values, what leaves the block,
the variant's resources, and how every command ends. -/

namespace Sys2Proof.Machine

open Sys2Proof

/-! ## Registers -/

/-- A register as it is stored (R9). Fields that reflect live state read 0 here; `State.readReg` gives those. -/
def State.reg (s : State) (off : Nat) : Word := tabGet resetVal s.regs off

/-- A register stored. -/
def State.setReg (s : State) (off : Nat) (v : Word) : State := { s with regs := tabSet resetVal s.regs off v }

/-- A register as a natural number. -/
def State.regN (s : State) (off : Nat) : Nat := (s.reg off).toNat

/-- A field out of a register's value. -/
def fldOf (v : Word) (f : Fld) : Nat := v.toNat / 2 ^ f.lo % 2 ^ f.wd

/-- A register's value with a field replaced; what does not fit the field is cut off. -/
def fldPut (v : Word) (f : Fld) (x : Nat) : Word :=
  let m : Word := BitVec.ofNat 32 ((2 ^ f.wd - 1) * 2 ^ f.lo)
  (v &&& ~~~m) ||| (BitVec.ofNat 32 (x * 2 ^ f.lo) &&& m)

def State.fld (s : State) (f : Fld) : Nat := fldOf (s.reg f.off) f

def State.flag (s : State) (f : Fld) : Bool := s.fld f != 0

def State.setFld (s : State) (f : Fld) (x : Nat) : State := s.setReg f.off (fldPut (s.reg f.off) f x)

/-- A 64-bit quantity held in a pair of registers (R7). -/
def State.setPair (s : State) (lo : Nat) (v : Nat) : State :=
  (s.setReg lo (BitVec.ofNat 32 v)).setReg (lo + 4) (BitVec.ofNat 32 (v / 2 ^ 32))

def State.pair (s : State) (lo : Nat) : Nat := s.regN lo + 2 ^ 32 * s.regN (lo + 4)

/-- The device sets a W1C bit; R11 remembers the tick. -/
def State.sticky (s : State) (f : Fld) : State :=
  let m : Word := BitVec.ofNat 32 (2 ^ f.lo)
  let s := s.setReg f.off (s.reg f.off ||| m)
  { s with fresh := tabSet (fun _ => 0) s.fresh f.off (tabGet (fun _ => 0) s.fresh f.off ||| m) }

/-- A sticky bit set where a condition holds. -/
def State.stickyIf (s : State) (c : Bool) (f : Fld) : State := if c then s.sticky f else s

/-- A 32-bit count goes up, wrapping. -/
def State.bump (s : State) (off : Nat) (n : Nat := 1) : State := s.setReg off (s.reg off + BitVec.ofNat 32 n)

/-- A count in a field goes up, wrapping in the field. -/
def State.bumpFld (s : State) (f : Fld) (n : Nat := 1) : State := s.setFld f (s.fld f + n)

/-- A number cut to the largest value of a 32-bit register. -/
def sat32 (n : Nat) : Nat := min n (2 ^ 32 - 1)

def State.setRegN (s : State) (off n : Nat) : State := s.setReg off (BitVec.ofNat 32 n)

/-- The masks of a register for a host write: stored bits and W1C bits (R9). -/
def rwMask (off : Nat) : Word := match regRow off with | some r => BitVec.ofNat 32 r.rw | none => 0
def w1cMask (off : Nat) : Word := match regRow off with | some r => BitVec.ofNat 32 r.w1c | none => 0
def keptMask (off : Nat) : Word := match regRow off with | some r => BitVec.ofNat 32 r.kept | none => 0

/-- The stored value after a host write of `v`: RW bits are set, W1C bits written 1 are cleared unless the device set
them in this tick (R9, R11). -/
def State.merged (s : State) (off : Nat) (v : Word) : Word :=
  let old := s.reg off
  let clr := v &&& w1cMask off &&& ~~~(tabGet (fun _ => 0) s.fresh off)
  ((old &&& ~~~(rwMask off)) ||| (v &&& rwMask off)) &&& ~~~clr

/-- A host write that no rule discards. -/
def State.hostSet (s : State) (off : Nat) (v : Word) : State := s.setReg off (s.merged off v)

/-! ## The part -/

def State.nDies (s : State) : Nat := s.variant.dies

/-- Most dies that may stripe (R30, R212). -/
def State.maxStripe (s : State) : Nat := match s.variant with | .bm2 => 2 | .bm3 => 3 | .bm5 => 4

def State.present (s : State) (n : Nat) : Bool := n < s.nDies

/-- An element of a list changed. -/
def modAt {α : Type} (l : List α) (i : Nat) (f : α → α) : List α :=
  match l, i with
  | [], _ => []
  | x :: t, 0 => f x :: t
  | x :: t, i + 1 => x :: modAt t i f

/-! ## Free values and output -/

/-- The next free value (log 6). -/
def State.freeVal (s : State) : Nat := Config.freeNat s.free

/-- The state after a free value was drawn. -/
def State.drew (s : State) : State := { s with free := s.free + 1 }

/-- Something leaves the block; what the link carries brings it out of L1.2 (R255). -/
def State.emit (s : State) (o : Out) : State := { s with outs := o :: s.outs, linkL12 := s.linkL12 && !o.onLink }

/-- A host access brings the link out of L1.2 (R311). -/
def State.woken (s : State) : State := { s with linkL12 := false }

/-- The host memory and MSI-X are reachable (R256, R438). -/
def State.busOk (s : State) : Bool := s.hif.busMaster && !s.hif.d3hot

/-- A write to host memory, which waits while no memory request may be issued (R256). -/
def State.post (s : State) (o : Out) : State :=
  if s.busOk then s.emit o else { s with hif.heldOuts := s.hif.heldOuts ++ [o] }

/-- The writes that waited are made, oldest first. -/
def State.flushPosts (s : State) : State :=
  let os := s.hif.heldOuts
  os.foldl (fun s o => s.emit o) { s with hif.heldOuts := [] }

/-- Does an access of `len` bytes of host memory from `addr` fail (R268, log 109)? -/
def State.hostBad (s : State) (addr len : Nat) : Bool :=
  s.hif.badHost.any fun (a, n) => decide (a < addr + len) && decide (addr < a + n)

/-- What an MSI-X table word reads as before it is written: every vector masked (log 8). -/
def msixDflt (k : Nat) : Word := if k % 4 = 3 then 1 else 0

/-- Is vector `v` masked in the MSI-X table (R443)? -/
def State.vecMasked (s : State) (v : Nat) : Bool := (tabGet msixDflt s.msix (4 * v + 3)).getLsbD 0

/-- A vector is signalled, or becomes pending while it is masked or Bus Master Enable is 0 (R256, R285). -/
def State.signal (s : State) (v : Nat) : State :=
  if !s.hif.msixEnabled then s
  else if s.busOk && !s.vecMasked v then s.emit (.msix v)
  else if s.hif.pendingVectors.contains v then s
  else { s with hif.pendingVectors := s.hif.pendingVectors ++ [v] }

/-- Pending vectors that can be signalled now are. -/
def State.flushVectors (s : State) : State :=
  let ps := s.hif.pendingVectors
  ps.foldl (fun s v => s.signal v) { s with hif.pendingVectors := [] }

/-! ## The interrupt summary (R445) -/

/-- The registers whose W1C fields are the sticky sources of block `b` (R444). -/
def intSources (b : Nat) : List Nat :=
  match b with
  | 0 => [Reg.GLB_EVENT]
  | 1 => Reg.HIF_STATUS :: (List.range 8).map Reg.HIF_CH_STATUS
  | 2 => [Reg.TMG_STATUS]
  | 3 => [Reg.SEN_STATUS]
  | 4 => [Reg.PPL_STATUS]
  | 5 => [Reg.TRS_STATUS]
  | 6 => [Reg.CAL_STATUS]
  | 7 => [Reg.CEL_STATUS]
  | 8 => [Reg.ROL_STATUS, Reg.ROL_FAULT]
  | 9 => [Reg.TOL_STATUS, Reg.TOL_PSTATE]
  | 10 => [Reg.THM_STATUS]
  | 11 => [Reg.HKC_STATUS]
  | 12 => [Reg.COIL_STATUS, Reg.COIL_OC]
  | 13 => [Reg.NVS_STATUS]
  | 14 => [Reg.BST_STATUS]
  | 15 => [Reg.SEC_STATUS]
  | 16 => [Reg.WAY_STATUS]
  | _ => []

/-- RAW_b of every block (R445 item 1). -/
def State.intRaw (s : State) : Word :=
  BitVec.ofNat 32 (sumN ((List.range 17).map fun b =>
    if (intSources b).any (fun o => s.reg o &&& w1cMask o != 0) then 2 ^ b else 0))

/-- The device sets SUMMARY_b where RAW_b and EN_b are both 1, and signals vector 9 when SUMMARY leaves zero
(R445 items 2 and 5). -/
def State.refreshSummary (s : State) : State :=
  let old := s.reg Reg.GLB_INT_SUMMARY
  let new := old ||| (s.intRaw &&& s.reg Reg.GLB_INT_EN)
  let t := s.setReg Reg.GLB_INT_SUMMARY new
  if old == 0 && new != 0 then t.signal 9 else t

/-! ## The NV store's memory -/

/-- What an unlisted byte of the NV store reads as: what manufacture wrote to FACTORY and BIST_REF (R359, R408), else zero
(log 19, log 20). -/
def nvDflt (a : Nat) : Byte := if a < 0x4000 ∨ (0x20000 ≤ a ∧ a < 0x40000) then Config.factoryByte a else 0

/-- The canonical form of the NV store's memory: addresses strictly rising, all of them above FACTORY and inside the
512 KiB of the store (R357, R359), no byte equal to what its address reads as when unlisted. -/
def Memory.wf (m : Tab Byte) : Bool := tabWf nvDflt m && m.all fun e => 0x4000 ≤ e.1 && e.1 < 0x80000

/-- The committed writes: only bytes of the store above FACTORY change (R359). -/
def nvApply : Tab Byte → List (Nat × List Byte) → Tab Byte
  | m, [] => m
  | m, (a, b) :: t => nvApply (if 0x4000 ≤ a ∧ a + b.length ≤ 0x80000 then tabPutBytes nvDflt m a b else m) t

/-- The NV store's memory with the writes of the command in progress. -/
def State.nvMem (s : State) : Tab Byte := nvApply s.nv.mem s.nv.writes

/-- `n` bytes of the NV store from address `a`. -/
def State.nvBytes (s : State) (a n : Nat) : List Byte := tabBytes nvDflt s.nvMem a n

/-- A write to the NV store is put with those the command commits when it ends; nothing of FACTORY is ever written
(R359). -/
def State.nvPut (s : State) (a : Nat) (b : List Byte) : State := { s with nv.writes := s.nv.writes ++ [(a, b)] }

/-! ## How every command ends -/

/-- The RO fields with a stated reset value that follow the state (R446): held log entries, the version of the running management
image, the throttle level, the powered P dies, and the frame of a pending map change. -/
abbrev Rested.deferred : Nat := 0
abbrev Rested.version : Nat := 1
abbrev Rested.level : Nat := 2
abbrev Rested.powered : Nat := 3
abbrev Rested.pendFrame : Nat := 4

/-- What such a field follows. -/
def State.followed (s : State) (i : Nat) : Nat :=
  match i with
  | 0 => s.nv.deferred.length
  | 1 => match s.sec.images.getD 0 none with
    | some (v, _, _, _) => v
    | none => 0
  | 2 => s.tol.level
  | 4 => match s.rol.pend with | some c => max c.frame s.tmg.frame | none => 0
  | _ => sumN ((List.range s.rol.dies.length).map fun n => 2 ^ n * b2n ((s.rol.dies.map fun d => d.powered).getD n false))

/-- What such a field reads as: its reset value from a warm reset until it changes (R446, log 114). -/
def State.reported (s : State) (i : Nat) : Nat := if s.rested.any (·.1 = i) then 0 else s.followed i

/-- A field whose state has changed reports it again. -/
def State.stillRested (s : State) : List (Nat × Nat) := s.rested.filter fun e => s.followed e.1 = e.2

/-- What no meaning can change: the variant, the queue, elapsed time; and the NV store only by its committed writes.
The interrupt summary follows every command (R445: it is set in every tick in which it is due). -/
def commit (s t : State) : State :=
  State.refreshSummary
    { t with
      variant := s.variant
      pending := s.pending
      mono := s.mono
      rested := t.stillRested
      nv := { t.nv with mem := nvApply s.nv.mem t.nv.writes, writes := [] } }

/-- A command whose operands are all things the hardware has. In OFF nothing acts: no register is served and every state
machine stands still (R309). -/
def run (f : State → State) (s : State) : Host.Outcome State Fault Refusal :=
  .next (if s.pow.st = .off then s else commit s (f s))

/-- A command of the supplies and reset pins, which act in OFF too. A cold reset starts elapsed time anew (R437). -/
def runPower (f : State → State) (s : State) : Host.Outcome State Fault Refusal :=
  .next { commit s (f s) with mono := (f s).mono }

/-- A command with operands to check: an operand that names nothing the hardware has is a fault (log 3). -/
def runIf (mnemonic : String) (ok : Bool) (f : State → State) (s : State) : Host.Outcome State Fault Refusal :=
  if ok then run f s else .fault (.illFormed mnemonic)

end Sys2Proof.Machine
end

