-- ==== Sys2Proof/Machine/Rings.lean ====
section
/-! DEFINITION. The host rings (chapter 10): accepting and completing commands, moderation of interrupts, the egress
pool, and the records of the stream channels. -/

namespace Sys2Proof.Machine

open Sys2Proof

/-! ## Status codes (R267) and reasons (R268) -/

abbrev St.ok : Nat := 0x00
abbrev St.abortLate : Nat := 0x01
abbrev St.aborted : Nat := 0x02
abbrev St.overBudget : Nat := 0x03
abbrev St.admitReduced : Nat := 0x04
abbrev St.shutterUnconfirmed : Nat := 0x05
abbrev St.sceneNotUniform : Nat := 0x06
abbrev St.agreeFail : Nat := 0x07
abbrev St.trimImplausible : Nat := 0x08
abbrev St.nvBusy : Nat := 0x09
abbrev St.nvLocked : Nat := 0x0A
abbrev St.misdelivered : Nat := 0x0B
abbrev St.busy : Nat := 0x0C
abbrev St.badParam : Nat := 0x0D
abbrev St.authFail : Nat := 0x0E

abbrev Why.none : Nat := 0
abbrev Why.hostAbort : Nat := 1
abbrev Why.power : Nat := 2
abbrev Why.withdrawn : Nat := 3
abbrev Why.invalidated : Nat := 4
/-- No single field at fault, and a failed host-memory access (R268). -/
abbrev Why.noField : Nat := 0xFF
abbrev Why.hostMemory : Nat := 0xFE

/-- All ones in a 64-bit VALUE. -/
abbrev allOnes : Nat := 2 ^ 64 - 1

/-- Opcodes of R270. -/
abbrev Op.startStream : Nat := 0x01
abbrev Op.stopStream : Nat := 0x02
abbrev Op.setProfile : Nat := 0x03
abbrev Op.armTake : Nat := 0x10
abbrev Op.abortTake : Nat := 0x11
abbrev Op.replayTake : Nat := 0x12
abbrev Op.calibrate : Nat := 0x20
abbrev Op.rackCask : Nat := 0x21
abbrev Op.loadCask : Nat := 0x22
abbrev Op.saveCask : Nat := 0x23
abbrev Op.calAbort : Nat := 0x24
abbrev Op.coilRun : Nat := 0x30
abbrev Op.roleSet : Nat := 0x40
abbrev Op.energyPlan : Nat := 0x50
abbrev Op.setBudget : Nat := 0x51
abbrev Op.bistRun : Nat := 0x60
abbrev Op.nvRead : Nat := 0x70
abbrev Op.nvWrite : Nat := 0x71
abbrev Op.nvStoreTrims : Nat := 0x72
abbrev Op.attest : Nat := 0x80
abbrev Op.fwStage : Nat := 0x81
abbrev Op.fwCommit : Nat := 0x82
abbrev Op.debugUnlock : Nat := 0x83

/-! ## Indices (R258) -/

/-- Distance from one free-running 16-bit index to another. -/
def idxDist (fromIdx toIdx : Nat) : Nat := (toIdx + 65536 - fromIdx % 65536) % 65536

def State.cmdSize (s : State) : Nat := 2 ^ s.fld Fld.HIF_RING_CFG_CMD_LOG2
def State.cmpSize (s : State) : Nat := 2 ^ s.fld Fld.HIF_RING_CFG_CMP_LOG2
def State.bufSize (s : State) (n : Nat) : Nat := 2 ^ s.fld (Fld.HIF_CH_CTRL_BUF_LOG2 n)
def State.scmpSize (s : State) (n : Nat) : Nat := 2 ^ s.fld (Fld.HIF_CH_CTRL_SCMP_LOG2 n)
def State.cmdRun (s : State) : Bool := s.flag Fld.HIF_CTRL_CMD_EN
def State.chanOn (s : State) (n : Nat) : Bool := s.flag (Fld.HIF_CH_CTRL_ENABLE n)

/-- Where entry `i` of a ring of 2^log2 entries of `size` bytes lies in host memory (R257, R258). -/
def State.slotAddr (s : State) (base log2 size i : Nat) : Nat := s.pair base + size * (i % 2 ^ log2)

/-- Descriptor `i` of the command ring. -/
def State.cmdAddr (s : State) (i : Nat) : Nat := s.slotAddr Reg.HIF_CMD_BASE_LO (s.fld Fld.HIF_RING_CFG_CMD_LOG2) 64 i

/-- Entry `i` of the completion ring. -/
def State.cmpAddr (s : State) (i : Nat) : Nat := s.slotAddr Reg.HIF_CMP_BASE_LO (s.fld Fld.HIF_RING_CFG_CMP_LOG2) 16 i

/-- Entry `i` of channel `n`'s stream completion ring. -/
def State.scmpAddr (s : State) (n i : Nat) : Nat :=
  s.slotAddr (Reg.HIF_CH_SCMP_BASE_LO n) (s.fld (Fld.HIF_CH_CTRL_SCMP_LOG2 n)) 32 i

def State.chan (s : State) (n : Nat) : Chan := s.hif.chans.getD n chanIdle

def State.setChan (s : State) (n : Nat) (c : Chan) : State :=
  { s with hif.chans := modAt s.hif.chans n fun _ => c }

/-! ## Interrupt moderation (R285) -/

/-- Is a ring's vector due? `count` and `time` are its moderation register's fields, `ticks` the ticks at which its
unconsumed entries were written, oldest first. -/
def modDue (count time : Nat) (ticks : List Nat) (lastDoorbell : Nat) (signalled : Bool) (now : Nat) : Bool :=
  match ticks with
  | [] => false
  | oldest :: _ => !signalled && (count ≤ ticks.length || max oldest lastDoorbell + 250 * time ≤ now)

/-- The completion ring's vector is signalled if it is due. -/
def State.modCmp (s : State) : State :=
  if modDue (s.fld Fld.HIF_CMP_MOD_COUNT) (s.fld Fld.HIF_CMP_MOD_TIME) s.hif.cmpTicks s.hif.cmpLastDoorbell
      s.hif.cmpSignalled s.mono then
    State.signal { s with hif.cmpSignalled := true } 0
  else s

/-- The vector of channel `n`'s stream completion ring is signalled if it is due. -/
def State.modChan (s : State) (n : Nat) : State :=
  let c := s.chan n
  if modDue (s.fld (Fld.HIF_CH_MOD_COUNT n)) (s.fld (Fld.HIF_CH_MOD_TIME n)) c.entryTicks c.lastDoorbell c.signalled
      s.mono then
    (s.setChan n { c with signalled := true }).signal (n + 1)
  else s

/-! ## Commands: acceptance and completion -/

/-- Commands outstanding: accepted, and their completion entries not yet written (R263). -/
def State.outCount (s : State) : Nat := s.hif.outstanding.length + s.hif.held.length

/-- Outstanding commands of an opcode (R264). -/
def State.outOf (s : State) (op : Nat) : Nat :=
  (s.hif.outstanding.filter (·.opcode = op)).length + (s.hif.held.filter (·.1.opcode = op)).length

/-- Has no command been accepted in this tick? At most one is, so that acceptance ticks strictly increase (R263). -/
def State.tickFree (s : State) : Bool := match s.hif.lastAccept with | some a => !tickLe s.now a | none => true

/-- The limits on accepting a command (R263). -/
def State.canAccept (s : State) (fence : Bool) : Bool :=
  s.tickFree && s.outCount < 64 && s.outCount + 1 + idxDist s.hif.cmpCons s.hif.cmpProd ≤ s.cmpSize && (!fence || s.outCount = 0)

/-- A completion entry goes to host memory after its result block, then the vector (R261, R265, R266). -/
def State.putCompletion (s : State) (e : CmpEntry) (addr : Nat) (block : Option (List Byte)) : State :=
  let s := match block with
    | some b => s.emit (.result addr (padTo 64 b))
    | none => s
  let ph := s.hif.cmpProd / s.cmpSize % 2 = 0
  let at_ := s.cmpAddr s.hif.cmpProd
  let s := s.emit (.completion { e with phase := ph, resultWritten := block.isSome, addr := at_ })
  let s := s.stickyIf (s.hostBad at_ 16 || (block.isSome && s.hostBad addr 64)) Fld.HIF_STATUS_DMA_ERR
  State.modCmp { s with
    hif.cmpProd := (s.hif.cmpProd + 1) % 65536
    hif.cmpTicks := s.hif.cmpTicks ++ [s.mono] }

/-- VALUE of a command that ends without its effect, where R270 states one whatever the end: no frame of a take, no frame queued,
no generation, no kink, nothing transferred (log 109). -/
def lostValue (op : Nat) : Option Nat :=
  match op with
  | 0x11 => some allOnes
  | 0x12 => some 0
  | 0x20 => some 0
  | 0x24 => some 0
  | 0x30 => some allOnes
  | 0x70 => some 0
  | 0x71 => some 0
  | _ => none

/-- Bytes that an opcode's result block assigns, 0 for one without a block (R270). -/
def blockSize (op : Nat) : Nat :=
  match op with
  | 0x01 => 12
  | 0x03 => 12
  | 0x10 => 34
  | 0x30 => 17
  | 0x40 => 2
  | 0x60 => 64
  | _ => 0

/-- An outstanding command completes. `value = none`: the manual states no VALUE for this end of the command, and it
is a free value (log 6). A command lost at a warm reset completes without an entry (R273). -/
def State.complete (s : State) (cid status reason : Nat) (value : Option Nat) (block : Option (List Byte)) : State :=
  match s.hif.outstanding.find? (·.cid = cid) with
  | none => s
  | some c =>
    let v := match value with | some v => v % 2 ^ 64 | none => s.freeVal % 2 ^ 64
    let s := match value with | some _ => s | none => s.drew
    let block := if status = St.badParam ∨ status = St.busy ∨ c.resultAddr = 0 then none else block
    let e : CmpEntry := { tag := c.tag, opcode := c.opcode, status, reason, phase := false, resultWritten := false,
                          value := v, addr := 0 }
    let s := State.stickyIf { s with hif.outstanding := s.hif.outstanding.filter (·.cid ≠ cid) }
      (decide (status = St.badParam ∧ reason = Why.hostMemory)) Fld.HIF_STATUS_DMA_ERR
    if s.busOk then s.putCompletion e c.resultAddr block
    else { s with hif.held := s.hif.held ++ [(e, c.resultAddr, block)] }

/-- The result block of a command that ends without effect (R266): the manual states no content for that end, so the bytes that the
opcode assigns are free (log 109). -/
def State.lostBlock (s : State) (op : Nat) : Option (List Byte) :=
  if blockSize op = 0 then none
  -- ARM_TAKE assigns no bytes from 0x01 to 0x07
  else if op = 0x10 then some (leBytes 1 s.freeVal ++ leBytes 7 0 ++ leBytes 26 (s.freeVal / 256))
  else some (leBytes (blockSize op) s.freeVal)

/-- A command that ends without effect. -/
def State.fail (s : State) (cid status reason : Nat) : State :=
  match s.hif.outstanding.find? (·.cid = cid) with
  | none => s
  | some c => s.drew.complete cid status reason (lostValue c.opcode) (s.lostBlock c.opcode)

/-- A command whose data could not be written to host memory (R268): `len` bytes at `addr`. The others are written, and `body` ends
the command. -/
def State.writeOut (s : State) (cid addr len : Nat) (o : Out) (body : State → State) : State :=
  let s := s.post o
  if s.hostBad addr len then s.fail cid St.badParam Why.hostMemory else body s

/-- Completions held while memory requests were barred are written (R256). -/
def State.flushHeld (s : State) : State :=
  let hs := s.hif.held
  hs.foldl (fun s (e, a, b) => s.putCompletion e a b) { s with hif.held := [] }

/-- The acceptance tick of a command decoded now (R263). -/
def State.nextAccept (s : State) : Nat := s.now

/-- Acceptance of a command (R263): it becomes outstanding under a serial number, and `body` does the rest. A command
that the limits keep waiting is not accepted and changes nothing (log 2). -/
def State.accept (s : State) (h : Hdr) (op : Nat) (body : State → Nat → State) : State :=
  if s.canAccept h.fence then
    let cid := s.hif.nextCid
    let c : OutCmd :=
      { cid, tag := h.tag, opcode := op, resultAddr := h.resultAddr, accept := s.nextAccept, job := .none }
    body { s with hif.nextCid := cid + 1, hif.outstanding := s.hif.outstanding ++ [c], hif.lastAccept := some c.accept } cid
  else s

/-- RESULT_ADDR must be 64-byte-aligned (R262). -/
def hdrBad (h : Hdr) : Bool := h.resultAddr % 64 != 0

/-- The commands that recovery mode accepts (R388). -/
def recoveryOps : List Nat := [Op.fwStage, Op.fwCommit, Op.attest, Op.nvRead]

/-- The first field at fault: profile fields before any other check (R271), then RESULT_ADDR (R262), then the parameters. -/
def firstBad (profile : Option Nat) (h : Hdr) (bad : Option Nat) : Option Nat :=
  match profile with
  | some off => some off
  | none => if hdrBad h then some 0x08 else bad

/-- Acceptance with the checks every command has: in recovery mode the other commands end with BUSY (R388); the first
parameter field at fault ends it with BAD_PARAM, and the limit of R264 on outstanding commands of its opcode with BUSY (log 9: in
this order). `profile` is the profile field at fault, which is judged first (R271); `value` is the VALUE of a refused command. -/
def State.acceptCmd (s : State) (h : Hdr) (op limit : Nat) (bad : State → Option Nat) (body : State → Nat → State)
    (profile : Option Nat := none) (value : Option Nat := lostValue op) : State :=
  let refuse := fun (s : State) (cid status reason : Nat) => s.complete cid status reason value none
  s.accept h op fun s cid =>
    if s.sec.boot = .recovery && !recoveryOps.contains op then refuse s cid St.busy Why.none
    else match firstBad profile h (bad s) with
    | some off => refuse s cid St.badParam off
    | none => if limit < s.outOf op then refuse s cid St.busy Why.none else body s cid

def State.setJob (s : State) (cid : Nat) (j : Job) : State :=
  { s with hif.outstanding := s.hif.outstanding.map fun c => if c.cid = cid then { c with job := j } else c }

/-- The acceptance tick of an outstanding command. -/
def State.acceptTick (s : State) (cid : Nat) : Nat :=
  match s.hif.outstanding.find? (·.cid = cid) with | some c => c.accept | none => s.now

/-! ## The egress pool (R281) -/

def poolSize : Nat := 2048

/-- Buffers held by channels, by a self-test slice, or retired (R281, R414, R415). -/
def State.poolHeld (s : State) : Nat :=
  sumN (s.hif.chans.map (·.used)) + s.hif.retired + s.hif.sliceHeld

def State.poolFree (s : State) : Nat := poolSize - s.poolHeld

def State.rsv (s : State) (n : Nat) : Nat := s.fld (Fld.HIF_POOL_RSV_BUFFERS n)
def State.capOf (s : State) (n : Nat) : Nat := s.fld (Fld.HIF_POOL_CAP_BUFFERS n)

/-- The reserves that other channels have not used: Σ max(0, RSV_m − used_m) over m ≠ n. -/
def State.otherRsv (s : State) (n : Nat) : Nat :=
  sumN (((List.range 8).filter (· ≠ n)).map fun m => s.rsv m - (s.chan m).used)

/-- May channel `n`, holding `used` buffers with `free` unheld, take `k` more one after another (R281)? -/
def State.canTake (s : State) (n : Nat) : Nat → Nat → Nat → Bool
  | _, _, 0 => true
  | used, free, k + 1 =>
    0 < free && (used < s.rsv n || (used < s.capOf n && s.otherRsv n < free)) && s.canTake n (used + 1) (free - 1) k

def State.mayTake (s : State) (n k : Nat) : Bool := s.canTake n (s.chan n).used s.poolFree k

/-- MIN_FREE keeps the least FREE (R286). -/
def State.noteFree (s : State) : State :=
  s.setFld Fld.HIF_POOL_FREE_MIN_FREE (min (s.fld Fld.HIF_POOL_FREE_MIN_FREE) s.poolFree)

/-- Channel `n` takes `k` buffers. -/
def State.take (s : State) (n k : Nat) : State :=
  let c := s.chan n
  State.noteFree (s.setChan n { c with used := c.used + k })

def State.release (s : State) (n k : Nat) : State :=
  let c := s.chan n
  s.setChan n { c with used := c.used - k }

/-! ## Records (R276 to R283) -/

/-- A record is dropped: counted, flagged, and reported in the next stream completion (R282). -/
def State.dropRec (s : State) (n : Nat) (r : Rec) : State :=
  let c := s.chan n
  let s := s.setChan n { c with dropsSince := min (c.dropsSince + 1) (2 ^ 32 - 1) }
  let s := (s.bump (Reg.HIF_CH_DROP_COUNT n)).sticky (Fld.HIF_CH_STATUS_DROP_SEEN n)
  if n = 0 ∧ r.typ = 0 then { s with hif.gap := true } else s

/-- The rules a buffer descriptor keeps (R275). -/
def BufDesc.ok (b : BufDesc) : Bool :=
  b.addr % 4096 = 0 && b.len % 4096 = 0 && 4096 ≤ b.len && b.len ≤ 2 ^ 31 && b.reserved = 0

/-- How many posted buffers a record of `len` bytes takes, if they are enough (R276); a descriptor that breaks R275's rules ends the
count, for the device checks it when it first uses it, and the record takes what it has reached. -/
def bufsFor : List BufDesc → Nat → Option Nat
  | _, 0 => some 0
  | [], _ + 1 => none
  | b :: t, len + 1 => if len + 1 ≤ b.len || !BufDesc.ok b then some 1 else (bufsFor t (len + 1 - b.len)).map (· + 1)
termination_by structural l => l

/-- Pool buffers that a small record takes; RETRACT records stand outside the pool (R283). -/
def Rec.poolNeed (r : Rec) : Nat := if r.typ = 2 then 0 else ceilDiv r.len 4096

/-- Free stream completion entries (R282). -/
def State.scmpFree (s : State) (n : Nat) : Nat :=
  let c := s.chan n
  s.scmpSize n - idxDist c.scmpCons c.scmpProd - (if c.xfer.isSome then 1 else 0)

/-- A record's transfer starts if its buffers are valid; else the channel halts and the record is dropped (R275). -/
def State.startXfer (s : State) (n : Nat) (r : Rec) (held : Nat) : State :=
  let c := s.chan n
  match bufsFor c.bufs r.len with
  | none => s
  | some k =>
    if (c.bufs.take k).all BufDesc.ok then
      s.setChan n { c with
        xfer := some { record := r, first := c.bufCons, count := k, held, bufs := c.bufs.take k }
        bufs := c.bufs.drop k
        bufCons := (c.bufCons + k) % 65536 }
    else
      let s := s.setChan n { c with halted := true, used := c.used - held }
      (s.sticky (Fld.HIF_CH_STATUS_BUF_ERR n)).dropRec n r

/-- The oldest waiting record of a channel starts its transfer once buffers and an entry are free (R283). -/
def State.pump (s : State) (n : Nat) : State :=
  let c := s.chan n
  match c.queue with
  | [] => s
  | r :: t =>
    if c.xfer.isNone && !c.halted && s.busOk && 0 < s.scmpFree n && (bufsFor c.bufs r.len).isSome then
      (s.setChan n { c with queue := t }).startXfer n r r.poolNeed
    else s

/-- A record that waits whole in the pool arises (R283): on a halted channel it waits there too. Channel 4 never drops: its
sender waits. -/
def State.formRec (s : State) (n : Nat) (r : Rec) : State :=
  let c := s.chan n
  if !s.chanOn n || c.discard then s.dropRec n r
  else if r.typ = 2 ∧ 16 ≤ (c.queue.filter (·.typ = 2)).length then
    (((s.setChan n { c with discard := true }).sticky (Fld.HIF_CH_STATUS_RETRACT_LOST n))).dropRec n r
  else if s.mayTake n r.poolNeed then
    let s := s.take n r.poolNeed
    (s.setChan n { s.chan n with queue := (s.chan n).queue ++ [r] }).pump n
  else s.dropRec n r

/-- Is a FRAME record on channel 0, 1 or 5 dropped at its issue (R282, R256)? -/
def State.issueDrops (s : State) (n : Nat) (r : Rec) : Bool :=
  let c := s.chan n
  let ahead := sumN (c.queue.map fun q => (bufsFor c.bufs q.len).getD 0)
  !s.chanOn n || c.halted || c.discard || !s.busOk || c.xfer.isSome || s.scmpFree n ≤ c.queue.length ||
    (bufsFor (c.bufs.drop ahead) r.len).isNone || (n = 1 && !c.queue.isEmpty)

/-- A FRAME record is issued: its transfer starts or it is dropped whole (R282). A frame in transit holds one pool
buffer; without one its transfer is paused (log 10). -/
def State.issue (s : State) (n : Nat) (r : Rec) : State :=
  if s.issueDrops n r then s.dropRec n r
  else
    let h := if s.mayTake n 1 then 1 else 0
    let s := (s.take n h).startXfer n r h
    if n = 0 ∧ (s.chan n).xfer.isSome then { s with hif.gap := false } else s

/-- The stream completion of a record (R278). -/
def scmpOf (n : Nat) (x : Transfer) (c : Chan) (size addr : Nat) : ScmpEntry :=
  { ch := n, frame := x.record.frame, len := x.record.len, bufFirst := x.first, bufCount := x.count,
    typ := x.record.typ, phase := c.scmpProd / size % 2 = 0, drops := c.dropsSince != 0,
    missing := x.record.missing, last := x.record.last, subtype := x.record.subtype, dropped := c.dropsSince,
    detail := x.record.detail, addr }

/-- A record's transfer ends: data first, then its stream completion, then the vector (R261, R278). -/
def State.finishXfer (s : State) (n : Nat) (dmaError : Bool) : State :=
  let c := s.chan n
  match c.xfer with
  | none => s
  | some x =>
    if dmaError then
      let lost := if x.record.typ = 0 then (x.record.frame :: c.lost).take 8 else c.lost
      let s := s.setChan n { c with xfer := none, halted := true, used := c.used - x.held, lost }
      (s.sticky (Fld.HIF_CH_STATUS_DMA_ERR n)).dropRec n x.record
    else
      let e := scmpOf n x c (s.scmpSize n) (s.scmpAddr n c.scmpProd)
      let s := (s.post (.record n x.record x.bufs)).post (.scmp e)
      let s := s.setChan n { c with
        xfer := none, used := c.used - x.held, dropsSince := 0
        scmpProd := (c.scmpProd + 1) % 65536
        entryTicks := c.entryTicks ++ [s.mono] }
      (s.modChan n).pump n

/-- Everything waiting on a channel is discarded and counted (R280). -/
def State.discardQueue (s : State) (n : Nat) : State :=
  let c := s.chan n
  let s := s.setChan n { c with queue := [], used := c.used - sumN (c.queue.map Rec.poolNeed) }
  c.queue.foldl (fun s r => s.dropRec n r) s

/-- The newest frame snapshotted. -/
def State.newest (s : State) : Nat := s.tmg.frame - 1

/-- An EVENT record (R279): envelope and payload, on channel `ch`. -/
def eventRec (frame tick typ : Nat) (payload : List Byte) : Rec :=
  { typ := 4, frame, subtype := typ, len := 16 + payload.length,
    payload := leBytes 2 typ ++ leBytes 2 0 ++ leBytes 4 payload.length ++ leBytes 8 tick ++ payload,
    last := false, missing := false, detail := 0 }

/-- An EVENT record on channel 3 for something that occurs now (R279). -/
def State.event (s : State) (typ : Nat) (payload : List Byte) : State :=
  s.formRec 3 (eventRec s.newest s.now typ payload)

/-- The code of a power state in TOL_PSTATE (R334). -/
def stateCode : PState → Nat
  | .off => 0
  | .recall => 1
  | .standby => 2
  | .keepWarm => 3
  | .ready => 4
  | .stream => 5
  | .take => 6

/-- The power state changes: TOL_PSTATE.CUR, PSTATE_CHG and a PSTATE record (R310, R333, R444). -/
def State.goState (s : State) (p : PState) : State :=
  if s.pow.st = p then s
  else
    let old := stateCode s.pow.st
    -- only STANDBY and KEEP_WARM hold the link in L1.2 (R24)
    let rest : Bool := decide (p = .standby ∨ p = .keepWarm)
    -- the rotation period starts anew in READY (R230)
    let from_ := if p = .ready then none else s.rol.rotFrom
    State.event (State.sticky { s with pow.st := p, linkL12 := s.linkL12 && rest, rol.rotFrom := from_ } Fld.GLB_EVENT_PSTATE_CHG) 0x0106
      (leBytes 1 old ++ leBytes 1 (stateCode p) ++ leBytes 6 0)

/-- A record of another type. -/
def plainRec (typ frame : Nat) (payload : List Byte) : Rec :=
  { typ, frame, subtype := 0, len := payload.length, payload, last := false, missing := false, detail := 0 }

/-- Does a channel still hold a record of this type and frame? -/
def Chan.holds (c : Chan) (typ frame : Nat) : Bool :=
  (match c.xfer with | some x => x.record.typ = typ && x.record.frame = frame | none => false) ||
    c.queue.any fun r => r.typ = typ && r.frame = frame

/-- Completions whose record has left its channel are written (R272). -/
def State.settleAfter (s : State) : State :=
  let as := s.hif.after
  as.foldl (fun s a =>
      if (s.chan a.ch).holds a.typ a.frame then { s with hif.after := s.hif.after ++ [a] }
      else State.complete { s with cel.replayEnd := if a.ch = 4 then some s.mono else s.cel.replayEnd } a.cid a.status a.reason a.value none)
    { s with hif.after := [] }

/-- A command completes after the stream completion, or the drop, of a record (R272). -/
def State.completeAfter (s : State) (ch typ frame cid status reason : Nat) (value : Option Nat) : State :=
  State.settleAfter { s with hif.after := s.hif.after ++ [⟨ch, typ, frame, cid, status, reason, value⟩] }

end Sys2Proof.Machine
end

