-- ==== Sys2Proof/Machine/Plan.lean ====
section
/-! DEFINITION. Stripe maps (R212 to R215), the minimum frame period (R54, R329), and Tollgate's plan and admission
(R320 to R323). -/

namespace Sys2Proof.Machine

open Sys2Proof

/-! ## Stripe maps -/

def mapAt (m : List MapEnt) (n : Nat) : MapEnt := m.getD n mapOff

def isStripe (e : MapEnt) : Bool := e.role = .stripe

/-- Does a map entry own tile row `r`? -/
def ownsRow (e : MapEnt) (r : Nat) : Bool := isStripe e && e.first ≤ r && r < e.first + e.count

/-- The owner of a tile row under a map. -/
def ownerOf (m : List MapEnt) (r : Nat) : Option Nat := (List.range m.length).find? fun n => ownsRow (mapAt m n) r

/-- The stripe dies of a map, by number. -/
def stripeDies (m : List MapEnt) : List Nat := (List.range m.length).filter fun n => isStripe (mapAt m n)

def State.die (s : State) (n : Nat) : Die := s.rol.dies.getD n (dieCold false)

def State.setDie (s : State) (n : Nat) (d : Die) : State := { s with rol.dies := modAt s.rol.dies n fun _ => d }

/-- Ticks of a conversion's acquisition (R339). -/
def acqTicks : Nat := 40

/-- Is a channel's source domain unpowered, or its die absent (R338)? -/
def State.gated (s : State) (ch : Nat) : Bool :=
  if ch = 13 ∨ ch = 14 ∨ ch = 21 then !s.sen.biased
  else if 16 ≤ ch ∧ ch ≤ 20 then !(s.present (ch - 16) && (s.die (ch - 16)).powered)
  else false

/-- The validity of a map (R212): rows 0 to 47 are each owned by exactly one stripe die; other dies own none; no
withdrawn or absent die holds a role. -/
def State.mapValid (s : State) (m : List MapEnt) : Bool :=
  (List.range 5).all (fun n =>
    let e := mapAt m n
    (if isStripe e then decide (e.first ≤ 47 ∧ e.first + e.count ≤ 48) else decide (e.count = 0)) &&
      (e.role = .off || (s.present n && !(s.die n).withdrawn))) &&
  (List.range 48).all fun r => ((List.range 5).filter fun n => ownsRow (mapAt m n) r).length = 1

/-- How many rows two ranges share. -/
def overlap (a1 n1 a2 n2 : Nat) : Nat := min (a1 + n1) (a2 + n2) - max a1 a2

/-- Window pixels that an entry holds. -/
def pixelsOf (e : MapEnt) (p : Profile) : Nat :=
  if isStripe e then overlap e.first e.count p.y0 p.h * 64 * (p.w * 64) else 0

/-- N_max of R54. -/
def nMax (m : List MapEnt) (p : Profile) : Nat := maxN (m.map fun e => pixelsOf e p)

def nWin (p : Profile) : Nat := p.w * 64 * (p.h * 64)

/-- The capacity factor of a throttle level, in eighths (R328). -/
def capEighths : Nat → Nat
  | 0 => 8
  | 1 => 7
  | 2 => 6
  | 3 => 4
  | 4 => 4
  | _ => 2

/-- P_min (R54) under a map, at a throttle level (R329). -/
def pMin (m : List MapEnt) (p : Profile) (level : Nat) : Nat :=
  max 65104 (max (ceilDiv (250 * nWin p) 3020) (ceilDiv (250 * nMax m p * 8) (760 * capEighths level)))

/-- Rows counted out to dies in turn, the first `rem` of them one more (R215). -/
def balanceGo (q : Nat) : Nat → Nat → List Nat → List (Nat × Nat × Nat)
  | _, _, [] => []
  | rem, row, d :: t =>
    let c := q + (if 0 < rem then 1 else 0)
    (d, row, c) :: balanceGo q (rem - 1) (row + c) t

/-- The balanced map over given dies for a window (R215); the other dies keep their entries. -/
def balanced (m : List MapEnt) (dies : List Nat) (p : Profile) : List MapEnt :=
  let parts := balanceGo (p.h / dies.length) (p.h % dies.length) p.y0 dies
  let full := parts.filter fun (_, _, c) => 0 < c
  let firstD := (full.head?.map (·.1)).getD 9
  let lastD := (full.getLast?.map (·.1)).getD 9
  (List.range m.length).map fun n =>
    match parts.find? (·.1 = n) with
    | none => mapAt m n
    | some (_, f, c) =>
      let f' := if n = firstD then 0 else f
      let e := if n = lastD then 48 else f + c
      { role := .stripe, first := f', count := if c = 0 then 0 else e - f' }

/-! ## Profiles -/

/-- Output formats (R107) and restoration modes (R118). -/
abbrev Fmt.raw20 : Nat := 0
abbrev Fmt.lin16 : Nat := 1
abbrev Fmt.lin20 : Nat := 2
abbrev Fmt.temp16 : Nat := 3
abbrev Fmt.radf32 : Nat := 4
abbrev Mode.off : Nat := 0
abbrev Mode.even : Nat := 1
abbrev Mode.fast : Nat := 2

/-- Bytes of a 64-pixel row segment (R107). -/
def segBytes (fmt : Nat) : Nat := if fmt = 0 ∨ fmt = 2 then 160 else if fmt = 4 then 256 else 128

/-- Bytes of a window's pixel data (R107). -/
def winBytes (p : Profile) : Nat := segBytes p.fmt * p.w * (p.h * 64)

/-- The longest period the BM4030 sets by itself (R40). -/
def maxPeriod (p : Profile) : Nat := if p.fmt = Fmt.raw20 then 50000000 else 1000000000

/-- The profile in force apart from a band phase of TAU_MAP (R170). -/
def State.ownProf (s : State) : Profile :=
  match s.casks.restore, s.casks.cal with
  | some p, _ => p
  | none, some k => if k.stage = 2 then k.displaced.getD s.tol.prof else s.tol.prof
  | none, none => s.tol.prof

/-- Is the band phase's profile in force (R169)? -/
def State.inBand (s : State) : Bool :=
  (match s.casks.cal with | some k => k.displaced.isSome && k.stage = 2 | none => false) || s.casks.restore.isSome

/-- Has S_k come: is its tick not later than the command's acceptance (R151, R217, R246)? -/
def State.pastFrame (s : State) (k : Nat) : Bool :=
  decide (k < s.tmg.frame) || (k = s.tmg.frame && s.tmg.scheduled && tickLe s.tmg.nextSnap s.now)

def reqProfile (r : ProfileReq) : Profile :=
  { period := r.period, x0 := r.x0, y0 := r.y0, w := r.w, h := r.h, fmt := r.fmt, mode := r.mode, l := r.l,
    preview := r.preview = 1 }

/-- The first profile field at fault (R271), as a descriptor offset. -/
def profileFieldBad (r : ProfileReq) : Option Nat :=
  if 4 < r.fmt then some 0x18
  else if 2 < r.mode then some 0x19
  else if !([0, 1, 2, 4].contains r.l) then some 0x1A
  else if 1 < r.preview then some 0x1B
  else none

/-- The window rules of R52, as the descriptor offset of the first field at fault. -/
def windowBad (r : ProfileReq) : Option Nat :=
  if 63 < r.x0 then some 0x14
  else if 47 < r.y0 then some 0x15
  else if r.w = 0 ∨ 64 < r.w ∨ 64 < r.x0 + r.w then some 0x16
  else if r.h = 0 ∨ 48 < r.h ∨ 48 < r.y0 + r.h then some 0x17
  else none

/-- Does a period break R65 in REF mode? -/
def State.refPeriodBad (s : State) (period pmin : Nat) : Bool :=
  let tol := fldOf s.tmg.refTol Fld.TMG_REF_TOL_TOL_PPM
  fldOf s.tmg.syncCfg Fld.TMG_SYNC_CFG_SRC = 1 &&
    (period * (1000000 - tol) / 1000000 < pmin ||
      500000000 < period * fldOf s.tmg.syncCfg Fld.TMG_SYNC_CFG_REF_MULT)

/-- The period rules of R54, R39 and R65 and the period's own range, over a map. -/
def State.periodBad (s : State) (m : List MapEnt) (p : Profile) : Option Nat :=
  if p.period < 65104 ∨ 1000000000 < p.period ∨ p.period < pMin m p 0 then some 0x10
  else if p.fmt = Fmt.raw20 ∧ 50000000 < p.period then some 0x18
  else if s.refPeriodBad p.period (pMin m p 0) then some 0x10
  else none

/-- The stripe map under which a profile will be judged: balanced for a new window with AUTO_BALANCE (R215). -/
def State.mapFor (s : State) (m : List MapEnt) (p : Profile) : List MapEnt :=
  let cur := s.tol.prof
  if s.flag Fld.ROL_CFG_AUTO_BALANCE && decide ((cur.x0, cur.y0, cur.w, cur.h) ≠ (p.x0, p.y0, p.w, p.h)) then
    balanced m (stripeDies m) p
  else m

/-! ## The plan (R320) -/

/-- Indices of `Config.coeff` (log 23). Powers are in microwatt, energies per pixel or byte in picojoule. -/
abbrev Coef.sensorFixed : Nat := 0
abbrev Coef.alwaysOn : Nat := 1
abbrev Coef.pcieL0 (speed : Nat) : Nat := 2 + speed
abbrev Coef.hFixed : Nat := 8
abbrev Coef.egress : Nat := 9
abbrev Coef.dieStatic : Nat := 10
abbrev Coef.dieBist : Nat := 11
abbrev Coef.committed : Nat := 12
abbrev Coef.preview : Nat := 13
abbrev Coef.perL : Nat := 14
abbrev Coef.fast : Nat := 15
abbrev Coef.take : Nat := 16
abbrev Coef.vtl : Nat := 17
/-- Ledger coefficients beyond the plan's (R314), and the array's bias power per bias code. -/
abbrev Coef.ledger (i : Nat) : Nat := 100 + i
abbrev Coef.arrayBias (code : Nat) : Nat := 200 + code

/-- The plan of a profile: fixed powers in microwatt, and per frame energies in picojoule of H and of each stripe
die. -/
structure PlanTerms where
  sensor : Nat
  alwaysOn : Nat
  pcie : Nat
  hFixed : Nat
  hFrame : Nat
  pFixed : Nat
  dieFrame : List Nat
  deriving DecidableEq, Repr

/-- E_px of R320; `store`: 0 no take, 1 raw, 2 VTL. -/
def pixelEnergy (p : Profile) (store : Nat) : Nat :=
  Config.coeff Coef.committed + (if p.preview then Config.coeff Coef.preview else 0) + p.l * Config.coeff Coef.perL +
    (if p.mode = Mode.fast then Config.coeff Coef.fast else 0) +
    (if store = 0 then 0
     else Config.coeff Coef.take * segBytes p.fmt / 64 + (if store = 2 then Config.coeff Coef.vtl else 0))

/-- The sensor entry at the bias code in effect. -/
def State.sensorUw (s : State) : Nat := Config.coeff Coef.sensorFixed + Config.coeff (Coef.arrayBias s.sen.biasCode)

/-- The PCIe term of the link as trained: scaled by width. -/
def State.pcieUw (s : State) : Nat :=
  if s.hif.linkSpeed = 0 then 0 else Config.coeff (Coef.pcieL0 s.hif.linkSpeed) * s.hif.linkWidth / 8

def State.planTerms (s : State) (m : List MapEnt) (p : Profile) (store : Nat) : PlanTerms :=
  let ds := stripeDies m
  let others := (List.range m.length).filter fun n => (mapAt m n).role ≠ .off && !isStripe (mapAt m n)
  { sensor := s.sensorUw
    alwaysOn := Config.coeff Coef.alwaysOn
    pcie := s.pcieUw
    hFixed := Config.coeff Coef.hFixed
    hFrame := Config.coeff Coef.egress * (winBytes p * if p.preview then 2 else 1)
    pFixed := ds.length * Config.coeff Coef.dieStatic +
      others.length * (Config.coeff Coef.dieStatic + Config.coeff Coef.dieBist)
    dieFrame := ds.map fun n => pixelEnergy p store * pixelsOf (mapAt m n) p }

/-- Powers of a plan at a period, in microwatt, each rounded up. -/
def uwAt (perFrame period : Nat) : Nat := ceilDiv (perFrame * 250) period
def PlanTerms.fixed (t : PlanTerms) : Nat := t.sensor + t.alwaysOn + t.pcie + t.hFixed + t.pFixed
def PlanTerms.frame (t : PlanTerms) : Nat := t.hFrame + sumN t.dieFrame
def PlanTerms.flatFixed (t : PlanTerms) : Nat := t.pcie + t.hFixed + t.pFixed

/-- A dynamic limit of a throttle level, microwatt per stripe die (R328). -/
def dynLimitUw (level : Nat) : Nat := 2150000 * capEighths level / 8

/-- The budget that admission judges against: cap and flat target in milliwatt, the allowance's state. -/
structure Budget where
  cap : Nat
  flat : Nat
  allowOut : Bool
  level : Nat
  deriving DecidableEq, Repr

def State.budget (s : State) : Budget :=
  { cap := s.regN Reg.TOL_CAP_MW, flat := s.regN Reg.TOL_FLAT_MW, allowOut := s.tol.allowOut, level := s.tol.level }

/-- The conditions of R321 that reduction can ease. -/
def fitsPower (b : Budget) (t : PlanTerms) (period : Nat) : Bool :=
  (b.cap = 0 || t.fixed * period + 250 * t.frame ≤ b.cap * 1000 * period) &&
  (b.flat = 0 || t.flatFixed * period + 250 * t.frame ≤ b.flat * 1000 * period) &&
  (b.level = 0 || t.dieFrame.all fun w => 250 * w ≤ dynLimitUw b.level * period)

/-- The least period at which a part of the plan fits a limit, if any does. -/
def leastPeriod (limit fixed frame : Nat) : Option Nat :=
  if fixed < limit then some (ceilDiv (250 * frame) (limit - fixed))
  else if fixed = limit ∧ frame = 0 then some 1
  else none

/-- The least period from `p0` on at which a plan fits (R322), if any does. -/
def leastFit (b : Budget) (t : PlanTerms) (p0 : Nat) : Option Nat :=
  let c := if b.cap = 0 then some 1 else leastPeriod (b.cap * 1000) t.fixed t.frame
  let f := if b.flat = 0 then some 1 else leastPeriod (b.flat * 1000) t.flatFixed t.frame
  let l := if b.level = 0 then 1 else maxN (t.dieFrame.map fun w => ceilDiv (250 * w) (dynLimitUw b.level))
  match c, f with
  | some c, some f => some (max p0 (max l (max c f)))
  | _, _ => none

/-- The reductions of R322 that come before the rate step, in order: preview, L, mode. -/
def reductions (p : Profile) : List Profile :=
  let p1 := { p with preview := false }
  let s1 := if p.preview then [p1] else []
  let ls := if p.l = 4 then [2, 1, 0] else if p.l = 2 then [1, 0] else if p.l = 1 then [0] else []
  let s2 := ls.map fun l => { p1 with l := l }
  let p2 := { p1 with l := 0 }
  let s3 := if p.mode = Mode.fast then [{ p2 with mode := Mode.even }] else []
  s1 ++ s2 ++ s3

/-- Admission (R322): the status and the configuration it forms; with OVER_BUDGET the configuration is the request's
own. -/
def State.admission (s : State) (b : Budget) (m : List MapEnt) (req : Profile) (store : Nat) : Nat × Profile :=
  let cfg := { req with period := max req.period (pMin m req b.level) }
  let fits := fun (c : Profile) => fitsPower b (s.planTerms m c store) c.period
  if b.allowOut then (St.overBudget, req)
  else if fits cfg then (St.ok, cfg)
  else if !s.flag Fld.TOL_CFG_REDUCE_EN then (St.overBudget, req)
  else
    let rs := reductions cfg
    match rs.find? fits with
    | some c => (St.admitReduced, c)
    | none =>
      let c := rs.getLastD cfg
      match leastFit b (s.planTerms m c store) c.period with
      | some p => if p ≤ maxPeriod req then (St.admitReduced, { c with period := p }) else (St.overBudget, req)
      | none => (St.overBudget, req)

/-- One runtime step of R318, or none when every step is in force and the period stands at its bound. -/
def runtimeStep (p : Profile) : Option Profile :=
  if p.preview then some { p with preview := false }
  else if p.l = 4 then some { p with l := 2 }
  else if 0 < p.l then some { p with l := p.l - 1 }
  else if p.mode = Mode.fast then some { p with mode := Mode.even }
  else if p.period < maxPeriod p then some { p with period := min (ceilDiv (p.period * 5) 4) (maxPeriod p) }
  else none

/-- `n` runtime steps applied in order (R318, R322). -/
def runtimeSteps : Nat → Profile → Profile
  | 0, p => p
  | n + 1, p => match runtimeStep p with
    | some q => runtimeSteps n q
    | none => p

/-- TOL_STEPS.STEPS of a configuration against its request (R334): preview dropped, L reduced, mode stepped, rate
lowered. A period raised to the throttled P_min is not a reduction (R322). -/
def stepsOf (req cfg : Profile) (floor : Nat) : Nat :=
  b2n (req.preview && !cfg.preview) + 2 * b2n (decide (cfg.l < req.l)) + 4 * b2n (decide (cfg.mode ≠ req.mode)) +
    8 * b2n (decide (max req.period floor < cfg.period))

/-- The store code of the take that runs, for its plan term (R321). -/
def State.takeStore (s : State) : Nat :=
  match s.cel.run with
  | some r => if r.stage = 0 then 0 else if r.req.store = 0 then 1 else 2
  | none => 0

end Sys2Proof.Machine
end

