-- ==== Sys2Proof/Machine/Sensor.lean ====
section
/-! DEFINITION. Pixel tier, converters, snapshots' counts and the substrate grid (chapter 2), with the meanings of their
register accesses and events. -/

namespace Sys2Proof.Machine

open Sys2Proof

/-! ## Converters -/

/-- Charge of one packet in attocoulomb (R55, SEN_QREF). DESIGN CHOICE (log 116): a trim of CPKT keeps the packet at its nominal
charge, since R55 gives it at the trimmed C_pkt. -/
def qPkt (code : Nat) : Int := 200 + 5 * code

/-- Residue code of an integrator at its upper clamp (R32). -/
def atClamp : Int := -1

/-- A residue that R32 leaves between 0.95 and 1 packet. -/
def clampResidue (q : Int) (free : Nat) : Int :=
  let lo := (95 * q + 99) / 100
  lo + (free : Int) % (max 1 (q - lo))

/-- Counts and residue over `n` edges of constant charge `c` per edge, from residue `r` (R31, R32). An edge counts
once at most (R35): a residue above a packet that a lower QREF_CODE has made smaller is spent one packet an edge (DESIGN CHOICE,
log 106). -/
def convertRun (q r c : Int) (n : Nat) : Nat × Int :=
  if n = 0 then (0, r)
  else if q ≤ c then (n, atClamp)
  else
    let k := min n (if c < 0 then r / (q - c) else (r + n * c) / q).toNat
    (k, max 0 (r + n * c - k * q))

/-- One segment of input; `free` decides the residue that the upper clamp leaves (R32, log 6). DESIGN CHOICE (log 113): an input
that falls from full scale to below zero leaves the clamp as one that falls into range does. -/
def convertSeg (q : Int) (free : Nat) (r : Int) (g : Seg) : Nat × Int :=
  if g.edges = 0 then (0, r)
  else if r = atClamp ∧ g.charge < q then
    let (n, r') := convertRun q (clampResidue q free) g.charge (g.edges - 1)
    (n + 1, r')
  else convertRun q r g.charge g.edges

/-- The segments of an interval cut, or padded with zero current, to its `e` edges (log 7). -/
def fitSegs : Nat → List Seg → List Seg
  | e, [] => [⟨e, 0⟩]
  | e, g :: t => if e ≤ g.edges then [⟨e, g.charge⟩] else g :: fitSegs (e - g.edges) t

/-- A pixel over an interval. -/
def convertSegs (q : Int) (free : Nat) : Int → List Seg → Nat × Int
  | r, [] => (0, r)
  | r, g :: t =>
    let (n, r1) := convertSeg q free r g
    let (m, r2) := convertSegs q free r1 t
    (n + m, r2)

/-- The test current of FACTORY, in zeptocoulomb a tick (R177; log 20). -/
def testCurrent : Nat := ofLe ((List.range 4).map (Config.factoryField 7))

/-- The test current over `e` edges of 50 ticks: its charge, to the attocoulomb below, spread over the edges (log 40). -/
def testSegs (e : Nat) : List Seg :=
  let more := e * testCurrent / 20 - e * (testCurrent / 20)
  [⟨e - more, (testCurrent / 20 : Nat)⟩, ⟨more, (testCurrent / 20 + 1 : Nat)⟩]

/-- Is physical pixel `i` in a shorted row (R42)? -/
def inShortedRows (i : Nat) : Bool := 3088 * 4120 ≤ i && i < 3096 * 4120

/-- The scene as the converters see it while those of the shorted rows take the test source (R177). -/
def testScene (sc : Scene) (e : Nat) : Scene :=
  { sc with px := sc.px.filter (fun x => !inShortedRows x.1) ++
      (List.range 32960).map fun i => (3088 * 4120 + i, testSegs e) }

/-- In the frames of a CONVERTER_TRIM the shorted rows' converters take the test source (R177). -/
def State.testing (s : State) : Bool :=
  match s.casks.cal with
  | some c => c.kind = 3 && c.stage = 2 && c.firstFrame.isSome
  | none => false

def sceneOf (sc : Scene) (i : Nat) : List Seg :=
  match sc.px.find? (·.1 = i) with | some (_, g) => g | none => sc.dflt

/-- Counts of every physical pixel over an interval of `e` edges, and the residues after it. Each pixel that the scene or
the residues list has a free value of its own; the others, which share one input and one residue, share one (log 7). -/
def State.convert (s : State) (sc : Scene) (e : Nat) : State × PixMap Nat :=
  let q := qPkt s.sen.qrefCode
  let d := convertSegs q s.freeVal s.sen.residue.dflt (fitSegs e sc.dflt)
  let s := s.drew
  let old := s.sen.residue
  let keys := keysMerge (sc.px.map (·.1)) (old.ovr.map (·.1))
  let (s, cnt, res) := keys.foldl (fun (s, cnt, res) i =>
      let o := convertSegs q s.freeVal (pixGet old i) (fitSegs e (sceneOf sc i))
      (s.drew, pixSet cnt i o.1, pixSet res i o.2))
    (s, pixConst d.1, pixConst d.2)
  ({ s with sen.residue := res }, cnt)

/-- Converter-clock edges in an interval (R34). -/
def edgesIn (a b : Nat) : Nat := ((b : Int) / 50 - ((b : Int) - tickSpan a b) / 50).toNat

/-- An interval ends at tick `t`, having begun at `t0`: counters are latched, and the differences (R35) kept. -/
def State.closeInterval (s : State) (sc : Scene) (t0 t : Nat) : State :=
  let e := edgesIn t0 t
  let (s, cnt) := s.convert (if s.testing then testScene sc e else sc) e
  let c := pixMap2 (fun c n => (c + n) % 2 ^ 20) s.sen.counters cnt
  let d := pixMap2 (fun (new old : Nat) => (new + 2 ^ 20 - old) % 2 ^ 20) c s.sen.counters
  { s with sen.counters := c, sen.subCounts := s.sen.subCounts ++ [(e, d)] }

/-- Mark of a difference against its interval's edges (R36): bit 0 saturated, bit 1 starved. -/
def markOf (e d : Nat) : Nat := b2n (decide (e ≤ d + 1)) + 2 * b2n (decide (d = 0))

def frameValue (subs : List (Nat × PixMap Nat)) : PixMap Nat :=
  subs.foldl (fun a (_, d) => pixMap2 (· + ·) a d) (pixConst 0)

def frameMarks (subs : List (Nat × PixMap Nat)) : PixMap Nat :=
  subs.foldl (fun a (e, d) => pixMap2 (fun m x => m ||| markOf e x) a d) (pixConst 0)

/-! ## Sums over a window -/

/-- Is physical pixel `i` an active pixel of the window (R42, R52)? -/
def inWindow (p : Profile) (i : Nat) : Bool :=
  let c := i % 4120
  let r := i / 4120
  12 + 64 * p.x0 ≤ c && c < 12 + 64 * (p.x0 + p.w) && 16 + 64 * p.y0 ≤ r && r < 16 + 64 * (p.y0 + p.h)

/-- Is physical pixel `i` in a blind row? -/
def inBlindRows (i : Nat) : Bool := i < 16 * 4120

/-- Sum of a measure over a set of `n` pixels given by `mem`. -/
def sumOver {α : Type} (m : PixMap α) (mem : Nat → Bool) (n : Nat) (f : α → Nat) : Nat :=
  let l := m.ovr.filter fun e => mem e.1
  sumN (l.map fun e => f e.2) + (n - l.length) * f m.dflt

/-! ## The substrate grid -/

/-- Offset trims added to the completed conversions (R47). -/
def trimmed (readings : List (Option Int)) (trims : List Int) : List (Option Int) :=
  List.zipWith (fun r t => r.map (· + t)) readings trims

/-- Which of the 48 trimmed readings are valid (R47). -/
def gridOk (rs : List (Option Int)) : List Bool :=
  let med := median (rs.filterMap id)
  rs.map fun r => match r with | some v => (v - med).natAbs ≤ 10000 | none => false

/-- Horizontal and vertical neighbours of diode `n` (R44). -/
def gridNeighbours (n : Nat) : List Nat :=
  (if n % 8 ≠ 0 then [n - 1] else []) ++ (if n % 8 ≠ 7 then [n + 1] else []) ++
    (if 8 ≤ n then [n - 8] else []) ++ (if n < 40 then [n + 8] else [])

/-- What a sample delivers (R47); `fallback` is item 4's value per diode. -/
def gridDeliver (rs : List (Option Int)) (fallback : List Int) : List Int :=
  let ok := gridOk rs
  let vals := rs.filterMap id
  (List.range 48).map fun n =>
    if vals.isEmpty then fallback.getD n 0
    else if ok.getD n false then ((rs.getD n none).getD 0)
    else
      let ns := (gridNeighbours n).filter fun m => ok.getD m false
      if ns.isEmpty then median vals
      else rndDiv (sumI (ns.map fun m => (rs.getD m none).getD 0)) ns.length

/-- The grid of a frame from its samples (R46): the mean weighted by the sub-intervals' lengths, rounded under R85. -/
def gridMeanOf (samples : List (Nat × List Int)) : List Int :=
  let w := sumN (samples.map (·.1))
  (List.range 48).map fun n =>
    match samples with
    | [(_, v)] => v.getD n 0
    | _ => rndDiv (sumI (samples.map fun (l, v) => (l : Int) * v.getD n 0)) (max 1 w)

/-- A cask by its number: 0 is A. -/
def State.cask (s : State) (c : Nat) : Cask := if c = 0 then s.casks.a else s.casks.b

/-- Dies that count for casks: present and not withdrawn (R150, R227). -/
def State.counted (s : State) : List Nat := (List.range 5).filter fun n => s.present n && !(s.die n).withdrawn

/-- VALID_A or VALID_B (R150): every die that counts holds a replica that passed its check. -/
def State.caskOk (s : State) (c : Nat) : Bool :=
  c < 2 && (s.cask c).img.isSome && !s.counted.isEmpty &&
    s.counted.all fun n => (s.cask c).replicas.getD n none = some true

/-- The generation a cask shows (R183): 0 while it is not valid. -/
def State.genOf (s : State) (c : Nat) : Nat :=
  match (s.cask c).img with
  | some i => if s.caskOk c then i.gen else 0
  | none => 0

/-- The cask under which a frame that starts now is processed (R94, R150, R154): the contents in force while they are valid. -/
def State.caskNow (s : State) : Option CaskImage :=
  if s.caskOk s.casks.active then s.casks.force else none

/-- The grid registers take the newest frame grid (R56); with none since biasing, SEN_GRID_MEAN is not valid. -/
def State.showGrid (s : State) : State :=
  let s := { s with sen.gridWaits := false }
  match s.sen.grids with
  | [] => s.setReg Reg.SEN_GRID_MEAN (s.reg Reg.SEN_GRID_MEAN &&& 0x7FFFFFFF)
  | (k, v) :: _ =>
    let s := s.setPair Reg.SEN_GRID_FRAME_LO k
    let s := s.setReg Reg.SEN_GRID_MEAN (BitVec.ofNat 32 (clampN (2 ^ 20 - 1) (rndDiv (sumI v) 48) + 2 ^ 31))
    (List.range 48).foldl (fun s n =>
        s.setReg (Reg.SEN_GRID n) (BitVec.ofNat 32
          (clampN (2 ^ 20 - 1) (v.getD n 0) + if s.sen.gridValid.getD n false then 2 ^ 31 else 0))) s

/-- A newer grid is there: the registers follow it, unless they are frozen (R56). -/
def State.newGrid (s : State) : State :=
  if s.sen.freeze.isNone then s.showGrid else { s with sen.gridWaits := true }

/-- A grid sample is converted (R45 to R47). It answers the frame whose grid is now complete, if the sample closes one,
with its grid and whether a diode was substituted in it. -/
def State.gridSample (s : State) (readings : List (Option Int)) : State × Option (Nat × List Int × Bool) :=
  match s.sen.gridDue with
  | [] => (s, none)
  | (len, closes) :: due =>
    let rs := trimmed readings s.sen.trimGrid
    let fallback := match s.sen.lastDelivered with
      | some v => v
      | none => match s.caskNow with
        | some c => c.grid.map fun (g : Nat) => (g : Int)
        | none => List.replicate 48 0
    let v := gridDeliver rs fallback
    let none? := (rs.filterMap id).isEmpty
    let ok := if none? then List.replicate 48 false else gridOk rs
    let faulty := ok.any (!·)
    let valid := List.zipWith (· && ·) s.sen.subValid ok
    let samples := s.sen.subGrids ++ [(len, v)]
    let s := s.stickyIf faulty Fld.SEN_STATUS_GRID_FAULT
    let s := { s with sen.gridDue := due, sen.lastDelivered := some v }
    match closes with
    | none => ({ s with sen.subGrids := samples, sen.subValid := valid }, none)
    | some k =>
      let g := gridMeanOf samples
      let s := { s with
        sen.subGrids := [], sen.subValid := List.replicate 48 true, sen.gridValid := valid
        sen.grids := ((k, g) :: s.sen.grids).take 3 }
      (s.newGrid, some (k, g, valid.any (!·)))

/-! ## Register accesses -/

/-- Is a write of a code discarded (R48)? -/
def State.codeBad (s : State) (code limit : Nat) : Bool :=
  s.pow.st = .stream || s.pow.st = .take || decide (limit < code)

/-- Does a code written now take effect at the next snapshot, not only at the next biasing (R48)? -/
def State.codeDue (s : State) : Bool := s.pow.st = .keepWarm || s.pow.st = .ready

def State.doBiasWrite (s : State) (code : Nat) : State :=
  if s.codeBad code 80 then s.sticky Fld.SEN_STATUS_SET_REJ
  else State.setRegN { s with sen.biasDue := s.codeDue } Reg.SEN_BIAS code

def State.doQrefWrite (s : State) (code : Nat) : State :=
  if s.codeBad code 120 then s.sticky Fld.SEN_STATUS_SET_REJ
  else State.setRegN { s with sen.qrefDue := s.codeDue } Reg.SEN_QREF code

def execSenBiasWrite (v : Word) (s : State) : Host.Outcome State Fault Refusal :=
  run (fun s => s.woken.doBiasWrite (fldOf v Fld.SEN_BIAS_BIAS_CODE)) s

def execSenQrefWrite (v : Word) (s : State) : Host.Outcome State Fault Refusal :=
  run (fun s => s.woken.doQrefWrite (fldOf v Fld.SEN_QREF_QREF_CODE)) s

/-- Stored codes take effect (R48 to R50): all of them when the sensor is biased, at a frame snapshot those written for it. -/
def State.applyCodes (s : State) (biasing : Bool) : State :=
  let b := if biasing || s.sen.biasDue then s.fld Fld.SEN_BIAS_BIAS_CODE else s.sen.biasCode
  let q := if biasing || s.sen.qrefDue then s.fld Fld.SEN_QREF_QREF_CODE else s.sen.qrefCode
  let later := fun (s : State) (t : Nat) => { s with sen.settleEnd := some (max (s.sen.settleEnd.getD 0) t) }
  let s := s.stickyIf (decide (b ≠ s.sen.biasCode ∨ q ≠ s.sen.qrefCode)) Fld.SEN_STATUS_CAL_STALE
  let s := if b ≠ s.sen.biasCode then later s (s.mono + 10000000) else s
  let s := if q ≠ s.sen.qrefCode then later s (s.mono + 500000) else s
  { s with sen.biasCode := b, sen.qrefCode := q, sen.biasDue := false, sen.qrefDue := false }

/-- SETTLING (R49). -/
def State.settling (s : State) : Bool := s.sen.settleEnd.isSome

def State.doSettlingEnd (s : State) : State :=
  match s.sen.settleEnd with
  | some t => if t ≤ s.mono then { s with sen.settleEnd := none } else s
  | none => s

def execSettlingEnd (s : State) : Host.Outcome State Fault Refusal := run State.doSettlingEnd s

/-- The captured half of a pair (R7). -/
def State.capture (s : State) (hi : Nat) (v : Word) : State :=
  { s with cap := tabSet (fun _ => 0) s.cap hi v }

/-- A read before the end of RECALL, where no register is valid (R437): what it answers and captures are free values (log 6). -/
def State.recallRead (s : State) (off : Nat) (caps : List Nat) : State :=
  let s := caps.foldl (fun s o => s.drew.capture o (BitVec.ofNat 32 s.freeVal)) s
  s.drew.emit (.readData off (BitVec.ofNat 32 s.freeVal))

/-- A read of SEN_GRID_FRAME_LO (R7, R56): the held registers take the newest frame's grid and are frozen. DESIGN CHOICE
(log 106): a second read while they are frozen moves them to the newest frame, and the 10 ms start again. -/
def State.doGridLo (s : State) : State :=
  if s.pow.st = .recall then s.recallRead Reg.SEN_GRID_FRAME_LO [Reg.SEN_GRID_FRAME_HI]
  else
    let s := if s.sen.gridWaits then s.showGrid else s
    let s := { s with sen.freeze := some s.mono }
    let s := s.capture Reg.SEN_GRID_FRAME_HI (s.reg Reg.SEN_GRID_FRAME_HI)
    s.emit (.readData Reg.SEN_GRID_FRAME_LO (s.reg Reg.SEN_GRID_FRAME_LO))

def execSenGridFrameLoRead (s : State) : Host.Outcome State Fault Refusal := run State.doGridLo s

/-- The freeze ends: the registers follow the newest grid again (R56). -/
def State.unfreeze (s : State) : State :=
  let s := { s with sen.freeze := none }
  if s.sen.gridWaits then s.showGrid else s

/-- A read of SEN_GRID_FRAME_HI (R7, R56). -/
def State.doGridHi (s : State) : State :=
  if s.pow.st = .recall then s.recallRead Reg.SEN_GRID_FRAME_HI []
  else (s.emit (.readData Reg.SEN_GRID_FRAME_HI (tabGet (fun _ => 0) s.cap Reg.SEN_GRID_FRAME_HI))).unfreeze

def execSenGridFrameHiRead (s : State) : Host.Outcome State Fault Refusal := run State.doGridHi s

/-- 10 ms have passed since the freeze (R56). -/
def execGridFreezeTimeout (s : State) : Host.Outcome State Fault Refusal :=
  run (fun s => match s.sen.freeze with
    | some t => if t + 2500000 ≤ s.mono then s.unfreeze else s
    | none => s) s

/-! ## Intermediate snapshots -/

/-- How many sub-intervals a frame of period `p` has (R37). -/
def subsOf (p : Nat) : Nat := if p ≤ 50000000 then 1 else ceilDiv p 25000000

/-- Tick of the next intermediate snapshot of the frame now integrating. -/
def State.nextSub (s : State) : Nat := tickAdd s.tmg.lastSnap (25000000 * (s.tmg.subDone + 1))

/-- Is an intermediate snapshot still to come before the next frame snapshot? -/
def State.subDue (s : State) : Bool :=
  decide (50000000 < s.tol.prof.period) && !tickLe s.tmg.nextSnap s.nextSub

/-- An intermediate snapshot (R37, R45): every pixel is latched, and a grid sample taken. -/
def State.doIntermediate (s : State) (sc : Scene) : State :=
  if s.tmg.scheduled && s.subDue && tickLe s.nextSub s.now then
    let t := s.nextSub
    let s := s.closeInterval sc (tickAdd t (-25000000)) t
    { s with tmg.subDone := s.tmg.subDone + 1, sen.gridDue := s.sen.gridDue ++ [(25000000, none)] }
  else s

def execIntermediateSnapshot (scene : Scene) (s : State) : Host.Outcome State Fault Refusal :=
  run (fun s => s.doIntermediate scene) s

/-- The sensor is biased: the snapshot schedule starts, and what is remembered since the last biasing is dropped (R48,
R59, R61, R47, R135). SETTLING follows biasing for 40 ms (R310). DESIGN CHOICE (log 106): the frame that integrates from
here has no opening snapshot; it is counted from this tick, and its SEN_ counts and grid are shown at its end. -/
def State.biasSensor (s : State) : State :=
  let s := s.applyCodes true
  let t := s.now
  let s := s.setFld Fld.SEN_SUBSNAP_INTERVALS (subsOf s.tol.prof.period)
  let s := State.newGrid { s with sen.grids := [] }
  { s with
    sen.biased := true, sen.settleEnd := some (s.mono + 10000000), sen.lastDelivered := none
    sen.subCounts := [], sen.subGrids := [], sen.gridDue := [], sen.subValid := List.replicate 48 true
    tmg.first := true, tmg.scheduled := true, tmg.lastSnap := t, tmg.prevSnap := t, tmg.subDone := 0
    tmg.nextSnap := tickAdd t s.tol.prof.period, tmg.intervals := [], tmg.alignWait := [] }

/-- The sensor loses its bias: no snapshots are taken (R59), and no ref_c array stays seeded (R448). DESIGN CHOICE (log 106):
SETTLING ends with it. -/
def State.unbiasSensor (s : State) : State :=
  { s with
    rol.dies := s.rol.dies.map fun d => { d with blindSeeded := false }
    sen.biased := false, sen.settleEnd := none, sen.rowStep := none, tmg.scheduled := false, tmg.intervals := [], tmg.alignWait := [] }

end Sys2Proof.Machine
end

