-- ==== Sys2Proof/Machine/Chain.lean ====
section
/-! DEFINITION. The correction chain of a frame (chapter 4) and its RESTORE and LOOKAHEAD (chapter 5) over tile rows and
over the window. Everything here is a function of the frame and of what the rules name beside it. -/

namespace Sys2Proof.Machine

open Sys2Proof

/-! ## What a frame was latched with -/

def FrameW.reg (f : FrameW) (off : Nat) : Word := tabGet resetVal f.cfg off
def FrameW.fld (f : FrameW) (x : Fld) : Nat := fldOf (f.reg x.off) x
def FrameW.period (f : FrameW) : Nat := tickSpan f.prev f.snap

/-- The governing target constant of a mode, in microseconds (R118). -/
def tauOf (cfg : Nat → Word) (mode : Nat) : Nat :=
  if mode = Mode.fast then fldOf (cfg Reg.TRS_TAU_FAST) Fld.TRS_TAU_FAST_VALUE
  else if mode = Mode.even then fldOf (cfg Reg.TRS_TAU_EVEN) Fld.TRS_TAU_EVEN_VALUE
  else 0

def FrameW.tau (f : FrameW) : Nat := tauOf f.reg f.prof.mode

/-- The record of physical pixel `i` in a cask, or the one of R94 without a cask. -/
def imgRec (img : Option CaskImage) (i : Nat) : BitVec 64 :=
  match img with | some c => pixGet c.recs i | none => defaultRec

def FrameW.recAt (f : FrameW) (i : Nat) : BitVec 64 := imgRec f.img i

/-- The tile rows of a window. -/
def winRows (p : Profile) : List Nat := (List.range p.h).map (p.y0 + ·)

/-- Physical pixel of window position (x, y). -/
def FrameW.pix (f : FrameW) (x y : Nat) : Nat := activeIdx (64 * f.prof.x0 + x) (64 * f.prof.y0 + y)

def FrameW.wide (f : FrameW) : Nat := 64 * f.prof.w
def FrameW.high (f : FrameW) : Nat := 64 * f.prof.h

/-- A value of a plane; 0 outside it. -/
def planeAt (p : Plane) (x y : Nat) : Int := (p.getD y #[]).getD x 0

/-- A plane from a function of column and row. -/
def planeOf (w h : Nat) (g : Nat → Nat → Int) : Plane :=
  (Array.range h).map fun y => (Array.range w).map fun x => g x y

/-- How many positions of a plane meet a test, in rows `y0` to `y0 + n - 1`. -/
def planeCount (w y0 n : Nat) (t : Nat → Nat → Bool) : Nat :=
  (List.range n).foldl (fun a y => (List.range w).foldl (fun a x => if t x (y0 + y) then a + 1 else a) a) 0

/-! ## Values over a window's casks -/

/-- The largest TAU code of a window's active pixels (R127); 125 without a cask. -/
def tauMaxCode (img : Option CaskImage) (p : Profile) : Nat :=
  match img with
  | none => 125
  | some c =>
    let l := c.recs.ovr.filter fun e => inWindow p e.1
    let m := maxN (l.map fun e => recTau e.2)
    if l.length < nWin p then max m (recTau c.recs.dflt) else m

/-- K of R127. -/
def coldLength (code period : Nat) : Nat := max 1 (min 64 (ceilDiv (5 * tauNs code) (periodNs period)))

/-- The noise-gain field (R125): the root of the mean of G_n² over the window's active pixels. -/
def noiseGainOf (img : Option CaskImage) (p : Profile) (tau : Nat) : Nat :=
  if p.mode = Mode.off then 0x100
  else
    let tbl := (Array.range 256).map fun n => noiseSq p.period p.mode tau n
    let g := fun (r : BitVec 64) => tbl.getD (recTau r) 0
    let total := match img with
      | some c => sumOver c.recs (inWindow p) (nWin p) g
      | none => nWin p * g defaultRec
    min 0xFFFF (noiseField (total / nWin p))

/-! ## BLIND (R90 to R92, R448) -/

/-- Is a reference pixel valid: not flagged in the cask and carrying no converter mark (R90, R92)? -/
def FrameW.refValid (f : FrameW) (i : Nat) : Bool := !recFlagged (f.recAt i) && pixGet f.marks i == 0

/-- m_c of column `c` before substitution. -/
def FrameW.colMean (f : FrameW) (c : Nat) : Option Int :=
  let is := ((List.range 8).map fun r => phys c (3088 + r)).filter f.refValid
  if is.isEmpty then none
  else some (rndDiv (sumI (is.map fun i => normValue (pixGet f.d i) (normFactor f.period))) is.length)

/-- Columns without a value take the nearest one to the left (R90); `last` is that value. -/
def fillLeft (last : Option Int) : List (Option Int) → List (Option Int)
  | [] => []
  | some v :: t => some v :: fillLeft (some v) t
  | none :: t => last :: fillLeft last t

/-- m_c of every column, or none when no column has a valid shorted pixel; and whether a column was substituted. -/
def FrameW.colMeans (f : FrameW) : Option (Array Int) × Bool :=
  let ms := (List.range 4120).map f.colMean
  if ms.all (·.isNone) then (none, true)
  else
    let l := fillLeft none ms
    let firstV := (l.find? (·.isSome)).bind id
    (some ((l.map fun m => (m <|> firstV).getD 0).toArray), ms.any (·.isNone))

/-- ref_c after frame `f` (R90, R91, R448): seeded when the array is not seeded or the frame is the seed frame of an array
seed, else one step of the IIR. The flag says whether the array is seeded afterwards. -/
def FrameW.refNext (f : FrameW) (ref : Array Int) (seeded : Bool) : Array Int × Bool :=
  match f.colMeans.1 with
  | none => (ref, seeded)
  | some m =>
    if !seeded || f.arraySeed then (m.map (16 * ·), true)
    else ((Array.range 4120).map fun c => refStep (ref.getD c 0) (m.getD c 0), true)

/-- The 24 blind columns (R42). -/
def blindCols : List Nat := List.range 12 ++ (List.range 12).map (4108 + ·)

/-- q_r of window row `y` (R92), and whether it was substituted. -/
def FrameW.rowTerm (f : FrameW) (y : Nat) : Int × Bool :=
  if f.fld Fld.PPL_BLIND_CFG_ROW_EN = 0 then (0, false)
  else
    let r := 16 + 64 * f.prof.y0 + y
    let cs := blindCols.filter fun c => f.refValid (phys c r)
    if cs.length < f.fld Fld.PPL_BLIND_CFG_ROW_MIN then (0, true)
    else
      let us := cs.map fun c =>
        let i := phys c r
        normValue (pixGet f.d i) (normFactor f.period) - (f.ref.getD #[]).getD c 0 - recOfs (f.recAt i)
      (rndDiv (sumI us) us.length, false)

/-! ## NORM to GAIN -/

/-- What a pixel has after GAIN: the stage value x, DRIFT's output, and whether a stage saturated and ΔT was clamped. -/
structure GainOut where
  x : Int
  drift : Int
  sat : Bool
  range : Bool
  deriving DecidableEq, Repr

/-- ΔT of the 48 nodes against the cask's capture grid (R96); none without a cask. -/
def FrameW.deltas (f : FrameW) (grid : List Int) : Option (List Int) :=
  f.img.map fun c => (List.range 48).map fun n => grid.getD n 0 - (c.grid.getD n 0 : Nat)

/-- NORM, BLIND, OFFSET, DRIFT and GAIN of window pixel (x, y) (R87 to R97). -/
def FrameW.gain (f : FrameW) (dT : Option (List Int)) (q : Int) (x y : Nat) : GainOut :=
  let i := f.pix x y
  let w := f.recAt i
  let a := deliver false (normValue (pixGet f.d i) (normFactor f.period))
  let b := deliver a.sat (a.v - (f.ref.getD #[]).getD (i % 4120) 0 - q)
  let o := deliver b.sat (b.v - recOfs w)
  let u := match dT with
    | some t => driftU t (64 * f.prof.x0 + x) (64 * f.prof.y0 + y)
    | none => 0
  let uc := clampI (-driftLim) driftLim u
  let corr := match f.img with
    | some c => driftCorr (recDrift1 w) (recDrift2 w) c.e1 c.e2 uc
    | none => 0
  let d := deliver o.sat (o.v - corr)
  let g := deliver d.sat (gainValue (recGain w) d.v)
  { x := g.v, drift := d.v, sat := g.sat, range := u != uc }

/-- The GAIN outputs of a tile row. -/
def FrameW.gainRow (f : FrameW) (grid : List Int) (row : Nat) : Array (Array GainOut) :=
  let dT := f.deltas grid
  (Array.range 64).map fun j =>
    let y := 64 * (row - f.prof.y0) + j
    let q := (f.rowTerm y).1
    (Array.range f.wide).map fun x => f.gain dT q x y

/-- Was a row term of a tile row substituted? -/
def FrameW.rowSubst (f : FrameW) (row : Nat) : Bool :=
  (List.range 64).any fun j => (f.rowTerm (64 * (row - f.prof.y0) + j)).2

/-! ## RESTORE of a tile row (R118 to R124, R139) -/

/-- The coefficients of every TAU code under the frame's period, mode and target constant (R120). -/
def FrameW.table (f : FrameW) : Array (Option Coefs) :=
  let tau := f.tau
  (Array.range 256).map fun n => coefsOf f.prof.period f.prof.mode tau n

def FrameW.seeds (f : FrameW) (row : Nat) : Bool := f.arraySeed || f.seedRows.contains row

/-- RESTORE of a tile row from the carries after the frame before: the restored row, and the carries after it. -/
def FrameW.restoreRow (f : FrameW) (g : Array (Array GainOut)) (carry : Option Plane) (row : Nat) : RowRes × Plane :=
  let tbl := f.table
  let seed := f.seeds row
  let cell := fun (x j : Nat) =>
    let o := (g.getD j #[]).getD x ⟨0, 0, false, false⟩
    let i := f.pix x (64 * (row - f.prof.y0) + j)
    let u := match carry with | some p => planeAt p x j | none => seedMarker
    let r := restorePix (tbl.getD (recTau (f.recAt i)) none) (pixGet f.marks i != 0) f.episode seed o.x u
    (deliver o.sat r.1, r.2)
  let cells := (Array.range 64).map fun j => (Array.range f.wide).map fun x => cell x j
  ({ row, y := cells.map (·.map fun c => c.1.v), sat := cells.map (·.map fun c => (b2n c.1.sat : Int)) },
    cells.map (·.map (·.2)))

/-- A row delivered unchanged from GAIN (R139). -/
def FrameW.throughRow (f : FrameW) (g : Array (Array GainOut)) (row : Nat) : RowRes :=
  { row
    y := (Array.range 64).map fun j => (Array.range f.wide).map fun x => ((g.getD j #[]).getD x ⟨0, 0, false, false⟩).x
    sat := (Array.range 64).map fun j => (Array.range f.wide).map fun x =>
      (b2n ((g.getD j #[]).getD x ⟨0, 0, false, false⟩).sat : Int) }

def rowOf (rs : List RowRes) (row : Nat) : Option RowRes := rs.find? (·.row = row)

/-! ## LOOKAHEAD (R129, R130) -/

/-- Does a seed of tile row `row` stand between frames `a` and `b`, `a < b` (R126, R128)? -/
def seedBetween (frames : List FrameW) (row a b : Nat) : Bool :=
  frames.any fun g => a < g.k && g.k ≤ b && g.seeds row

/-- The frames other than `f` that the window of `f` weighs on a tile row; `fwd` is the forward reach. -/
def reachFrames (frames : List FrameW) (f : FrameW) (fwd row : Nat) : List FrameW :=
  frames.filter fun m => m.streamed && m.k ≠ f.k && f.k ≤ m.k + f.prof.l && m.k ≤ fwd &&
    !seedBetween frames row (min m.k f.k) (max m.k f.k) && !m.missCom.contains row

/-- LOOKAHEAD of a tile row (R129): values and saturation marks. -/
def FrameW.lookRow (f : FrameW) (frames : List FrameW) (fwd row : Nat) : RowRes :=
  match rowOf f.yRows row with
  | none => { row, y := #[], sat := #[] }
  | some r =>
    if f.prof.l = 0 || f.episode then r
    else
      let ms := (reachFrames frames f fwd row).filterMap fun m => (rowOf m.yRows row).map fun q => (m, q)
      let theta := fldOf (f.reg Reg.TRS_DN_THETA) Fld.TRS_DN_THETA_VALUE
      let cells := (Array.range 64).map fun j => (Array.range f.wide).map fun x =>
        let i := f.pix x (64 * (row - f.prof.y0) + j)
        let y0 := planeAt r.y x j
        let sat := planeAt r.sat x j != 0
        if pixGet f.marks i != 0 then (y0, sat)
        else
          let ys := (ms.filter fun e => pixGet e.1.marks i == 0).map fun e => planeAt e.2.y x j
          let o := deliver sat (lookahead theta y0 ys)
          (o.v, o.sat)
      { row, y := cells.map (·.map (·.1)), sat := cells.map (·.map fun c => (b2n c.2 : Int)) }

/-! ## DEFECT over a window (R100 to R103) -/

/-- The rows of a pass put together over the window; a row that is missing holds zeros. -/
def FrameW.joinRows (f : FrameW) (rs : List RowRes) (g : RowRes → Plane) : Plane :=
  ((winRows f.prof).map fun row =>
    match rowOf rs row with
    | some r => g r
    | none => planeOf f.wide 64 fun _ _ => 0).foldl (· ++ ·) #[]

/-- Is window row `y` in a TILE_MISSING tile of the pass? -/
def FrameW.missAt (f : FrameW) (miss : List Nat) (y : Nat) : Bool := miss.contains (f.prof.y0 + y / 64)

/-- Flagged under R100 apart from dynamic detection. -/
def FrameW.preFlag (f : FrameW) (miss : List Nat) (x y : Nat) : Bool :=
  let i := f.pix x y
  let w := f.recAt i
  recFlagged w || recGain w == 0 || (f.fld Fld.PPL_DEFECT_CFG_CONV_REPLACE == 1 && pixGet f.marks i != 0) ||
    f.missAt miss y

/-- Window positions within distance `d` of (x, y), the position itself apart. -/
def FrameW.around (f : FrameW) (d x y : Nat) : List (Nat × Nat) :=
  (List.range (2 * d + 1)).flatMap fun dy => (List.range (2 * d + 1)).filterMap fun dx =>
    if (dx = d ∧ dy = d) ∨ x + dx < d ∨ y + dy < d ∨ f.wide + d ≤ x + dx ∨ f.high + d ≤ y + dy then none
    else some (x + dx - d, y + dy - d)

/-- The planes DEFECT makes: its output, the flags of R100, the dynamic defects, and the pixels left unreplaced. -/
structure DefOut where
  out : Plane
  flags : Plane
  dyn : Plane
  unreplaced : Nat
  deriving DecidableEq, Repr

/-- DEFECT over a window from its input plane. -/
def FrameW.defect (f : FrameW) (miss : List Nat) (v : Plane) : DefOut :=
  let pre := planeOf f.wide f.high fun x y => (b2n (f.preFlag miss x y) : Int)
  let limit := f.fld Fld.PPL_DYN_LIMIT_LIMIT
  let isoMax := f.fld Fld.PPL_DEFECT_CFG_ISO_MAX
  let dynEn := f.fld Fld.PPL_DEFECT_CFG_DYN_EN = 1
  let dyn := planeOf f.wide f.high fun x y =>
    if dynEn && planeAt pre x y == 0 &&
        isDynamic limit isoMax (planeAt v x y)
          (((f.around 1 x y).filter fun p => planeAt pre p.1 p.2 == 0).map fun p => planeAt v p.1 p.2) then 1 else 0
  let flags := planeOf f.wide f.high fun x y => if planeAt pre x y != 0 || planeAt dyn x y != 0 then 1 else 0
  let good := fun (d x y : Nat) => ((f.around d x y).filter fun p => planeAt flags p.1 p.2 == 0).map fun p =>
    planeAt v p.1 p.2
  let lost := fun (x y : Nat) => planeAt flags x y != 0 && !f.missAt miss y && (good 2 x y).isEmpty
  { out := planeOf f.wide f.high fun x y =>
      if planeAt flags x y == 0 || f.missAt miss y then planeAt v x y
      else
        let a := good 1 x y
        let b := good 2 x y
        if !a.isEmpty then median a else if !b.isEmpty then median b else planeAt v x y
    flags, dyn
    unreplaced := planeCount f.wide 0 f.high lost }

/-! ## MONITOR (R104 to R106) -/

/-- The high-pass plane of a frame, with the marker where it is not valid. -/
def FrameW.highPlane (f : FrameW) (v flags : Plane) : Plane :=
  let ok := fun (x y : Nat) => planeAt flags x y == 0
  planeOf f.wide f.high fun x y =>
    if 0 < x && 0 < y && x + 1 < f.wide && y + 1 < f.high && ok x y && ok (x - 1) y && ok (x + 1) y && ok x (y - 1) &&
        ok x (y + 1) then
      highPass (planeAt v x y) (planeAt v (x - 1) y) (planeAt v (x + 1) y) (planeAt v x (y - 1)) (planeAt v x (y + 1))
    else monMarker

/-- The score of the tile at window tile column `i` and row `j`, between two frames' high-pass planes (R105). -/
def tileScoreOf (a b : Plane) (i j : Nat) : Nat :=
  tileScore ((List.range 64).flatMap fun y => (List.range 64).filterMap fun x =>
    let p := planeAt a (64 * i + x) (64 * j + y)
    let q := planeAt b (64 * i + x) (64 * j + y)
    if p = monMarker ∨ q = monMarker then none else some (p * q))

/-- Scores of the window's tiles: tile column and row of the window, score. `old` is the high-pass plane Λ frames
before, on the rows whose history reaches back that far. -/
def FrameW.tileScores (f : FrameW) (now : Plane) (old : Option Plane) (valid : Nat → Bool) : List (Nat × Nat × Nat) :=
  (List.range f.prof.h).flatMap fun j => (List.range f.prof.w).map fun i =>
    match old with
    | some o => if valid (f.prof.y0 + j) then (i, j, tileScoreOf now o i j) else (i, j, 0xFFFF)
    | none => (i, j, 0xFFFF)

/-- The array score (R106). -/
def arrayScore (scores : List (Nat × Nat × Nat)) : Nat :=
  let l := (scores.map fun t => t.2.2).filter (· ≠ 0xFFFF)
  if l.isEmpty then 0xFFFF else (rndDiv (sumN l) l.length).toNat

/-- The MONITOR_MAP payload: 3072 scores in tile order over the whole array (R106). -/
def FrameW.scoreMap (f : FrameW) (scores : List (Nat × Nat × Nat)) : List Byte :=
  (List.range 48).flatMap fun j => (List.range 64).flatMap fun i =>
    leBytes 2 (match scores.find? fun t => f.prof.x0 + t.1 = i && f.prof.y0 + t.2.1 = j with
      | some t => t.2.2
      | none => 0xFFFF)

/-! ## MAP (R107 to R113) -/

/-- The output word of a pixel and whether it was clamped; `v` is DEFECT's output. -/
def FrameW.word (f : FrameW) (v : Int) (x y : Nat) : Nat × Bool :=
  match f.prof.fmt with
  | 0 => (pixGet f.d (f.pix x y) % 2 ^ 20, false)
  | 1 => linWord (f.fld Fld.PPL_LIN_SCALE_VALUE) (f.fld Fld.PPL_LIN_PEDESTAL_VALUE % 65536) 65535 v
  | 2 => linWord (f.fld Fld.PPL_LIN_SCALE_VALUE) (f.fld Fld.PPL_LIN20_PEDESTAL_VALUE) 1048575 v
  | 3 => tempWord (fun i => tabGet (fun _ => 0) f.rad i) (f.reg Reg.PPL_RAD_IN_MIN).toInt
      (f.fld Fld.PPL_RAD_CTRL_STEP_LOG2) v
  | _ => radWord (f.reg Reg.PPL_RAD_K).toNat (f.reg Reg.PPL_RAD_L0).toNat v

/-- The word of a pixel of a TILE_MISSING tile (R107). -/
def FrameW.missWord (f : FrameW) : Nat := if f.prof.fmt = Fmt.radf32 then 0x7FC00000 else 0

/-- The output bytes of a tile row: its 64 pixel rows in order (R107, R108). -/
def FrameW.mapRow (f : FrameW) (miss : List Nat) (v : Plane) (row : Nat) : List Byte :=
  (List.range 64).flatMap fun j =>
    let y := 64 * (row - f.prof.y0) + j
    packRow f.prof.fmt ((List.range f.wide).map fun x =>
      if miss.contains row then f.missWord else (f.word (planeAt v x y) x y).1)

/-- The MAP-clamp count (R107). -/
def FrameW.clamps (f : FrameW) (miss : List Nat) (v : Plane) : Nat :=
  planeCount f.wide 0 f.high fun x y => !f.missAt miss y && (f.word (planeAt v x y) x y).2

/-- Pixels of the window that some stage saturated (R84). -/
def FrameW.satPixels (f : FrameW) (sat : Plane) : Nat := planeCount f.wide 0 f.high fun x y => planeAt sat x y != 0

/-! ## Metadata (R114, R115) -/

/-- Gradients of the substrate grid (R114). -/
def gradX (g : List Int) : Int :=
  clampI (-32767) 32767 (rndDiv (sumI ((List.range 48).map fun n => (2 * ((n % 8 : Nat) : Int) - 7) * g.getD n 0)) 504)
def gradY (g : List Int) : Int :=
  clampI (-32767) 32767 (rndDiv (sumI ((List.range 48).map fun n => (2 * ((n / 8 : Nat) : Int) - 5) * g.getD n 0)) 280)

/-- What a frame's metadata takes from one of its passes. -/
structure MetaIn where
  preview : Bool
  cold : Bool
  gap : Bool
  grid : List Int
  miss : List Nat
  score : Nat
  dyn : Nat
  clamps : Nat
  sats : Nat
  deriving DecidableEq, Repr

/-- The flags of R114. -/
def FrameW.flagBits (f : FrameW) (m : MetaIn) : Nat :=
  b2n m.cold + 2 * b2n f.shutter + 4 * b2n f.tail + 8 * b2n f.thermal + 16 * b2n m.preview + 32 * b2n m.gap +
    64 * b2n (!m.miss.isEmpty) + 128 * b2n (f.satCount + f.starveCount != 0) + 256 * b2n f.gridFault

/-- Bytes 0x00 to 0x5F of a frame's metadata (R114, R115). DESIGN CHOICE (log 113): a mean of a predicted grid outside the 20 bits
is clamped to them. -/
def FrameW.metadata (f : FrameW) (m : MetaIn) : List Byte :=
  leBytes 8 f.k ++ leBytes 8 f.snap ++ leBytes 4 f.period ++ leBytes 4 f.ltcPhase ++ leBytes 8 f.timecode ++
    leBytes 8 (f.trigOffset.getD allOnes) ++ leBytes 4 f.gen ++ leBytes 1 f.cask ++ leBytes 1 f.prof.mode ++
    leBytes 1 (if m.preview then 0 else f.prof.l) ++ leBytes 1 f.prof.fmt ++ leBytes 2 f.version ++
    leBytes 2 (f.flagBits m) ++ leBytes 4 (clampN (2 ^ 20 - 1) (rndDiv (sumI m.grid) 48)) ++
    leBytes 2 (wrapN 16 (gradX m.grid)) ++ leBytes 2 (wrapN 16 (gradY m.grid)) ++
    leBytes 1 f.prof.x0 ++ leBytes 1 f.prof.y0 ++ leBytes 1 f.prof.w ++ leBytes 1 f.prof.h ++
    leBytes 2 (m.miss.length * f.prof.w) ++ leBytes 2 m.score ++ leBytes 4 m.dyn ++ leBytes 4 f.satCount ++
    leBytes 4 f.starveCount ++ leBytes 2 f.noiseGain ++ leBytes 2 0 ++ leBytes 4 m.clamps ++ leBytes 4 m.sats ++
    leBytes 4 0

end Sys2Proof.Machine
end

