-- ==== Sys2Proof/Machine/Timing.lean ====
section
/-! DEFINITION. Reference lock (R64 to R69), timecode (R70 to R73) and the snapshot schedule (R59), with the meanings of
their events. -/

namespace Sys2Proof.Machine

open Sys2Proof

/-! ## Settings in force -/

def State.src (s : State) : Nat := fldOf s.tmg.syncCfg Fld.TMG_SYNC_CFG_SRC
def State.refMult (s : State) : Nat := fldOf s.tmg.syncCfg Fld.TMG_SYNC_CFG_REF_MULT
def State.tolPpm (s : State) : Nat := fldOf s.tmg.refTol Fld.TMG_REF_TOL_TOL_PPM
def State.refOfsI (s : State) : Int := s.tmg.refOfs.toInt
def State.ltcEn (s : State) : Bool := fldOf s.tmg.syncCfg Fld.TMG_SYNC_CFG_LTC_EN = 1

def State.inStream (s : State) : Bool := s.pow.st = .stream || s.pow.st = .take

/-- REF mode places snapshots under R67 once p_ref has been formed (R69). -/
def State.refPlacing (s : State) : Bool := s.src = 1 && s.tmg.refFormed

/-- The ring role that the node plays: 0 MASTER, 1 FOLLOWER, 2 RELAY, the last also after stepping down (R294, R296). -/
def State.wayRole (s : State) : Nat := if s.way.steppedDown then 2 else s.fld Fld.WAY_CFG_ROLE

/-- RING mode places snapshots under R301: only on an ALIGNED follower (R294, R301). -/
def State.ringPlacing (s : State) : Bool := s.src = 2 && s.wayRole = 1 && s.way.align = 2

/-- The reference or the ring that should place snapshots does not: START_STREAM and ARM_TAKE find the device busy (R69,
R302). -/
def State.syncBusy (s : State) : Bool :=
  (s.src = 1 && !s.tmg.locked) || (s.src = 2 && s.wayRole = 1 && s.way.align ≠ 2)

/-- SRC_ACTIVE (R69, R294, R301); a band phase places its snapshots as FREE (R171). -/
def State.srcActive (s : State) : Nat :=
  if s.inBand then 0
  else if s.src = 1 then (if s.tmg.refFormed then 1 else 0) else if s.ringPlacing then 2 else 0

/-! ## REF_IN -/

/-- An interval lies within P × M × (1 ± TOL_PPM × 10^−6) ± 2 ticks (R64). -/
def refInTol (pm tol d : Nat) : Bool :=
  let diff : Nat := max pm d - min pm d
  diff * 1000000 ≤ pm * tol + 2000000

/-- LOCKED is cleared, where it was set: lock is lost, which REF_LOST shows and a REF_LOST event reports (R68). -/
def State.dropLock (s : State) : State :=
  if s.tmg.locked then
    State.event (State.sticky { s with tmg.locked := false } Fld.TMG_STATUS_REF_LOST) 0x0002
      (leBytes 8 s.newest ++ leBytes 4 (s.regN Reg.TMG_REF_ERR))
  else s

/-- The reference is lost (R68): REF_PRESENT and LOCKED clear, REF_LOST is set. Holdover needs a p_ref formed since SRC was written (R69). -/
def State.refLose (s : State) : State :=
  let s := s.sticky Fld.TMG_STATUS_REF_LOST
  State.dropLock { s with
    tmg.refPresent := false, tmg.holdover := s.tmg.refFormed, tmg.lockRun := 0, tmg.refRun := 0, tmg.refBack := false }

/-- LOCKED is set once both conditions of R66 hold, which ends holdover (R68). DESIGN CHOICE (log 106): REF_LOCKED is published
each time that LOCKED is set, the first time too. -/
def State.tryLock (s : State) : State :=
  if s.tmg.refPresent && decide (8 ≤ s.tmg.lockRun) && !s.tmg.locked then
    State.event { s with tmg.locked := true, tmg.holdover := false } 0x0003
      (leBytes 8 s.newest ++ leBytes 4 (s.regN Reg.TMG_REF_ERR))
  else s

/-- An aligned snapshot at tick `t` is judged against its edge `e` (R66): TMG_REF_ERR, the run of good ones, and LOCKED. In
holdover the run begins once the reference is back, as the example under R68 counts. DEDUCED (log 105): an
error above one tick clears LOCKED, since R66 keeps every aligned snapshot within 4 ns while LOCKED is 1, and lock is then lost. -/
def State.judgeAligned (s : State) (t e : Nat) : State :=
  let err := tickDiff t e - s.refOfsI
  let s := s.setRegN Reg.TMG_REF_ERR (wrapN 32 (clampI (-(2 ^ 31 - 1)) (2 ^ 31 - 1) err))
  if !s.tmg.refPresent && !(s.tmg.holdover && s.tmg.refBack) then s
  else if -1 ≤ err ∧ err ≤ 1 then State.tryLock { s with tmg.lockRun := s.tmg.lockRun + 1 }
  else State.dropLock { s with tmg.lockRun := 0 }

/-- Cycle length c of R67, from the p_ref that places snapshots. -/
def State.refC (s : State) : Nat := (s.tmg.pHold + 4) / 8

/-- An edge has come at tick `t`: the aligned snapshots that waited for it are judged, those whose edge was missed go unjudged, and the
others wait on (R66). -/
def State.alignArrive (s : State) (t : Nat) : State :=
  let off := fun (w : Nat × Nat) => 2 * tickDiff t w.2
  let c : Int := s.refC
  let now := s.tmg.alignWait.filter fun w => -c ≤ off w && off w ≤ c
  let s := { s with tmg.alignWait := s.tmg.alignWait.filter fun w => off w < -c }
  now.foldl (fun s w => s.judgeAligned w.1 t) s

/-- An interval of `d` ticks between edges (R64): the last eight, and p_ref once there are eight. -/
def State.refInterval (s : State) (d : Nat) : State :=
  let ds := (d :: s.tmg.refIntervals).take 8
  let s := { s with tmg.refIntervals := ds }
  if ds.length = 8 then State.setRegN { s with tmg.pRef := sumN ds } Reg.TMG_REF_PERIOD (sat32 (sumN ds)) else s

/-- A REF_IN edge at tick `t` (R64). In REF mode its interval is judged (R68), and eight in a row within tolerance form
p_ref (R69). The nominal period is that of the profile in force apart from a band phase (R171). The reference counts as back
with the first interval within tolerance, and with the first edge after a silence (log 103). DESIGN CHOICE (log 106): an
interval is judged once, when its edge comes, whatever becomes of P, M and TOL_PPM afterwards. -/
def State.doRefEdge (s : State) (t : Nat) : State :=
  match s.tmg.refLast with
  | none => { s with tmg.refLast := some t, tmg.refTimedOut := false }
  | some t0 =>
    let d := tickSpan t0 t
    let late := s.tmg.refTimedOut
    let s := State.refInterval { s with tmg.refLast := some t, tmg.refTimedOut := false } d
    if s.src ≠ 1 then s.alignArrive t
    else if !refInTol (s.ownProf.period * s.refMult) s.tolPpm d then
      State.alignArrive { s.refLose with tmg.refBack := late } t
    else
      let r := s.tmg.refRun + 1
      let s := { s with tmg.refRun := r, tmg.refBack := true }
      let s := if 8 ≤ r then { s with tmg.pHold := s.tmg.pRef, tmg.refFormed := true, tmg.refPresent := true } else s
      let s := (s.alignArrive t).tryLock
      { s with tmg.holdover := s.tmg.holdover && !s.tmg.locked }

def execRefInEdge (t : Nat) (s : State) : Host.Outcome State Fault Refusal :=
  runIf "REF_IN_EDGE" (Instr.wf (.refInEdge t)) (fun s => if tickLe t s.now then s.doRefEdge t else s) s

/-- No edge has come within 1.5 p_ref of the last one (R68). -/
def State.refLate (s : State) : Bool :=
  match s.tmg.refLast with
  | some t => s.src = 1 && !s.tmg.refTimedOut && decide (0 < s.tmg.pRef) && decide (3 * s.tmg.pRef ≤ 16 * tickSpan t s.now)
  | none => false

def execRefLossTimeout (s : State) : Host.Outcome State Fault Refusal :=
  run (fun s => if s.refLate then State.refLose { s with tmg.refTimedOut := true, tmg.alignWait := [] } else s) s

/-- How many edges after the last one the edge of an aligned snapshot at tick `t` stands (log 12). -/
def State.edgesOn (s : State) (t : Nat) : Int :=
  match s.tmg.refLast with
  | some e => if s.refC = 0 then 0 else rndDiv (tickDiff t e - s.refOfsI) s.refC
  | none => 0

/-- The edge `n` places after the last one: one of the edges taken, or where whole reference cycles put it. -/
def State.edgeAt (s : State) (n : Int) : Nat :=
  match s.tmg.refLast with
  | some e =>
    let m := (-n).toNat
    if n ≤ 0 ∧ m ≤ s.tmg.refIntervals.length then tickAdd e (-(sumN (s.tmg.refIntervals.take m) : Int))
    else tickAdd e (n * s.refC)
  | none => 0

/-- The error of an aligned snapshot as far as it is known at its tick (R66, R67). -/
def State.alignedErr (s : State) (t : Nat) : Int :=
  if s.tmg.refLast.isNone then 0 else tickDiff t (s.edgeAt (s.edgesOn t)) - s.refOfsI

/-- A cycle of `c` ticks cut into `m` intervals, the first of them one tick longer (R67). -/
def cutCycle (c m : Nat) : List Nat :=
  (List.range m).map fun i => c / m + if i < c % m then 1 else 0

/-- The intervals of the reference cycle that begins at an aligned snapshot at tick `t` (R67, R68). -/
def State.refCycle (s : State) (t pmin : Nat) : List Nat :=
  let m := max 1 s.refMult
  let c : Int := s.refC
  let e := s.alignedErr t
  let lim : Int := max 1 (s.tol.prof.period * s.tolPpm / 1000000)
  let corr : Int :=
    if s.tmg.holdover && !s.tmg.refBack then 0
    else if s.inStream && !s.tmg.realign then clampI (-(lim * m)) (lim * m) (-e)
    else if c - e < pmin * m then c - e
    else -e
  cutCycle (c + corr).toNat m

/-- An aligned snapshot at tick `t`: it is judged at once if its edge has come, else when that edge comes (R66). -/
def State.alignedSnap (s : State) (t : Nat) : State :=
  let n := s.edgesOn t
  if 0 < n then { s with tmg.alignWait := s.tmg.alignWait ++ [(t, s.edgeAt n)] } else s.judgeAligned t (s.edgeAt n)

/-! ## Timecode -/

/-- Ticks of an LTC frame by rate code, times 3 (R70, R71): 24, 25, 29.97 and 30 frames per second. -/
def ltcTicks3 : Nat → Nat
  | 0 => 31250000
  | 1 => 30000000
  | 2 => 25025000
  | _ => 25000000

def ltcFps : Nat → Nat
  | 0 => 24
  | 1 => 25
  | _ => 30

/-- The fields of a code in TMG_LTC_CODE layout. -/
def ltcFrames (c : Nat) : Nat := c % 32
def ltcSeconds (c : Nat) : Nat := c / 32 % 64
def ltcMinutes (c : Nat) : Nat := c / 2 ^ 11 % 64
def ltcHours (c : Nat) : Nat := c / 2 ^ 17 % 32
def ltcRate (c : Nat) : Nat := c / 2 ^ 23 % 4

/-- Hours to frames, drop-frame flag and rate put together. -/
def ltcPack (h m sec f df rate : Nat) : Nat := f + 32 * sec + 2 ^ 11 * m + 2 ^ 17 * h + 2 ^ 22 * df + 2 ^ 23 * rate

/-- The code after this one, with the drop-frame rule at 29.97: frames 0 and 1 are left out at the start of every
minute that is not a multiple of ten (R71). -/
def ltcNext (c : Nat) : Nat :=
  let rate := ltcRate c
  let df := c / 2 ^ 22 % 2
  let f := ltcFrames c + 1
  if f < ltcFps rate then ltcPack (ltcHours c) (ltcMinutes c) (ltcSeconds c) f df rate
  else
    let sec := ltcSeconds c + 1
    if sec < 60 then ltcPack (ltcHours c) (ltcMinutes c) sec 0 df rate
    else
      let m := (ltcMinutes c + 1) % 60
      let h := if ltcMinutes c = 59 then (ltcHours c + 1) % 24 else ltcHours c
      ltcPack h m 0 (if rate = 2 ∧ m % 10 ≠ 0 then 2 else 0) df rate

def ltcAdvance : Nat → Nat → Nat
  | 0, c => c
  | n + 1, c => ltcAdvance n (ltcNext c)

/-- The code without the VALID and PREDICTED bits. -/
def ltcBare (c : Nat) : Nat := c % 2 ^ 25

/-- The timecode of a frame that closes at tick `t`: VALID, PREDICTED, the code, and the LTC phase (R72, R73). -/
structure TcField where
  valid : Bool
  predicted : Bool
  code : Nat
  user : Nat
  phase : Nat
  deriving DecidableEq, Repr

/-- The timecode assigned to a snapshot at tick `t` (R72, R73). The LTC frame that is being received began at
`ltcBoundary`; the last decoded code is that of the frame before it, which began at `ltcStart`. DESIGN CHOICE (log 106): a
predicted code comes with the user bits of the last decoded LTC frame, and while VALID is 0 the field holds the last decoded
code and user bits; LTC_EN cleared while timecode is present makes VALID 0 at once, and LTC_PRESENT stays until the loss timeout. -/
def State.timecodeAt (s : State) (t : Nat) : TcField :=
  let c := s.tmg.ltcCode.toNat
  let user := s.tmg.ltcUser.toNat
  if !s.ltcEn || !s.tmg.ltcValid then { valid := false, predicted := false, code := ltcBare c, user, phase := 0xFFFFFFFF }
  else if !tickLe s.tmg.ltcBoundary t then
    -- the decoded LTC frame itself holds the snapshot
    { valid := true, predicted := false, code := ltcBare c, user, phase := tickSpan s.tmg.ltcStart t % 2 ^ 32 }
  else
    let d3 := ltcTicks3 (ltcRate c)
    let past := tickSpan s.tmg.ltcBoundary t
    let n := if s.tmg.ltcFreewheel then past * 3 / d3 else 0
    { valid := true, predicted := true, code := ltcBare (ltcAdvance (n + 1) c), user
      phase := (past - n * d3 / 3) % 2 ^ 32 }

/-- The 64-bit timecode field (R73). -/
def tcWord (f : TcField) : Nat := f.user % 2 ^ 32 + 2 ^ 32 * (f.code + 2 ^ 25 * b2n f.valid + 2 ^ 26 * b2n f.predicted)

/-- Is the bit rate of an LTC frame of 80 bits in `d` ticks within 5 % of a nominal rate (R70)? -/
def ltcRateOk (d rate : Nat) : Bool := 95 * rate * d ≤ 2000000000000 && 2000000000000 ≤ 105 * rate * d

/-- The rate code of an LTC frame of `d` ticks (R70): the nearest of the nominal bit rates that it is within 5 % of; the
drop-frame flag tells 29.97 from 30. -/
def ltcRateCode (d : Nat) (df : Bool) : Option Nat :=
  if ltcRateOk d 2400 then some (if df then 2 else 3)
  else if ltcRateOk d 2000 && decide (1960 * d ≤ 20000000000) then some 1
  else if ltcRateOk d 1920 then some 0
  else none

/-- An LTC frame is decoded (R70 to R72): `c` is its code in TMG_LTC_CODE layout with its rate, `start` and `stop` the ticks of its
boundary and of the next one. -/
def State.ltcDecode (s : State) (start stop c : Nat) (user : Word) : State :=
  let consecutive := s.tmg.ltcGood && c = ltcNext (ltcBare s.tmg.ltcCode.toNat)
  -- a prediction for a snapshot in this LTC frame is judged now, one for a later snapshot when its own LTC frame is decoded
  let bad := s.tmg.ltcPredicted.filter fun (_, p, t) => ltcBare p ≠ c && tickLe start t && !tickLe stop t
  let s :=
    match bad.head?, bad.getLast? with
    | some (first, _, _), some (last, _, _) =>
      (s.sticky Fld.TMG_STATUS_LTC_MISMATCH).event 0x0004
        (leBytes 8 first ++ leBytes 8 last ++ leBytes 4 (c + 2 ^ 25))
    | _, _ => s
  let present := s.tmg.ltcPresent || consecutive
  { s with
    tmg.ltcCode := BitVec.ofNat 32 c
    tmg.ltcUser := user
    tmg.ltcBoundary := stop
    tmg.ltcStart := start
    tmg.ltcGood := true
    tmg.ltcPresent := present
    tmg.ltcFreewheel := if consecutive then false else s.tmg.ltcFreewheel
    tmg.ltcValid := s.tmg.ltcValid || present
    tmg.ltcLastSync := s.mono - tickSpan stop s.now
    tmg.ltcPredicted := s.tmg.ltcPredicted.filter fun (_, _, t) => tickLe stop t }

/-- An LTC frame from tick `start` to tick `stop` has been received (R70): discarded in reverse, and outside the accepted bit
rates. -/
def State.doLtcFrame (s : State) (start stop : Nat) (code user : Word) (reverse : Bool) : State :=
  if !s.ltcEn || reverse || !tickLe start stop then s
  else
    match ltcRateCode (tickSpan start stop) (code.getLsbD 22) with
    | some r => s.ltcDecode start stop (code.toNat % 2 ^ 23 + 2 ^ 23 * r) user
    | none => s

def execLtcFrame (p : LtcSpan) (code user : Word) (reverse : Bool) (s : State) : Host.Outcome State Fault Refusal :=
  runIf "LTC_FRAME" (Instr.wf (.ltcFrame p code user reverse))
    (fun s => if tickLe p.stop s.now then s.doLtcFrame p.start p.stop code user reverse else s) s

/-- No valid sync word for two LTC frame durations (R73): freewheeling begins, or validity ends at once. DESIGN CHOICE (log 116): its
length is that of FREEWHEEL at the loss, and a later write of it does not act on it. -/
def State.doLtcLoss (s : State) : State :=
  let d3 := ltcTicks3 (ltcRate s.tmg.ltcCode.toNat)
  if s.tmg.ltcPresent && 2 * d3 ≤ 3 * (s.mono - s.tmg.ltcLastSync) then
    let n := s.fld Fld.TMG_LTC_CFG_FREEWHEEL
    let s := s.sticky Fld.TMG_STATUS_LTC_LOST
    { s with
      tmg.ltcPresent := false, tmg.ltcGood := false
      tmg.ltcFreewheel := n != 0, tmg.ltcValid := n != 0
      tmg.ltcFreeEnd := s.mono + n * d3 / 3 }
  else s

def execLtcLossTimeout (s : State) : Host.Outcome State Fault Refusal := run State.doLtcLoss s

/-- FREEWHEEL predicted LTC frames have passed (R73). -/
def State.doFreewheelEnd (s : State) : State :=
  if s.tmg.ltcFreewheel && s.tmg.ltcFreeEnd ≤ s.mono then
    { s with tmg.ltcFreewheel := false, tmg.ltcValid := s.tmg.ltcPresent }
  else s

def execLtcFreewheelEnd (s : State) : Host.Outcome State Fault Refusal := run State.doFreewheelEnd s

/-! ## Configuration writes -/

/-- Is a value for TMG_SYNC_CFG, TMG_REF_OFS or TMG_REF_TOL in range (R59, R82)? -/
def syncValueOk (off : Nat) (v : Word) : Bool :=
  if off = Reg.TMG_SYNC_CFG then
    fldOf v Fld.TMG_SYNC_CFG_SRC ≠ 3 && 1 ≤ fldOf v Fld.TMG_SYNC_CFG_REF_MULT && fldOf v Fld.TMG_SYNC_CFG_REF_MULT ≤ 16
  else if off = Reg.TMG_REF_OFS then -50000000 ≤ v.toInt && v.toInt ≤ 50000000
  else 1 ≤ fldOf v Fld.TMG_REF_TOL_TOL_PPM && fldOf v Fld.TMG_REF_TOL_TOL_PPM ≤ 10000

/-- A write to one of the three synchronisation registers (R63): discarded in STREAM or TAKE, else in force from the
next frame snapshot. -/
def State.doSyncWrite (s : State) (off : Nat) (v : Word) : State :=
  if s.inStream || !syncValueOk off v then s.sticky Fld.TMG_STATUS_CFG_REJ else s.hostSet off v

def execTmgSyncConfigWrite (off : Nat) (v : Word) (s : State) : Host.Outcome State Fault Refusal :=
  runIf "TMG_SYNC_CONFIG_WRITE" (Instr.wf (.tmgSyncConfigWrite off v))
    (fun s => s.woken.doSyncWrite off v) s

/-- A write to the trigger configuration (R83): in force from the next tick, which copies the registers. -/
def execTmgTrigConfigWrite (off : Nat) (v : Word) (s : State) : Host.Outcome State Fault Refusal :=
  runIf "TMG_TRIG_CONFIG_WRITE" (Instr.wf (.tmgTrigConfigWrite off v)) (fun s => s.woken.hostSet off v) s

/-! ## The schedule -/

/-- What is known of the reference starts anew where SRC changes (R69); a change of M or of the edge begins a new reference
cycle. DEDUCED (log 105): a write that leaves SRC as it is does not count as a write of SRC. -/
def State.restartRef (s : State) (new : Word) : State :=
  let old := s.tmg.syncCfg
  let same := fun (f : Fld) => fldOf new f = fldOf old f
  let s := if same Fld.TMG_SYNC_CFG_SRC ∧ same Fld.TMG_SYNC_CFG_REF_MULT ∧ same Fld.TMG_SYNC_CFG_REF_EDGE then s
    else { s with tmg.intervals := [], tmg.alignWait := [] }
  if same Fld.TMG_SYNC_CFG_SRC then s
  else { s with
    tmg.refFormed := false, tmg.refPresent := false, tmg.locked := false, tmg.holdover := false, tmg.lockRun := 0
    tmg.refRun := 0, tmg.refBack := false }

/-- A frame snapshot takes the synchronisation settings written since the last one into force (R63). -/
def State.latchSync (s : State) : State :=
  let s := s.restartRef (s.reg Reg.TMG_SYNC_CFG)
  { s with
    tmg.syncCfg := s.reg Reg.TMG_SYNC_CFG, tmg.refOfs := s.reg Reg.TMG_REF_OFS, tmg.refTol := s.reg Reg.TMG_REF_TOL }

/-- The next snapshot stands `d` ticks after tick `t`. -/
def State.placeAt (s : State) (t d : Nat) : State := { s with tmg.nextSnap := tickAdd t d }

/-- Where the snapshot after the one at tick `t` falls, in REF mode never nearer than P_min (R59, R67, R69, R301); `pmin` is P_min of the window and `last` the
interval that ends at `t`. Under RING it stands at the last interval until a FRAME_EPOCH sets it; after a band phase the
first interval is the restored period instead (R171). -/
def State.scheduleNext (s : State) (t pmin last : Nat) : State :=
  let period := s.tol.prof.period
  if s.refPlacing then
    match s.tmg.intervals with
    | d :: ds => State.placeAt { s with tmg.intervals := ds } t (max pmin d)
    | [] =>
      let is := s.refCycle t pmin
      let s := { (s.alignedSnap t) with tmg.realign := false }
      match is with
      | d :: ds => State.placeAt { s with tmg.intervals := ds } t (max pmin d)
      | [] => s.placeAt t period
  else if s.ringPlacing then
    State.placeAt { s with way.epochTick := none } t (if s.tmg.realign then period else last)
  else State.placeAt { s with tmg.realign := false, way.epochTick := none } t period

end Sys2Proof.Machine
end

