-- ==== Sys2Proof/Machine/Flush.lean ====
section
/-! DEFINITION. Flush events (R136 to R142): seeds, cold history (R126, R127), episodes, and their records (R145, R147). -/

namespace Sys2Proof.Machine

open Sys2Proof

/-! ## Causes (R136) -/

abbrev Cause.coilKink : Nat := 1
abbrev Cause.satBurst : Nat := 2
abbrev Cause.racking : Nat := 4
abbrev Cause.profile : Nat := 8
abbrev Cause.hostFlush : Nat := 16
abbrev Cause.roleReseed : Nat := 32
abbrev Cause.streamStart : Nat := 64

/-! ## Records (R145, R147) -/

/-- The 48 bytes of R147. -/
def FlushRec.payload (r : FlushRec) : List Byte :=
  let e := fun (x : Option Nat) => leBytes 8 (x.getD allOnes)
  e r.first ++ leBytes 4 r.count ++ leBytes 1 r.causes ++ leBytes 1 (b2n r.seed.isNone) ++ leBytes 2 0 ++ e r.seed ++
    e r.handled ++ leBytes 8 r.start ++ e r.stop

/-- Do preview frames go to channel 1 (R144)? Not once a reduction step has dropped the preview stream. -/
def State.previewing (s : State) : Bool :=
  (s.frames.any fun f => f.streamed && f.prof.preview) && !(s.tol.req.preview && !s.ownProf.preview)

/-- A flush's records: RETRACT on channel 1 while the stream has preview frames, which a disabled channel discards and counts
(R280), RESTORE_FLUSH on channel 3; FLUSH_SEEN, and RETRACT_SEEN with the count (R144, R145). -/
def State.publishFlush (s : State) (r : FlushRec) : State :=
  let s := s.sticky Fld.TRS_STATUS_FLUSH_SEEN
  let s := s.stickyIf (decide (0 < r.count)) Fld.TRS_STATUS_RETRACT_SEEN
  let s := s.bump Reg.TRS_RETRACT_COUNT r.count
  let s := if s.previewing then s.formRec 1 (plainRec 2 (r.first.getD allOnes) r.payload) else s
  s.event 0x0006 r.payload

/-! ## Seeds and cold history -/

def State.mapFrames (s : State) (g : FrameW → FrameW) : State := { s with frames := s.frames.map g }

/-- The frame numbered `k` among those in flight. -/
def State.frameOf (s : State) (k : Nat) : Option FrameW := s.frames.find? (·.k = k)

def State.setFrame (s : State) (f : FrameW) : State := s.mapFrames fun g => if g.k = f.k then f else g

/-- S_k of a frame number, from the snapshots taken. -/
def State.snapOf (s : State) (k : Nat) : Option Nat := (s.trs.snaps.find? (·.1 = k)).map (·.2)

/-- The tick of the snapshot that opens frame `g`: taken, or as the period in force places it. -/
def State.opensAt (s : State) (g : Nat) : Nat :=
  (s.snapOf (g - 1)).getD (tickAdd s.tmg.nextSnap ((g - 1 - s.tmg.frame) * s.tol.prof.period))

/-- The cold run of a seed at frame `g` (R127; DEDUCED, log 115: a run never ends before the one that it extends): exactly its frames from `g` on carry HISTORY_COLD; a copy that is complete is not
changed (R134, R141). -/
def State.coldFrom (s : State) (g : Nat) : State :=
  match s.frameOf g with
  | none => s
  | some f =>
    let code := tauMaxCode f.img f.prof
    let k := coldLength code f.prof.period
    let last := max (g + k - 1) (s.trs.coldEnd.getD 0)
    let s := { s with trs.coldStart := g, trs.coldEnd := some last, trs.coldK := k, trs.coldCode := code }
    s.mapFrames fun f =>
      if g ≤ f.k ∧ !f.comDone then
        { f with cold := decide (f.k ≤ last), coldPrev := if f.prevDone then f.coldPrev else decide (f.k ≤ last) }
      else f

/-- The MONITOR history of tile rows starts again at frame `g` (R106). -/
def State.monCut (s : State) (g : Nat) (rows : List Nat) : State :=
  { s with trs.monCuts := (g, rows) :: s.trs.monCuts }

/-- What the passes have made of a frame so far is void: its references, its predicted grid and its restored rows are made again;
a preview copy that is complete stays. -/
def FrameW.renew (f : FrameW) : FrameW :=
  { f with
    ref := none, yRows := []
    gridPred := if f.prevDone then f.gridPred else none
    prevRows := if f.prevDone then f.prevRows else [] }

/-- An array seed at frame `g` (R126): restoration, ref_c and the MONITOR history start again there, and no frame from there on
is handled in an episode. What was made of such a frame without the seed is made anew. -/
def State.seedAt (s : State) (g : Nat) : State :=
  let s := s.mapFrames fun f =>
    if g ≤ f.k ∧ !f.comDone then
      let f := { f with episode := false, arraySeed := f.arraySeed || f.k = g }
      if f.prepared then f.renew else f
    else f
  let s := State.monCut { s with trs.seed := some g } g (List.range 48)
  (s.setPair Reg.TRS_SEED_FRAME_LO g).coldFrom g

/-- Rows seeded at frame `g` under RESEED (R128, R106). -/
def State.seedRowsAt (s : State) (g : Nat) (rows : List Nat) : State :=
  let s := s.mapFrames fun f => if f.k = g ∧ !f.arraySeed then { f with seedRows := rows } else f
  (s.monCut g rows).coldFrom g

/-- The open episode ends with an array seed at frame `g`; a HOST_FLUSH in it is over (R142, R148). -/
def State.endEpisode (s : State) (g : Nat) : State :=
  match s.trs.episode with
  | none => s
  | some e =>
    let s := State.seedAt { s with trs.episode := none } g
    if (e.causes ||| e.sched) &&& Cause.hostFlush = 0 then s else s.setFld Fld.TRS_CTRL_FLUSH 0

/-! ## Episodes -/

/-- The frame now integrating. -/
def State.integrating (s : State) : Nat := s.tmg.frame

/-- First frame of the stream whose closing snapshot is later than tick `t` (R137): from the snapshots taken, else the
frame now integrating. -/
def State.firstAfter (s : State) (t : Nat) : Nat :=
  let l := (s.trs.snaps.filter fun e => !tickLe e.2 t).map (·.1)
  max s.trs.firstFrame (l.foldl min s.integrating)

/-- First frame whose integration starts at or after tick `t` (R136), apart from those whose committed copy is complete (R141): of
a frame that has not begun, its number as the period in force gives it (log 33). -/
def State.firstFrom (s : State) (t : Nat) : Nat :=
  let begun := s.frames.filter fun f => f.streamed && tickLe t f.prev && !f.comDone
  match begun with
  | f :: t => (f :: t).foldl (fun m g => min m g.k) f.k
  | [] => s.integrating + 1 + ceilDiv (tickDiff t s.tmg.nextSnap).toNat (max 1 s.tol.prof.period)

/-- The first committed frame that a flush from `f` on handles before its seed (R141, R147). -/
def State.firstHandled (s : State) (f : Nat) (seed : Option Nat) : Option Nat :=
  let done := (s.frames.filter fun g => g.streamed && g.comDone).map (·.k + 1)
  let h := max f (maxN done)
  match seed with
  | some g => if h < g then some h else none
  | none => some h

/-- Frames from `f` on, before the seed, are handled from now on (R139): restored values are those of GAIN, LOOKAHEAD
passes, and the frames carry HISTORY_COLD. A frame that is complete is not changed (R141), nor is a queued preview.
DEDUCED (log 115): a preview that is not queued yet is handled although its committed copy is complete. -/
def State.handleFrom (s : State) (f : Nat) (seed : Option Nat) : State :=
  s.mapFrames fun g =>
    if g.streamed && f ≤ g.k && (match seed with | some q => g.k < q | none => true) then
      let g := if g.comDone then g
        else { g with
          episode := true, cold := true
          yRows := g.yRows.map fun r => match g.gridMeas with
            | some t => g.throughRow (g.gainRow t r.row) r.row
            | none => r }
      if g.prevDone then g
      else { g with
        coldPrev := true
        prevRows := g.prevRows.map fun r => match g.gridPred with
          | some t => g.throughRow (g.gainRow t r.row) r.row
          | none => r }
    else g

/-- The preview frames that a flush from `f` on retracts: first and count (R140, R147), and the state without them. A
retracted frame receives no REVISION. -/
def State.retractFrom (s : State) (f : Nat) : State × Option Nat × Nat :=
  let ks := s.trs.queuedPrev.filter (f ≤ ·)
  match ks with
  | [] => (s, none, 0)
  | k :: t =>
    let lo := t.foldl min k
    let hi := t.foldl max k
    ({ s with
       trs.queuedPrev := s.trs.queuedPrev.filter (· < f)
       trs.revWait := s.trs.revWait.filter fun e => e.2.frame < f }, some lo, hi - lo + 1)

def laterSeed (a b : Option Nat) : Option Nat :=
  match a, b with
  | some x, some y => some (max x y)
  | _, _ => none

def laterEnd (a b : Option Nat) : Option Nat :=
  match a, b with
  | some x, some y => some (max x y)
  | _, _ => none

/-- An episode opens, or merges with the one that is open (R137 to R142), at its notice. -/
def State.openEpisode (s : State) (causes f start : Nat) (stop seed : Option Nat) : State :=
  let e : Episode := match s.trs.episode with
    | none => { causes, f, startTick := start, endTick := stop, kinkEnd := stop.getD 0, seed, sched := 0, waiting := 0
                opens := [] }
    | some o => { causes := o.causes ||| causes, sched := o.sched, waiting := o.waiting, f := min o.f f, startTick := min o.startTick start,
                  endTick := laterEnd o.endTick stop,
                  kinkEnd := max o.kinkEnd (stop.getD 0), seed := laterSeed o.seed seed, opens := o.opens }
  let handled := s.firstHandled f e.seed
  let s := s.handleFrom f e.seed
  let (s, first, count) := s.retractFrom f
  let first := if count = 0 then e.seed else first
  let r : FlushRec := { first, count, causes := e.causes, seed := e.seed, handled, start := e.startTick, stop := e.endTick }
  let s := { s with trs.episode := some { e with opens := if e.seed.isNone then e.opens ++ [r] else e.opens }
                    trs.notice := some (f, s.mono) }
  let s := match e.seed with | some g => s.setPair Reg.TRS_SEED_FRAME_LO g | none => s
  let s := s.publishFlush r
  -- a seed frame that has begun is seeded at once
  match e.seed with
  | some g => if g ≤ s.integrating then s.endEpisode g else s
  | none => s

/-- The newest kink episode, with those that it overlaps (R136, R142). -/
def joinKink (old : Option (Nat × Nat)) (start stop : Nat) : Nat × Nat :=
  match old with
  | some (a, b) => if tickLe start b then (if tickLe a start then a else start, if tickLe b stop then stop else b) else (start, stop)
  | none => (start, stop)

/-- A confirmed kink with its episode's start and end (R137). Without a streamed frame that it affects it makes no flush; a
stream that starts before its end looks at it again (R136). -/
def State.kinkFlush (s : State) (start stop : Nat) : State :=
  let s := { s with trs.kinkOpen := some (joinKink s.trs.kinkOpen start stop) }
  let f := s.firstAfter start
  if s.inStream && (match s.trs.lastFrame with | some e => decide (f ≤ e) | none => true) then
    s.openEpisode Cause.coilKink f start (some stop) (some (max (f + 1) (s.firstFrom stop)))
  else s

/-- A burst's notice (R138): the episode is open until the burst ends. -/
def State.burstFlush (s : State) (f : Nat) : State :=
  let start := (s.snapOf (f - 1)).getD s.now
  (s.sticky Fld.TRS_STATUS_SAT_BURST).openEpisode Cause.satBurst f start none none

/-- The record of scheduled causes inside an episode whose seed is frame `g` (R142, R147). -/
def State.schedRecord (s : State) (g causes : Nat) : State :=
  let t := s.opensAt g
  s.publishFlush { first := some g, count := 0, causes, seed := some g, handled := some g, start := t, stop := some t }

/-- The second record of one that was published OPEN: final, with the same range (R147). -/
def FlushRec.closed (r : FlushRec) (g stop : Nat) : FlushRec :=
  { r with first := if r.count = 0 then some g else r.first, seed := some g, stop := some stop }

/-- The burst has ended at frame `g`, the first that is not a burst frame; `stop` is S of the last burst frame (R138, R147).
The second record of each one published OPEN goes to channel 3 alone: the burst's, and that of a kink merged into it (DEDUCED,
log 117). The record of scheduled flushes inside it goes out beside them. -/
def State.burstEnd (s : State) (g stop : Nat) : State :=
  match s.trs.episode with
  | none => s
  | some e =>
    if e.seed.isSome then s
    else
      -- a merged kink keeps the episode open to its own end (R142)
      let g := if e.causes &&& Cause.coilKink = 0 then g else max g (s.firstFrom e.kinkEnd)
      let stop := max stop e.kinkEnd
      let s := e.opens.foldl (fun s r => s.event 0x0006 (r.closed g stop).payload) s
      let s := if e.waiting = 0 then s else s.schedRecord g e.waiting
      let e := { e with waiting := 0, opens := [] }
      let s := { s with trs.episode := some e }
      if g ≤ s.integrating then s.endEpisode g
      else State.setPair { s with trs.episode := some { e with seed := some g, endTick := some stop } } Reg.TRS_SEED_FRAME_LO g

/-- The flushes scheduled for frame `f`, which opens now at tick `t` (R136, R142): inside an open episode they make no
seed of their own, and their record names the episode's; in a burst it waits until that seed is known (DEDUCED, log 115). -/
def State.scheduledFlush (s : State) (f t causes : Nat) (rows : List Nat) : State :=
  if causes = 0 then s
  else match s.trs.episode with
    | some e =>
      let e := { e with sched := e.sched ||| causes }
      match e.seed with
      | some g => State.schedRecord { s with trs.episode := some e } g causes
      | none => { s with trs.episode := some { e with waiting := e.waiting ||| causes } }
    | none =>
      let s := if causes = Cause.roleReseed then s.seedRowsAt f rows else s.seedAt f
      s.publishFlush { first := some f, count := 0, causes, seed := some f, handled := some f, start := t, stop := some t }

/-- The first frame `f` of a stream opens at tick `t` (R136): a seed, or a kink episode that is still open. -/
def State.streamFlush (s : State) (f t causes : Nat) : State :=
  match s.trs.kinkOpen with
  | some (a, b) =>
    if tickLe b t then s.scheduledFlush f t causes []
    else
      let seed := f + ceilDiv (tickSpan t b) (max 1 s.tol.prof.period)
      let causes := causes ||| Cause.coilKink
      let e : Episode := { causes, f, startTick := a, endTick := some b, kinkEnd := b, seed := some seed, sched := 0, waiting := 0
                           opens := [] }
      let s := { s with trs.episode := some e }
      let s := (s.handleFrom f (some seed)).setPair Reg.TRS_SEED_FRAME_LO seed
      s.publishFlush { first := some seed, count := 0, causes, seed := some seed, handled := some f, start := a, stop := some b }
  | none => s.scheduledFlush f t causes []

/-- Is frame `f`, which opens at tick `t`, the seed frame of the open episode: the first one that starts at or after its end
(R136)? -/
def State.episodeSeeds (s : State) (f t : Nat) : Bool :=
  match s.trs.episode with
  | some e => e.seed.isSome && decide (e.f < f) && (match e.endTick with | some b => tickLe b t | none => false)
  | none => false

/-- What an open episode and the cold run make of frame `f`, which opens now at tick `t`: it is handled, it is the seed frame, or
neither (R126, R127, R139). -/
def State.episodeAt (s : State) (f t : Nat) : State :=
  let s := match s.trs.coldEnd with
    | some e => if f ≤ e then s.mapFrames fun g => if g.k = f then { g with cold := true, coldPrev := true } else g else s
    | none => s
  if s.trs.episode.isNone then s
  else if s.episodeSeeds f t then s.endEpisode f
  else s.handleFrom f none

end Sys2Proof.Machine
end

