-- ==== Sys2Proof/Machine/Hash.lean ====
section
/-! DEFINITION. The check and digest functions that the rules name: CRC-32C (R360), the CRC-8 of polynomial 0x07 (R288),
and SHAKE256 with 256 bits of output as FIPS 202 defines it (log 25). -/

namespace Sys2Proof.Machine

open Sys2Proof

/-! ## Cyclic redundancy checks -/

def crcStep32 : Nat → BitVec 32 → BitVec 32
  | 0, c => c
  | n + 1, c => crcStep32 n (if c.getLsbD 0 then (c >>> 1) ^^^ 0x82F63B78#32 else c >>> 1)

/-- CRC-32C: the reflected Castagnoli polynomial, initial value and final complement of all ones (log 26). -/
def crc32c (b : List Byte) : Nat :=
  (~~~(b.foldl (fun c x => crcStep32 8 (c ^^^ x.setWidth 32)) 0xFFFFFFFF#32)).toNat

def crcStep8 : Nat → BitVec 8 → BitVec 8
  | 0, c => c
  | n + 1, c => crcStep8 n (if c.getLsbD 7 then (c <<< 1) ^^^ 0x07#8 else c <<< 1)

/-- The CRC-8 of R288. -/
def crc8 (b : List Byte) : Nat := (b.foldl (fun c x => crcStep8 8 (c ^^^ x)) 0#8).toNat

/-! ## SHAKE256 -/

/-- One step of the register that generates the round constants: x^8 + x^6 + x^5 + x^4 + 1. -/
def rcNext (v : Nat) : Nat := if v < 128 then 2 * v else (2 * v).xor 0x171

/-- The register after `n` steps from 1; its lowest bit is the constant's bit of that step. -/
def rcAfter : Nat → Nat
  | 0 => 1
  | n + 1 => rcNext (rcAfter n)

/-- The constant of round `r`: bits 0, 1, 3, 7, 15, 31 and 63 come from steps 7r to 7r + 6. -/
def roundConst (r : Nat) : BitVec 64 :=
  BitVec.ofNat 64 (sumN ((List.range 7).map fun j => rcAfter (7 * r + j) % 2 * 2 ^ (2 ^ j - 1)))

/-- The five columns of the 25 words, word (x, y) at 5y + x: their sums modulo 2, bit by bit. -/
def colSum (st : List (BitVec 64)) (x : Nat) : BitVec 64 :=
  ([0, 5, 10, 15, 20].map fun r => st.getD (r + x % 5) 0).foldl (· ^^^ ·) 0

/-- Each word takes up the column before it and, turned by one, the column after it. -/
def mixColumns (st : List (BitVec 64)) : List (BitVec 64) :=
  let sums := (List.range 5).map (colSum st)
  st.zipIdx.map fun (w, i) => w ^^^ (sums.getD ((i + 4) % 5) 0 ^^^ (sums.getD ((i + 1) % 5) 0).rotateLeft 1)

/-- The walk over the 24 words other than (0, 0): word (x, y), turned by the `t`-th triangular number, moves to (y, 2x + 3y). -/
def turnAndMove (st : List (BitVec 64)) : Nat → Nat → Nat → Nat → List (BitVec 64) → List (BitVec 64)
  | 0, _, _, _, out => out
  | n + 1, t, x, y, out =>
    let z := (2 * x + 3 * y) % 5
    turnAndMove st n (t + 1) y z (out.set (5 * z + y) ((st.getD (5 * y + x) 0).rotateLeft (t * (t + 1) / 2 % 64)))

/-- The non-linear step along each row. -/
def foldRow : List (BitVec 64) → List (BitVec 64)
  | [p, q, r, s, t] => [p ^^^ (r &&& ~~~q), q ^^^ (s &&& ~~~r), r ^^^ (t &&& ~~~s), s ^^^ (p &&& ~~~t), t ^^^ (q &&& ~~~p)]
  | l => l

/-- Round `r` of the permutation of 1,600 bits. -/
def permRound (st : List (BitVec 64)) (r : Nat) : List (BitVec 64) :=
  let mixed := mixColumns st
  let moved := turnAndMove mixed 24 1 1 0 mixed
  let rows := ([0, 5, 10, 15, 20].map fun i => foldRow ((moved.drop i).take 5)).flatten
  rows.modify 0 (· ^^^ roundConst r)

def perm (st : List (BitVec 64)) : List (BitVec 64) := (List.range 24).foldl permRound st

/-- Whole blocks of 136 bytes taken in: 17 words of a block are added to the first 17 of the state. -/
def takeIn : Nat → List (BitVec 64) → List Byte → List (BitVec 64)
  | 0, st, _ => st
  | n + 1, st, b =>
    takeIn n (perm (st.zipIdx.map fun (w, i) => if i < 17 then w ^^^ BitVec.ofNat 64 (fieldLe b (8 * i) 8) else w)) (b.drop 136)

/-- SHAKE256 with a 256-bit output: the message, 0x1F and zeros to a whole number of blocks, the last bit set. -/
@[irreducible] def shake256 (b : List Byte) : List Byte :=
  let blocks := b.length / 136 + 1
  let m := padTo (136 * blocks) (b ++ [0x1F])
  let st := takeIn blocks (List.replicate 25 0) (m.modify (136 * blocks - 1) (· ||| 0x80))
  (st.take 4).flatMap fun w => leBytes 8 w.toNat

end Sys2Proof.Machine
end

