-- ==== Sys2Proof/Machine/Nv.lean ====
section
/-! DEFINITION. The non-volatile store (chapter 14): A/B records, spread counters, the log, the NV commands, RECALL. -/

namespace Sys2Proof.Machine

open Sys2Proof

/-! ## Writes -/

/-- Are NV writes allowed now (R330, R376, R378)? -/
def State.nvOpen (s : State) : Bool := s.pow.st ≠ .recall && !s.nv.barred

/-- A write of the store that takes `n` row or word writes. -/
def State.nvStore (s : State) (a : Nat) (b : List Byte) (n : Nat) : State :=
  let s := s.nvPut a b
  s.setPair Reg.NVS_ROW_WRITES_LO ((s.pair Reg.NVS_ROW_WRITES_LO + n) % 2 ^ 64)

/-- Row writes of consecutive rows. -/
def State.nvRows (s : State) (a : Nat) (b : List Byte) : State := s.nvStore a b (ceilDiv b.length 64)

/-- Ticks of a row or word write (R357). -/
def rowTicks : Nat := 50

/-- The firmware is about to make writes, given by address and length, one after the other once the array is free (R357). Those that
do not begin in this tick are noted with the bytes they replace, since a failure before they begin leaves these (R378, log 114). The
first one commits an increment of `redo`. -/
def State.nvLater (s : State) (writes : List (Nat × Nat)) (redo : Option Nat) : State :=
  let from_ := max s.mono s.nv.rowEnd
  let new := (writes.zipIdx.map fun ((a, n), i) =>
    ({ start := from_ + rowTicks * i, addr := a, old := s.nvBytes a n, redo := if i = 0 then redo else none } : NvRow)).filter
      fun r => decide (s.mono < r.start)
  { s with
    nv.rows := s.nv.rows.filter (fun r => decide (s.mono < r.start)) ++ new
    nv.rowEnd := from_ + rowTicks * writes.length }

/-- The store as a host command finds it: the firmware's rows that have not begun still hold what they held, since the firmware's writes
interleave with host commands at row boundaries (R376, log 114). -/
def State.nvBegun (s : State) : State :=
  (s.nv.rows.filter fun r => decide (s.mono < r.start)).reverse.foldl (fun s r => s.nvPut r.addr r.old) s

/-- The firmware writes that have not begun never do (R378): their rows and words keep what they held. Increments whose commit write is
among them are not counted (R368); they are those of the list. -/
def State.nvStopRows (s : State) : State × List Nat :=
  let l := s.nv.rows.filter fun r => decide (s.mono < r.start)
  let s := s.nvBegun
  let s := s.setPair Reg.NVS_ROW_WRITES_LO (s.pair Reg.NVS_ROW_WRITES_LO - l.length)
  ({ s with nv.rows := [], nv.rowEnd := min s.nv.rowEnd (s.mono + rowTicks) }, l.filterMap (·.redo))

/-! ## A/B records (R360 to R362) -/

/-- An A/B record: offset of copy A, distance to copy B, data rows, magic, area code. -/
structure AbRec where
  base : Nat
  stride : Nat
  rows : Nat
  magic : Nat
  area : Nat
  deriving DecidableEq, Repr

def abTrims : AbRec := { base := 0x4000, stride := 0x1000, rows := 4, magic := 0x4D495254, area := 1 }

def AbRec.addr (r : AbRec) (copy : Nat) : Nat := r.base + r.stride * copy

/-- The commit row's first 12 bytes for a data length and a sequence (R360). -/
def commitHead (magic len seq : Nat) : List Byte := leBytes 4 magic ++ leBytes 2 1 ++ leBytes 2 len ++ leBytes 4 seq

/-- A copy's sequence and data, if it is valid (R360). -/
def State.abCopy (s : State) (r : AbRec) (copy : Nat) : Option (Nat × List Byte) :=
  let c := s.nvBytes (r.addr copy + 64 * r.rows) 64
  let len := fieldLe c 6 2
  if fieldLe c 0 4 = r.magic ∧ fieldLe c 4 2 = 1 ∧ len ≤ 64 * r.rows then
    let d := s.nvBytes (r.addr copy) len
    if fieldLe c 12 4 = crc32c (d ++ c.take 12) then some (fieldLe c 8 4, d) else none
  else none

/-- Is sequence `a` newer than `b` (R361)? -/
def newer (a b : Nat) : Bool :=
  let d := (a + 2 ^ 32 - b) % 2 ^ 32
  1 ≤ d && d ≤ 2 ^ 31 - 1

/-- The copy in force and whether it was a tie (R361). -/
def resolveAb {α : Type} [DecidableEq α] (a b : Option (Nat × α)) : Option (Nat × Nat × α) × Bool :=
  match a, b with
  | none, none => (none, false)
  | some (s, d), none => (some (0, s, d), false)
  | none, some (s, d) => (some (1, s, d), false)
  | some (sa, da), some (sb, db) =>
    if newer sa sb then (some (0, sa, da), false)
    else if newer sb sa then (some (1, sb, db), false)
    else (some (0, sa, da), !decide (sa = sb ∧ da = db))

/-- The A/B record in force: its sequence and data. -/
def State.abNow (s : State) (r : AbRec) : Option (Nat × List Byte) :=
  match (resolveAb (s.abCopy r 0) (s.abCopy r 1)).1 with
  | some (_, q, d) => some (q, d)
  | none => none

/-- A new A/B record (R362): into the copy not in force, data rows first, the commit row last. Its sequence. -/
def State.abWrite (s : State) (r : AbRec) (data : List Byte) : State × Nat :=
  let now := (resolveAb (s.abCopy r 0) (s.abCopy r 1)).1
  let copy := match now with | some (0, _, _) => 1 | _ => 0
  let seq := match now with | some (_, q, _) => (q + 1) % 2 ^ 32 | none => 1
  let head := commitHead r.magic data.length seq
  let row := padTo 64 (head ++ leBytes 4 (crc32c (data ++ head)))
  let s := s.nvLater ((List.range (r.rows + 1)).map fun i => (r.addr copy + 64 * i, 64)) none
  let s := s.nvRows (r.addr copy) (padTo (64 * r.rows) data)
  (s.nvRows (r.addr copy + 64 * r.rows) row, seq)

/-! ## Spread counters (R366 to R369) -/

def ctrAddr (i : Nat) : Nat := 0x6000 + 0x400 * i

/-- A base copy of counter `i`, if it is valid: sequence and value. -/
def State.ctrBase (s : State) (i copy : Nat) : Option (Nat × Nat) :=
  let b := s.nvBytes (ctrAddr i + 64 * copy) 64
  if fieldLe b 0 4 = 0x42544E43 ∧ fieldLe b 4 1 = i ∧ fieldLe b 0x14 4 = crc32c (b.take 0x14) then
    some (fieldLe b 0x10 4, fieldLe b 8 8)
  else none

/-- The base in force: copy, sequence, value; a base with no valid copy counts as value 0, sequence 0. -/
def State.ctrNow (s : State) (i : Nat) : Option Nat × Nat × Nat :=
  match (resolveAb (s.ctrBase i 0) (s.ctrBase i 1)).1 with
  | some (c, q, v) => (some c, q, v)
  | none => (none, 0, 0)

/-- The tally word that carries marker `m` (R367). -/
def tallyMark (m : Nat) : Nat := 0xA5A5A5A5A5A50000 + (255 - m) * 256 + m

def State.tally (s : State) (i n : Nat) : Nat := ofLe (s.nvBytes (ctrAddr i + 0x200 + 8 * n) 8)

/-- Length of the run of current markers, from word `n` on with `fuel` words left. -/
def State.tallyRun (s : State) (i m : Nat) : Nat → Nat → Nat
  | 0, _ => 0
  | fuel + 1, n => if s.tally i n = tallyMark m then 1 + s.tallyRun i m fuel (n + 1) else 0

def State.ctrRun (s : State) (i : Nat) : Nat := s.tallyRun i ((s.ctrNow i).2.1 % 256) 64 0

/-- The value of counter `i` (R367). -/
def State.ctrValue (s : State) (i : Nat) : Nat := (s.ctrNow i).2.2 + s.ctrRun i

/-- The word and row writes of an increment of counter `i`, the commit write first (R367). -/
def State.ctrWrites (s : State) (i : Nat) : List (Nat × List Byte) :=
  let (copy, seq, v) := s.ctrNow i
  let n := s.ctrRun i
  if n < 64 then [(ctrAddr i + 0x200 + 8 * n, leBytes 8 (tallyMark (seq % 256)))]
  else
    let tgt := match copy with | some 0 => 1 | _ => 0
    let head := leBytes 4 0x42544E43 ++ leBytes 1 i ++ leBytes 3 0 ++ leBytes 8 (v + 65) ++ leBytes 4 (seq + 1)
    (ctrAddr i + 64 * tgt, padTo 64 (head ++ leBytes 4 (crc32c head))) ::
      (List.range 8).map fun r => (ctrAddr i + 0x200 + 64 * r, List.replicate 64 0)

/-- Writes of the store, each one row or word write. -/
def State.nvEach (s : State) (l : List (Nat × List Byte)) : State := l.foldl (fun s (a, b) => s.nvStore a b 1) s

/-- Counter `i` is incremented (R367); while NV writes are barred the increment is held (R330). -/
def State.ctrInc (s : State) (i : Nat) : State :=
  if !s.nvOpen then { s with nv.heldIncs := s.nv.heldIncs ++ [i] }
  else
    let l := s.ctrWrites i
    State.nvEach (s.nvLater (l.map fun (a, b) => (a, b.length)) (some i)) l

/-! ## The log (R371) -/

/-- Sequence of the log entry in slot `i`, if the entry is valid. -/
def State.logAt (s : State) (i : Nat) : Option Nat :=
  let b := s.nvBytes (0x10000 + 64 * i) 64
  let q := fieldLe b 0 4
  if q ≠ 0 ∧ fieldLe b 0x3C 4 = crc32c (b.take 0x3C) then some q else none

/-- The newest valid log entry's sequence; 0 with none. -/
def State.logNewest (s : State) : Nat :=
  (List.range 1024).foldl (fun m i =>
    match s.logAt i with
    | some q => if m = 0 ∨ newer q m then q else m
    | none => m) 0

/-- A log entry is written and published on channel 7 (R371, R379). -/
def State.logWrite (s : State) (typ : Nat) (payload : List Byte) (time : Nat) : State :=
  let n := (s.nv.logSeq + 1) % 2 ^ 32
  let head := leBytes 4 n ++ leBytes 2 typ ++ leBytes 2 (min payload.length 40) ++ leBytes 8 time ++
    padTo 40 payload ++ leBytes 4 (s.ctrValue 3)
  let row := head ++ leBytes 4 (crc32c head)
  let s := s.nvRows (0x10000 + 64 * ((n + 1023) % 1024)) row
  let s := State.setRegN { s with nv.logSeq := n } Reg.NVS_LOG_SEQ n
  s.formRec 7 (eventRec s.newest time 0x0310 row)

/-- An event is entered in the log, or held while NV writes are barred or RECALL runs (R371). -/
def State.nvLog (s : State) (typ : Nat) (payload : List Byte) : State :=
  if s.nvOpen then s.logWrite typ payload s.now
  else if s.nv.deferred.length < 16 then
    { s with nv.deferred := s.nv.deferred ++ [(typ, payload, s.now)] }
  else s.sticky Fld.NVS_STATUS_DEFER_LOST

/-- Data rows of an FW_META record: three entries of 64 bytes (R386). -/
def abFwMeta : AbRec := { base := 0xA000, stride := 0x1000, rows := 3, magic := 0x4154454D, area := 5 }

/-- Held log entries, increments and FW_META data are written once NV writes are allowed (R371, R330, R378). -/
def State.logFlush (s : State) : State :=
  if s.nvOpen then
    let s := s.nv.deferred.foldl (fun s (t, p, w) => s.logWrite t p w) { s with nv.deferred := [] }
    let s := s.nv.heldIncs.foldl (fun s i => s.ctrInc i) { s with nv.heldIncs := [] }
    match s.nv.heldMeta with
    | some d => (State.abWrite { s with nv.heldMeta := none } abFwMeta d).1
    | none => s
  else s

def execLogDeferredWrite (s : State) : Host.Outcome State Fault Refusal := run State.logFlush s

/-- A tie of an A/B record or of a counter's bases (R361, R379). -/
def State.nvTie (s : State) (area ctr : Nat) : State :=
  let p := leBytes 1 area ++ leBytes 1 ctr ++ leBytes 6 0
  ((s.sticky Fld.NVS_STATUS_NV_TIE).nvLog 0x02 p).event 0x0300 p

/-! ## Passwords (R372, R373) -/

def State.userLocked (s : State) : Bool := s.flag Fld.NVS_STATUS_USER_LOCKED

/-- A password is checked: the status it gives, and the state with the attempt counted (R372). A stored password of zero
accepts any value. -/
def State.password (s : State) (stored given op : Nat) : State × Nat :=
  if stored = 0 ∨ stored = given then (s.setFld Fld.NVS_USER_FAIL_COUNT 0, St.ok)
  else
    let n := s.fld Fld.NVS_USER_FAIL_COUNT + 1
    let s := (s.setFld Fld.NVS_USER_FAIL_COUNT n).sticky Fld.NVS_STATUS_AUTH_SEEN
    if 3 ≤ n then
      let s := s.setFld Fld.NVS_STATUS_USER_LOCKED 1
      let p := leBytes 1 op ++ leBytes 7 0
      ((s.nvLog 0x03 p).event 0x0301 p, St.nvLocked)
    else (s, St.authFail)

/-! ## NV_READ and NV_WRITE (R374 to R376) -/

/-- Offset and size of a readable area (R359). -/
def nvArea : Nat → Option (Nat × Nat)
  | 0 => some (0x0000, 0x4000)
  | 1 => some (0x4000, 0x2000)
  | 2 => some (0x6000, 0x4000)
  | 3 => some (0x10000, 0x10000)
  | 4 => some (0x20000, 0x20000)
  | 5 => some (0xA000, 0x2000)
  | 6 => some (0x40000, 0x40000)
  | _ => none

/-- Address of byte `i` of an access from `offset` in an area: it stays in its page (R358). -/
def pageAddr (base offset i : Nat) : Nat := base + offset / 256 * 256 + (offset + i) % 256

/-- The first parameter at fault of an NV_READ. -/
def nvReadBad (area offset length : Nat) : Option Nat :=
  match nvArea area with
  | none => some 0x10
  | some (_, size) =>
    if area = 2 then
      if offset % 8 ≠ 0 ∨ 128 ≤ offset then some 0x14
      else if length % 8 ≠ 0 ∨ length = 0 ∨ 128 < offset + length then some 0x18 else none
    else if size ≤ offset then some 0x14
    else if length = 0 ∨ 256 < length then some 0x18
    else none

/-- The first parameter at fault of an NV_WRITE (R373, R375). -/
def nvWriteBad (area offset length : Nat) : Option Nat :=
  if area = 6 then
    if offset % 8 ≠ 0 ∨ 0x40000 ≤ offset then some 0x14
    else if length % 8 ≠ 0 ∨ length < 8 ∨ 256 < length then some 0x18 else none
  else if area = 2 then
    if offset < 10 ∨ 15 < offset then some 0x14 else if length ≠ 0 then some 0x18 else none
  else if area = 7 then
    if offset ≠ 0 then some 0x14 else if length ≠ 16 then some 0x18 else none
  else some 0x10

/-- Too many NV_READ and NV_WRITE commands outstanding (R264). -/
def State.nvCrowded (s : State) : Bool := 8 < s.outOf Op.nvRead + s.outOf Op.nvWrite

/-- Is the area closed by USER_LOCKED (R372)? -/
def State.nvShut (s : State) (area : Nat) : Bool := s.userLocked && (area = 6 || area = 7)

def State.doNvRead (s : State) (h : Hdr) (area offset length addr password : Nat) : State :=
  s.acceptCmd h Op.nvRead 8 (fun s => if s.nvShut area then none else nvReadBad area offset length) fun s cid =>
    if s.nvCrowded then s.fail cid St.busy Why.none
    else if s.pow.st = .recall then s.fail cid St.nvBusy Why.none
    else s.setJob cid (.nvRead area offset length addr password)

def execNvRead (h : Hdr) (area offset length addr password : Nat) (s : State) : Host.Outcome State Fault Refusal :=
  runIf "NV_READ" (Instr.wf (.nvRead h area offset length addr password))
    (fun s => s.doNvRead h area offset length addr password) s

/-- Bytes of a command's data in host memory, or none after a failed access (R268). -/
def dataBytes (d : HostData) (n : Nat) : Option (List Byte) :=
  match d with
  | .bytes b => some (padTo n b)
  | .error => none
  | _ => some (List.replicate n 0)

def State.doNvWrite (s : State) (h : Hdr) (area offset length password : Nat) (data : HostData) : State :=
  s.acceptCmd h Op.nvWrite 8 (fun s => if s.nvShut area then none else nvWriteBad area offset length) fun s cid =>
    if s.nvCrowded then s.fail cid St.busy Why.none
    else if !s.nvOpen then s.fail cid St.nvBusy Why.none
    else s.setJob cid (.nvWrite area offset length password data)

def execNvWrite (h : Hdr) (area offset length addr password : Nat) (data : HostData) (s : State) :
    Host.Outcome State Fault Refusal :=
  runIf "NV_WRITE" (Instr.wf (.nvWrite h area offset length addr password data))
    (fun s => s.doNvWrite h area offset length password data) s

/-- The 16 counters as 64-bit values (R374). -/
def State.ctrBytes (s : State) : List Byte := (List.range 16).flatMap fun i => leBytes 8 (s.ctrValue i)

/-- The bytes that an NV_READ gives (R358, R374). -/
def State.nvReadBytes (s : State) (area offset length : Nat) : List Byte :=
  if area = 2 then (s.ctrBytes.drop offset).take length
  else match nvArea area with
    | some (base, _) => (List.range length).flatMap fun i => s.nvBytes (pageAddr base offset i) 1
    | none => []

/-- An NV_READ is carried out (R374, R376). -/
def State.runNvRead (s : State) (cid area offset length addr password : Nat) : State :=
  if s.nvShut area then s.fail cid St.nvLocked Why.none
  else
    let (s, st) := if area = 6 then s.password s.nv.passwordRead password Op.nvRead else (s, St.ok)
    if st ≠ St.ok then s.fail cid st Why.none
    else
      let b := s.nvBegun.nvReadBytes area offset length
      s.writeOut cid addr length (.hostWrite addr b) fun s => s.complete cid St.ok Why.none (some length) none

/-- Sizes of the atomic writes of an access of USER, in address order from its offset: a whole row at once, a partial row word
by word (R375). The first argument bounds their number. -/
def userSegs : Nat → Nat → Nat → List Nat
  | 0, _, _ => []
  | fuel + 1, offset, length =>
    if length = 0 then []
    else
      let n := if offset % 64 = 0 ∧ 64 ≤ length then 64 else min 8 length
      n :: userSegs fuel (offset / 256 * 256 + (offset + n) % 256) (length - n)

def userWrites (offset length : Nat) : List Nat := userSegs 32 offset length

/-- Bytes that the first writes of an access hold, of which a number from 0 to all is drawn (R378). -/
def userPart (offset length draw : Nat) : Nat :=
  let l := userWrites offset length
  sumN (l.take (draw % (l.length + 1)))

/-- `data` written to USER from `offset` (R358, R375). -/
def State.userPut (s : State) (offset : Nat) (data : List Byte) : State :=
  let s := (data.zipIdx).foldl (fun s (b, i) => s.nvPut (pageAddr 0x40000 offset i) [b]) s
  s.setPair Reg.NVS_ROW_WRITES_LO ((s.pair Reg.NVS_ROW_WRITES_LO + (userWrites offset data.length).length) % 2 ^ 64)

/-- Both passwords change in one row write (R373). -/
def State.putPasswords (s : State) (b : List Byte) : State :=
  let s := { s with nv.passwordRead := fieldLe b 0 8, nv.passwordWrite := fieldLe b 8 8 }
  s.setPair Reg.NVS_ROW_WRITES_LO ((s.pair Reg.NVS_ROW_WRITES_LO + 1) % 2 ^ 64)

/-- An NV_WRITE is carried out (R373, R375, R376). -/
def State.runNvWrite (s : State) (cid area offset length password : Nat) (data : HostData) : State :=
  if s.nvShut area then s.fail cid St.nvLocked Why.none
  else if area = 2 then
    let s := s.nvEach (s.ctrWrites offset)
    s.complete cid St.ok Why.none (some (s.ctrValue offset)) none
  else
    let (s, st) := s.password s.nv.passwordWrite password Op.nvWrite
    if st ≠ St.ok then s.fail cid st Why.none
    else match dataBytes data length with
      | none => s.fail cid St.badParam Why.hostMemory
      | some b =>
        if area = 7 then
          (s.putPasswords b).complete cid St.ok Why.none (some 16) none
        else (s.userPut offset b).complete cid St.ok Why.none (some length) none

/-- The oldest NV access (R264). -/
def State.nvOldest (s : State) : Option OutCmd :=
  s.hif.outstanding.find? fun c => match c.job with
    | .nvRead .. => true
    | .nvWrite .. => true
    | _ => false

/-- The oldest NV access is carried out (R264, R376). -/
def State.doNvAccess (s : State) : State :=
  match s.nvOldest with
  | none => s
  | some c =>
    match c.job with
    | .nvRead area offset length addr password =>
      if s.pow.st = .recall then s else s.runNvRead c.cid area offset length addr password
    | .nvWrite area offset length password data =>
      if s.nvOpen then s.runNvWrite c.cid area offset length password data else s.fail c.cid St.nvBusy Why.none
    | _ => s

def execNvAccessDone (s : State) : Host.Outcome State Fault Refusal := run State.doNvAccess s

/-! ## Trims (R364, R365) -/

/-- The trim registers in the order of the TRIMS record. -/
def trimRegs : List Nat :=
  [Reg.CAL_TRIM_CONV, Reg.CAL_TRIM_SKIM, Reg.CAL_TRIM_HKC, Reg.CAL_TRIM_LIM, Reg.CAL_TRIM_LIM_GRID] ++
    (List.range 48).map Reg.CAL_TRIM_GRID

/-- NV_STORE_TRIMS (R365): accepted in any state; the record is written at once. -/
def State.doNvStoreTrims (s : State) (h : Hdr) : State :=
  s.acceptCmd h Op.nvStoreTrims 1 (fun _ => none) fun s cid =>
    if !s.nvOpen then s.fail cid St.nvBusy Why.none
    else
      let (s, q) := s.abWrite abTrims (trimRegs.flatMap fun o => leBytes 4 (s.regN o))
      let s := { s with nv.trimsSeq := q }
      (s.setRegN Reg.NVS_TRIMS_SEQ q).complete cid St.ok Why.none (some q) none

def execNvStoreTrims (h : Hdr) (s : State) : Host.Outcome State Fault Refusal :=
  runIf "NV_STORE_TRIMS" (Instr.wf (.nvStoreTrims h)) (fun s => s.doNvStoreTrims h) s

/-- A value of a trim register as it is stored (R183): the assigned bits; a grid trim is extended from 16 bits. -/
def trimWord (off : Nat) (v : Word) : Word :=
  if 0x2100 ≤ off then BitVec.ofNat 32 (wrapN 32 (sgn 16 (v.toNat % 2 ^ 16)))
  else if off = Reg.CAL_TRIM_CONV then v &&& 0x3FF
  else if off = Reg.CAL_TRIM_SKIM ∨ off = Reg.CAL_TRIM_HKC then v &&& 0x0FFF0FFF
  else if off = Reg.CAL_TRIM_LIM_GRID then v &&& 0xFFFF
  else v

/-- The management firmware loads the trims in step 3 of the boot chain (R364, R387): the trim registers take the TRIMS record in force,
or the factory values. -/
def State.loadTrims (s : State) : State :=
  let vals := match s.abNow abTrims with
    | some (_, d) => (List.range trimRegs.length).map fun i => fieldLe d (4 * i) 4
    | none => (List.range trimRegs.length).map Config.factoryTrim
  let s := (trimRegs.zip vals).foldl (fun (s : State) (o, v) => s.setReg o (trimWord o (BitVec.ofNat 32 v))) s
  { s with
    sen.trimConv := s.reg Reg.CAL_TRIM_CONV, sen.trimSkim := s.reg Reg.CAL_TRIM_SKIM
    sen.trimGrid := (List.range 48).map fun n => (s.reg (Reg.CAL_TRIM_GRID n)).toInt, hkc.trim := s.reg Reg.CAL_TRIM_HKC }

/-! ## RECALL (R369, R377) -/

/-- The tally words of counter `i` beyond its valid run are zeroed (R369). -/
def State.repairCtr (s : State) (i : Nat) : State :=
  let n := s.ctrRun i
  let bad := (List.range 64).filter fun w => n ≤ w && s.tally i w != 0
  if bad.isEmpty then s
  else
    let rows := sumN ((List.range 8).map fun r =>
      let k := (bad.filter fun w => w / 8 = r).length
      if n ≤ 8 * r then (if k = 0 then 0 else 1) else k)
    let s := bad.foldl (fun s w => s.nvPut (ctrAddr i + 0x200 + 8 * w) (List.replicate 8 0)) s
    let s := s.setPair Reg.NVS_ROW_WRITES_LO ((s.pair Reg.NVS_ROW_WRITES_LO + rows) % 2 ^ 64)
    s.sticky Fld.NVS_STATUS_REPAIRED

/-- Two valid copies of equal sequence whose bytes `len` from the given addresses differ, reserved ones too (R361). -/
def State.copiesDiffer (s : State) (qa qb : Option Nat) (a b len : Nat) : Bool :=
  qa.isSome && decide (qa = qb) && s.nvBytes a len != s.nvBytes b len

/-- Is an A/B record a tie (R361)? -/
def State.abTie (s : State) (r : AbRec) : Bool :=
  let a := s.abCopy r 0
  let b := s.abCopy r 1
  (resolveAb a b).2 || s.copiesDiffer (a.map (·.1)) (b.map (·.1)) (r.addr 0) (r.addr 1) (64 * (r.rows + 1))

/-- Are the bases of counter `i` a tie (R361, R366)? -/
def State.ctrTie (s : State) (i : Nat) : Bool :=
  let a := s.ctrBase i 0
  let b := s.ctrBase i 1
  (resolveAb a b).2 || s.copiesDiffer (a.map (·.1)) (b.map (·.1)) (ctrAddr i) (ctrAddr i + 64) 64

/-- Ties found by RECALL (R361): A/B records `recs` and the 16 counters. -/
def State.recallTies (s : State) (recs : List AbRec) : State :=
  let s := recs.foldl (fun s r => if s.abTie r then s.nvTie r.area 0xFF else s) s
  (List.range 16).foldl (fun s i => if s.ctrTie i then s.nvTie 2 i else s) s

/-- The steps of RECALL on the store (R377), with the A/B records of the part. -/
def State.recallNv (s : State) (recs : List AbRec) (us : Nat) : State :=
  let s := { s with sec.factoryOk := Config.factoryOk }
  let s := if Config.factoryOk then s else s.nvLog 0x04 []
  let s := s.recallTies recs
  let s := (List.range 16).foldl (fun s i => s.repairCtr i) s
  let s := { s with nv.logSeq := s.logNewest, nv.trimsSeq := (match s.abNow abTrims with | some (q, _) => q | none => 0) }
  let s := (s.setRegN Reg.NVS_TRIMS_SEQ s.nv.trimsSeq).setRegN Reg.NVS_LOG_SEQ s.nv.logSeq
  s.setRegN Reg.NVS_RECALL_US us

/-! ## Commands cut short (R376, R378) -/

/-- Bytes of a read that stand in the words read so far, of which a number from 0 to all is drawn (R376). -/
def readPart (offset length draw : Nat) : Nat :=
  let words := (offset % 8 + length + 7) / 8
  min length (8 * (draw % (words + 1)) - offset % 8)

/-- The oldest NV access as far as it had come when it is cut short (R376, R378): how far is not stated, a free value (log 6). Rows and
words that completed are written, or go to the host; the number is their bytes. -/
def State.nvPart (s : State) (c : OutCmd) : State × Nat :=
  let d := s.freeVal
  match c.job with
  | .nvRead area offset length addr password =>
    if s.nvShut area || decide (area = 6 ∧ s.nv.passwordRead ≠ 0 ∧ s.nv.passwordRead ≠ password) || decide (s.pow.st = .recall) then (s, 0)
    else
      let n := readPart offset length d
      let b := (s.nvBegun.nvReadBytes area offset length).take n
      let s := s.drew
      (if n = 0 then s else s.post (.hostWrite addr b), n)
  | .nvWrite area offset length password data =>
    if !s.nvOpen || s.nvShut area then (s, 0)
    else if area = 2 then
      let l := s.ctrWrites offset
      let l := l.take (d % (l.length + 1))
      (s.drew.nvEach l, sumN (l.map fun (_, b) => b.length))
    else if s.nv.passwordWrite ≠ 0 ∧ s.nv.passwordWrite ≠ password then (s, 0)
    else match dataBytes data length with
      | none => (s, 0)
      | some b =>
        if area = 7 then
          if d % 2 = 0 then (s.drew, 0) else (s.drew.putPasswords b, 16)
        else
          let n := userPart offset length d
          (s.drew.userPut offset (b.take n), n)
  | _ => (s, 0)

/-- Every NV command ends with a CRIT (R376). They run one after the other (R264), so only the oldest has done part of its work. -/
def State.nvCritAbort (s : State) : State :=
  let cut := s.nvOldest
  let (s, n) := match cut with
    | some c => s.nvPart c
    | none => (s, 0)
  s.hif.outstanding.foldl (fun s c =>
    let v := if some c = cut then n else 0
    match c.job with
    | .nvRead .. => s.complete c.cid St.aborted Why.power (some v) none
    | .nvWrite .. => s.complete c.cid St.aborted Why.power (some v) none
    | _ => s) s

/-- A CRIT stops the firmware's writes at a row boundary (R378): the increments among them that are not committed are held for later
(R330), and the TRIMS record in force is what the rows written make it (R363). -/
def State.nvCritRows (s : State) : State :=
  if s.nv.rows.isEmpty then s
  else
  let (s, l) := s.nvStopRows
  let q := match s.abNow abTrims with | some (q, _) => q | none => 0
  State.setRegN { s with nv.heldIncs := s.nv.heldIncs ++ l, nv.trimsSeq := q } Reg.NVS_TRIMS_SEQ q

end Sys2Proof.Machine
end

