-- ==== Sys2Proof/Machine/SelfBase.lean ====
section
/-! DEFINITION. Self-test slices (chapter 16) as the rest of the block meets them: references, starting, aborting,
reporting, and the end of a run. Dies are coded as in R333: 0 to 4 for P_n, 5 for H, 6 for S2. -/

namespace Sys2Proof.Machine

open Sys2Proof

/-! ## Results and units (R407, R410) -/

abbrev Slice.pass : Nat := 0
abbrev Slice.failed : Nat := 1
abbrev Slice.incomplete : Nat := 2
abbrev Slice.aborted : Nat := 3
abbrev Slice.noRef : Nat := 4

/-- For whom a slice runs. -/
abbrev Owner.rotation : Nat := 0
abbrev Owner.bistRun : Nat := 1
abbrev Owner.boot : Nat := 2
abbrev Owner.shutdown : Nat := 3
abbrev Owner.background : Nat := 4
abbrev Owner.spare : Nat := 5

/-- How many slices a unit has; 0 for a unit that the die does not have (R410). -/
def sliceCount (die unit : Nat) : Nat :=
  if die < 5 then match unit with
    | 0 => 8 | 1 => 32 | 2 => 2 | 3 => 16 | 4 => 1 | _ => 0
  else if die = 5 then match unit with
    | 0 => 32 | 1 => 4 | 2 => 3 | 3 => 4 | 4 => 4 | 5 => 1 | _ => 0
  else match unit with
    | 8 => 2 | 9 => 1 | 10 => 4 | _ => 0

def unitSlices (die unit : Nat) : List (Nat × Nat) := (List.range (sliceCount die unit)).map fun s => (unit, s)

/-- The slices of a run on a die, in order (R410). -/
def runSlices (die : Nat) : List (Nat × Nat) :=
  let units := if die < 5 then [4, 2, 0, 1, 3] else if die = 5 then [0, 1, 2, 3, 4, 5] else [8, 9, 10]
  units.flatMap (unitSlices die)

/-! ## References (R408) -/

/-- The BIST_REF record: an 8-byte header and one entry per slice, in 29 data rows (R359, R408). -/
def abBist : AbRec := { base := 0x20000, stride := 0x10000, rows := 29, magic := 0x46455242, area := 4 }

/-- The entry of a slice in the record's data: terminal count and reference MISR. -/
def bistEntry (data : List Byte) (cls unit slice : Nat) : Option (Nat × Nat) :=
  ((List.range (fieldLe data 0 2)).find? fun i =>
      let o := 8 + 16 * i
      fieldLe data o 1 = cls && fieldLe data (o + 1) 1 = unit && fieldLe data (o + 2) 1 = slice).map fun i =>
    (fieldLe data (8 + 16 * i + 4) 4, fieldLe data (8 + 16 * i + 8) 8)

def State.sliceRef (s : State) (id : SliceId) : Option (Nat × Nat) :=
  match s.abNow abBist with
  | some (_, d) => bistEntry d (if id.die < 5 then 0 else if id.die = 5 then 1 else 2) id.unit id.slice
  | none => none

/-! ## Reporting (R415, R419, R420) -/

/-- A result is counted; other than PASS it is reported, and FAIL and NO_REF are logged. -/
def State.reportSlice (s : State) (id : SliceId) (code misr ref : Nat) : State :=
  let s := match code with
    | 0 => s.bump Reg.BST_PASS_COUNT
    | 1 => (s.bump Reg.BST_FAIL_COUNT).sticky Fld.BST_STATUS_FAIL_SEEN
    | 2 => (s.bump Reg.BST_INCOMPLETE_COUNT).sticky Fld.BST_STATUS_INCOMPLETE_SEEN
    | 3 => s.bump Reg.BST_ABORT_COUNT
    | _ => s
  if code = Slice.pass then s
  else
    let p := leBytes 1 id.die ++ leBytes 1 id.unit ++ leBytes 1 id.slice ++ leBytes 1 code ++ leBytes 4 0 ++
      leBytes 8 misr ++ leBytes 8 ref
    let s := s.setRegN Reg.BST_LAST_NONPASS
      (id.die + 2 ^ 8 * id.unit + 2 ^ 16 * id.slice + 2 ^ 24 * code + 2 ^ 31)
    let s := (s.setPair Reg.BST_SIG_LO misr).setPair Reg.BST_REF_LO ref
    let s := s.event 0x0500 p
    if code = Slice.failed ∨ code = Slice.noRef then s.nvLog 0x21 p else s

/-! ## Runs (R410, R412, R416) -/

/-- The result block of BIST_RUN (R416). -/
def BistRun.block (r : BistRun) : List Byte :=
  let bad := match r.firstBad with
    | some (i, m, f) => (i, m, f)
    | none => (0xFF, 0, 0)
  leBytes 1 r.die ++ leBytes 1 r.unit ++ leBytes 2 0 ++ leBytes 4 r.requested ++ leBytes 4 r.pass ++ leBytes 4 r.fail ++
    leBytes 4 r.incomplete ++ leBytes 4 r.aborted ++ leBytes 4 r.noRef ++ leBytes 1 bad.1 ++ leBytes 3 0 ++
    leBytes 8 bad.2.1 ++ leBytes 8 bad.2.2 ++ leBytes 16 0

/-- The requested slices that have not passed: VALUE of BIST_RUN (R270). -/
def BistRun.notPassed (r : BistRun) : Nat := r.requested ^^^ (r.requested &&& r.pass)

/-- A run of the named slices of a unit. -/
def namedRun (die unit slices cid start : Nat) : BistRun :=
  { die, unit, todo := (unitSlices die unit).filter fun t => bitN slices t.2, cid := some cid
    kind := Owner.bistRun, start, requested := slices, pass := 0, fail := 0, incomplete := 0
    aborted := 0, noRef := 0, firstBad := none }

/-- 0 completed with every slice PASS, 1 completed with a FAIL, 2 not completed (R412). -/
def BistRun.outcome (r : BistRun) : Nat :=
  if r.fail ≠ 0 then 1 else if r.incomplete + r.aborted + r.noRef ≠ 0 ∨ !r.todo.isEmpty then 2 else 0

/-- A run has ended (R412, R416, R419, R420). -/
def State.endRun (s : State) (r : BistRun) : State :=
  let o := r.outcome
  let s := { s with bst.fullBad := s.bst.fullBad || (decide (Owner.boot ≤ r.kind) && decide (o ≠ 0)), bst.runs := s.bst.runs.filter fun q => q.die ≠ r.die ∨ q.kind ≠ r.kind ∨ q.cid ≠ r.cid }
  let s := s.event 0x0501 (leBytes 1 r.die ++ leBytes 1 r.kind ++ leBytes 1 o ++ leBytes 1 0 ++
    leBytes 4 (sat32 ((s.mono - r.start) / 250)))
  let s :=
    if r.die < 5 ∧ r.kind ≠ Owner.bistRun then
      let s := s.setFld (Fld.BST_DIE_LAST r.die) (o + 1)
      if o = 2 then s else s.setDie r.die { s.die r.die with lastRun := some s.mono }
    else s
  match r.cid with
  | some cid => s.complete cid St.ok Why.none (some r.notPassed) (some r.block)
  | none => s

/-- Does a slice run on a unit? -/
def State.unitTested (s : State) (die unit : Nat) : Bool := s.bst.running.any fun x => x.id.die = die ∧ x.id.unit = unit

/-- Units that must be free before a slice starts on them (R353, R414). -/
def State.unitFree (s : State) (id : SliceId) : Bool :=
  if s.unitTested id.die id.unit then false
  else if id.die = 5 ∧ id.unit = 1 then
    s.hkc.conv.isNone && s.hkc.run.isNone && s.hkc.group.isNone && !s.hkc.heldHost && s.hkc.calRun.isNone && !s.hkc.calDue &&
      s.hkc.slice.isNone
  else if id.die = 5 ∧ id.unit = 2 then s.sec.job.isNone && s.sec.queue.isEmpty
  -- HUB: in READY, without a replay, and at boot and shutdown (R410, R416)
  else if id.die = 5 ∧ id.unit = 4 then s.bst.full.isSome || (s.pow.st = .ready && s.cel.replay.isNone)
  else if id.die < 5 ∧ id.unit = 3 then !s.casks.a.copying && !s.casks.b.copying && s.casks.load.isNone
  else true

/-- Does an EGRESS slice run? -/
def State.egressTested (s : State) : Bool := s.unitTested 5 0

/-- Free buffers above the reserves' 128 that an EGRESS slice may withdraw now (R414). -/
def State.egressRoom (s : State) : Nat := s.poolFree - sumN ((List.range 8).map fun m => s.rsv m - (s.chan m).used) - 127

/-- The EGRESS slice withdraws buffers of its range as far as it may. Which buffers the channels hold is not stated: how many of those it
still needs are free is a free value, within what the counts allow (R414, log 34). -/
def State.takeEgress (s : State) : State :=
  let need := s.bst.egressLeft
  let most := min need s.poolFree
  let least := min most (need - sumN (s.hif.chans.map (·.used)))
  let n := min (least + s.freeVal % (most - least + 1)) s.egressRoom
  if need = 0 ∨ s.poolFree = 0 then s
  else State.noteFree { s.drew with hif.sliceHeld := s.hif.sliceHeld + n, bst.egressLeft := need - n }

/-- While an EGRESS slice runs, it withdraws the buffers of its range that it still needs as they become free (R414). How long the test of
one buffer takes is not stated: every test ends with the slice, whose end tells which buffers failed, so that a failing buffer never returns
(R415, DESIGN CHOICE, log 116). -/
def State.egressTick (s : State) : State := if s.egressTested then s.takeEgress else s

/-! ## Register copies of secrets (R395, R409) -/

/-- Every register copy of a secret is zeroised: the accelerator's working state, the Keccak engine's state and the TRNG pool. -/
def State.zeroise (s : State) : State :=
  { s with sec.accel := 0, sec.keccak := 0, sec.pool := 0, sec.poolOk := false }

/-- The TRNG pool is filled anew and its health tests have run (R409); its bits are free values (log 6). -/
def State.refillPool (s : State) : State := { s.drew with sec.pool := s.freeVal, sec.poolOk := true }

/-- 32 bytes of the TRNG pool, which is filled again; a pool that was zeroised is filled before (R395, R409). -/
def State.trngTake (s : State) : State × List Byte :=
  let s := if s.sec.poolOk then s else s.refillPool
  (s.refillPool, leBytes 32 s.sec.pool)

/-- The accelerator and the Keccak engine have worked: what they leave behind is not stated (R395, log 6). -/
def State.worked (s : State) : State :=
  { s.drew.drew with sec.accel := s.freeVal, sec.keccak := s.drew.freeVal }

/-- The CRYPTO and CHAIN units of H can hold secrets (R409). -/
def holdsSecrets (id : SliceId) : Bool := id.die = 5 && (id.unit = 2 || id.unit = 5)

/-- A slice begins: its unit is isolated (R406). -/
def State.startSlice (s : State) (r : SliceRun) : State :=
  let s := { s with bst.running := s.bst.running ++ [{ r with start := s.mono }] }
  let s := if r.id.die < 5 then s.setDie r.id.die { s.die r.id.die with renewed := false } else s
  if holdsSecrets r.id then s.zeroise
  else
  if r.id.die = 5 ∧ r.id.unit = 0 then
    State.takeEgress { s with bst.egressLeft := 64 - s.bst.retiredIn.getD r.id.slice 0 }
  else if r.id.die = 5 ∧ r.id.unit = 1 then { s with hkc.slice := some r.id }
  else if r.id.die = 6 then { s with tmg.scheduled := false }
  else s

/-- A slice that waits for its unit starts when it can; otherwise it joins those that wait (R407, R414). -/
def State.tryStart (s : State) (r : SliceRun) : State :=
  if s.unitFree r.id then s.startSlice r else { s with bst.retry := s.bst.retry ++ [r] }

/-- Does a run belong to die `die`, owner `kind` and command `cid`? -/
def BistRun.isOf (r : BistRun) (die kind : Nat) (cid : Option Nat) : Bool := r.die = die && r.kind = kind && r.cid = cid

/-- A run goes on to its next slice, or ends. -/
def State.advanceRun (s : State) (die kind : Nat) (cid : Option Nat) : State :=
  match s.bst.runs.find? fun r => r.isOf die kind cid with
  | none => s
  | some r =>
    match r.todo with
    | [] => s.endRun r
    | (u, i) :: _ => s.tryStart { id := ⟨die, u, i⟩, start := s.mono, aborts := 0, again := false, owner := kind, cid }

/-- A slice of a run has its final result: it is entered in the run's masks. -/
def BistRun.enter (r : BistRun) (slice code misr ref : Nat) : BistRun :=
  let b := 2 ^ slice
  let r := { r with todo := r.todo.drop 1 }
  let r := if code ≠ Slice.pass ∧ r.firstBad.isNone then { r with firstBad := some (slice, misr, ref) } else r
  match code with
  | 0 => { r with pass := r.pass ||| b }
  | 1 => { r with fail := r.fail ||| b }
  | 2 => { r with incomplete := r.incomplete ||| b }
  | 3 => { r with aborted := r.aborted ||| b }
  | _ => { r with noRef := r.noRef ||| b }

/-- The result of a slice is entered in the run that it belongs to. -/
def State.enterOnly (s : State) (x : SliceRun) (code misr ref : Nat) : State :=
  { s with bst.runs := s.bst.runs.map fun (r : BistRun) =>
      if r.isOf x.id.die x.owner x.cid then r.enter x.id.slice code misr ref else r }

def State.enterResult (s : State) (x : SliceRun) (code misr ref : Nat) : State :=
  if 3 < x.owner then s else (s.enterOnly x code misr ref).advanceRun x.id.die x.owner x.cid

/-- A unit is given back in its reset state, the memory that the slice tested zero-filled (R406 step 3): the pool buffers that an EGRESS
slice holds return, S2's counters read 0, and a P die's SRAM keeps no array of the blind estimate in the MiB that held it. -/
def State.releaseUnit (s : State) (id : SliceId) : State :=
  if id.die = 5 ∧ id.unit = 0 then { s with hif.sliceHeld := 0, bst.egressLeft := 0 }
  else if id.die = 5 ∧ id.unit = 1 then { s with hkc.slice := none }
  else if id.die = 6 ∧ id.unit = 10 then { s with sen.counters := ⟨0, []⟩ }
  else if holdsSecrets id then s.refillPool
  else if id.die < 5 ∧ id.unit = 1 ∧ id.slice = Config.refMib % 32 then
    s.setDie id.die { s.die id.die with blindSeeded := false }
  else s

/-- After a slice that a service request has left ABORTED for good, its run goes on. Its next slice of the same unit waits, since the unit
serves the request (R406, R414). -/
def State.advanceBehind (s : State) (x : SliceRun) : State :=
  match s.bst.runs.find? fun r => r.isOf x.id.die x.owner x.cid with
  | some { todo := (u, i) :: _, .. } =>
    if u = x.id.unit then
      { s with bst.retry := s.bst.retry ++ [{ x with id := ⟨x.id.die, u, i⟩, aborts := 0, again := false }] }
    else s.advanceRun x.id.die x.owner x.cid
  | _ => s.advanceRun x.id.die x.owner x.cid

/-- A slice is abandoned for a service request or a role change (R407): it is reported, and it waits to be retried unless
this was its fourth time in a run. A slice on a spare die is not retried. -/
def State.abortSlice (s : State) (x : SliceRun) : State :=
  let misr := s.freeVal % 2 ^ 64
  let ref := ((s.sliceRef x.id).map (·.2)).getD 0
  let s := { s.drew with bst.running := s.bst.running.filter (·.id ≠ x.id) }
  let s := (s.releaseUnit x.id).reportSlice x.id Slice.aborted misr ref
  if x.owner = Owner.spare then s.sticky Fld.BST_STATUS_ABORT_SEEN
  else if x.owner ≠ Owner.background ∧ 3 ≤ x.aborts then
    ((s.sticky Fld.BST_STATUS_ABORT_SEEN).enterOnly x Slice.aborted misr ref).advanceBehind x
  else { s with bst.retry := s.bst.retry ++ [{ x with aborts := x.aborts + 1 }] }

/-- Every running slice that meets a test is abandoned. -/
def State.abortSlices (s : State) (t : SliceRun → Bool) : State :=
  (s.bst.running.filter t).foldl (fun s x => s.abortSlice x) s

/-- The CRYPTO unit is wanted: a self-test slice of it is abandoned (R409, R414). -/
def State.wantCrypto (s : State) : State := s.abortSlices fun x => x.id.die = 5 ∧ x.id.unit = 2

/-- Traffic crosses the hub: a self-test slice of it is abandoned, and the next one waits for READY without a replay (R410, DEDUCED,
log 117). -/
def State.wantHub (s : State) : State := s.abortSlices fun x => x.id.die = 5 ∧ x.id.unit = 4

/-- Slices and runs that a CRIT or a reset ends: the unit is given back (R406), no result is recorded (R414), and a BIST_RUN ends with
ABORTED (R416). -/
def State.dropSlices (s : State) : State :=
  let ended := s.bst.runs
  let s := s.bst.running.foldl (fun s x => s.releaseUnit x.id) s
  let s := { s with bst.running := [], bst.retry := [], bst.runs := [], bst.full := none, bst.bgWait := false
                    hkc.slice := none, hif.sliceHeld := 0, bst.egressLeft := 0 }
  ended.foldl (fun (s : State) (r : BistRun) =>
    match r.cid with
    | some c => s.complete c St.aborted Why.power (some r.notPassed) (some r.block)
    | none => s) s

end Sys2Proof.Machine
end

