-- ==== Sys2Proof/Machine/Security.lean ====
section
/-! DEFINITION. Management firmware, attestation and provenance (chapter 15): images and slots, the accelerator's jobs,
the chain and its milestones, with the meanings of their commands and events. -/

namespace Sys2Proof.Machine

open Sys2Proof

/-! ## Identity (R381) -/

/-- `n` bytes of a factory field. -/
def factoryField (item n : Nat) : List Byte := (List.range n).map (Config.factoryField item)

def serialBytes : List Byte := factoryField 0 16
def idKey : List Byte := factoryField 1 1952
def idKeyHash : List Byte := shake256 idKey
def vendorKey : List Byte := factoryField 5 1952

/-- The vendor key hash that FACTORY holds. -/
def vendorKeyHash : List Byte := shake256 vendorKey

/-- PCIe device ID by variant (R393, R443). -/
def Variant.deviceId : Variant → Nat
  | .bm2 => 0x4030
  | .bm3 => 0x4031
  | .bm5 => 0x4035

/-- The endorsement: the vendor's signature over the serial, the device ID and the identity key (R381, R393). -/
def endorsement (v : Variant) : List Byte :=
  padTo 3309 (Config.sign 1 (serialBytes ++ leBytes 2 v.deviceId ++ idKey) (ofLe (factoryField 2 32)))

/-- An identity signature, hedged by the TRNG unless it has failed (R381): its 3,309 bytes, and the state. -/
def State.signId (s : State) (msg : List Byte) : State × List Byte :=
  if s.sec.trngFail then (s, padTo 3309 (Config.sign 0 msg 0))
  else
    let (s, r) := s.trngTake
    (s, padTo 3309 (Config.sign 0 msg (ofLe r + 1)))

/-! ## Images (R384, R385) -/

/-- Header bytes 0x000 to 0x07F. -/
def fwHead (f : FwImage) : List Byte :=
  leBytes 4 f.magic ++ leBytes 2 f.format ++ leBytes 1 f.typ ++ leBytes 1 0 ++ leBytes 4 f.version ++ leBytes 4 f.svn ++
    leBytes 4 f.bodyLen ++ leBytes 1 f.variantMask ++ leBytes 3 0 ++ padTo 32 f.bodyDigest ++ leBytes 72 0

/-- Largest body of an image type (R383). -/
def bodyLimit : Nat → Nat
  | 0 => 768 * 1024
  | 1 => 512
  | _ => 252 * 1024

/-- Flash address of slot A or B of an image type (R383). -/
def slotBase (typ slot : Nat) : Nat :=
  match typ with
  | 0 => if slot = 0 then 0x000000 else 0x100000
  | 1 => if slot = 0 then 0x300000 else 0x304000
  | _ => if slot = 0 then 0x200000 else 0x280000

def variantBit : Variant → Nat
  | .bm2 => 0
  | .bm3 => 1
  | .bm5 => 2

/-- V, the firmware rollback index (R370). -/
def State.rollback (s : State) : Nat := s.ctrValue 7

/-- The conditions of R385 on a header. -/
def State.headOk (s : State) (typ : Nat) (f : FwImage) : Bool :=
  f.magic = 0x474D4946 && f.format = 1 && f.typ = typ && f.reservedOk && f.bodyLen ≤ bodyLimit typ &&
    bitN f.variantMask (variantBit s.variant) && decide (shake256 (padTo 1952 f.vendorKey) = vendorKeyHash) &&
    Config.verify (padTo 1952 f.vendorKey) (fwHead f) (padTo 3309 f.sig) && s.rollback ≤ f.svn

def fwBodyOk (f : FwImage) : Bool := shake256 (padTo f.bodyLen f.body) = padTo 32 f.bodyDigest

/-- An image verifies (R385). -/
def State.verifies (s : State) (typ : Nat) (f : Option FwImage) : Bool :=
  match f with
  | some f => s.headOk typ f && fwBodyOk f
  | none => false

/-- A header read from plain bytes of host memory. -/
def fwOfBytes (b : List Byte) : FwImage :=
  let z := fun o n => (b.drop o).take n
  { magic := fieldLe b 0 4, format := fieldLe b 4 2, typ := fieldLe b 6 1, version := fieldLe b 8 4, svn := fieldLe b 0xC 4,
    bodyLen := fieldLe b 0x10 4, variantMask := fieldLe b 0x14 1
    reservedOk := (z 7 1 ++ z 0x15 3 ++ z 0x38 72 ++ z 0x150D 2803).all (· = 0)
    bodyDigest := padTo 32 (z 0x18 32), vendorKey := padTo 1952 (z 0x80 1952), sig := padTo 3309 (z 0x820 3309)
    body := b.drop 0x2000 }

/-! ## FW_META (R386) -/

/-- An entry of the firmware metadata record. -/
structure MetaEnt where
  slot : Nat
  trial : Bool
  attempts : Nat
  verA : Nat
  svnA : Nat
  verB : Nat
  svnB : Nat
  digest : List Byte
  deriving DecidableEq, Repr

def MetaEnt.bytes (e : MetaEnt) : List Byte :=
  leBytes 1 e.slot ++ leBytes 1 (b2n e.trial) ++ leBytes 1 e.attempts ++ leBytes 1 0 ++ leBytes 4 e.verA ++
    leBytes 4 e.svnA ++ leBytes 4 e.verB ++ leBytes 4 e.svnB ++ leBytes 12 0 ++ padTo 32 e.digest

def metaOf (b : List Byte) : MetaEnt :=
  { slot := fieldLe b 0 1 % 2, trial := fieldLe b 1 1 = 1, attempts := fieldLe b 2 1, verA := fieldLe b 4 4
    svnA := fieldLe b 8 4, verB := fieldLe b 0xC 4, svnB := fieldLe b 0x10 4, digest := padTo 32 (b.drop 0x20) }

/-- The three entries in force, those that the firmware holds for writing where it holds any (R378); with no record, slot A and
CONFIRMED. -/
def State.fwMeta (s : State) : List MetaEnt :=
  let d := match s.nv.heldMeta, s.abNow abFwMeta with
    | some d, _ => d
    | none, some (_, d) => d
    | none, none => []
  (List.range 3).map fun t => metaOf (d.drop (64 * t))

def noMeta : MetaEnt := metaOf []

def State.fwEnt (s : State) (typ : Nat) : MetaEnt := s.fwMeta.getD typ noMeta

/-- One entry changed in a new record, which the firmware holds while NV writes are barred (R378). -/
def State.putMeta (s : State) (typ : Nat) (e : MetaEnt) : State :=
  let d := (modAt s.fwMeta typ fun _ => e).flatMap MetaEnt.bytes
  if s.nvOpen then (s.abWrite abFwMeta d).1 else { s with nv.heldMeta := some d }

/-- An entry with the version and SVN of one slot. -/
def MetaEnt.withSlot (e : MetaEnt) (slot ver svn : Nat) : MetaEnt :=
  if slot = 0 then { e with verA := ver, svnA := svn } else { e with verB := ver, svnB := svn }

def State.slotImg (s : State) (typ slot : Nat) : Option FwImage :=
  let p := s.sec.slots.getD typ (none, none)
  if slot = 0 then p.1 else p.2

def State.setSlot (s : State) (typ slot : Nat) (f : Option FwImage) : State :=
  { s with sec.slots := modAt s.sec.slots typ fun p => if slot = 0 then (f, p.2) else (p.1, f) }

def headDigest (f : Option FwImage) : List Byte :=
  match f with
  | some f => shake256 (fwHead f)
  | none => List.replicate 32 0

/-! ## The accelerator (R382) -/

/-- The accelerator takes its next job: a milestone preempts a lower class, whose job starts again later; else the highest
class first. -/
def State.pickJob (s : State) : State :=
  match s.sec.msQueue, s.sec.job with
  | m :: _, none => { s with sec.job := some { cls := 0, cid := none, what := m.frame } }
  | m :: _, some j =>
    if j.cls = 0 then s
    else { s with sec.job := some { cls := 0, cid := none, what := m.frame }, sec.queue := j :: s.sec.queue }
  | [], some _ => s
  | [], none =>
    let best := (s.sec.queue.find? fun j => j.cls = 1).orElse fun _ => s.sec.queue.head?
    match best with
    | some j => { s with sec.job := some j, sec.queue := s.sec.queue.erase j }
    | none => s

/-- The accelerator is wanted: a self-test slice of it is abandoned (R414). -/
def State.wantJob (s : State) : State :=
  s.pickJob.wantCrypto

/-- The TRNG is wanted outside a job: a self-test slice of its unit is abandoned (R409, R414). -/
def State.wantTrng (s : State) : State × List Byte :=
  State.trngTake s.wantCrypto

def State.addJob (s : State) (j : SignJob) : State := State.wantJob { s with sec.queue := s.sec.queue ++ [j] }

def State.jobOf (s : State) (cid : Nat) : Job :=
  match s.hif.outstanding.find? (·.cid = cid) with
  | some c => c.job
  | none => .none

/-! ## ATTEST (R392, R393) -/

def State.doAttest (s : State) (h : Hdr) (nonce : List Byte) (addr : Nat) : State :=
  s.acceptCmd h Op.attest 1 (fun _ => if addr % 8 ≠ 0 then some 0x30 else none) fun s cid =>
    if s.nv.barred then s.fail cid St.nvBusy Why.none
    else if s.sec.debugUnlocked then s.fail cid St.authFail Why.none
    else ((s.ctrInc 8).setJob cid (.attest nonce addr)).addJob { cls := 1, cid := some cid, what := 0 }

def execAttest (h : Hdr) (nonce : List Byte) (addr : Nat) (s : State) : Host.Outcome State Fault Refusal :=
  runIf "ATTEST" (Instr.wf (.attest h nonce addr)) (fun s => s.doAttest h nonce addr) s

/-- The flags of a report. -/
def State.attestFlags (s : State) : Nat :=
  b2n (s.flag Fld.SEC_STATUS_SEC_LOCK) + 2 * b2n s.sec.debugUnlocked + 4 * b2n s.sec.factoryOk +
    8 * b2n (s.flag Fld.BST_BOOT_SKIPPED) + 16 * b2n s.sec.fallback + 32 * b2n s.sec.trialBoot +
    64 * b2n (s.sec.boot = .recovery) + 128 * b2n s.sec.trngFail

def State.caskDigestOf (s : State) (c : Nat) : List Byte :=
  match (s.cask c).img with
  | some i => if s.caskOk c then padTo 32 i.digest else List.replicate 32 0
  | none => List.replicate 32 0

def imageEntry (i : Option (Nat × Nat × Nat × List Byte)) : List Byte :=
  match i with
  | some (v, n, slot, d) => leBytes 4 v ++ leBytes 4 n ++ leBytes 1 slot ++ leBytes 7 0 ++ padTo 32 d
  | none => List.replicate 48 0

/-- Bytes 0x0000 to 0x160F of a report. -/
def State.reportBody (s : State) (nonce : List Byte) : List Byte :=
  leBytes 4 0x54535441 ++ leBytes 2 1 ++ leBytes 2 8960 ++ padTo 32 nonce ++ serialBytes ++
    leBytes 2 s.variant.deviceId ++ leBytes 1 0x21 ++ leBytes 5 0 ++ leBytes 8 (s.ctrValue 8) ++ leBytes 8 s.rollback ++
    leBytes 8 s.now ++ leBytes 4 s.attestFlags ++ leBytes 4 0 ++ s.sec.images.flatMap imageEntry ++ s.caskDigestOf 0 ++
    s.caskDigestOf 1 ++ leBytes 4 (s.genOf 0) ++ leBytes 4 (s.genOf 1) ++ leBytes 1 s.casks.active ++ leBytes 7 0 ++
    vendorKeyHash ++ leBytes 32 0 ++ idKey ++ endorsement s.variant ++ leBytes 3 0

/-- The report is signed and written (R392). -/
def State.finishAttest (s : State) (cid : Nat) (nonce : List Byte) (addr : Nat) : State :=
  if s.sec.debugUnlocked then s.fail cid St.authFail Why.none
  else
    let b := s.reportBody nonce
    let (s, sig) := s.signId b
    s.writeOut cid addr 8960 (.hostWrite addr (b ++ sig ++ leBytes 3 0)) fun s =>
      s.complete cid St.ok Why.none (some 8960) none

/-! ## FW_STAGE and FW_COMMIT (R389, R390) -/

/-- The slot that updates write: the one that is not the boot slot. -/
def State.stagingSlot (s : State) (typ : Nat) : Nat := 1 - (s.fwEnt typ).slot

/-- The image that a command's ADDR points at. -/
def imageOf : HostData → FwImage
  | .fw f => f
  | .bytes b => fwOfBytes b
  | _ => fwOfBytes []

def State.doFwStage (s : State) (h : Hdr) (image length : Nat) (data : HostData) : State :=
  s.acceptCmd h Op.fwStage 1 (fun s =>
      let f := imageOf data
      if 2 < image then some 0x10
      else if data = .error then some Why.hostMemory
      else if length ≠ 8192 + f.bodyLen then some 0x14
      else if s.rollback + 64 < f.svn then some Why.noField
      else none) fun s cid =>
    if 0 < s.outOf Op.fwCommit || (s.fwEnt image).trial then s.fail cid St.busy Why.none
    else if s.nv.barred then s.fail cid St.nvBusy Why.none
    else (s.setJob cid (.fwStage image (imageOf data) none)).addJob { cls := 2, cid := some cid, what := 0 }

def execFwStage (h : Hdr) (image length addr : Nat) (data : HostData) (s : State) : Host.Outcome State Fault Refusal :=
  runIf "FW_STAGE" (Instr.wf (.fwStage h image length addr data)) (fun s => s.doFwStage h image length data) s

/-- The header has been checked (R389 steps 1 and 2): the staging slot is erased, its version and SVN are cleared, and
programming begins at the slot's address; or the command fails. -/
def State.stageChecked (s : State) (cid image : Nat) (f : FwImage) : State :=
  let slot := s.stagingSlot image
  let s := (s.setSlot image slot none).putMeta image ((s.fwEnt image).withSlot slot 0 0)
  if s.headOk image f then (s.setJob cid (.fwStage image f (some slot))).emit (.spiProgram (slotBase image slot) image slot f)
  else s.fail cid St.authFail Why.none

/-- Programming and read-back are over (R389 steps 3 and 4): the slot holds the image, or is left erased. Until here it counts as
empty. -/
def State.doFwStageDone (s : State) (readBackOk : Bool) : State :=
  match s.hif.outstanding.find? (·.opcode = Op.fwStage) with
  | none => s
  | some c =>
    match c.job with
    | .fwStage image f (some slot) =>
      -- the body's digest is a job of the Keccak engine
      let s := s.wantCrypto
      let s := { s.drew with sec.keccak := s.freeVal }
      if readBackOk && fwBodyOk f then
        let s := (s.setSlot image slot (some f)).event 0x0403 (leBytes 1 image ++ leBytes 1 slot ++ leBytes 2 0 ++ leBytes 4 f.version)
        s.complete c.cid St.ok Why.none (some f.version) none
      else s.fail c.cid St.authFail Why.none
    | _ => s

def execFwStageDone (readBackOk : Bool) (s : State) : Host.Outcome State Fault Refusal :=
  run (fun s => s.doFwStageDone readBackOk) s

/-- A CRIT ends staging (R389): a slot that was being programmed is left erased, one whose header is not yet checked is as it was. -/
def State.stageAbort (s : State) : State :=
  match s.hif.outstanding.find? (·.opcode = Op.fwStage) with
  | none => s
  | some c =>
    match c.job with
    | .fwStage _ _ _ =>
      let s := { s with
        sec.queue := s.sec.queue.filter (·.cid ≠ some c.cid)
        sec.job := s.sec.job.filter (·.cid ≠ some c.cid) }
      (s.fail c.cid St.aborted Why.power).pickJob
    | _ => s

def State.doFwCommit (s : State) (h : Hdr) (image : Nat) : State :=
  s.acceptCmd h Op.fwCommit 1 (fun _ => if 2 < image then some 0x10 else none) fun s cid =>
    if s.nv.barred then s.fail cid St.nvBusy Why.none
    else (s.setJob cid (.fwCommit image)).addJob { cls := 2, cid := some cid, what := 0 }

def execFwCommit (h : Hdr) (image : Nat) (s : State) : Host.Outcome State Fault Refusal :=
  runIf "FW_COMMIT" (Instr.wf (.fwCommit h image)) (fun s => s.doFwCommit h image) s

/-- The staging slot has been verified (R390). -/
def State.finishCommit (s : State) (cid image : Nat) : State :=
  let slot := s.stagingSlot image
  match s.slotImg image slot with
  | none => s.fail cid St.badParam Why.noField
  | some f =>
    if s.nv.barred then s.fail cid St.nvBusy Why.none
    else if s.verifies image (some f) then
      let e := { (s.fwEnt image).withSlot slot f.version f.svn with
        slot, trial := true, attempts := 0, digest := shake256 (fwHead f) }
      let s := (s.putMeta image e).nvLog 0x11 (leBytes 1 image ++ leBytes 1 slot ++ leBytes 4 f.version)
      s.complete cid St.ok Why.none (some f.version) none
    else s.fail cid St.badParam Why.noField

/-! ## DEBUG_UNLOCK (R394, R395) -/

/-- Phase 0. -/
def State.doChallenge (s : State) (h : Hdr) (addr : Nat) : State :=
  s.acceptCmd h Op.debugUnlock 1 (fun _ => none) fun s cid =>
    if s.sec.debugLockout then s.fail cid St.authFail Why.none
    else
      let (s, r) := s.wantTrng
      let c := serialBytes ++ r ++ leBytes 8 s.now ++ leBytes 8 0
      let s := { s with sec.challenge := some (c, s.mono) }
      s.writeOut cid addr 64 (.hostWrite addr c) fun s => s.complete cid St.ok Why.none (some 64) none

def execDebugUnlockChallenge (h : Hdr) (addr : Nat) (s : State) : Host.Outcome State Fault Refusal :=
  runIf "DEBUG_UNLOCK_CHALLENGE" (Instr.wf (.debugUnlockChallenge h addr)) (fun s => s.doChallenge h addr) s

/-- 60 s after phase 0 the challenge is no longer valid. -/
def State.doChallengeExpire (s : State) : State :=
  match s.sec.challenge with
  | some (_, t) => if t + 15000000000 ≤ s.mono then { s with sec.challenge := none } else s
  | none => s

def execDebugChallengeExpire (s : State) : Host.Outcome State Fault Refusal := run State.doChallengeExpire s

/-- A failed phase 1: counted and logged; the third locks. -/
def State.debugFail (s : State) (cid : Nat) : State :=
  let n := s.sec.debugFails + 1
  let s := { s with sec.debugFails := n, sec.debugLockout := s.sec.debugLockout || decide (3 ≤ n) }
  (s.nvLog 0x14 (leBytes 1 n)).complete cid St.authFail Why.none (some 0) none

/-- Phase 1: it consumes the challenge, whatever its outcome. -/
def State.doResponse (s : State) (h : Hdr) (length : Nat) (data : HostData) : State :=
  let s := s.doChallengeExpire
  let given := s.sec.challenge
  let taken := fun (s : State) => { s with sec.challenge := none }
  let b := match dataBytes data 3313 with
    | some b => b
    | none => []
  s.acceptCmd h Op.debugUnlock 1 (fun _ =>
      if length ≠ 3313 then some 0x14
      else if data = .error then some Why.hostMemory
      else if BitVec.ofNat 32 (fieldLe b 0 4) &&& ~~~Config.scopeBits ≠ 0 then some Why.noField
      else none) (fun s cid =>
    if s.pow.st = .stream ∨ s.pow.st = .take then (taken s).complete cid St.busy Why.none (some 0) none
    else if s.sec.debugLockout then (taken s).complete cid St.authFail Why.none (some 0) none
    else match given with
      | none => s.debugFail cid
      | some (c, _) => ((taken s).setJob cid (.debugResponse (c ++ b))).addJob { cls := 2, cid := some cid, what := 0 })
    none (some 0)

/-- Phase 1 as a command: a malformed one consumes the challenge too. -/
def State.doDebugResponse (s : State) (h : Hdr) (length : Nat) (data : HostData) : State :=
  if s.canAccept h.fence then State.doResponse s h length data |> fun t => { t with sec.challenge := none } else s

def execDebugUnlockResponse (h : Hdr) (length addr : Nat) (data : HostData) (s : State) :
    Host.Outcome State Fault Refusal :=
  runIf "DEBUG_UNLOCK_RESPONSE" (Instr.wf (.debugUnlockResponse h length addr data))
    (fun s => s.doDebugResponse h length data) s

/-- The vendor signature of phase 1 has been verified; `m` is the challenge, the scope and the signature. -/
def State.finishDebug (s : State) (cid : Nat) (m : List Byte) : State :=
  if Config.verify vendorKey (m.take 68) (m.drop 68) then
    let scope := fieldLe m 64 4
    let s := s.zeroise.sticky Fld.SEC_STATUS_ZEROISED
    let s := { s with sec.debugUnlocked := true, sec.scope := scope }
    let s := s.nvLog 0x13 (leBytes 4 scope)
    (s.event 0x0404 (leBytes 4 scope ++ leBytes 4 0)).complete cid St.ok Why.none (some 0) none
  else s.debugFail cid

/-! ## The chain (R396 to R399) -/

/-- D_j of a tile row: its number, and its output bytes (R396). -/
def rowDigest (j : Nat) (out : List Byte) : List Byte := shake256 (leBytes 1 j ++ out)

/-- H_k from the link before, metadata bytes 0x00 to 0x5F and the row digests (R397). -/
def linkOf (before metadata digests : List Byte) : List Byte := shake256 (before ++ metadata ++ digests)

/-- A chain starts at committed frame `c0` (R398). -/
def State.startChain (s : State) (c0 : Nat) : State :=
  let (s, r) := s.wantTrng
  let seed := shake256 (idKeyHash ++ leBytes 8 c0 ++ leBytes 8 s.sec.chainStart ++ r)
  let s := { s with
    sec.chain := some (c0, seed, seed, c0, 0), sec.msFirst := none, sec.msLink := seed, sec.msDrops := 0
    sec.msAbsorbed := [], sec.msRun := 0, sec.msInterval := s.fld Fld.SEC_MS_CFG_INTERVAL }
  s.event 0x0400 (leBytes 8 c0 ++ seed)

/-- Frame `k` enters the chain: the state and its link. Outside a chain the link field is zero (log 38). -/
def State.chainFrame (s : State) (k : Nat) (metadata digests : List Byte) : State × List Byte :=
  let s := if s.sec.chain.isNone && !s.sec.chainOver then s.startChain k else s
  match s.sec.chain with
  | none => (s, List.replicate 32 0)
  | some (c0, seed, last, _, pos) =>
    let h := linkOf last metadata digests
    let s := { s with
      sec.chain := some (c0, seed, h, k, pos + 1)
      sec.msFirst := some (s.sec.msFirst.getD k) }
    (s.setPair Reg.SEC_CHAIN_FRAME_LO k, h)

/-- The chain ends (R398): 0 STOP, 1 CRIT, 2 reset, 3 no stripe die. -/
def State.endChain (s : State) (cause : Nat) : State :=
  match s.sec.chain with
  | none => { s with sec.chainOver := true }
  | some (_, _, _, k, _) =>
    let s := { s with sec.chain := none, sec.chainOver := true }
    s.event 0x0401 (leBytes 8 k ++ leBytes 1 cause ++ leBytes 7 0)

/-! ## Milestones (R400 to R403) -/

abbrev Ms.periodic : Nat := 1
abbrev Ms.takeEnd : Nat := 2
abbrev Ms.streamEnd : Nat := 4
abbrev Ms.debug : Nat := 8

/-- MS_MERGED for a milestone absorbed into another (R402). -/
def State.msMerged (s : State) (gone into : Nat) : State :=
  (s.sticky Fld.SEC_STATUS_MS_MERGED).event 0x0402 (leBytes 8 gone ++ leBytes 8 into)

/-- Milestones waiting: the one being signed stands at the head of the queue and does not wait. -/
def State.msWaiting (s : State) : Nat :=
  s.sec.msQueue.length - (match s.sec.job with | some j => if j.cls = 0 then 1 else 0 | none => 0)

/-- A closing milestone takes the place of the PERIODIC ones of its chain that are not complete, the one being signed among them, and
covers their spans (R402); `m` itself is not signed yet. Those absorbed before for want of room in the queue are in `early`. -/
def State.putClosing (s : State) (m : Milestone) (early : List Nat := []) : State :=
  let gone := s.sec.msQueue.filter fun q => q.kind = Ms.periodic ∧ q.c0 = m.c0 ∧ q.frame ≠ m.frame
  let kept := s.sec.msQueue.filter fun q => ¬(q.kind = Ms.periodic ∧ q.c0 = m.c0) ∧ q.frame ≠ m.frame
  let absorbed := gone.map (·.frame) ++ early
  let m := { m with
    kind := if absorbed.isEmpty then m.kind else m.kind ||| Ms.periodic
    first := match gone.head? with | some g => g.first | none => m.first
    before := match gone.head? with | some g => g.before | none => m.before
    drops := m.drops + sumN (gone.map (·.drops)) }
  let s := absorbed.foldl (fun s g => s.msMerged g m.frame) s
  let job := match s.sec.job with
    | some j => if j.cls = 0 ∧ (j.what = m.frame ∨ gone.any (·.frame = j.what)) then none else some j
    | none => none
  State.wantJob { s with sec.msQueue := kept ++ [m], sec.job := job }

/-- The milestone of frame `k`, which has entered the chain, falls due with the kinds of R400; `dropped` says that channel 0
dropped the frame. -/
def State.milestoneDue (s : State) (k snap closing takeId : Nat) (dropped : Bool) : State :=
  match s.sec.chain with
  | none => s
  | some (c0, _, h, _, pos) =>
    let s := if dropped then { s with sec.msDrops := s.sec.msDrops + 1 } else s
    let kind := closing + (if pos % max 1 s.sec.msInterval = 0 then Ms.periodic else 0)
    if kind = 0 then s
    else if kind = Ms.periodic ∧ 4 ≤ s.msWaiting then
      State.sticky { s with sec.msAbsorbed := s.sec.msAbsorbed ++ [k] } Fld.SEC_STATUS_MS_MERGED
    else
      let early := s.sec.msAbsorbed.filter (· ≠ k)
      let m : Milestone :=
        { kind := if early.isEmpty then kind else kind ||| Ms.periodic
          c0, frame := k, position := pos, snap, link := h, due := s.now, record := []
          first := s.sec.msFirst.getD k, before := s.sec.msLink, drops := s.sec.msDrops
          takeId := if bitN closing 1 then takeId else 0xFF }
      let s := { s with sec.msFirst := none, sec.msLink := h, sec.msDrops := 0, sec.msAbsorbed := [] }
      if closing ≠ 0 then s.putClosing m early
      else
        let s := early.foldl (fun s g => s.msMerged g k) s
        State.wantJob { s with sec.msQueue := s.sec.msQueue ++ [m] }

/-- Versions of the management, P-die and coil images (R401). -/
def State.imageVersion (s : State) (typ : Nat) : Nat :=
  match s.sec.images.getD typ none with
  | some (v, _) => v
  | none => 0

/-- Bytes 0x000 to 0x10F of a milestone record (R401). -/
def State.milestoneBody (s : State) (m : Milestone) (kind seq : Nat) (prev : List Byte) : List Byte :=
  leBytes 4 0x54534C4D ++ leBytes 2 1 ++ leBytes 1 kind ++ leBytes 1 m.takeId ++ leBytes 8 m.c0 ++ leBytes 8 m.first ++
    leBytes 8 m.frame ++ leBytes 8 m.position ++ leBytes 8 m.snap ++ padTo 32 m.before ++ padTo 32 m.link ++
    padTo 32 prev ++ idKeyHash ++ leBytes 4 (s.imageVersion 0) ++ leBytes 4 (s.imageVersion 2) ++
    leBytes 4 (s.imageVersion 1) ++ leBytes 4 seq ++ leBytes 8 s.now ++ leBytes 4 m.drops ++ leBytes 68 0

/-- The milestone at the head of the queue is signed (R401, R395). -/
def State.signMilestone (s : State) : State :=
  match s.sec.msQueue with
  | [] => s
  | m :: t =>
    let same := decide (s.sec.msC0 = m.c0) && 0 < s.sec.msSeq
    let seq := if same then s.sec.msSeq + 1 else 1
    let prev := if same then s.sec.msPrev else []
    let kind := if s.sec.debugUnlocked then m.kind ||| Ms.debug else m.kind
    let b := s.milestoneBody m kind seq prev
    let (s, sig) := if s.sec.debugUnlocked then (s, List.replicate 3309 0) else s.signId b
    let r := b ++ sig ++ leBytes 3 0
    { s.bump Reg.SEC_MS_COUNT with
      sec.msQueue := t, sec.msC0 := m.c0, sec.msSeq := seq, sec.msPrev := shake256 r
      sec.signed := some { m with kind, record := r } }

/-! ## Jobs end (R382) -/

/-- What a finished job of a command does. -/
def State.finishJob (s : State) (cid : Nat) : State :=
  match s.jobOf cid with
  | .attest nonce addr => s.finishAttest cid nonce addr
  | .fwStage image f _ => s.stageChecked cid image f
  | .fwCommit image => s.finishCommit cid image
  | .debugResponse m => s.finishDebug cid m
  | _ => s

/-- The accelerator's job ends. A signed milestone that has not been published holds the next milestone back. -/
def State.doSignJob (s : State) : State :=
  match s.sec.job with
  | none => s
  | some j =>
    if j.cls = 0 then
      if s.sec.signed.isSome then s else State.pickJob { s.worked.signMilestone with sec.job := none }
    else match j.cid with
      | some cid => (State.finishJob { s.worked with sec.job := none } cid).pickJob
      | none => State.pickJob { s.worked with sec.job := none }

def execSignJobDone (s : State) : Host.Outcome State Fault Refusal := run State.doSignJob s

/-! ## The TRNG, SEC_LOCK and the mailbox (R381, R9, R405) -/

def State.doTrngFail (s : State) : State :=
  if s.sec.trngFail then s else State.event { s with sec.trngFail := true } 0x0405 (leBytes 8 0)

def execTrngHealthFail (s : State) : Host.Outcome State Fault Refusal := run State.doTrngFail s

def execLock (s : State) : Host.Outcome State Fault Refusal :=
  run (fun s => s.woken.setFld Fld.SEC_STATUS_SEC_LOCK 1) s

/-- The words that answer a mailbox request; code 2 has words whose form is not stated (log 37). -/
def State.mboxWords (s : State) (code : Nat) : Option (State × List Nat) :=
  match code with
  | 1 => some (s, s.sec.bootTimes)
  | 2 => some ((List.range 6).foldl (fun (s, l) _ => (s.drew, l ++ [s.freeVal])) (s, []))
  | 3 => some (s, (List.range 8).map fun i => fieldLe idKeyHash (4 * i) 4)
  | _ => none

def State.doMailbox (s : State) (v : Word) : State :=
  let s := s.hostSet Reg.SEC_MBOX_REQ v
  let code := s.fld Fld.SEC_MBOX_REQ_CODE
  match s.mboxWords code with
  | some (s, ws) =>
    let s := (ws.zipIdx).foldl (fun s (w, i) => s.setRegN (Reg.SEC_MBOX_DATA i) w) s
    s.setRegN Reg.SEC_MBOX_RSP (code + 2 ^ 8)
  | none => s.setRegN Reg.SEC_MBOX_RSP (code + 2 ^ 9)

def execSecMboxReqWrite (v : Word) (s : State) : Host.Outcome State Fault Refusal := run (fun s => s.woken.doMailbox v) s

/-- A write of SEC_MS_CFG (R405). -/
def State.writeMsCfg (s : State) (v : Word) : State :=
  if s.pow.st = .stream ∨ s.pow.st = .take ∨ fldOf v Fld.SEC_MS_CFG_INTERVAL < 16 then s.sticky Fld.SEC_STATUS_CFG_REJ
  else s.hostSet Reg.SEC_MS_CFG v

/-- Live fields of the SEC_ registers (R405). -/
def State.liveSec (s : State) (off : Nat) : Word :=
  let img := fun (t : Nat) => match s.sec.images.getD t none with | some (_, _, slot, _) => slot | none => 0
  if off = Reg.SEC_STATUS then
    BitVec.ofNat 32 (2 * b2n s.sec.debugUnlocked + 4 * b2n s.sec.debugLockout + 8 * b2n s.sec.bootDone +
      16 * b2n s.sec.job.isSome + 32 * b2n s.sec.trngFail)
  else if off = Reg.SEC_FW_VER_MGMT then BitVec.ofNat 32 (s.imageVersion 0)
  else if off = Reg.SEC_FW_VER_COIL then BitVec.ofNat 32 (s.imageVersion 1)
  else if off = Reg.SEC_FW_VER_PDIE then BitVec.ofNat 32 (s.imageVersion 2)
  else if off = Reg.SEC_SVN then BitVec.ofNat 32 s.rollback
  else if off = Reg.SEC_BOOT then
    BitVec.ofNat 32 ((match s.sec.boot with | .booting => 0 | .normal => 1 | .recovery => 2) + 4 * img 0 + 8 * img 2 +
      16 * img 1 + 32 * b2n s.sec.trialBoot)
  else 0

/-! ## The boot chain (R387, R388, R391) -/

/-- An image is sought: the wanted slot first, then the other one (R387). It answers the slot. -/
def State.bootImage (s : State) (typ slot : Nat) : State × Option Nat :=
  if s.verifies typ (s.slotImg typ slot) then (s, some slot)
  else
    let s := (s.sticky Fld.SEC_STATUS_FW_FALLBACK).nvLog 0x10 (leBytes 1 typ ++ leBytes 1 slot)
    let s := { s with sec.fallback := true }
    if s.verifies typ (s.slotImg typ (1 - slot)) then (s, some (1 - slot))
    else (s.nvLog 0x15 (leBytes 1 typ), none)

/-- The image in use is entered. -/
def State.useImage (s : State) (typ slot : Nat) : State :=
  match s.slotImg typ slot with
  | some f => { s with sec.images := modAt s.sec.images typ fun _ => some (f.version, f.svn, slot, shake256 (fwHead f)) }
  | none => s

/-- Step 1: the management entry of FW_META, and the slot to boot (R387). -/
def State.bootMeta (s : State) : State × Nat :=
  let e := s.fwEnt 0
  if !e.trial then (s, e.slot)
  else if 2 ≤ e.attempts then
    let slot := 1 - e.slot
    (s.putMeta 0 { e with slot, trial := false, attempts := 0, digest := headDigest (s.slotImg 0 slot) }, slot)
  else ({ s.putMeta 0 { e with attempts := e.attempts + 1 } with sec.trialBoot := true }, e.slot)

/-- A TRIAL image in use is confirmed (R391). -/
def State.confirmImage (s : State) (typ : Nat) : State :=
  let e := s.fwEnt typ
  match s.sec.images.getD typ none with
  | some (v, n, slot, _) =>
    if e.trial ∧ e.slot = slot then
      let s := s.putMeta typ { e with trial := false, attempts := 0 }
      -- increments that the firmware holds while writes are barred count as made
      let due := s.rollback + (s.nv.heldIncs.filter (· = 7)).length
      let s := (List.range (n - due)).foldl (fun s _ => s.ctrInc 7) s
      s.nvLog 0x12 (leBytes 1 typ ++ leBytes 4 v ++ leBytes 4 (max due n))
    else s
  | none => s

/-- Microcode words of a coil image's body (R384). -/
def ucodeOf (f : FwImage) (i : Nat) : Nat := fieldLe (padTo 512 f.body) (4 * i) 4

/-- The coil image's words go to COIL_UCODE (R208). -/
def State.loadUcode (s : State) (slot : Nat) : State :=
  match s.slotImg 1 slot with
  | some f => (List.range 128).foldl (fun s i => s.setRegN (Reg.COIL_UCODE i) (ucodeOf f i)) s
  | none => s

/-- A slot as the SPI NOR device holds it; none where the device does not answer (R434). -/
def spiSlot (answers : Bool) (f : FwImage) : Option FwImage := if answers then some f else none

/-- Most microseconds that each step of R387 may take. -/
def bootLimits : List Nat := [0, 35000, 36000, 40000, 55000, 55000]

/-- Steps 1 to 6 of R387, apart from boot BIST. -/
def State.bootChain (s : State) (d : SpiSlots) : State :=
  let sl := spiSlot d.answers
  let s := { s with sec.slots := [(sl d.mgmtA, sl d.mgmtB), (sl d.coilA, sl d.coilB), (sl d.pdieA, sl d.pdieB)] }
  let (s, times) := bootLimits.foldl (fun (s, l) m => (s.drew, l ++ [s.freeVal % (m + 1)])) (s, [])
  let s := { s with sec.bootTimes := times }
  let (s, slot) := s.bootMeta
  let (s, got) := s.bootImage 0 slot
  match got with
  | none => { s with sec.boot := .recovery, sec.trialBoot := false }
  | some used =>
    let s := { s.useImage 0 used with sec.trialBoot := s.sec.trialBoot && decide (used = slot) }
    let s := s.loadTrims.setFld Fld.SEC_STATUS_SEC_LOCK 0
    let (s, c) := s.bootImage 1 (s.fwEnt 1).slot
    let s := match c with | some u => (s.useImage 1 u).loadUcode u | none => s
    let (s, p) := s.bootImage 2 (s.fwEnt 2).slot
    let s := match p with | some u => s.useImage 2 u | none => s
    let s := (List.range 3).foldl (fun s t => s.confirmImage t) s
    { s with sec.boot := .normal, sec.bootDone := true }

end Sys2Proof.Machine
end

