-- ==== Sys2Proof/Machine/Vtl.lean ====
section
/-! DEFINITION. The VTL format (R250 to R252): tiles coded alone, units of whole tile rows with their table and check. -/

namespace Sys2Proof.Machine

open Sys2Proof

/-! ## Samples -/

/-- Sample width of a format. -/
def sampleBits (fmt : Nat) : Nat := if fmt = 0 ∨ fmt = 2 then 20 else if fmt = 4 then 32 else 16

/-- Samples of packed 20-bit pairs (R108). -/
def unpack20 : Nat → List Byte → List Nat
  | 0, _ => []
  | n + 1, b => let v := fieldLe b 0 5
    v % 2 ^ 20 :: v / 2 ^ 20 :: unpack20 n (b.drop 5)

/-- The samples of packed bytes. -/
def unpackSamples (fmt : Nat) (b : List Byte) : List Nat :=
  if fmt = 0 ∨ fmt = 2 then unpack20 (b.length / 5) b
  else
    let n := if fmt = 4 then 4 else 2
    (List.range (b.length / n)).map fun i => fieldLe b (n * i) n

/-- The bytes of the tile at window tile column `i` of a tile row: its 64 row segments (R107). -/
def tileBytes (fmt wT i : Nat) (row : List Byte) : List Byte :=
  (List.range 64).flatMap fun j => (row.drop ((j * wT + i) * segBytes fmt)).take (segBytes fmt)

/-! ## RICE (R251) -/

/-- The middle of three. -/
def med3 (a b c : Int) : Int := max (min a b) (min (max a b) c)

/-- The prediction of sample `n` of a tile in raster order. -/
def ricePred (v : Array Nat) (n : Nat) : Int :=
  let a : Int := v.getD (n - 1) 0
  let b : Int := v.getD (n - 64) 0
  let c : Int := v.getD (n - 65) 0
  if n < 64 then a else if n % 64 = 0 then b else med3 a b (a + b - c)

/-- The folded residual u of a sample. -/
def riceU (bits : Nat) (v : Array Nat) (n : Nat) : Nat :=
  let e := ((v.getD n 0 : Int) - ricePred v n) % (2 ^ bits : Int)
  let e := if 2 ^ (bits - 1) ≤ e then e - 2 ^ bits else e
  if 0 ≤ e then (2 * e).toNat else (-2 * e - 1).toNat

/-- The `n` low bits of a number, most significant first. -/
def bitsMsb (n v : Nat) : List Bool := (List.range n).map fun i => bitN v (n - 1 - i)

/-- The codeword of u. -/
def riceCode (bits k u : Nat) : List Bool :=
  let q := u / 2 ^ k
  if q < 24 then List.replicate q true ++ [false] ++ bitsMsb k u else List.replicate 24 true ++ bitsMsb bits u

def riceLen (bits k u : Nat) : Nat := if u / 2 ^ k < 24 then u / 2 ^ k + 1 + k else 24 + bits

/-- Bits as bytes, each filled from bit 7 down, the last padded with zeros. -/
def packBits : Nat → List Bool → List Byte
  | 0, _ => []
  | n + 1, b =>
    let c := b.take 8 ++ List.replicate (8 - (b.take 8).length) false
    BitVec.ofNat 8 (c.foldl (fun a x => 2 * a + b2n x) 0) :: packBits n (b.drop 8)

/-! ## Tiles and units (R250, R252) -/

/-- A tile's table entry and payload, from its packed bytes. -/
def vtlTile (fmt : Nat) (raw : List Byte) : Nat × List Byte :=
  let bits := sampleBits fmt
  let vs := unpackSamples fmt raw
  let v := vs.toArray
  let first := v.getD 0 0
  if vs.all (· = first) then
    let p := packBits (ceilDiv bits 8) (bitsMsb bits first)
    (p.length + 2 * 2 ^ 24, p)
  else
    let us := (List.range 4095).map fun n => riceU bits v (n + 1)
    let len := fun k => bits + sumN (us.map (riceLen bits k))
    let k := (List.range bits).foldl (fun b k => if len k < len b then k else b) 0
    let n := ceilDiv (len k) 8
    if n < raw.length then
      let p := packBits n (bitsMsb bits first ++ us.flatMap (riceCode bits k))
      (p.length + 2 ^ 24 + k * 2 ^ 26, p)
    else (raw.length, raw)

/-- A VTL unit of tile rows in order: row number and bytes each. -/
def vtlUnit (fmt wT : Nat) (rows : List (Nat × List Byte)) : List Byte :=
  let tiles := rows.flatMap fun r => (List.range wT).map fun i => vtlTile fmt (tileBytes fmt wT i r.2)
  let body := tiles.flatMap (fun t => leBytes 4 t.1) ++ tiles.flatMap (·.2)
  leBytes 4 0x314C5456 ++ leBytes 1 fmt ++ leBytes 1 (sampleBits fmt) ++ leBytes 1 ((rows.head?.map (·.1)).getD Config.noRow.toNat) ++
    leBytes 1 rows.length ++ leBytes 1 wT ++ leBytes 3 0 ++ leBytes 4 (crc32c body) ++ body

end Sys2Proof.Machine
end

