-- ==== Sys2Proof/Machine/Takes.lean ====
section
/-! DEFINITION. The Cellar's takes and their replay (R236 to R252): arming, recording, ending, replay, with the meanings of
their commands and events. -/

namespace Sys2Proof.Machine

open Sys2Proof

/-! ## Space (R232, R234, R239, R240) -/

/-- Offset and size of a region in MiB, in the usable space of a die of `gb` GB: 15/16 of it (R233, R234). -/
def cellarArea (gb : Nat) : CellarArea → Nat × Nat
  | .caskA => (0, 98)
  | .caskB => (98, 98)
  | .history => (196, 128)
  | .lookahead => (324, 768)
  | .scratch => (1092, 1024)
  | .hostwin => (2116, 64)
  | .take => (2180, gb * 1024 * 15 / 16 - 2180)

/-- Take data area per die in MiB for a capacity in GB: the TAKE region less its directory of 64 MiB (R234). -/
def takeDataMib (gb : Nat) : Nat := (cellarArea gb .take).2 - 64

def Take.top (t : Take) : Nat := t.offset + t.extent

/-- Every take that holds an extent. -/
def State.heldTakes (s : State) : List Take :=
  s.cel.stored ++ (match s.cel.run with | some r => if r.stage = 0 then [] else [r.t] | none => []) ++
    (match s.cel.interrupted with | some r => [r.t] | none => [])

/-- Top of the extents held, in MiB (R239). -/
def State.takeTop (s : State) : Nat := maxN (s.heldTakes.map Take.top)

def State.takeArea (s : State) : Nat := s.fld Fld.CEL_SIZE_TAKE_DATA_MIB

/-- CEL_TAKE_FREE. -/
def State.takeFree (s : State) : Nat := s.takeArea - s.takeTop

def ceil4k (n : Nat) : Nat := ceilDiv n 4096 * 4096

/-- W of R240. -/
def takeW (nMaxPix fmt store : Nat) : Nat :=
  4096 + ceil4k (ceilDiv (nMaxPix * sampleBits fmt) 8 + if store = 0 then 0 else 16 + 4 * (nMaxPix / 4096))

/-! ## The index and its registers (R243, R253) -/

abbrev TFlag.short : Nat := 0
abbrev TFlag.truncated : Nat := 1
abbrev TFlag.aborted : Nat := 2
abbrev TFlag.immediate : Nat := 3
abbrev TFlag.extend : Nat := 4
abbrev TFlag.vtl : Nat := 5
abbrev TFlag.dieLost : Nat := 6
abbrev TFlag.eccLoss : Nat := 7
abbrev TFlag.extended : Nat := 8

def Take.has (t : Take) (f : Nat) : Bool := bitN t.flags f
def Take.mark (t : Take) (f : Nat) : Take := { t with flags := t.flags ||| 2 ^ f }

/-- Bytes of an extent. -/
def Take.bytes (t : Take) : Nat := t.extent * 2 ^ 20

/-- Frames of a take kept before its trigger frame. -/
def Take.preFrames (t : Take) : Nat := t.trig - t.first

/-- B_pre on the fullest die (R242): W for each kept pre-trigger frame; under VTL the size of the records written and W for
those not yet written. -/
def Take.bPre (t : Take) : Nat :=
  if !t.has TFlag.vtl then t.preFrames * t.wBytes
  else
    let fs := t.frames.filter fun f => t.first ≤ f.k && f.k < t.trig
    maxN ((List.range 5).map fun n =>
      sumN (fs.map fun f => sumN ((f.recs.filter (·.1 = n)).map fun r => r.2.2))) + (t.preFrames - fs.length) * t.wBytes

/-- Frames from g onward that fit (R242): the greatest n with B_pre + (n + 1) × W ≤ EXTENT. -/
def Take.cap (t : Take) : Nat := (t.bytes - t.bPre) / max 1 t.wBytes - 1

/-- The last frame that the capacity allows, of the one called for; and whether it was cut (R242). -/
def Take.capped (t : Take) (want : Nat) : Nat × Bool :=
  let e := t.trig + t.cap - 1
  if e < want then (e, true) else (want, false)

/-- The take's registers follow its index; `st` is CEL_TAKE_STATE.STATE. -/
def State.showTake (s : State) (t : Take) (st : Nat) : State :=
  let v := st + 2 ^ 4 * t.id + 2 ^ 8 * b2n (t.has TFlag.short) + 2 ^ 9 * b2n (t.has TFlag.truncated) +
    2 ^ 10 * b2n (t.has TFlag.extended) + 2 ^ 16 * min t.retrig 0xFFFF
  let s := s.setRegN Reg.CEL_TAKE_STATE v
  let s := ((s.setPair Reg.CEL_TAKE_FIRST_LO t.first).setPair Reg.CEL_TAKE_LAST_LO t.last).setPair Reg.CEL_TAKE_TRIG_LO t.trig
  (s.setRegN Reg.CEL_TAKE_WC (sat32 (t.wBytes / 4096))).setRegN Reg.CEL_TAKE_CAP (sat32 t.cap)

/-! ## Frame records and the index as written (R241, R243) -/

/-- The tile rows of a frame that a die's record holds. -/
def TakeFrame.rowsOf (f : TakeFrame) (n : Nat) : List (Nat × List Byte) := f.rows.filter fun r => ownsRow (mapAt f.map n) r.1

/-- The data of a record (R240): the rows as they were delivered, or one VTL unit. -/
def Take.dataOf (t : Take) (f : TakeFrame) (n : Nat) : List Byte :=
  let own := f.rowsOf n
  if !t.has TFlag.vtl then own.flatMap (·.2) else vtlUnit f.fmt (t.win.getD 2 0) own

/-- Where a die's record of a frame lies in the extent, if it holds one. -/
def TakeFrame.recOf (f : TakeFrame) (n : Nat) : Option Nat := (f.recs.find? fun r => r.1 = n ∧ r.2.2 ≠ 0).map (·.2.1)

/-- The 4,096-byte header of die `n`'s record of frame `f` (R241). -/
def Take.recHeader (t : Take) (f : TakeFrame) (n : Nat) : List Byte :=
  let own := f.rowsOf n
  let next := ((t.frames.filter fun g => f.k < g.k).findSome? fun g => g.recOf n).getD allOnes
  padTo 128 f.metadata ++ shake256 (own.flatMap fun r => rowDigest r.1 r.2) ++ leBytes 8 next ++
    leBytes 4 (t.dataOf f n).length ++ leBytes 1 ((own.head?.map (·.1)).getD Config.noRow.toNat) ++ leBytes 1 own.length ++
    leBytes 1 (b2n (t.has TFlag.vtl)) ++ leBytes 337 0 ++ padTo 3584 (f.milestone.getD [])

/-- An entry of the change list. -/
def TakeChange.bytes (c : TakeChange) : List Byte :=
  leBytes 8 c.k0 ++ leBytes 1 c.kinds ++ leBytes 1 c.mode ++ leBytes 1 c.l ++ leBytes 1 c.cask ++ leBytes 2 c.version ++
    padTo 10 (c.map.flatMap fun e => leBytes 1 e.1 ++ leBytes 1 e.2) ++ leBytes 4 c.period ++ leBytes 4 c.gen

/-- The sparse frame table: the records of every 256th frame from the first up to the newest; all ones where the ring has overwritten
the frame. -/
def Take.sparse (t : Take) : List Byte :=
  let len := match t.frames.getLast? with | some f => (f.k + 256 - t.first) / 256 | none => 0
  (List.range len).flatMap fun i =>
    let f := t.frames.find? fun f => f.k = t.first + 256 * i
    (List.range 5).flatMap fun n => leBytes 8 ((f.bind fun f => f.recOf n).getD allOnes)

/-- The bytes of an index slot. -/
def Take.slot (t : Take) : List Byte :=
  leBytes 4 0x454B4154 ++ leBytes 2 1 ++ leBytes 1 t.id ++ leBytes 1 t.state ++ leBytes 2 t.flags ++ leBytes 1 t.trunc ++
    leBytes 1 t.fmt ++ leBytes 1 t.diesAt ++ leBytes 1 t.diesLost ++ leBytes 2 0 ++ leBytes 8 t.arm ++ leBytes 8 t.first ++
    leBytes 8 t.last ++ leBytes 8 t.trig ++ leBytes 8 t.trigTick ++ leBytes 4 t.pre ++ leBytes 4 t.post ++
    leBytes 4 t.retrig ++ leBytes 4 t.extent ++ leBytes 4 t.wBytes ++ (t.win.flatMap fun v => leBytes 1 v) ++
    leBytes 8 (t.offset * 2 ^ 20) ++ leBytes 8 (t.complete.getD allOnes) ++ padTo 32 t.linkBefore ++
    (t.regs.flatMap fun v => leBytes 4 v) ++ (t.trsRegs.flatMap fun v => leBytes 4 v) ++ padTo 32 t.radDigest ++ leBytes 24 0 ++
    padTo 32 t.linkLast ++ padTo 3584 t.closing ++ leBytes 224 0 ++ padTo 8192 (t.changes.flatMap TakeChange.bytes) ++
    padTo 512 (t.retrigTicks.flatMap fun v => leBytes 8 v) ++ leBytes 3584 0 ++ t.sparse

/-- The index is written: its slot, and the frame up to which every record is complete. -/
def State.writeIndex (s : State) (t : Take) : State :=
  { s with cel.slots := (t.id, t.slot) :: s.cel.slots.filter fun e => e.1 ≠ t.id }

/-- An uncorrectable error in a record sets ECC_LOSS in the index of its take (R249): the slot is written anew. -/
def State.eccIndex (s : State) (id : Nat) (hit : Take → Bool) : State :=
  match s.heldTakes.find? fun t => t.id = id && hit t with
  | some t => s.writeIndex (t.mark TFlag.eccLoss)
  | none => s

/-- No index of a take remains (R245). -/
def State.dropIndex (s : State) (id : Nat) : State := { s with cel.slots := s.cel.slots.filter fun e => e.1 ≠ id }

/-- The take in progress takes a new index and stage. -/
def State.setRun (s : State) (r : TakeRun) : State :=
  State.showTake { s with cel.run := some r } r.t (if r.stage = 0 then 0 else r.stage)

/-- The newest frame whose records are complete on every stripe die (R243). -/
def lastComplete (fs : List TakeFrame) : Option Nat := (fs.filter fun f => f.lost.isEmpty).getLast?.map (·.k)

/-- The take in progress changes its state, or reaches a 256th frame: its index is written, with the newest frame whose records are
complete on every stripe die (R243). -/
def State.rewrite (s : State) (r : TakeRun) : State :=
  let t := { r.t with complete := lastComplete r.t.frames }
  (s.setRun { r with t }).writeIndex t

/-- The device leaves TAKE (R235, R244). A stream whose last frame has completed meanwhile then ends (R310). -/
def State.leaveTake (s : State) : State :=
  if s.pow.st ≠ .take then s
  else
    let s := s.goState .stream
    if s.trs.lastFrame.isSome && s.tol.stopping.isNone then
      State.goState { s with trs.lastFrame := none } .ready
    else s

/-- The result block of ARM_TAKE (R270). -/
def Take.block (t : Take) : List Byte :=
  leBytes 1 t.id ++ leBytes 7 0 ++ leBytes 8 t.first ++ leBytes 8 t.trig ++ leBytes 8 t.last ++ leBytes 2 t.flags

/-- The completion of ARM_TAKE for a take that remains (R237, R270). -/
def State.armDone (s : State) (r : TakeRun) (status reason : Nat) : State :=
  s.complete r.cid status reason (some r.t.last) (some r.t.block)

/-- The registers CEL_TAKE_STATE to CEL_TAKE_CAP, which show the take in progress or the one last finalised (R253). -/
def takeShown : List Nat := (List.range 9).map fun i => Reg.CEL_TAKE_STATE + 4 * i

/-- No take remains of one that was armed: its index goes, and the registers show the take last finalised again. -/
def State.unshowTake (s : State) (r : TakeRun) : State :=
  State.dropIndex (r.before.foldl (fun s e => s.setReg e.1 e.2) s) r.t.id

/-- The take in progress is freed (R245, R246). -/
def State.freeTake (s : State) (r : TakeRun) (reason : Nat) : State :=
  let s := if r.stage = 0 then s else s.unshowTake r
  let s := State.leaveTake { s with cel.run := none }
  if r.stage = 0 then s.fail r.cid St.aborted reason else s.complete r.cid St.aborted reason none (some r.t.block)

/-! ## ARM_TAKE (R236 to R238) -/

def State.doArmTake (s : State) (h : Hdr) (q : ArmReq) : State :=
  s.acceptCmd h Op.armTake 1 (fun _ => if q.post = 0 then some 0x14 else none) fun s cid =>
    if s.pow.st ≠ .stream ∨ s.cel.run.isSome ∨ s.cel.interrupted.isSome ∨ (16 ≤ s.cel.stored.length ∧ !q.freeAll) ∨
        (s.cel.replay.isSome ∧ q.freeAll) ∨ s.casks.cal.isSome ∨ s.settling ∨ s.syncBusy then
      s.fail cid St.busy Why.none
    else
      let t : Take :=
        { id := 0, state := 0, flags := 0, trunc := 0, fmt := 0, diesAt := 0, diesLost := 0, arm := 0, first := 0, last := 0
          trig := 0, trigTick := 0, pre := if q.immediate then 0 else q.pre, post := q.post, retrig := 0, extent := 0
          wBytes := 0, nMax := 0, win := [], offset := 0, complete := none, linkBefore := [], linkLast := [], regs := []
          trsRegs := [], radDigest := [], closing := [], changes := [], retrigTicks := [], frames := [] }
      let r : TakeRun := { t, req := q, cid, stage := 0, acceptTick := s.acceptTick cid, endSnap := none, finalMembers := false
                           aborted := false, reduced := false, want := 0, ends := List.replicate 5 0, before := []
                           atEnd := none }
      let s := { s with cel.run := some r }
      -- an immediate trigger waits for acceptance like any other (R238)
      if q.immediate then
        { s with tmg.trigPending := s.tmg.trigPending ++
            [{ t := r.acceptTick, src := 2, recv := r.acceptTick, cfg := s.tmg.trigCfg, holdoff := s.tmg.trigHoldoff }] }
      else s

def execArmTake (h : Hdr) (r : ArmReq) (s : State) : Host.Outcome State Fault Refusal :=
  runIf "ARM_TAKE" (Instr.wf (.armTake h r)) (fun s => s.doArmTake h r) s

/-- Largest share of a window under a map. -/
def shareMax (m : List MapEnt) (p : Profile) : Nat := nMax m p

/-- The checks of R237 at S_a on space, for map and profile of frame a + 1: the extent and W, or the field at fault. -/
def State.armSpace (s : State) (q : ArmReq) (m : List MapEnt) (p : Profile) : Except Nat (Nat × Nat) :=
  let free := if q.freeAll then s.takeArea else s.takeFree
  let ext := if q.extent = 0 then free else q.extent
  let w := takeW (shareMax m p) p.fmt q.store
  let pre := if q.immediate then 0 else q.pre
  if free < ext then .error 0x18
  else if ext * 2 ^ 20 < (pre + q.post + 1) * w then .error Why.noField
  else .ok (ext, w)

/-- Registers that an index copies: those of R116 without the table port, and TRS_TAU_EVEN to TRS_COIL_CFG (R243). -/
def takeRegs : List Nat :=
  [Reg.PPL_LIN_SCALE, Reg.PPL_LIN_PEDESTAL, Reg.PPL_LIN20_PEDESTAL, Reg.PPL_BLIND_CFG, Reg.PPL_DEFECT_CFG,
   Reg.PPL_DYN_LIMIT, Reg.PPL_MON_CFG, Reg.PPL_RAD_IN_MIN, Reg.PPL_RAD_CTRL, Reg.PPL_RAD_K, Reg.PPL_RAD_L0]
def takeTrsRegs : List Nat := (List.range 7).map fun i => Reg.TRS_TAU_EVEN + 4 * i

def State.radBank (s : State) : Tab Nat := if s.rad.active then s.rad.bank1 else s.rad.bank0

/-- A setting in force at a snapshot (R16, R86): as the tick before it left it; a bank swap has been made by then (R112, R116). -/
def State.regInForce (s : State) (off : Nat) : Nat :=
  let v := tabGet resetVal s.held off
  if off = Reg.PPL_RAD_CTRL then (fldPut v Fld.PPL_RAD_CTRL_SWAP 0).toNat + 2 ^ 9 * b2n s.rad.active else v.toNat

/-- The digest of the active radiometric bank (R243). -/
def State.radDigest (s : State) : List Byte :=
  shake256 ((List.range 4096).flatMap fun i => leBytes 2 (tabGet (fun _ => 0) s.radBank i))

/-- A change-list entry that gives the state after a change (R243). -/
def State.changeEntry (s : State) (k0 kinds : Nat) : TakeChange :=
  { k0, kinds, mode := s.tol.prof.mode, l := s.tol.prof.l, cask := s.casks.active, version := s.rol.version
    map := s.rol.map.map fun e => (e.first, e.count), period := s.tol.prof.period
    gen := (s.caskNow.map (·.gen)).getD 0 }

/-- The take is armed at S_a: every check has passed, and the map and profile of frame a + 1 are in force (R237 to R239). -/
def State.arm (s : State) (r : TakeRun) (a ext w : Nat) (reduced : Bool) : State :=
  let s := if r.req.freeAll then { s with cel.stored := [], cel.slots := [] } else s
  let id := ((List.range 16).find? fun i => !(s.cel.stored.any (·.id = i))).getD 0
  let p := s.tol.prof
  let q := r.req
  let t := { r.t with
    id, state := 1, fmt := p.fmt, arm := a, first := a + 1, extent := ext, wBytes := w, nMax := shareMax s.rol.map p
    win := [p.x0, p.y0, p.w, p.h], offset := s.takeTop
    diesAt := sumN (s.counted.map (2 ^ ·))
    flags := 2 ^ TFlag.immediate * b2n q.immediate + 2 ^ TFlag.extend * q.retrig + 2 ^ TFlag.vtl * q.store
    regs := takeRegs.map s.regInForce, trsRegs := takeTrsRegs.map s.regInForce, radDigest := s.radDigest
    changes := [s.changeEntry a 0] }
  let s := s.goState .take
  let r := { r with before := takeShown.map fun o => (o, s.reg o) }
  if q.immediate then
    let t := { t with trig := a + 1, trigTick := r.acceptTick, state := 2 }
    let (e, cut) := t.capped (a + q.post)
    let t := if cut then { (t.mark TFlag.truncated) with trunc := 1 } else t
    (s.stickyIf cut Fld.CEL_STATUS_TRUNCATED).rewrite { r with t := { t with last := e }, stage := 2, reduced, want := a + q.post }
  else s.rewrite { r with t, stage := 1, reduced }

/-! ## Triggers (R78 to R80, R242) -/

/-- The take in progress takes a new index and stage; where the stage is another, the index is written (R243). -/
def State.setStage (s : State) (r : TakeRun) (stage : Nat) : State :=
  if r.stage = stage then s.setRun r else s.rewrite { r with stage }

/-- The closing of the take's last frame is known: the take waits for it, or for its records. A last frame beyond the one that the first
trigger called for makes the take EXTENDED (R253). -/
def State.closeAt (s : State) (r : TakeRun) : State :=
  let r := if r.t.trig + r.t.post ≤ r.t.last then { r with t := r.t.mark TFlag.extended } else r
  match s.trs.snaps.find? (·.1 = r.t.last) with
  | some (_, t) => s.setStage { r with endSnap := some t } 3
  | none => s.setStage { r with endSnap := none } 2

/-- Are the sizes of every record before the trigger frame known? For raw storage the rule takes W for each (R242). -/
def Take.preKnown (t : Take) : Bool :=
  !t.has TFlag.vtl || (t.frames.filter fun f => t.first ≤ f.k && f.k < t.trig).length = t.preFrames

/-- A take gets its last frame, cut to its capacity. Under VTL the cut is final once the records before the trigger frame have been
written: until then each counts as W, and the last frame can move on (R242). -/
def State.setLast (s : State) (r : TakeRun) (want : Nat) : State :=
  let (e, cut) := r.t.capped want
  let cut := cut && r.t.preKnown
  let t := if cut then { (r.t.mark TFlag.truncated) with trunc := 1 } else r.t
  (s.stickyIf cut Fld.CEL_STATUS_TRUNCATED).closeAt { r with t := { t with last := e }, want }

/-- The last frame moves on (R79, R242, R243, R245): not beyond the last frame of a stream that has been stopped, and not
past a snapshot S_e whose changes end the take. -/
def State.extendTake (s : State) (r : TakeRun) (want : Nat) : State :=
  let cut := fun (r : TakeRun) (last reason : Nat) =>
    (s.sticky Fld.CEL_STATUS_TRUNCATED).closeAt { r with t := { (r.t.mark TFlag.truncated) with last, trunc := reason }, want := last }
  match r.atEnd with
  | some (_, true) => cut r r.t.last 2
  | some (c, false) =>
    if 256 ≤ r.t.changes.length then cut r r.t.last 4
    else s.setLast { r with t := { r.t with changes := r.t.changes ++ [c] }, atEnd := none } want
  | none =>
    match s.trs.lastFrame with
    | some e => if e < want then cut r (max r.t.last e) 3 else s.setLast r want
    | none => s.setLast r want

/-- A trigger starts an armed take (R78). -/
def State.startTake (s : State) (r : TakeRun) (t k : Nat) : State :=
  let first := max (r.t.arm + 1) (k - r.t.pre)
  let old := r.t.frames.find? (·.k + 1 = first)
  let tk := { r.t with
    state := 2, trig := k, trigTick := t, first, frames := r.t.frames.filter (first ≤ ·.k)
    linkBefore := match old with | some f => f.metadata.drop 0x60 | none => r.t.linkBefore }
  let tk := if k < r.t.arm + 1 + r.t.pre then tk.mark TFlag.short else tk
  s.setLast { r with t := tk } (k + r.t.post - 1)

/-- Is a ring trigger at tick `t`, received at `recv`, too late for a take that ends at tick `e` (R80)? -/
def lateFor (t recv e : Nat) : Bool := tickLe t e && !tickLe recv (tickAdd e 2500)

/-- An accepted trigger at tick `t` that belongs to frame `k` meets the take in progress; `ring` tells a trigger from the
ring, received at tick `recv`. -/
def State.takeTrigger (s : State) (t k : Nat) (ring : Bool) (recv : Nat) : State :=
  let ended := (s.cel.run.bind (·.endSnap)).toList ++ s.cel.lastEnd.toList
  let late := ring && ended.any (lateFor t recv)
  let s := if late then s.bump Reg.TMG_TRIG_LATE else s
  match s.cel.run with
  | none => s
  | some r =>
    if k ≤ r.t.arm then s
    else if r.stage = 1 then s.startTake r t k
    else if 2 ≤ r.stage ∧ k ≤ r.t.last ∧ !tickLe t r.t.trigTick ∧ !late ∧ !r.aborted ∧ !r.finalMembers then
      let tk := { r.t with
        retrig := sat32 (r.t.retrig + 1)
        retrigTicks := if r.t.retrigTicks.length < 64 then r.t.retrigTicks ++ [t] else r.t.retrigTicks }
      let want := max r.want (k + tk.post - 1)
      if r.t.has TFlag.extend ∧ r.t.last < want ∧ r.t.trunc = 0 then s.extendTake { r with t := tk } want
      else s.setRun { r with t := tk }
    else s

/-- S_e + 2,500 ticks: which triggers belong to the take is final (R80), once every trigger that came in by then has been judged.
DESIGN CHOICE (log 113): an edge that is still in a longer width filter holds the decision back. -/
def State.doTriggerFinal (s : State) : State :=
  match s.cel.run with
  | some r => match r.endSnap with
    | some e =>
      let waits := (s.tmg.trigPending ++ s.tmg.trigEdge.toList).any fun p => tickLe p.t e && tickLe p.recv (tickAdd e 2500)
      if r.stage = 3 ∧ !r.finalMembers ∧ tickLe (tickAdd e 2500) s.now ∧ !waits then
        { s with cel.run := some { r with finalMembers := true }, cel.lastEnd := some e } else s
    | none => s
  | none => s

def execTakeTriggerFinal (s : State) : Host.Outcome State Fault Refusal := run State.doTriggerFinal s

/-! ## Snapshots, changes and early ends (R243, R245) -/

/-- A take whose last frame has entered the chain already gets its closing milestone now, or shares the one of that
frame (R400, R246): one that is signed stays as it is, one that is not is signed as the closing one (R402). -/
def State.closingMilestone (s : State) (r : TakeRun) : State :=
  match r.t.frames.find? (·.k = r.t.last) with
  | none => s
  | some f =>
    if f.milestone.isSome || s.sec.signed.any (·.frame = f.k) then s
    else match s.sec.msQueue.find? (·.frame = f.k) with
    | some m => s.putClosing { m with kind := m.kind ||| Ms.takeEnd, takeId := r.t.id }
    | none => match s.sec.chain with
      | some (_, _, _, k, _) =>
        if k = f.k then s.milestoneDue k (fieldLe f.metadata 8 8) Ms.takeEnd r.t.id false else s
      | none => s

/-- The take ends at frame `k`, which a snapshot closes now or has closed; `reason` is its truncation reason, 0 for an abort.
A take that then holds no frame is freed. -/
def State.endTakeAt (s : State) (k reason freeReason : Nat) : State :=
  match s.cel.run with
  | none => s
  | some r =>
    if r.stage = 1 then s.freeTake r freeReason
    else if r.stage = 2 ∧ k < r.t.last then
      let t := { r.t with last := k }
      let t := if reason = 0 then t.mark TFlag.aborted else { (t.mark TFlag.truncated) with trunc := reason }
      let s := s.stickyIf (decide (reason ≠ 0)) Fld.CEL_STATUS_TRUNCATED
      if k < t.first then s.freeTake { r with t } freeReason
      else
        let r := { r with t, aborted := r.aborted || decide (reason = 0), want := k }
        (s.closeAt r).closingMilestone r
    else s

/-- Frame `k` has been closed at tick `t`: the take may have reached S_e. -/
def State.takeSnap (s : State) (k t : Nat) : State :=
  match s.cel.run with
  | some r => if r.stage = 2 ∧ r.t.last = k then s.setStage { r with endSnap := some t } 3 else s
  | none => s

/-- The change list has no free entry (R243). -/
def State.changesFull (s : State) : Bool :=
  match s.cel.run with
  | some r => r.stage ≠ 0 && 256 ≤ r.t.changes.length
  | none => false

/-- The same at S_k0: a snapshot whose entry exists already needs no further one. -/
def State.changesFullAt (s : State) (k0 : Nat) : Bool :=
  match s.cel.run with
  | some r => s.changesFull && !(r.t.changes.any (·.k0 = k0))
  | none => false

abbrev Chg.map : Nat := 1
abbrev Chg.racking : Nat := 2
abbrev Chg.period : Nat := 4
abbrev Chg.mode : Nat := 8
abbrev Chg.depth : Nat := 16
abbrev Chg.thermal : Nat := 32

/-- Changes of some kinds fell due at S_k0 (R243), and their result is in force: an entry, or the end of the take with a full
list. A map change that enlarges a share ends the take too (R245). -/
def State.takeChange (s : State) (k0 kinds : Nat) : State :=
  match s.cel.run with
  | none => s
  | some r =>
    let e := s.changeEntry k0 kinds
    let grows := bitN kinds 0 && decide (r.t.nMax < shareMax s.rol.map s.tol.prof)
    if kinds = 0 ∨ r.stage = 0 then s
    else if r.stage = 3 then
      if k0 ≠ r.t.last then s
      else
        let e := match r.atEnd with | some c => { e with kinds := c.1.kinds ||| kinds } | none => e
        { s with cel.run := some { r with atEnd := some (e, grows || (r.atEnd.any (·.2))) } }
    else
      let same := r.t.changes.any (·.k0 = k0)
      let s :=
        if same then s.setRun { r with t := { r.t with
          changes := r.t.changes.map fun c => if c.k0 = k0 then { e with kinds := c.kinds ||| kinds } else c } }
        else if r.t.changes.length < 256 then s.setRun { r with t := { r.t with changes := r.t.changes ++ [e] } }
        else s.endTakeAt k0 4 Why.none
      if grows then s.endTakeAt k0 2 Why.none else s

/-- A die is withdrawn (R245, R227): its records are lost. -/
def State.takeDieLost (s : State) (n : Nat) : State :=
  let hit := fun (t : Take) => { t with
    frames := t.frames.map fun (f : TakeFrame) => if f.recs.any (·.1 = n) ∧ !f.lost.contains n then { f with lost := n :: f.lost } else f }
  let lost := fun (t : Take) => (hit { t with diesLost := t.diesLost ||| 2 ^ n }).mark TFlag.dieLost
  let s := { s with cel.stored := s.cel.stored.map hit, cel.interrupted := s.cel.interrupted.map fun (r : TakeRun) => { r with t := lost r.t } }
  match s.cel.run with
  | some r =>
    if r.stage = 0 then s
    else { s with cel.run := some { r with t := lost r.t } }
  | none => s

/-- A take is interrupted (R245). One that is not yet armed ends at once. -/
def State.interruptTake (s : State) : State :=
  match s.cel.run with
  | none => s
  | some r =>
    if r.stage = 0 then (State.fail { s with cel.run := none } r.cid St.aborted Why.power)
    else { s.showTake r.t 0 with cel.run := none, cel.interrupted := some r, cel.repowered := false }

/-- The P dies are powered again: the interrupted take is closed (R245) with its complete frame, as the index last written gives
it, for its last. -/
def State.doInterruptedClose (s : State) : State :=
  match s.cel.interrupted with
  | none => s
  | some r =>
    if !s.cel.repowered ∨ !(s.pow.st = .ready ∨ s.pow.st = .stream ∨ s.pow.st = .take) then s
    else
      let s := { s with cel.interrupted := none, cel.repowered := false }
      let empty : Bool := match r.t.complete with | some k => decide (k < r.t.first) | none => true
      if r.stage = 1 ∨ empty then (s.unshowTake r).fail r.cid St.aborted Why.power
      else
        let last := min (r.t.complete.getD 0) r.t.last
        let link := match r.t.frames.find? (·.k = last) with | some f => f.metadata.drop 0x60 | none => []
        let t := { r.t with state := 4, last, linkLast := link, closing := [], frames := r.t.frames.filter (·.k ≤ last) }
        let s := State.sticky { s with cel.stored := s.cel.stored ++ [t] } Fld.CEL_STATUS_TAKE_INTERRUPTED
        (((s.writeIndex t).showTake t 0).ctrInc 4).armDone { r with t } St.aborted Why.power

def execTakeInterruptedClose (s : State) : Host.Outcome State Fault Refusal := run State.doInterruptedClose s

/-! ## Recording (R240 to R242) -/

/-- Size of a die's record of a frame: header and padded data. -/
def recSize (vtl : Bool) (fmt wT : Nat) (rows : List (Nat × List Byte)) : Nat :=
  4096 + ceil4k (if vtl then (vtlUnit fmt wT rows).length else sumN (rows.map fun r => r.2.length))

/-- Where a die's next record goes (R240): after the one it wrote last, or at the start of the extent. -/
def TakeRun.place (r : TakeRun) (n size : Nat) : Nat :=
  let o := r.ends.getD n 0
  if o + size ≤ r.t.bytes then o else 0

/-- Does a frame hold a record that overlaps new ones? -/
def TakeFrame.hitBy (f : TakeFrame) (new : List (Nat × Nat × Nat)) : Bool :=
  f.recs.any fun r => new.any fun q => r.1 = q.1 && r.2.1 < q.2.1 + q.2.2 && q.2.1 < r.2.1 + r.2.2

/-- The frames that remain when new records are written in the ring: nothing up to the newest one overwritten (R242). -/
def ringKeep (new : List (Nat × Nat × Nat)) : List TakeFrame → List TakeFrame
  | [] => []
  | f :: t => let rest := ringKeep new t
    if rest.length < t.length then rest else if f.hitBy new then rest else f :: rest

/-- Committed frame `f` enters the take (R240, R241): `md` its 128 bytes of metadata, `rows` its window rows, `before` the
link before it. -/
def State.takeRecord (s : State) (f : FrameW) (md : List Byte) (rows : List (Nat × List Byte)) (before : List Byte) : State :=
  match s.cel.run with
  | none => s
  | some r =>
    if r.stage = 0 ∨ f.k ≤ r.t.arm ∨ (2 ≤ r.stage ∧ (f.k < r.t.first ∨ r.t.last < f.k)) then s
    else
      let vtl := r.t.has TFlag.vtl
      let ds := (stripeDies f.map).filter fun n => !(s.die n).withdrawn
      let sizes := ds.map fun n => (n, recSize vtl f.prof.fmt f.prof.w (rows.filter fun q => ownsRow (mapAt f.map n) q.1))
      let recs := sizes.map fun (n, z) => (n, r.place n z, z)
      let lost := (stripeDies f.map).filter fun n => (s.die n).withdrawn
      let x : TakeFrame :=
        { k := f.k, metadata := md, fmt := f.prof.fmt, version := f.version, map := f.map, rows, milestone := none
          lost, recs := recs ++ lost.map fun n => (n, 0, 0) }
      let old := if r.stage = 1 then ringKeep recs r.t.frames else r.t.frames
      let t := { r.t with frames := old ++ [x], linkBefore := if f.k = r.t.first then before else r.t.linkBefore
                          linkLast := md.drop 0x60 }
      let r := { r with t, ends := recs.foldl (fun e q => e.set q.1 (q.2.1 + q.2.2)) r.ends }
      let s := if (f.k - r.t.arm) % 256 = 0 then s.rewrite r else s.setRun r
      -- a record before the trigger frame has its size now: what it leaves free of W lets the take go on (R242)
      match s.cel.run with
      | some r => if 2 ≤ r.stage ∧ f.k < t.trig ∧ t.has TFlag.vtl ∧ t.trunc = 0 ∧ r.t.last < r.want ∧ !r.aborted then
          s.extendTake r r.want else s
      | none => s

/-- A milestone is signed (R403): published on channel 6, and stored in the take that holds its frame. -/
def State.doMilestone (s : State) : State :=
  match s.sec.signed with
  | none => s
  | some m =>
    let s := State.formRec { s with sec.signed := none } 6 (plainRec 3 m.frame m.record)
    match s.cel.run with
    | some r =>
      let put := fun (f : TakeFrame) => if f.k = m.frame then { f with milestone := some m.record } else f
      { s with cel.run := some { r with t := { r.t with frames := r.t.frames.map put } } }
    | none => s

def execMilestoneSigned (s : State) : Host.Outcome State Fault Refusal := run State.doMilestone s

/-- The take is finalised (R244). -/
def State.doFinalise (s : State) : State :=
  match s.cel.run with
  | none => s
  | some r =>
    match r.t.frames.find? (·.k = r.t.last) with
    | some f =>
      match f.milestone with
      | some ms =>
        if r.stage = 3 ∧ r.finalMembers then
          let kept := r.t.frames.filter fun f => r.t.first ≤ f.k ∧ f.k ≤ r.t.last
          let t := { r.t with state := 3, closing := ms, linkLast := f.metadata.drop 0x60, complete := lastComplete kept, frames := kept }
          let s := State.writeIndex { s with cel.run := none, cel.stored := s.cel.stored ++ [t] } t
          let s := (((s.showTake t 0).sticky Fld.CEL_STATUS_TAKE_END).leaveTake).ctrInc 4
          let r := { r with t }
          if r.aborted then s.armDone r St.aborted Why.hostAbort
          else s.armDone r (if r.reduced then St.admitReduced else St.ok) Why.none
        else s
      | none => s
    | none => s

def execTakeFinalise (s : State) : Host.Outcome State Fault Refusal := run State.doFinalise s

/-! ## ABORT_TAKE (R246) -/

def State.doAbortTake (s : State) (h : Hdr) : State :=
  s.acceptCmd h Op.abortTake 64 (fun _ => none) fun s cid =>
    match s.cel.run with
    | none => s.complete cid St.ok Why.none (some allOnes) none
    | some r =>
      if r.stage = 0 then s.complete cid St.ok Why.none (some allOnes) none
      else if r.stage = 1 then (s.freeTake r Why.hostAbort).complete cid St.ok Why.none (some allOnes) none
      else if r.stage = 2 ∧ !s.pastFrame r.t.last then
        let s := s.endTakeAt (if s.pastFrame s.tmg.frame then s.tmg.frame else s.newest) 0 Why.none
        let last := match s.cel.run with | some r => r.t.last | none => allOnes
        s.complete cid St.ok Why.none (some last) none
      else s.complete cid St.abortLate Why.none (some r.t.last) none

def execAbortTake (h : Hdr) (s : State) : Host.Outcome State Fault Refusal :=
  runIf "ABORT_TAKE" (Instr.wf (.abortTake h)) (fun s => s.doAbortTake h) s

/-! ## Replay (R247 to R249) -/

def State.takeOf (s : State) (id : Nat) : Option Take := s.cel.stored.find? (·.id = id)

/-- The first parameter of REPLAY_TAKE at fault. -/
def State.replayBad (s : State) (die take mode first count : Nat) : Option Nat :=
  if !s.present die then some 0x10
  else if 1 < mode then some 0x12
  else match s.takeOf take with
    | none => some 0x11
    | some t =>
      if first < t.first ∨ t.last < first then some 0x18
      else if t.last + 1 < first + count then some 0x20
      else none

def State.doReplayTake (s : State) (h : Hdr) (die take mode first count interval : Nat) : State :=
  s.acceptCmd h Op.replayTake 1 (fun s => s.replayBad die take mode first count) fun s cid =>
    if s.cel.replay.isSome then s.fail cid St.busy Why.none
    else s.setJob cid (.replay die take mode first count interval)

def execReplayTake (h : Hdr) (die take mode first count interval : Nat) (s : State) : Host.Outcome State Fault Refusal :=
  runIf "REPLAY_TAKE" (Instr.wf (.replayTake h die take mode first count interval))
    (fun s => s.doReplayTake h die take mode first count interval) s

/-- The replay starts on its die. No slice of the hub runs on beside it (R410). -/
def State.startReplay (s : State) (cid die take mode first count interval : Nat) : State :=
  match s.takeOf take with
  | none => s.fail cid St.badParam 0x11
  | some t =>
    let r : Replay :=
        { cid, die, take, decoded := mode = 1, next := first, last := if count = 0 then t.last else first + count - 1,
          interval, lastStart := none, mile := false, missing := false, queued := 0 }
    State.wantHub { s with cel.replay := some r }

/-- A record of channel 4 that is being written, or waits for it, is the last one of its replay (R278). -/
def State.lastRec (s : State) (typ k : Nat) : State :=
  let c := s.chan 4
  let mark := fun (q : Rec) => if q.typ = typ ∧ q.frame = k then { q with last := true } else q
  s.setChan 4 { c with xfer := c.xfer.map fun (x : Transfer) => { x with record := mark x.record }, queue := c.queue.map mark }

/-- The replay ends; its completion follows its last record (R272), which LAST names (R278). -/
def State.endReplay (s : State) (r : Replay) (status reason : Nat) : State :=
  -- the record of frame `next` is out where its milestone would come now
  let r := if r.mile then { r with next := r.next + 1 } else r
  let typ := if (s.chan 4).holds 3 (r.next - 1) then 3 else 0
  let s := if r.queued = 0 then s else s.lastRec typ (r.next - 1)
  State.completeAfter { s with cel.replay := none } 4 typ (r.next - 1) r.cid status reason (some r.queued)

/-- Rows of a frame that are missing on replay (R249): those whose die's record is lost. -/
def TakeFrame.missing (f : TakeFrame) : List Nat :=
  (f.rows.filter fun r => match ownerOf f.map r.1 with | some n => f.lost.contains n | none => true).map (·.1)

/-- The words of a missing row. -/
def blankRow (fmt len : Nat) : List Byte :=
  if fmt = Fmt.radf32 then (List.range (len / 4)).flatMap fun _ => leBytes 4 0x7FC00000 else List.replicate len 0

/-- The record of a replayed frame (R248, R278). -/
def Take.replayRec (t : Take) (f : TakeFrame) (decoded last : Bool) : Rec :=
  let miss := f.missing
  let rows := f.rows.map fun r => if miss.contains r.1 then (r.1, blankRow f.fmt r.2.length) else r
  let data :=
    if t.has TFlag.vtl && !decoded then
      let ns := (stripeDies f.map).mergeSort fun a b => decide ((mapAt f.map a).first ≤ (mapAt f.map b).first)
      ns.flatMap fun n =>
        let own := rows.filter fun r => ownsRow (mapAt f.map n) r.1
        if own.isEmpty && f.lost.contains n then [] else vtlUnit f.fmt (t.win.getD 2 0) own
    else rows.flatMap (·.2)
  { typ := 0, frame := f.k, subtype := f.fmt, len := 128 + data.length, payload := padTo 128 f.metadata ++ data, last
    missing := !miss.isEmpty, detail := sumN (miss.map (2 ^ ·)) }

/-- Channel 4 takes a record when it can: the replay waits, and only a disabled channel discards it (R280, R283). The flag says that the record was taken or discarded. -/
def State.issue4 (s : State) (r : Rec) : State × Bool :=
  let c := s.chan 4
  if !s.chanOn 4 then (s.dropRec 4 r, true)
  else if c.xfer.isNone && !c.halted && c.queue.isEmpty && s.busOk && 0 < s.scmpFree 4 && (bufsFor c.bufs r.len).isSome && s.mayTake 4 1 then
    ((s.take 4 1).startXfer 4 r 1, true)
  else (s, false)

/-- The milestone that follows a replayed frame: the one its record holds, or the closing one after the last frame of a closed
take. -/
def Take.mileOf (t : Take) (f : TakeFrame) : Option (List Byte) :=
  if f.k = t.last ∧ t.state = 3 then some t.closing else f.milestone

/-- The replay goes on past frame `next`, or ends. -/
def State.replayNext (s : State) (r : Replay) : State :=
  let r := { r with next := r.next + 1, mile := false }
  if r.last < r.next then s.endReplay r St.ok Why.none else { s with cel.replay := some r }

/-- The replay's next record is queued on channel 4 (R248). -/
def State.doReplayRecord (s : State) : State :=
  match s.cel.replay with
  | none => s
  | some r =>
    match s.takeOf r.take with
    | none => s
    | some t =>
      match t.frames.find? (·.k = r.next) with
      | none => s
      | some f =>
        if r.mile then
          match t.mileOf f with
          | some m =>
            let q := { plainRec 3 f.k m with last := decide (r.next = r.last) }
            let (s, ok) := s.issue4 q
            if ok then s.replayNext r else s
          | none => s.replayNext r
        else if r.lastStart.any fun t0 => s.mono < t0 + r.interval then s
        else
          let ms := (t.mileOf f).isSome
          let q := t.replayRec f r.decoded (!ms && decide (r.next = r.last))
          let (s, ok) := s.issue4 q
          if !ok then s
          else
            let s := s.setPair Reg.CEL_REPLAY_FRAME_LO f.k
            let s := if q.missing ∧ f.lost.any (fun n => !(s.die n).withdrawn) then
                { s.eccIndex t.id (fun _ => true) with
                  cel.stored := s.cel.stored.map fun (x : Take) => if x.id = t.id then x.mark TFlag.eccLoss else x }
              else s
            let r := { r with queued := r.queued + 1, missing := r.missing || q.missing, lastStart := some s.mono }
            if ms then { s with cel.replay := some { r with mile := true } } else s.replayNext r

def execReplayRecordQueue (s : State) : Host.Outcome State Fault Refusal := run State.doReplayRecord s

/-- ABORT_TAKE with target 1 (R246): the replay stops after the record in progress. -/
def State.doAbortReplay (s : State) (h : Hdr) : State :=
  s.acceptCmd h Op.abortTake 64 (fun _ => none) fun s cid =>
    match s.cel.replay with
    | some r =>
      let s := s.endReplay r St.aborted Why.hostAbort
      s.complete cid St.ok Why.none (some allOnes) none
    | none =>
      let late := (s.hif.after.any fun a => a.ch = 4) || decide (s.cel.replayEnd = some s.mono)
      s.complete cid (if late then St.abortLate else St.ok) Why.none (some allOnes) none

def execAbortReplay (h : Hdr) (s : State) : Host.Outcome State Fault Refusal :=
  runIf "ABORT_REPLAY" (Instr.wf (.abortReplay h)) (fun s => s.doAbortReplay h) s

/-- A replay whose die is lost, or whose power goes (R268). -/
def State.breakReplay (s : State) (reason : Nat) : State :=
  match s.cel.replay with
  | some r => s.endReplay r St.aborted reason
  | none => s

/-- Live fields of the CEL_ registers (R253). -/
def State.liveCel (s : State) (off : Nat) : Word :=
  if off = Reg.CEL_STATUS then
    BitVec.ofNat 32 (b2n s.cel.trained + 2 * b2n (s.pow.st = .take) + 4 * b2n s.cel.replay.isSome)
  else if off = Reg.CEL_TAKE_FREE then BitVec.ofNat 32 (sat32 s.takeFree)
  else if off = Reg.CEL_DIR then BitVec.ofNat 32 (sumN (s.heldTakes.map fun t => 2 ^ t.id))
  else if off = Reg.CEL_REPLAY_STATUS then
    match s.cel.replay with
    | some r => BitVec.ofNat 32 (1 + 2 * r.die + 2 ^ 4 * r.take + 2 ^ 8 * b2n r.missing)
    | none => 0
  else 0

end Sys2Proof.Machine
end

