-- ==== Sys2Proof/Machine/Roles.lean ====
section
/-! DEFINITION. Processing dies and stripe maps (chapter 8): preparation, map changes, hand-over, misdelivered items,
withdrawal and failover, spare rotation, and the checks of cask replicas (R25), with the meanings of their commands and
events that need nothing of a running frame. -/

namespace Sys2Proof.Machine

open Sys2Proof

/-! ## Power and preparation of dies (R25, R211, R232) -/

def State.modDie (s : State) (n : Nat) (g : Die → Die) : State := s.setDie n (g (s.die n))

def State.roleOf (s : State) (n : Nat) : Role := (mapAt s.rol.map n).role

def State.modCask (s : State) (c : Nat) (g : Cask → Cask) : State :=
  if c = 0 then { s with casks.a := g s.casks.a } else { s with casks.b := g s.casks.b }

/-- A die loses its power; its Cellar keeps the casks in self-refresh (R25). -/
def State.gateDie (s : State) (n : Nat) : State :=
  s.modDie n fun d => { d with
    powered := false, ready := false, preparing := false, renewed := false, draining := none, blindSeeded := false, nextRole := none
    previewAct := false, commitAct := false }

/-- A slice of a run that a role change or a withdrawal ends before it could run: its result is ABORTED (R407, R416). It has no
signature of its own: the MISR that is reported is a free value (log 6). -/
def State.skipSlice (s : State) (r : BistRun) (t : Nat × Nat) : State :=
  let x : SliceRun := { id := ⟨r.die, t.1, t.2⟩, start := s.mono, aborts := 0, again := false, owner := r.kind, cid := r.cid }
  let misr := s.freeVal % 2 ^ 64
  let ref := ((s.sliceRef x.id).map (·.2)).getD 0
  ((s.drew.reportSlice x.id Slice.aborted misr ref).enterOnly x Slice.aborted misr ref).sticky Fld.BST_STATUS_ABORT_SEEN

/-- The runs of a die end without being completed (R412): the slice in progress is reported ABORTED, and so is every slice that a
BIST_RUN names and that is still to come (R415, R416). -/
def State.abandonRuns (s : State) (n : Nat) : State :=
  let xs := s.bst.running.filter fun x => x.id.die = n
  -- one that waits for its retry stays ABORTED (R407, R420)
  let left := s.bst.retry.any fun x => x.id.die = n && decide (0 < x.aborts)
  let s := s.stickyIf left Fld.BST_STATUS_ABORT_SEEN
  let s := xs.foldl (fun (s : State) x =>
      let misr := s.freeVal % 2 ^ 64
      let ref := ((s.sliceRef x.id).map (·.2)).getD 0
      let s := (s.drew.releaseUnit x.id).reportSlice x.id Slice.aborted misr ref
      (s.enterOnly x Slice.aborted misr ref).sticky Fld.BST_STATUS_ABORT_SEEN)
    { s with bst.running := s.bst.running.filter fun x => x.id.die ≠ n
             bst.retry := s.bst.retry.filter fun x => x.id.die ≠ n }
  let s := (s.bst.runs.filter fun r => r.die = n ∧ r.kind = Owner.bistRun).foldl (fun s r =>
      r.todo.foldl (fun s t => s.skipSlice r t) s) s
  (s.bst.runs.filter fun r => r.die = n).foldl (fun s r => s.endRun r) s

/-- A die is powered: it checks its cask replicas anew (R25). -/
def State.powerDie (s : State) (n : Nat) : State :=
  let s := s.modDie n fun d => { d with powered := true, ready := false }
  let fresh := fun (c : Cask) => { c with checked := modAt c.checked n fun _ => false }
  let s := (s.modCask 0 fresh).modCask 1 fresh
  { s with cel.repowered := s.cel.repowered || s.cel.interrupted.isSome }

/-- A die in BIST is initialised anew: what it runs is abandoned (R211). -/
def State.renewDie (s : State) (n : Nat) : State :=
  (s.abandonRuns n).modDie n fun d => { d with ready := false, preparing := true, renewed := false }

/-- Preparation of a die for a role begins (R211): it is powered, or a die that leaves BIST is initialised anew. -/
def State.prepareDie (s : State) (n : Nat) (role : Role) : State :=
  let d := s.die n
  if role = .off ∨ d.preparing then s
  else if !d.powered then
    (s.powerDie n).modDie n fun d => { d with preparing := true }
  else if s.roleOf n = .bist ∧ (role = .stripe ∨ role = .spare) ∧ !d.renewed then s.renewDie n
  else s

/-- Every die that counts has trained at least once since cold reset (R232): the Cellar's capacity is the smallest that any present
die has shown. -/
def State.trainedNow (s : State) : State :=
  if s.cel.trained || s.counted.isEmpty || !(s.counted.all fun n => (s.die n).trained) then s
  else
    let gb := (((s.rol.dies.filter fun d => d.present && d.trained)).map (·.sizeGb)).foldl min 64
    let s := { s with cel.trained := true }
    (s.setFld Fld.CEL_SIZE_SIZE_GB gb).setFld Fld.CEL_SIZE_TAKE_DATA_MIB (takeDataMib gb)

/-- Has a die checked every cask replica that there is since it was powered (R25)? -/
def State.replicasChecked (s : State) (n : Nat) : Bool :=
  [0, 1].all fun c => (s.cask c).img.isNone || (s.cask c).checked.getD n false

def State.doDiePrepared (s : State) (n sizeGb : Nat) : State :=
  let d := s.die n
  if d.preparing && d.powered && !d.withdrawn && s.replicasChecked n then
    State.trainedNow (s.setDie n { d with
      preparing := false, ready := true
      renewed := s.roleOf n = .bist && !(s.bst.running.any fun x => x.id.die = n)
      sizeGb := if d.trained then d.sizeGb else sizeGb, trained := true })
  else s

def execDiePrepared (die sizeGb : Nat) (s : State) : Host.Outcome State Fault Refusal :=
  runIf "DIE_PREPARED" (Instr.wf (.diePrepared die sizeGb)) (fun s => s.doDiePrepared die sizeGb) s

/-! ## Cask replicas (R25, R150, R151) -/

/-- A pending racking ends when its cask is no longer valid (R151). -/
def State.rackCheck (s : State) : State :=
  match s.casks.rack with
  | some (c, _, cid) =>
    if s.caskOk c then s
    else
      let s := { s with casks.rack := none }
      match cid with
      | some cid => s.fail cid St.aborted Why.invalidated
      | none => s
  | none => s

/-- A SAVE_CASK ends when its cask is no longer valid (R155). -/
def State.saveCheck (s : State) : State :=
  match s.casks.save with
  | some x => if s.caskOk x.cask then s else State.fail { s with casks.save := none } x.cid St.aborted Why.invalidated
  | none => s

/-- What waits for a cask that has lost its validity ends. -/
def State.validCheck (s : State) : State := s.rackCheck.saveCheck

/-- Has the cask failed its latest check on every die that counts (R150)? -/
def State.caskLost (s : State) (c : Nat) : Bool := s.counted.all fun m => (s.cask c).replicas.getD m none = some false

/-- One replica's check has a result. -/
def State.replicaResult (s : State) (n c : Nat) (ok : Bool) : State :=
  if (s.cask c).img.isNone then s
  else
    let s := s.modCask c fun k => { k with
      replicas := modAt k.replicas n fun _ => some ok, checked := modAt k.checked n fun _ => true }
    s.stickyIf (s.caskLost c) Fld.CAL_STATUS_CASK_LOST

def State.doReplicaCheck (s : State) (n : Nat) (okA okB : Bool) : State :=
  let d := s.die n
  if d.powered && !d.withdrawn && !s.replicasChecked n then
    ((s.replicaResult n 0 okA).replicaResult n 1 okB).validCheck
  else s

def execReplicaCheckDone (die : Nat) (okA okB : Bool) (s : State) : Host.Outcome State Fault Refusal :=
  runIf "REPLICA_CHECK_DONE" (Instr.wf (.replicaCheckDone die okA okB)) (fun s => s.doReplicaCheck die okA okB) s

/-- Can die `m` serve as a source for cask `c` (R25)? -/
def State.replicaSource (s : State) (c m : Nat) : Bool :=
  (s.die m).powered && !(s.die m).withdrawn && (s.cask c).checked.getD m false && (s.cask c).replicas.getD m none = some true

def State.doReplicaRestore (s : State) (n c : Nat) : State :=
  let d := s.die n
  if d.powered && !d.withdrawn && (s.cask c).replicas.getD n none = some false && s.counted.any (s.replicaSource c) then
    (s.modCask c fun k => { k with replicas := modAt k.replicas n fun _ => some true }).sticky
      Fld.CAL_STATUS_REPLICA_RESTORED
  else s

def execReplicaRestore (die cask : Nat) (s : State) : Host.Outcome State Fault Refusal :=
  runIf "REPLICA_RESTORE" (Instr.wf (.replicaRestore die cask)) (fun s => s.doReplicaRestore die cask) s

/-! ## Maps and versions (R212, R213) -/

def nextVersion (v : Nat) : Nat := if v = 0xFFFF then 1 else v + 1

/-- The map of a version that is in force or still named. -/
def State.mapOfVersion (s : State) (v : Nat) : Option (List MapEnt) :=
  if v = s.rol.version then some s.rol.map else (s.rol.maps.find? (·.1 = v)).map (·.2)

/-- Dies that a map change makes enter STRIPE or SPARE (R216). -/
def enterDies (old new : List MapEnt) : List Nat :=
  (List.range 5).filter fun n =>
    let r := (mapAt new n).role
    (r = .stripe || r = .spare) && (mapAt old n).role ≠ r

/-- The dies that must be ready before a change falls due: those that take up a powered role (R211, R216); for the maps of the
power states every die with one, since it may have been gated (R214). -/
def State.needDies (s : State) (c : MapChange) : List Nat :=
  (List.range 5).filter fun n =>
    let r := (mapAt c.map n).role
    r ≠ .off && (c.cause = 5 || c.cause = 6 || (mapAt s.rol.map n).role ≠ r)

/-- Does a replay run on a die that a map would take out of REPLAY (R211, R217)? -/
def State.replayHolds (s : State) (m : List MapEnt) : Bool :=
  match s.cel.replay with
  | some r => decide (s.roleOf r.die ≠ (mapAt m r.die).role)
  | none => false

/-- Does a map put a die into BIST? -/
def State.entersBist (s : State) (m : List MapEnt) : Bool :=
  (List.range 5).any fun n => (mapAt m n).role = .bist && s.roleOf n ≠ .bist

/-- May the pending change fall due at snapshot `k`, at elapsed tick `et` (R211, R216)? DEDUCED (log 117): one that puts a die of a
BM4030-2 or BM4030-3 into BIST waits for the end of a stream (R229). -/
def State.mapDue (s : State) (k et : Nat) : Bool :=
  match s.rol.pend with
  | some c =>
    -- a rotation waits while the change list is full (R243)
    c.frame ≤ k && c.accept < et && !(s.variant ≠ .bm5 && s.inStream && s.entersBist c.map) &&
      !((c.cause = 2 || c.cause = 3) && s.changesFullAt k) && (s.needDies c).all (fun n => (s.die n).ready) && !s.replayHolds c.map &&
      s.rol.dies.all fun d => d.draining.isNone
  | none => false

/-- A map change is pending from now on; the dies that it makes change role are prepared. -/
def State.pendMap (s : State) (c : MapChange) : State :=
  let s := { s with rol.pend := some c }
  (List.range 5).foldl (fun s n =>
      let r := (mapAt c.map n).role
      if r ≠ (mapAt s.rol.map n).role then s.prepareDie n r else s) s

/-- Rotations whose die is not in BIST, and not about to enter it, are over (R230). -/
def State.rotTidy (s : State) : State :=
  let coming := fun (n : Nat) => match s.rol.pend with
    | some c => c.cause = 2 && (mapAt c.map n).role = .bist
    | none => false
  { s with rol.rotDies := s.rol.rotDies.filter fun n => s.roleOf n = .bist || coming n }

/-- A pending change is dropped: dies powered for it go back; one that is being initialised anew becomes ready when that is done. -/
def State.dropPend (s : State) : State :=
  let s := State.rotTidy { s with rol.pend := none }
  (List.range 5).foldl (fun s n =>
      let d := s.die n
      if s.roleOf n = .off ∧ d.powered ∧ d.draining.isNone then s.gateDie n else s) s

/-- A pending ROLE_SET ends with ABORTED; a change that the device made itself is dropped. -/
def State.abortPend (s : State) (reason : Nat) : State :=
  match s.rol.pend with
  | some c =>
    let s := s.dropPend
    match c.cid with
    | some cid => s.fail cid St.aborted reason
    | none => s
  | none => s

/-! ## A die takes up its role -/

/-- A rotation's run starts (R412). -/
def State.startRotRun (s : State) (n : Nat) : State :=
  if s.rol.rotDies.contains n && s.flag Fld.BST_CFG_ROT_RUN_EN then
    let r : BistRun := { die := n, unit := 0xFF, todo := runSlices n, cid := none, kind := Owner.rotation, start := s.mono
                         requested := 0, pass := 0, fail := 0, incomplete := 0, aborted := 0, noRef := 0, firstBad := none }
    State.advanceRun { s with bst.runs := s.bst.runs ++ [r] } n Owner.rotation none
  else s

/-- A die that drains nothing takes up the role that the map in force gives it (R211, R223). -/
def State.takeRole (s : State) (n : Nat) : State :=
  match s.roleOf n with
  | .off => if (s.die n).powered then s.gateDie n else s
  | .bist => s.startRotRun n
  | _ => s

/-- Rows that change owner between two maps (R222). -/
def movedRows (old new : List MapEnt) : List Nat :=
  (List.range 48).filter fun r => ownerOf old r ≠ ownerOf new r

/-- Frames in flight up to `k0`. -/
def State.inFlight (s : State) (k0 : Nat) : Bool := s.frames.any fun f => f.closed && f.k ≤ k0 && !f.comDone

/-- Bytes of the state and history parts of moved rows (R224), and the units of ROL_HANDOVER_STAT. How a part of a unit
counts, and the link time, are not stated (log 39). -/
def State.handoverStat (s : State) (rows groups : Nat) : State :=
  let p := s.tol.prof
  let bytes := rows * (20480 * p.w + 16384 * p.w * p.l) + 16480 * groups
  let size := min 0xFFFF (bytes / 65536 + s.freeVal % 2)
  let s := s.drew
  (s.drew.setFld Fld.ROL_HANDOVER_STAT_SIZE size).setFld Fld.ROL_HANDOVER_STAT_BUSY_US (s.freeVal % 65536)

/-- A map change falls due at S_k0 (R211, R213, R222 to R226). `reseed`: how moved rows are handed over; `seeded`: the array
is seeded at the same snapshot (R225). It answers the rows that are seeded at frame k0 + 1. -/
def State.applyMap (s : State) (k0 : Nat) (new : List MapEnt) (reseed seeded : Bool) : State × List Nat :=
  let old := s.rol.map
  let oldV := s.rol.version
  let live := s.frames.map (·.version)
  let flight := s.inFlight k0
  let moved := movedRows old new
  let stale := fun (r : Nat) => match ownerOf old r with
    | some n => (s.die n).withdrawn || !(s.die n).powered
    | none => true
  let seedRows := if !s.inStream then [] else moved.filter fun r => reseed || stale r
  let handed := if seeded || reseed || !s.inStream then [] else moved.filter fun r => !stale r
  let s := { s with
    rol.map := new, rol.version := nextVersion oldV, rol.changeFrame := k0
    rol.maps := ((oldV, old) :: s.rol.maps).filter fun e => live.contains e.1 || e.1 = oldV
    rol.moves := (s.rol.moves.filter fun (m : Move) => !(m.stateDone && m.historyDone)) ++ handed.map fun r =>
      ({ row := r, src := (ownerOf old r).getD 0, dst := (ownerOf new r).getD 0, k0 := k0, stateDone := false
         historyDone := false, backfed := [] } : Move) }
  let s := s.setPair Reg.ROL_CHANGE_FRAME_LO k0
  -- ref_c comes from any die that holds it, with the restoration state or before the first item (R91); DEDUCED (log 115): a die
  -- that becomes SPARE takes it too, as it stands at this snapshot
  let held := s.rol.dies.any (·.blindSeeded)
  let s := (List.range 5).foldl (fun (s : State) n =>
      let a := mapAt old n
      let b := mapAt new n
      let s := if held && (b.role = .stripe || b.role = .spare) && !(handed.any fun r => ownerOf new r = some n) then
          s.modDie n fun d => { d with blindSeeded := true } else s
      -- a die runs slices in its role only (R407, R411)
      let s := if a.role = .spare ∧ b.role ≠ .spare then s.abortSlices fun x => x.id.die = n ∧ x.owner = Owner.spare else s
      let s := if a.role = .bist ∧ b.role ≠ .bist then s.abandonRuns n else s
      if a = b ∨ (s.die n).withdrawn then s
      else if flight ∧ moved.any (fun r => ownerOf old r = some n) then
        s.modDie n fun d => { d with draining := some oldV, drainTo := k0, nextRole := some b.role }
      else if (s.die n).draining.isSome then s.modDie n fun d => { d with nextRole := some b.role }
      else s.takeRole n) s
  (s.rotTidy, seedRows)

/-- The hand-overs of S_k take the depth of the frame that opens (R224): with none, no history moves. -/
def State.handoverAt (s : State) (k : Nat) : State :=
  let ms := s.rol.moves.filter fun m => m.k0 = k
  if ms.isEmpty then s
  else
    State.handoverStat { s with
        rol.moves := s.rol.moves.map fun m => if m.k0 = k then { m with historyDone := s.tol.prof.l = 0 } else m }
      ms.length (((ms.map (·.src)).eraseDups).length)

/-- The end of a drain (R223): committed frame k0 of its change is complete. -/
def State.doDrainEnd (s : State) (n : Nat) : State :=
  let d := s.die n
  if d.draining.isSome && !s.inFlight d.drainTo then
    let s : State := s.setDie n { d with draining := none, nextRole := none }
    let s := { s with rol.moves := s.rol.moves.filter fun m => m.src ≠ n ∨ !(m.stateDone && m.historyDone) }
    if s.roleOf n = .stripe then s else s.takeRole n
  else s

def execDrainEnd (die : Nat) (s : State) : Host.Outcome State Fault Refusal :=
  runIf "DRAIN_END" (Instr.wf (.drainEnd die)) (fun s => s.doDrainEnd die) s

/-! ## ROLE_SET (R216, R217) -/

def roleOfCode : Nat → Option Role
  | 0 => some .off
  | 1 => some .stripe
  | 2 => some .spare
  | 3 => some .replay
  | 4 => some .bist
  | _ => none

def roleCode : Role → Nat
  | .off => 0
  | .stripe => 1
  | .spare => 2
  | .replay => 3
  | .bist => 4

/-- The map that is asked for; only a stripe die has a range (R212). -/
def reqMap (m : List MapReq) : List MapEnt :=
  m.map fun e => { role := (roleOfCode e.role).getD .off, first := if e.role = 1 then e.first else 0, count := e.count }

/-- The first field of a requested entry at fault (R212, R217). -/
def State.entryBad (s : State) (n : Nat) (e : MapReq) : Option Nat :=
  let o := 0x20 + 4 * n
  if 4 < e.role then some o
  else if e.role ≠ 0 ∧ (!s.present n ∨ (s.die n).withdrawn) then some o
  else if e.role = 4 ∧ s.roleOf n ≠ .bist ∧ s.inStream ∧ s.variant ≠ .bm5 then some o
  else if e.role = 1 ∧ 47 < e.first then some (o + 1)
  else if e.role ≠ 1 ∧ e.count ≠ 0 then some (o + 2)
  else if e.role = 1 ∧ 48 < e.first + e.count then some (o + 2)
  else none

/-- The parameters of a ROLE_SET at its acceptance (R212, R217). DESIGN CHOICE (log 116): the period is judged against the map's P_min and
R65 here only, not again at S_k0 where a SET_PROFILE has come into force in between. -/
def State.roleSetBad (s : State) (handover frame : Nat) (map : List MapReq) : Option Nat :=
  let m := reqMap map
  if 2 < handover then some 0x12
  else if 0 < frame ∧ s.pastFrame frame then some 0x18
  else match (map.zipIdx).findSome? fun (e, n) => s.entryBad n e with
    | some o => some o
    | none =>
      if !s.mapValid m then some Why.noField
      else if s.tol.prof.period < pMin m s.tol.prof 0 ∨ s.refPeriodBad s.tol.prof.period (pMin m s.tol.prof 0) then
        some Why.noField
      else none

/-- A map without what no rule compares: entries that hold no rows. -/
def sameMap (a b : List MapEnt) : Bool := a = b

/-- ROLE_SET (R214 to R217, R243). DESIGN CHOICE (log 116): where several rows of R217's table apply, BAD_PARAM comes first, then
MISDELIVERED, then BUSY, then OK at once for an identical map. -/
def State.doRoleSet (s : State) (h : Hdr) (expect handover frame : Nat) (map : List MapReq) : State :=
  s.acceptCmd h Op.roleSet 1 (fun s => s.roleSetBad handover frame map) fun s cid =>
    let m := reqMap map
    let block := fun v => some (leBytes 2 v)
    if expect ≠ s.rol.version then s.complete cid St.misdelivered Why.none (some s.rol.version) (block s.rol.version)
    else if s.rol.pend.isSome ∨ s.casks.cal.isSome ∨ s.pow.st = .recall ∨ s.pow.st = .standby ∨ s.pow.st = .keepWarm ∨
        s.replayHolds m ∨ s.changesFull then s.fail cid St.busy Why.none
    else if sameMap m s.rol.map then s.complete cid St.ok Why.none (some s.newest) (block s.rol.version)
    else
      let reseed := if handover = 0 then s.fld Fld.ROL_CFG_HANDOVER = 1 else handover = 2
      s.pendMap { map := m, frame, reseed, cid := some cid, cause := 0, accept := s.mono }

def execRoleSet (h : Hdr) (expect handover frame : Nat) (map : List MapReq) (s : State) :
    Host.Outcome State Fault Refusal :=
  runIf "ROLE_SET" (Instr.wf (.roleSet h expect handover frame map)) (fun s => s.doRoleSet h expect handover frame map) s

/-- 100 ms after acceptance a named die is still not ready (R217). -/
def State.doReadyTimeout (s : State) : State :=
  match s.rol.pend with
  | some c =>
    if c.cause = 0 ∧ c.accept + 25000000 ≤ s.mono ∧ !((enterDies s.rol.map c.map).all fun n => (s.die n).ready) then
      s.abortPend Why.none
    else s
  | none => s

def execRoleSetReadyTimeout (s : State) : Host.Outcome State Fault Refusal := run State.doReadyTimeout s

/-! ## Missing tiles and misdelivered items (R220) -/

/-- A tile row is missing in every pass of a frame that is not complete. -/
def FrameW.lose (f : FrameW) (row : Nat) : FrameW :=
  let add := fun (l : List Nat) => if l.contains row then l else l ++ [row]
  { f with
    openRows := f.openRows.filter (· ≠ row)
    missPrev := if f.prevDone then f.missPrev else add f.missPrev
    missCom := if f.comDone then f.missCom else add f.missCom }

/-- A frame with a tile row marked TILE_MISSING is counted (R231). -/
def State.putMissing (s : State) (f : FrameW) : State :=
  ((s.setFrame f).bump Reg.ROL_MISSING_COUNT).sticky Fld.ROL_STATUS_MISSING_SEEN

/-- A tile row of frame `k` is TILE_MISSING on every pass that is not complete; one that is so already is not counted again. -/
def State.markMissing (s : State) (k row : Nat) : State :=
  match s.frameOf k with
  | none => s
  | some f =>
    let g := f.lose row
    if g.missPrev = f.missPrev ∧ g.missCom = f.missCom then s.setFrame g else s.putMissing g

/-- Is the work of version `v` unfinished: it is in force, or a frame under it has not completed its committed pass (R220, R223,
R226)? -/
def State.versionLive (s : State) (v : Nat) : Bool :=
  v = s.rol.version || s.frames.any fun f => f.version = v && f.closed && !f.comDone

/-- Does die `d` accept an item of row `r` and version `v` (R220)? -/
def State.accepts (s : State) (d r v : Nat) : Bool :=
  let x := s.die d
  match s.mapOfVersion v with
  | some m => ownerOf m r = some d && x.powered && !x.withdrawn && s.versionLive v
  | none => false

/-- The dispatcher deals with a returned item. -/
def State.dispatch (s : State) (sender : Nat) (kind : Nat) (i : ItemHdr) : State :=
  let d := (s.mapOfVersion i.version).bind fun m => ownerOf m i.row
  let fwd := match d with
    | some d => d ≠ sender && (s.die d).ready && s.accepts d i.row i.version
    | none => false
  if fwd then (s.emit (.item (d.getD 0) kind i)).bump Reg.ROL_FWD_COUNT
  else match (s.frameOf i.frame).filter fun f => !f.comDone with
    | some f => s.putMissing (f.lose i.row)
    | none => s.bump Reg.ROL_STALE_COUNT

def State.doItemReturn (s : State) (sender : Nat) (i : ItemHdr) : State :=
  match s.rol.returned.find? fun e => e.1 = sender ∧ e.2.2 = i with
  | some e => State.dispatch { s with rol.returned := s.rol.returned.erase e } sender e.2.1 i
  | none => s

def execMisdeliveredItemReturn (sender : Nat) (i : ItemHdr) (s : State) : Host.Outcome State Fault Refusal :=
  runIf "MISDELIVERED_ITEM_RETURN" (Instr.wf (.misdeliveredItemReturn sender i)) (fun s => s.doItemReturn sender i) s

/-- A die returns an item (R220). -/
def State.returnItem (s : State) (sender kind : Nat) (i : ItemHdr) : State :=
  State.sticky { s with rol.returned := s.rol.returned ++ [(sender, kind, i)] } Fld.ROL_STATUS_MISDELIVER_SEEN

/-! ## Withdrawal (R227) -/

abbrev Gone.link : Nat := 1
abbrev Gone.cellar : Nat := 2
abbrev Gone.watchdog : Nat := 3
abbrev Gone.bist : Nat := 4

/-- Frames whose tiles on a die are lost: in flight, with window rows that it owns under their map. -/
def State.lostFrames (s : State) (n : Nat) : List (Nat × List Nat) :=
  (s.frames.filter fun f => f.closed && !f.comDone).map fun f =>
    (f.k, (winRows f.prof).filter fun r => ownerOf f.map r = some n && !f.openRows.contains r)

/-- A die is withdrawn (R227, R245, R398). -/
def State.withdraw (s : State) (n cause : Nat) : State :=
  if !s.present n || (s.die n).withdrawn then s
  else
    let owns := (s.frames.filter fun f => f.streamed && !f.comDone && (winRows f.prof).any fun r => ownerOf f.map r = some n).map
      (·.k)
    let first := match owns with
      | k :: t => t.foldl min k
      | [] => s.freeVal % 2 ^ 64
    let s := if owns.isEmpty then s.drew else s
    let lost := s.lostFrames n
    let had := [0, 1].filter s.caskLost
    let s := s.abandonRuns n
    let s := (s.gateDie n).modDie n fun d => { d with withdrawn := true }
    let s := (s.sticky ⟨Reg.ROL_FAULT, n, 1⟩).sticky Fld.ROL_STATUS_FAULT_SEEN
    let s := (s.setFld Fld.ROL_FAULT_CAUSE_CAUSE cause).setFld Fld.ROL_FAULT_CAUSE_DIE n
    let s := lost.foldl (fun s (k, rs) => rs.foldl (fun s r => s.markMissing k r) s) s
    let s := s.event 0x000C (leBytes 1 n ++ leBytes 1 cause ++ leBytes 6 0 ++ leBytes 8 first)
    -- rows that were to come from it are seeded instead (R222)
    let dead := s.rol.moves.filter fun m => m.src = n ∧ !m.stateDone
    let s := s.mapFrames fun f =>
      { f with seedRows := f.seedRows ++ (dead.filter fun m => m.k0 + 1 = f.k).map (·.row) }
    let s := ((dead.map (·.k0 + 1)).eraseDups).foldl (fun s g => s.coldFrom g) s
    let s := { s with
      rol.moves := s.rol.moves.filter fun m => m.src ≠ n ∧ m.dst ≠ n
      rol.failover := if s.roleOf n = Role.off then s.rol.failover else s.rol.failover ++ [n]
      rol.rotDies := s.rol.rotDies.filter (· ≠ n) }
    let s := s.takeDieLost n
    let s := match s.cel.replay with
      | some r => if r.die = n then s.breakReplay Why.withdrawn else s
      | none => s
    let s := match s.rol.pend with
      | some c => if (mapAt c.map n).role ≠ Role.off then s.abortPend Why.withdrawn else s
      | none => s
    -- a cask whose only good replica stood on this die is lost (R150)
    let s := [0, 1].foldl (fun (s : State) c =>
      s.stickyIf (!s.counted.isEmpty && (s.cask c).img.isSome && !had.contains c && s.caskLost c) Fld.CAL_STATUS_CASK_LOST) s
    let s := s.trainedNow.validCheck
    -- the last stripe die ends the chain and the take
    if s.inStream && (stripeDies s.rol.map).all fun m => (s.die m).withdrawn then
      (s.endChain 3).interruptTake.leaveTake
    else s

/-- The Trellis link of a die fails (R227). -/
def execTrellisLinkFail (die : Nat) (s : State) : Host.Outcome State Fault Refusal :=
  runIf "TRELLIS_LINK_FAIL" (Instr.wf (.trellisLinkFail die))
    (fun s => if (s.die die).powered then s.withdraw die Gone.link else s) s

def execDieWatchdogMiss (die : Nat) (s : State) : Host.Outcome State Fault Refusal :=
  runIf "DIE_WATCHDOG_MISS" (Instr.wf (.dieWatchdogMiss die))
    (fun s => if (s.die die).powered then s.withdraw die Gone.watchdog else s) s

/-! ## Cellar errors (R233) -/

/-- An uncorrectable error outside the regions that withdraw the die. -/
def State.eccLost (s : State) (n : Nat) (g : CellarRegion) : State :=
  match g with
  | .scratchMonitor k y x =>
    -- the 16 MONITOR values of one 32-byte block read as not valid: DEDUCED (log 115), they are neighbours in a row of frame `k`
    { s with trs.mon := s.trs.mon.map fun e =>
        if e.k = k ∧ ownerOf e.map (e.y0 + y / 64) = some n then
          { e with h := e.h.modify y fun row => row.mapIdx fun i v => if i / 16 = x / 16 then monMarker else v }
        else e }
  | .scratchAccum =>
    -- the accumulator of a frame of sub-intervals, the one that integrates or else one that is read out
    match (s.frames.find? fun f => !f.closed && 0 < s.tmg.subDone) <|>
        (s.frames.find? fun f => f.closed && !f.comDone && 1 < f.edges.length) with
    | some f => ((winRows f.prof).filter fun r => ownerOf f.map r = some n).foldl (fun s r => s.markMissing f.k r) s
    | none => s
  | .scratchImage =>
    -- the image being loaded or copied fails its digest check
    { s with casks.load := s.casks.load.map fun (x : Xfer) => { x with img := { x.img with digest := [] } }
             casks.cal := s.casks.cal.map fun k => { k with result := k.result.map fun i => { i with digest := [] } } }
  | .take id k =>
    let hit := fun (f : TakeFrame) => if f.k = k ∧ f.recs.any (·.1 = n) ∧ !f.lost.contains n then
      { f with lost := n :: f.lost } else f
    let tk := fun (t : Take) => if t.id = id ∧ t.frames.any (fun f => f.k = k ∧ f.recs.any (·.1 = n)) then
        { t with frames := t.frames.map hit }.mark TFlag.eccLoss else t
    let s := s.eccIndex id fun t => t.frames.any fun f => f.k = k ∧ f.recs.any (·.1 = n)
    { s with cel.stored := s.cel.stored.map tk, cel.run := s.cel.run.map fun (r : TakeRun) => { r with t := tk r.t }
             cel.interrupted := s.cel.interrupted.map fun (r : TakeRun) => { r with t := tk r.t } }
  | _ => s

def State.doEcc (s : State) (n : Nat) (g : CellarRegion) (corrected : Bool) : State :=
  if !(s.die n).powered then s
  else if corrected then (s.bump Reg.CEL_ECC_CORR).sticky Fld.CEL_STATUS_ECC_CORR_SEEN
  else
    let s := (s.bump Reg.CEL_ECC_UNCORR).sticky Fld.CEL_STATUS_ECC_UNCORR_SEEN
    match g with
    | .caskA => s.withdraw n Gone.cellar
    | .caskB => s.withdraw n Gone.cellar
    | .history => s.withdraw n Gone.cellar
    | .lookahead => s.withdraw n Gone.cellar
    | g => s.eccLost n g

def execCellarEccError (die : Nat) (region : CellarRegion) (corrected : Bool) (s : State) :
    Host.Outcome State Fault Refusal :=
  runIf "CELLAR_ECC_ERROR" (Instr.wf (.cellarEccError die region corrected)) (fun s => s.doEcc die region corrected) s

/-- The patrol scrub has corrected words in place (R233). -/
def State.doScrub (s : State) (n corrected : Nat) : State :=
  if (s.die n).powered && s.flag Fld.CEL_CFG_SCRUB_EN && 0 < corrected then
    (s.bump Reg.CEL_ECC_CORR corrected).sticky Fld.CEL_STATUS_ECC_CORR_SEEN
  else s

def execPatrolScrub (die corrected : Nat) (s : State) : Host.Outcome State Fault Refusal :=
  runIf "PATROL_SCRUB" (Instr.wf (.patrolScrub die corrected)) (fun s => s.doScrub die corrected) s

/-! ## Failover (R228) -/

/-- An entry of a map changed. -/
def putEnt (m : List MapEnt) (n : Nat) (e : MapEnt) : List MapEnt := modAt m n fun _ => e

/-- The failover map for withdrawn die `n`, and the die that must be prepared for it first, if one is in BIST. -/
def State.failoverMap (s : State) (n : Nat) : Option (List MapEnt × Option Nat) :=
  let e := mapAt s.rol.map n
  let off := putEnt s.rol.map n mapOff
  if e.role ≠ .stripe then some (off, none)
  else
    let pick := fun (r : Role) => (List.range 5).find? fun m => (mapAt off m).role = r && !(s.die m).withdrawn &&
      (s.die m).draining.isNone
    let en := s.flag Fld.ROL_CFG_FAILOVER_EN
    match (if en then pick .spare else none), (if en then pick .bist else none) with
    | some m, _ => some (putEnt off m e, none)
    | none, some m => some (putEnt off m e, some m)
    | none, none =>
      let left := (stripeDies off).filter fun m => !(s.die m).withdrawn
      if left.isEmpty then none else some (balanced off left s.tol.prof, none)

/-! ## Rotation (R230) -/

/-- The stripe die that a rotation takes: the one whose last completed run is oldest. -/
def State.rotPick (s : State) : Option Nat :=
  let key := fun (n : Nat) => match (s.die n).lastRun with | some t => t + 1 | none => 0
  match stripeDies s.rol.map with
  | [] => none
  | d :: t => some (t.foldl (fun b n => if key n < key b then n else b) d)

def State.spareReady (s : State) : Option Nat :=
  (List.range 5).find? fun n => s.roleOf n = .spare && (s.die n).ready

/-- Is spare rotation on (R230)? -/
def State.rotates (s : State) : Bool := s.variant = .bm5 && s.flag Fld.ROL_CFG_ROTATE_EN

/-- Does anything keep a due rotation waiting? -/
def State.rotBlocked (s : State) : Bool :=
  s.casks.cal.isSome || s.rol.pend.isSome || (s.rol.dies.any fun d => d.draining.isSome) || s.spareReady.isNone ||
    s.changesFull || !s.rol.failover.isEmpty

/-- The rotation's map change (R230 steps 1 and 2). -/
def State.makeRotation (s : State) : State :=
  match s.rotPick, s.spareReady with
  | some d, some sp =>
    let m := putEnt (putEnt s.rol.map sp (mapAt s.rol.map d)) d { role := .bist, first := 0, count := 0 }
    State.pendMap { s with rol.rotWait := false, rol.rotDies := s.rol.rotDies ++ [d] }
      { map := m, frame := 0, reseed := false, cid := none, cause := 2, accept := s.mono }
  | _, _ => s

/-- Is a rotation's own map change pending? -/
def State.rotMade (s : State) : Bool := match s.rol.pend with | some c => c.cause = 2 | none => false

/-- The period has expired. -/
def State.doRotationDue (s : State) : State :=
  match s.rol.rotFrom with
  | some t =>
    if s.rotates && (s.pow.st = .ready || s.inStream) && t + 250000000 * s.rol.rotPeriod ≤ s.mono && !s.rotMade then
      if s.rotBlocked then { s with rol.rotWait := true } else s.makeRotation
    else s
  | none => s

def execRotationDue (s : State) : Host.Outcome State Fault Refusal := run State.doRotationDue s

/-- A die whose run has ended goes back to SPARE, once it is initialised anew (R211, R230 step 3). A failover comes first (R228). -/
def State.rotReturn (s : State) : State :=
  if s.rol.pend.isSome || !s.rol.failover.isEmpty then s
  else match s.rol.rotDies.find? fun n => s.roleOf n = .bist && (s.die n).draining.isNone &&
      !(s.bst.runs.any fun r => r.die = n && r.kind = Owner.rotation) with
    | some n =>
      s.pendMap { map := putEnt s.rol.map n { role := .spare, first := 0, count := 0 }, frame := 0, reseed := false, cid := none
                  cause := 3, accept := s.mono }
    | none => s

/-- Before the map step of a snapshot at elapsed tick `et`: a finished rotation is undone, and a waiting one falls due (R230). -/
def State.rotSnap (s : State) (et : Nat) : State :=
  let s := s.rotReturn
  if s.rol.rotWait && s.rotates && (s.pow.st = .ready || s.inStream) && !s.rotBlocked then
    let s := s.makeRotation
    { s with rol.pend := s.rol.pend.map fun c => { c with accept := et - 1 } }
  else s

/-- Where the rotation period starts anew: the first frame snapshot in READY, or after ROTATE_EN was set, at its elapsed tick `et`. -/
def State.rotClock (s : State) (et : Nat) : State :=
  if s.rol.rotFrom.isNone && s.rotates && (s.pow.st = .ready || s.inStream) then
    { s with rol.rotFrom := some et, rol.rotPeriod := s.fld Fld.BST_ROTATE_VALUE }
  else s

/-! ## Registers (R231) -/

/-- A write of ROL_CFG. -/
def State.writeRolCfg (s : State) (v : Word) : State :=
  if 1 < fldOf v Fld.ROL_CFG_HANDOVER then s.sticky Fld.ROL_STATUS_CFG_REJ
  else
    let was := s.flag Fld.ROL_CFG_ROTATE_EN
    let keep := fldPut v Fld.ROL_CFG_ROTATE_EN (if s.variant = .bm5 then fldOf v Fld.ROL_CFG_ROTATE_EN else 0)
    let s := s.hostSet Reg.ROL_CFG keep
    if was = s.flag Fld.ROL_CFG_ROTATE_EN then s else { s with rol.rotFrom := none, rol.rotWait := false }

/-- Live fields of the ROL_ registers (R231). -/
def State.liveRol (s : State) (off : Nat) : Word :=
  let dr := s.rol.dies.any fun d => d.draining.isSome
  if off = Reg.ROL_STATUS then
    BitVec.ofNat 32 (b2n s.rol.pend.isSome + 2 * b2n dr + 4 * b2n s.rol.rotWait)
  else if off = Reg.ROL_VERSION then
    BitVec.ofNat 32 (s.rol.version + 2 ^ 16 * if s.rol.pend.isSome then nextVersion s.rol.version else 0)
  else if off = Reg.ROL_PEND_FRAME_LO then
    BitVec.ofNat 32 (s.reported Rested.pendFrame)
  else if off = Reg.ROL_PEND_FRAME_HI then
    BitVec.ofNat 32 (s.reported Rested.pendFrame / 2 ^ 32)
  else
    match (List.range 5).find? fun n => off = Reg.ROL_MAP n with
    | some n =>
      let e := mapAt s.rol.map n
      let d := s.die n
      BitVec.ofNat 32 (e.first + 2 ^ 8 * e.count + 2 ^ 16 * roleCode e.role + 2 ^ 19 * b2n (d.ready && !d.withdrawn) +
        2 ^ 20 * b2n d.draining.isSome + 2 ^ 21 * b2n d.withdrawn)
    | none => 0

end Sys2Proof.Machine
end

