-- ==== Sys2Proof/Machine/Casks.lean ====
section
/-! DEFINITION. Cask images, racking, LOAD_CASK and SAVE_CASK (R149 to R155). -/

namespace Sys2Proof.Machine

open Sys2Proof

/-! ## The image (R149) -/

/-- Header bytes 0x000 to 0x0FF. -/
def caskHeader (c : CaskImage) : List Byte :=
  leBytes 4 c.magic ++ leBytes 2 c.format ++ leBytes 2 0 ++ leBytes 4 c.gen ++ leBytes 1 (wrapN 8 c.e1) ++
    leBytes 1 (wrapN 8 c.e2) ++ leBytes 1 c.bias ++ leBytes 1 c.qref ++ leBytes 8 c.captureFrame ++ leBytes 1 c.lastKind ++
    leBytes 3 0 ++ ((List.range 4).flatMap fun i => leBytes 1 (c.window.getD i 0)) ++
    ((List.range 48).flatMap fun i => leBytes 4 (c.grid.getD i 0)) ++ leBytes 32 0

/-- The record area (R93): one 64-bit record per physical pixel. -/
def caskRecords (m : PixMap (BitVec 64)) : List Byte :=
  (List.range (4120 * 3096)).flatMap fun i => leBytes 8 (pixGet m i).toNat

/-- The digest of an image: header bytes 0x000 to 0x0FF and the record area. -/
def imgDigest (c : CaskImage) : List Byte := shake256 (caskHeader c ++ caskRecords c.recs)

/-- The checks of R153. -/
def imgOk (c : CaskImage) : Bool :=
  c.magic = 0x4B534356 && c.format = 1 && c.reservedOk && -8 ≤ c.e1 && c.e1 ≤ 7 && -8 ≤ c.e2 && c.e2 ≤ 7 && c.gen ≠ 0 &&
    c.digest = imgDigest c

/-- Every die that counts copies an image into a cask's region: the cask is not valid until the copies have passed. -/
def State.startCopy (s : State) (c : Nat) (img : CaskImage) : State :=
  let s := s.modCask c fun k => { k with img := some img, replicas := List.replicate 5 none, copying := true }
  -- the copy writes every die's SCRATCH: a CELLAR slice there is abandoned, and none starts (R414)
  State.validCheck (s.abortSlices fun x => x.id.die < 5 ∧ x.id.unit = 3)

/-- Every replica has passed its digest check. -/
def State.endCopy (s : State) (c : Nat) : State :=
  s.modCask c fun k => { k with
    replicas := (List.range 5).map fun n => if s.counted.contains n then some true else none
    checked := (List.range 5).map fun n => s.counted.contains n
    copying := false }

/-- The copies have failed their check: the cask stays without valid content. -/
def State.failCopy (s : State) (c : Nat) : State :=
  let s := s.modCask c fun k => { k with
    replicas := (List.range 5).map fun n => if s.counted.contains n then some false else none
    checked := (List.range 5).map fun n => s.counted.contains n
    copying := false }
  s.stickyIf (s.caskLost c) Fld.CAL_STATUS_CASK_LOST

/-! ## RACK_CASK (R151) -/

/-- Does a calibration's racking wait for the next frame snapshot (R160)? -/
def State.calRackDue (s : State) : Bool := match s.casks.cal with | some k => k.stage = 5 | none => false

/-- Is any racking pending (R151)? -/
def State.anyRack (s : State) : Bool := s.casks.rack.isSome || s.calRackDue

/-- Is a racking of cask `c` pending? -/
def State.rackPending (s : State) (c : Nat) : Bool :=
  match s.casks.rack with | some (d, _, _) => d = c | none => false

def State.loading (s : State) (c : Nat) : Bool :=
  match s.casks.load with | some x => x.cask = c | none => false

def State.rackBad (s : State) (cask frame : Nat) : Option Nat :=
  if 1 < cask then some 0x10
  else if !s.caskOk cask && !(s.cask cask).copying && !s.loading cask then some 0x10
  else if 0 < frame ∧ s.pastFrame frame then some 0x18
  else none

def State.doRackCask (s : State) (h : Hdr) (cask frame : Nat) : State :=
  s.acceptCmd h Op.rackCask 1 (fun s => s.rackBad cask frame) fun s cid =>
    if s.anyRack || (s.cask cask).copying || s.loading cask then s.fail cid St.busy Why.none
    else if s.casks.active = cask then s.complete cid St.ok Why.none (some s.newest) none
    else if s.changesFull then s.fail cid St.busy Why.none
    else { s with casks.rack := some (cask, frame, some cid) }

def execRackCask (h : Hdr) (cask frame : Nat) (s : State) : Host.Outcome State Fault Refusal :=
  runIf "RACK_CASK" (Instr.wf (.rackCask h cask frame)) (fun s => s.doRackCask h cask frame) s

/-! ## LOAD_CASK (R153, R154) -/

/-- Is a calibration running whose target is cask `c`? -/
def State.calTargets (s : State) (c : Nat) : Bool :=
  match s.casks.cal with | some k => k.kind < 3 && k.target = c | none => false

def caskAddrBad (cask addr : Nat) : Option Nat :=
  if 1 < cask then some 0x10 else if addr % 4096 ≠ 0 then some 0x18 else none

/-- What LOAD_CASK finds at its address: an image, or bytes that fail every check. -/
def caskOf : HostData → Option CaskImage
  | .cask c => some c
  | _ => none

/-- An image that fails the checks of R153: its magic is wrong. -/
def noCask : CaskImage :=
  { magic := 0, format := 0, gen := 0, e1 := 0, e2 := 0, bias := 0, qref := 0, captureFrame := 0, lastKind := 0
    window := [], grid := [], reservedOk := false, recs := pixConst 0, digest := [] }

def State.doLoadCask (s : State) (h : Hdr) (cask addr : Nat) (data : HostData) : State :=
  s.acceptCmd h Op.loadCask 1 (fun _ => caskAddrBad cask addr) fun s cid =>
    if (s.inStream && s.casks.active = cask) || s.rackPending cask || s.calTargets cask then s.fail cid St.busy Why.none
    else if data = .error then s.fail cid St.badParam Why.hostMemory
    else
      -- the image goes to every die's SCRATCH: a CELLAR slice there is abandoned, and none starts (R414)
      State.abortSlices { s with casks.load := some { cask, addr, cid, img := (caskOf data).getD noCask, stage := 0 } }
        fun x => x.id.die < 5 ∧ x.id.unit = 3

def execLoadCask (h : Hdr) (cask addr : Nat) (data : HostData) (s : State) : Host.Outcome State Fault Refusal :=
  runIf "LOAD_CASK" (Instr.wf (.loadCask h cask addr data)) (fun s => s.doLoadCask h cask addr data) s

/-- The check phase ends on every die: BAD_PARAM after a failure, else the copy starts. -/
def State.doLoadCheck (s : State) : State :=
  match s.casks.load with
  | some x =>
    if x.stage ≠ 0 then s
    else if imgOk x.img then
      State.startCopy { s with casks.load := some { x with stage := 1 } } x.cask x.img
    else State.fail { s with casks.load := none } x.cid St.badParam Why.noField
  | none => s

def execLoadCaskCheckDone (s : State) : Host.Outcome State Fault Refusal := run State.doLoadCheck s

/-- CAL_STALE, and TRIM_STALE with it, is cleared (R50, R177). -/
def State.clearStale (s : State) : State := (s.setFld Fld.SEN_STATUS_CAL_STALE 0).setFld Fld.CAL_STATUS_TRIM_STALE 0

/-- The copies are checked: where every replica passes, LOAD_CASK completes, and a cask in force takes effect anew at the next frame
snapshot (R154). Where the copied image fails its digest, the cask stays without valid content; DEDUCED (log 115): the command
then ends as after a failed check. -/
def State.doLoadDone (s : State) : State :=
  match s.casks.load with
  | some x =>
    if x.stage ≠ 1 then s
    else
      let s := { s with casks.load := none }
      if x.img.digest ≠ imgDigest x.img then (s.failCopy x.cask).fail x.cid St.badParam Why.noField
      else
      let s := State.endCopy { s with casks.reload := s.casks.reload || s.casks.active = x.cask } x.cask
      s.clearStale.complete x.cid St.ok Why.none (some x.img.gen) none
  | none => s

def execLoadCaskCopyDone (s : State) : Host.Outcome State Fault Refusal := run State.doLoadDone s

/-! ## SAVE_CASK (R155) -/

def State.doSaveCask (s : State) (h : Hdr) (cask addr : Nat) : State :=
  let bad := fun (s : State) => match caskAddrBad cask addr with
    | some o => some o
    | none => if s.caskOk cask then none else some 0x10
  s.acceptCmd h Op.saveCask 1 bad fun s cid =>
    if s.rackPending cask || s.calTargets cask then s.fail cid St.busy Why.none
    else match (s.cask cask).img with
      | some img => { s with casks.save := some { cask, addr, cid, img, stage := 0 } }
      | none => s

def execSaveCask (h : Hdr) (cask addr : Nat) (s : State) : Host.Outcome State Fault Refusal :=
  runIf "SAVE_CASK" (Instr.wf (.saveCask h cask addr)) (fun s => s.doSaveCask h cask addr) s

/-- The image has been written; a cask that loses its validity on the way ends the command at once. -/
def State.doSaveDone (s : State) : State :=
  match s.casks.save with
  | some x =>
    State.writeOut { s with casks.save := none } x.cid x.addr 102048256 (.hostCask x.addr x.img) fun s =>
      s.complete x.cid St.ok Why.none (some x.img.gen) none
  | none => s

def execSaveCaskDone (s : State) : Host.Outcome State Fault Refusal := run State.doSaveDone s

/-! ## The racking snapshot (R151, R152) -/

/-- Cask `c` comes into force with the contents that it holds. -/
def State.putCask (s : State) (c : Nat) : State :=
  { s with casks.active := c, casks.force := (s.cask c).img, casks.reload := false }

/-- A racking pending at snapshot `k` at tick `t` falls due: the cask changes, and the command completes after the snapshot. The
flag says that a cask was racked. -/
def State.rackAt (s : State) (k t : Nat) : State × Bool :=
  match s.casks.rack with
  | some (c, frame, cid) =>
    let later : Bool := match cid with | some cid => !tickLe t (s.acceptTick cid) | none => true
    if frame ≤ k ∧ later then
      let s := State.putCask { s with casks.rack := none } c
      (match cid with | some cid => s.complete cid St.ok Why.none (some k) none | none => s, true)
    else (s, false)
  | none => (s, false)

/-- New contents of the cask in force take effect at a snapshot (R154). -/
def State.reloadAt (s : State) : State × Bool :=
  if s.casks.reload then (s.putCask s.casks.active, true) else (s, false)

end Sys2Proof.Machine
end

