-- ==== Sys2Proof/Machine/CalMath.lean ====
section
/-! DEFINITION. The arithmetic of the calibrations (R158, R164 to R176): which pixels they cover and count, what a capture
sums, which pixels fail, and the quality figures. Sums and means are exact; a root is rounded once. -/

namespace Sys2Proof.Machine

open Sys2Proof

/-! ## Exact fractions and logarithms -/

/-- The root of a fraction, rounded. -/
def rsqrt (a b : Nat) : Nat := if b = 0 then 0 else (isqrt (4 * a / b) + 1) / 2

/-- A sum of fractions with natural denominators. -/
def fracAdd (p : Nat × Nat) (a b : Nat) : Nat × Nat :=
  if p.2 = b then (p.1 + a, b) else (p.1 * b + a * p.2, p.2 * b)

/-- Fractional bits of a logarithm. -/
def lnBits : Nat := 128

/-- The terms of the series of 2 artanh(z), z in units of 2^-lnBits. -/
def lnTerms (z2 : Nat) : Nat → Nat → Nat → Nat
  | 0, _, _ => 0
  | n + 1, k, p => 2 * p / (2 * k + 1) + lnTerms z2 n (k + 1) (p * z2 / 2 ^ lnBits)

/-- ln(b/a) for a ≤ b ≤ 3 a, in units of 2^-lnBits. -/
def lnNear (a b : Nat) : Nat :=
  let z := (b - a) * 2 ^ lnBits / (a + b)
  lnTerms (z * z / 2 ^ lnBits) 80 0 z

/-- -ln(a/b) for 0 < a < b, in units of 2^-lnBits (log 30). -/
def lnInv (a b : Nat) : Nat :=
  let m := b.log2 - a.log2
  let c := a * 2 ^ m
  if c ≤ b then m * lnNear 1 2 + lnNear c b else (m - 1) * lnNear 1 2 + lnNear (a * 2 ^ (m - 1)) b

/-! ## What is covered (R158, R165, R169) -/

/-- Physical columns that a capture sums: the window's, and for SHUTTER_OFFSET the blind ones after them. -/
def calCols (kind : Nat) (p : Profile) : List Nat :=
  (List.range (64 * p.w)).map (12 + 64 * p.x0 + ·) ++ if kind = 0 then blindCols else []

/-- Rows of one accumulator: a band of 192 rows, or the window. -/
def calRows (kind : Nat) (p : Profile) : Nat := if kind = 1 then 192 else 64 * p.h

/-- The covered area of a calibration: all 12,582,912 active pixels for TAU_MAP. -/
def calArea (kind : Nat) (p : Profile) : Profile :=
  if kind = 1 then { p with x0 := 0, y0 := 0, w := 64, h := 48 } else p

/-- Physical pixel of column index `j` and row `y` of a covered area. -/
def areaPix (cols : Array Nat) (p : Profile) (j y : Nat) : Nat := phys (cols.getD j 0) (16 + 64 * p.y0 + y)

/-- The band `b` of the band phase (R169). -/
def bandProfile (p : Profile) (period b : Nat) : Profile :=
  { p with period, x0 := 0, w := 64, y0 := 3 * b, h := 3, preview := false }

/-! ## What a frame adds (R165, R172, R174) -/

/-- BLIND output of a physical pixel (R90 to R92): the row term acts on active pixels. -/
def FrameW.blindOut (f : FrameW) (i : Nat) (q : Int) : Int :=
  let c := i % 4120
  let active := 12 ≤ c && c < 4108
  let a := deliver false (normValue (pixGet f.d i) (normFactor f.period))
  (deliver a.sat (a.v - (f.ref.getD #[]).getD c 0 - (if active then q else 0))).v

def zeroPlane (w h : Nat) : Plane := planeOf w h fun _ _ => 0

def accEmpty (parts w h : Nat) : Acc :=
  { sums := List.replicate parts (zeroPlane w h), chk := zeroPlane w h, marked := zeroPlane w h }

def planeAdd (a b : Plane) : Plane := a.mapIdx fun y r => r.mapIdx fun x v => v + planeAt b x y

/-- What one frame adds to an accumulator: its BLIND outputs, its checked values, its marks. -/
structure AddOut where
  blind : Plane
  chk : Plane
  marks : Plane
  deriving DecidableEq, Repr

/-- The values of a captured frame over its covered columns. For TAU_MAP the checked value is BLIND minus the source OFS; for the
other kinds it is the committed-pass DRIFT output, of active pixels. DEDUCED (log 117): both are of the source cask, the one in force
when the calibration was accepted (R157, R174), also after a racking. -/
def FrameW.calValues (f : FrameW) (kind : Nat) (source : Option CaskImage) : AddOut :=
  let f := { f with img := source }
  let cols := (calCols kind f.prof).toArray
  let w := cols.size
  let h := f.high
  let qs := (Array.range h).map fun y => (f.rowTerm y).1
  let blind := planeOf w h fun j y => f.blindOut (areaPix cols f.prof j y) (qs.getD y 0)
  let dT := f.deltas (f.gridMeas.getD [])
  { blind
    chk := if kind = 1 then planeOf w h fun j y => planeAt blind j y - recOfs (f.recAt (areaPix cols f.prof j y))
      else planeOf w h fun j y => if j < f.wide then (f.gain dT (qs.getD y 0) j y).drift else 0
    marks := planeOf w h fun j y => b2n (pixGet f.marks (areaPix cols f.prof j y) != 0) }

/-- Part of a capture that frame `i` of it (counted from 0) belongs to, if any: half of 2N frames, or one of the six sums of a
band with LEAD lead-in frames and n frames a sum. -/
def calPart (kind n lead i : Nat) : Option Nat :=
  if kind = 1 then if i < lead then none else some ((i - lead) / max 1 n) else some (i / max 1 n)

/-- An accumulator with a frame added. The checked value of TAU_MAP is that of the lead-in frames. -/
def Acc.add (a : Acc) (kind : Nat) (part : Option Nat) (o : AddOut) : Acc :=
  let v := if kind = 2 then o.chk else o.blind
  { sums := match part with | some i => modAt a.sums i (planeAdd · v) | none => a.sums
    chk := if kind = 1 ∧ part.isSome then a.chk else planeAdd a.chk o.chk
    marked := a.marked.mapIdx fun y r => r.mapIdx fun x v => if planeAt o.marks x y ≠ 0 then 1 else v }

/-! ## Reading the accumulators -/

def Cal.accAt (k : Cal) (y : Nat) : Acc := k.acc.getD (y / calRows k.kind k.win) { sums := [], chk := #[], marked := #[] }
def Cal.sumAt (k : Cal) (i x y : Nat) : Int := planeAt ((k.accAt y).sums.getD i #[]) x (y % calRows k.kind k.win)
def Cal.chkAt (k : Cal) (x y : Nat) : Int := planeAt (k.accAt y).chk x (y % calRows k.kind k.win)
def Cal.markAt (k : Cal) (x y : Nat) : Bool := planeAt (k.accAt y).marked x (y % calRows k.kind k.win) != 0

def Cal.area (k : Cal) : Profile := calArea k.kind k.win
def Cal.cols (k : Cal) : Array Nat := (calCols k.kind k.area).toArray
def Cal.wide (k : Cal) : Nat := 64 * k.area.w
def Cal.high (k : Cal) : Nat := 64 * k.area.h

/-- The source record of a covered pixel. -/
def Cal.srcRec (k : Cal) (j y : Nat) : BitVec 64 := imgRec k.source (areaPix k.cols k.area j y)

/-- Is an active pixel counted (R158)? -/
def Cal.counts (k : Cal) (j y : Nat) : Bool :=
  j < k.wide && !recStatic (k.srcRec j y) && recGain (k.srcRec j y) != 0

/-- Positions of the active pixels that meet a test. -/
def Cal.positions (k : Cal) (t : Nat → Nat → Bool) : List (Nat × Nat) :=
  (List.range k.high).flatMap fun y => ((List.range k.wide).filter fun x => t x y).map fun x => (x, y)

/-- How many active pixels are counted, and how many of them fail. -/
def Cal.count (k : Cal) (fail : Plane) : Nat × Nat :=
  (planeCount k.wide 0 k.high k.counts, planeCount k.wide 0 k.high fun x y => k.counts x y && planeAt fail x y != 0)

/-- The fraction test of R158. -/
def State.fracOk (s : State) (counted failing : Nat) : Bool :=
  failing * 1000000 ≤ counted * s.regN Reg.CAL_AGREE_MAX_FRAC

/-! ## Uniformity (R164) -/

/-- The exact means of the tiles with at least 1,024 counted, non-failing pixels, as numerators and denominators; `frames` is how
many frames a checked sum holds. -/
def Cal.tileMeans (k : Cal) (frames : Nat) (fail : Plane) : List (Int × Nat) :=
  (List.range k.area.h).flatMap fun j => (List.range k.area.w).filterMap fun i =>
    let ps := (List.range 64).flatMap fun b => ((List.range 64).map fun a => (64 * i + a, 64 * j + b)).filter fun e =>
      k.counts e.1 e.2 && planeAt fail e.1 e.2 == 0
    if ps.length < 1024 then none else some (sumI (ps.map fun e => k.chkAt e.1 e.2), frames * ps.length)

def fracMax : List (Int × Nat) → (Int × Nat) → (Int × Nat)
  | [], m => m
  | e :: t, m => fracMax t (if m.1 * e.2 < e.1 * m.2 then e else m)
def fracMin : List (Int × Nat) → (Int × Nat) → (Int × Nat)
  | [], m => m
  | e :: t, m => fracMin t (if e.1 * m.2 < m.1 * e.2 then e else m)

/-- The spread as the report gives it, and whether the check passes. -/
def State.uniform (s : State) (k : Cal) (frames : Nat) (fail : Plane) : Nat × Bool :=
  if bitN k.flags 2 then (0, true)
  else match k.tileMeans frames fail with
    | [] => (0xFFFFFFFF, false)
    | e :: t =>
      let a := fracMax t e
      let b := fracMin t e
      let num := a.1 * b.2 - b.1 * a.2
      let den := a.2 * b.2
      (clampN (2 ^ 32 - 1) (rndDiv num den), decide (num ≤ (s.regN Reg.CAL_FLAT_LIMIT : Int) * den))

/-! ## Split halves (R166, R167) -/

/-- OFS_p before its clamp (R165). -/
def Cal.ofsOf (k : Cal) (j y : Nat) : Int := rndDiv (k.sumAt 0 j y + k.sumAt 1 j y) (2 * k.n)
def ofsClamp (v : Int) : Int := clampI (-131072) 131071 v

/-- Half sums: N times δ_p. -/
def Cal.half (k : Cal) (j y : Nat) : Int := k.sumAt 0 j y - k.sumAt 1 j y

/-- The judgement of the split halves of a capture: failing pixels over all covered columns, the pixels that form δ̄ and the sum of
their N·δ, and the failing and counted numbers. -/
structure Halves where
  fail : Plane
  base : Nat
  sum : Int
  counted : Nat
  failing : Nat
  deriving DecidableEq, Repr

def State.halves (s : State) (k : Cal) : Halves :=
  let first := fun (j y : Nat) => k.markAt j y || (k.kind == 0 && k.ofsOf j y != ofsClamp (k.ofsOf j y))
  let base := k.positions fun x y => k.counts x y && !first x y
  let nb := base.length
  let sum := sumI (base.map fun e => k.half e.1 e.2)
  let lim := s.regN Reg.CAL_AGREE_TOL * k.n * nb
  let fails := fun (j y : Nat) => first j y || (0 < nb && lim < ((nb : Int) * k.half j y - sum).natAbs)
  let fail := planeOf k.cols.size k.high fun j y =>
    b2n ((k.wide ≤ j || k.counts j y) && fails j y)
  let c := k.count fail
  { fail, base := nb, sum, counted := c.1, failing := c.2 }

/-- 16 Q_SU and Q_mK from a mean square given as a fraction of SU², rounded (R167). -/
def State.quality (s : State) (num den : Nat) : Nat × Nat :=
  let r := s.regN Reg.CAL_RESP
  (sat32 (rsqrt (256 * num) den), sat32 (rsqrt (16000 ^ 2 * num) (den * (r * r))))

/-- The quality of a SHUTTER_OFFSET. -/
def State.halfQuality (s : State) (k : Cal) (h : Halves) : Nat × Nat :=
  let good := k.positions fun x y => k.counts x y && planeAt h.fail x y == 0
  if good.isEmpty ∨ h.base = 0 then (0, 0)
  else
    let e := sumN (good.map fun p => ((h.base : Int) * k.half p.1 p.2 - h.sum).natAbs ^ 2)
    s.quality e (4 * (k.n * h.base) ^ 2 * good.length)

/-! ## TAU_MAP (R172, R173) -/

/-- τ of one step in units of 2^-32 ns from its three sums, if the step has a fit. -/
def tauFit (a b c : Int) (spanNs : Nat) : Option Nat :=
  let n := c - b
  let d := b - a
  let n := if d < 0 then -n else n
  let d := d.natAbs
  if d = 0 ∨ n ≤ 0 ∨ (d : Int) ≤ n then none
  else
    let l := lnInv n.toNat d
    if l = 0 then none else some (spanNs * 2 ^ (lnBits + 32) / l)

/-- The two fits of a pixel. -/
def Cal.fits (k : Cal) (n x y : Nat) : Option (Nat × Nat) :=
  let span := n * 4 * k.pCal
  match tauFit (k.sumAt 0 x y) (k.sumAt 1 x y) (k.sumAt 2 x y) span,
        tauFit (k.sumAt 3 x y) (k.sumAt 4 x y) (k.sumAt 5 x y) span with
  | some u, some d => some (u, d)
  | _, _ => none

/-- The TAU code of two fits. -/
def tauCodeOf (u d : Nat) : Int := rndDiv ((u : Int) + d - 2 * 1000000 * 2 ^ 32) (2 * 20000 * 2 ^ 32)

/-- The code that a pixel passes with, if it passes. -/
def State.tauPass (s : State) (k : Cal) (x y : Nat) : Option (Nat × Nat × Nat) :=
  if k.markAt x y then none
  else match k.fits (s.fld Fld.CAL_TAU_CFG_N) x y with
    | none => none
    | some (u, d) =>
      let c := tauCodeOf u d
      let gap := max u d - min u d
      if s.fld Fld.CAL_TAU_CFG_AGREE_PM * (u + d) < gap * 2000 ∨ c < 0 ∨ 255 < c then none else some (c.toNat, u, d)

/-- 16 Q_SU and Q_mK from a mean square that is a pure number. -/
def State.pureQuality (s : State) (num den : Nat) : Nat × Nat :=
  let r := s.regN Reg.CAL_RESP
  (sat32 (rsqrt (r * r * num) den), sat32 (rsqrt (1000000 * num) den))

/-! ## BLACKBODY_2P (R176) -/

/-- Δ_p over the common denominator 2 N_H N_L, from the two captures. -/
def twoDelta (lo hi : Cal) (x y : Nat) : Int :=
  (hi.sumAt 0 x y + hi.sumAt 1 x y) * lo.n - (lo.sumAt 0 x y + lo.sumAt 1 x y) * hi.n

/-- Half `i`'s difference over the common denominator N_H N_L. -/
def twoHalf (lo hi : Cal) (i x y : Nat) : Int := hi.sumAt i x y * lo.n - lo.sumAt i x y * hi.n

/-! ## Result images (R157, R158) -/

/-- The source as an image to start from: a zero header and the default records without a cask. -/
def Cal.base (k : Cal) : CaskImage :=
  match k.source with
  | some c => c
  | none => { noCask with grid := List.replicate 48 0, window := [0, 0, 0, 0], reservedOk := true, recs := pixConst defaultRec }

/-- A record's FLAGS[1] after the calibration. -/
def flagRec (clear fail : Bool) (w : BitVec 64) : BitVec 64 :=
  let w := if clear then recPut w 55 1 0 else w
  if fail then recPut w 55 1 1 else w

/-- The records of a result: every covered pixel's fields replaced by `put`, then its flag. -/
def Cal.records (k : Cal) (fail : Nat → Nat → Bool) (put : Nat → Nat → BitVec 64 → BitVec 64) : PixMap (BitVec 64) :=
  let clear := bitN k.flags 3
  (List.range k.high).foldl (fun m y => (List.range k.cols.size).foldl (fun m j =>
    let i := areaPix k.cols k.area j y
    pixSet m i (flagRec clear (fail j y) (put j y (pixGet m i)))) m) k.base.recs

/-- The header fields that every accepted calibration sets, and the digest. -/
def State.finishImage (s : State) (k : Cal) (c : CaskImage) (gen : Nat) : CaskImage :=
  let c := { c with
    magic := 0x4B534356, format := 1, gen, bias := s.sen.biasCode, qref := s.sen.qrefCode, lastKind := k.kind
    window := [k.area.x0, k.area.y0, k.area.w, k.area.h] }
  { c with digest := imgDigest c }

end Sys2Proof.Machine
end

