-- ==== Sys2Proof/Machine/Hkc.lean ====
section
/-! DEFINITION. The housekeeping converter (chapter 13): claims on it, conversions and their results, the queue, and
self-calibration, with the meanings of its commands and events. -/

namespace Sys2Proof.Machine

open Sys2Proof

/-- Ticks of a conversion and of a self-calibration (R339, R351). -/
def convTicks : Nat := 125
def selfcalTicks : Nat := 6000

/-- Source codes (R343). -/
abbrev Inj.host : Nat := 1
abbrev Inj.coil : Nat := 2
abbrev Inj.internal : Nat := 3

/-! ## Claims (R339) -/

/-- Channel of entry `n` in a sequence register word. -/
def seqChannel (v : Word) (n : Nat) : Nat := v.toNat / 2 ^ (8 * n) % 32

/-- The regular sequence as configured (R340). -/
def State.regChannels (s : State) : List Nat :=
  (List.range (s.fld Fld.HKC_REG_CFG_LEN)).map fun n => seqChannel (s.reg (Reg.HKC_SEQ_0 + 4 * (n / 4))) (n % 4)

/-- The HOST group as configured (R343). -/
def State.hostChannels (s : State) : List Nat :=
  (List.range (s.fld Fld.HKC_INJ_CFG_LEN)).map fun n => seqChannel (s.reg Reg.HKC_INJ_SEQ) n

/-- Is a coil group RUNNING or in GAP, or does it hold a request (R347)? -/
def Eng.active (e : Eng) : Bool := decide (e.st ≠ .idle) || e.hold.isSome

def State.coilQuiet (s : State) : Bool := !s.coil.a.active && !s.coil.b.active

/-- May a due self-calibration start, as far as injected groups and coils go (R351)? -/
def State.selfcalClear (s : State) : Bool := s.hkc.calDue && s.hkc.group.isNone && !s.hkc.heldHost && s.coilQuiet

/-- The converter is free (R339). -/
def State.hkcFree (s : State) : Bool := s.hkc.conv.isNone && s.hkc.calRun.isNone && s.hkc.slice.isNone

/-- The free converter is given to the first claim, at elapsed tick `t`: an injected group, a due self-calibration, the
regular run (R339). A conversion starts with the power of its source domain (R338). -/
def State.hkcServe (s : State) (t : Nat) : State :=
  if !s.hkcFree then s
  else match s.hkc.group with
    | some (src, idx, chs, eng) =>
      { s with hkc.conv := some { src, ch := chs.getD idx 0, idx, start := t, eng, gated := s.gated (chs.getD idx 0) } }
    | none =>
      if s.selfcalClear then { s with hkc.calRun := some t }
      else match s.hkc.run with
        | some (idx, _, chs, _) => { s with hkc.conv := some { src := 0, ch := chs.getD idx 0, idx, start := t, eng := 0, gated := s.gated (chs.getD idx 0) } }
        | none => s

/-- A self-calibration that has run its time completes (R351). It runs until that tick, so a trigger of that tick finds it
complete (R339). -/
def State.doSelfcalDone (s : State) : State :=
  match s.hkc.calRun with
  | some t =>
    if t + selfcalTicks ≤ s.mono then
      let s := (s.sticky Fld.HKC_STATUS_CAL_DONE).setFld Fld.HKC_CTRL_SELFCAL 0
      -- an HKC_TRIM that was accepted meanwhile waits for one of its own (R354)
      let again := match s.casks.cal with
        | some k => k.kind = 6 && k.stage = 1 && decide (t < k.start)
        | none => false
      let cal := s.casks.cal.map fun k =>
        if k.kind = 6 && k.groupBase.isNone && decide (k.start ≤ t) then { k with groupBase := some s.mono } else k
      State.hkcServe { s with
        casks.cal := cal
        hkc.calRun := none, hkc.calDue := again, hkc.calAt := some s.mono
        hkc.calTemp := if (s.reg (Reg.HKC_CH 15)).getLsbD 31 then some (s.regN (Reg.HKC_CH 15) % 4096) else none } s.mono
    else s
  | none => s

/-! ## Injected triggers (R344 to R347, R352, R353) -/

/-- An injected trigger is counted and ignored. -/
def State.injLost (s : State) (off : Nat) : State := (s.bump off).sticky Fld.HKC_STATUS_INJ_LOST

/-- A group starts in its trigger tick: a regular conversion that is not complete is aborted (R346), a self-test slice is
abandoned (R353). -/
def State.startGroup (s : State) (src : Nat) (chs : List Nat) (eng : Nat) : State :=
  let s := { s with
    hkc.group := some (src, 0, chs, eng), hkc.groupAt := s.mono
    hkc.hostGroups := s.hkc.hostGroups + (if src = Inj.host then 1 else 0)
    hkc.coilGroupsA := s.hkc.coilGroupsA + (if src = Inj.coil ∧ eng = 0 then 1 else 0)
    hkc.coilGroupsB := s.hkc.coilGroupsB + (if src = Inj.coil ∧ eng ≠ 0 then 1 else 0)
    hkc.internalGroups := s.hkc.internalGroups + (if src = Inj.internal then 1 else 0)
    hkc.conv := match s.hkc.conv with
      | some c => if s.mono < c.start + convTicks then none else some c
      | none => none }
  let s := s.abortSlices fun x => x.id.die = 5 ∧ x.id.unit = 1
  s.hkcServe s.mono

/-- Precedence of the sources of triggers of one tick (R345). -/
def injRank (src : Nat) : Nat := if src = Inj.coil then 3 else if src = Inj.internal then 2 else 1

/-- Is the last conversion of the group in progress complete in this tick, its result not yet delivered (R339)? -/
def State.groupEnding (s : State) : Bool :=
  match s.hkc.group, s.hkc.conv with
  | some (src, i, chs, _), some c => decide (c.src = src ∧ chs.length ≤ i + 1 ∧ c.start + convTicks ≤ s.mono)
  | _, _ => false

/-- A group triggered in this tick gives way to a trigger of a source that takes precedence: it never started (R345). -/
def State.dropGroup (s : State) : State :=
  match s.hkc.group with
  | some (src, _, _, _) =>
    { s with
      hkc.group := none
      hkc.hostGroups := s.hkc.hostGroups - (if src = Inj.host then 1 else 0)
      hkc.internalGroups := s.hkc.internalGroups - (if src = Inj.internal then 1 else 0) }
  | none => s

/-- Does a self-calibration run that began before this tick? One that begins in this tick gives way to an injected trigger of the tick,
which comes before it (R339). -/
def State.selfcalRuns (s : State) : Bool :=
  match s.hkc.calRun with | some t => decide (t < s.mono) | none => false

/-- An injected trigger of COIL or INTERNAL, or of HOST past the guard; the flag says that it was ignored (R345, R352). A
trigger in the tick in which the group in progress is complete starts its own group in that tick (R339). -/
def State.inject (s : State) (src : Nat) (chs : List Nat) (eng : Nat) : State × Bool :=
  let s := s.doSelfcalDone
  let busy := s.injLost Reg.HKC_INJ_BUSY
  if s.selfcalRuns then (s.injLost Reg.HKC_INJ_BLOCKED, true)
  else if s.hkc.calRun.isSome then (State.startGroup { s with hkc.calRun := none } src chs eng, false)
  else if s.groupEnding then
    match s.hkc.next with
    | none => ({ s with hkc.next := some (src, chs, eng) }, false)
    | some (other, _, _) =>
      if injRank other < injRank src then ({ busy with hkc.next := some (src, chs, eng) }, false) else (busy, true)
  else match s.hkc.group with
    | none => (s.startGroup src chs eng, false)
    | some (other, _, _, _) =>
      if s.hkc.groupAt = s.mono ∧ injRank other < injRank src then (busy.dropGroup.startGroup src chs eng, false)
      else (busy, true)

/-- A HOST trigger (R343, R347): under GUARD it is held while a coil is active or self-calibration runs, one deep. -/
def State.hostTrigger (s : State) : State :=
  let s := s.doSelfcalDone
  let guarded := s.flag Fld.HKC_INJ_CFG_GUARD
  if guarded && s.hkc.heldHost then s.injLost Reg.HKC_INJ_BUSY
  else if guarded && (!s.coilQuiet || s.selfcalRuns) then { s with hkc.heldHost := true }
  else (s.inject Inj.host s.hostChannels 0).1

/-- INJ_GO is written 1: it reads 1 until its group starts or its trigger is counted (R356). -/
def State.doInjGo (s : State) : State :=
  let t := s.hostTrigger
  if t.hkc.heldHost && !s.hkc.heldHost then t.setFld Fld.HKC_CTRL_INJ_GO 1 else t

def execInjGo (s : State) : Host.Outcome State Fault Refusal := run (fun s => s.woken.doInjGo) s

/-- A held HOST trigger starts at the first tick at which both coil groups are idle and nothing is in its way (R347). -/
def State.doHeldStart (s : State) : State :=
  if s.hkc.heldHost && s.coilQuiet && s.hkc.calRun.isNone && s.hkc.group.isNone then
    State.startGroup (State.setFld { s with hkc.heldHost := false } Fld.HKC_CTRL_INJ_GO 0) Inj.host s.hostChannels 0
  else s

def execHkcHeldTriggerStart (s : State) : Host.Outcome State Fault Refusal := run State.doHeldStart s

/-! ## Regular triggers (R340, R341) -/

/-- A run starts in this tick, with the settings of that tick (R340). -/
def State.startRegRun (s : State) : State :=
  let s := s.bump Reg.HKC_SEQ_COUNT
  State.hkcServe { s with
    hkc.run := some (0, s.fld Fld.HKC_REG_CFG_LEN, s.regChannels, s.mono), hkc.retrig := s.flag Fld.HKC_REG_CFG_RETRIG } s.mono

/-- Is the run's last conversion complete in this tick, its result not yet delivered (R341)? -/
def State.runEnding (s : State) : Bool :=
  match s.hkc.run, s.hkc.conv with
  | some (i, n, _, _), some c => decide (c.src = 0 ∧ n ≤ i + 1 ∧ c.start + convTicks ≤ s.mono)
  | _, _ => false

/-- A regular trigger (R340, R341). One that arrives in the completion tick starts a new run, as a held one does.
RETRIG is the one that the run in progress started with. -/
def State.regTrigger (s : State) : State :=
  let s := s.doSelfcalDone
  if !s.flag Fld.HKC_REG_CFG_EN then s
  else if s.hkc.run.isNone then s.startRegRun
  else if (s.hkc.retrig || s.runEnding) && !s.hkc.pend then { s with hkc.pend := true }
  else (s.bump Reg.HKC_OVERRUN).sticky Fld.HKC_STATUS_OVERRUN

def execRegGo (s : State) : Host.Outcome State Fault Refusal := run (fun s => s.woken.regTrigger) s

/-- The timer fires where device time is a multiple of its period (R340). -/
def State.doRegTimer (s : State) : State :=
  if s.flag Fld.HKC_REG_CFG_TIMER_EN && s.now % (250000 * max 1 (s.fld Fld.HKC_REG_CFG_DIV)) = 0 then
    s.regTrigger
  else s

def execHkcRegTimer (s : State) : Host.Outcome State Fault Refusal := run State.doRegTimer s

/-! ## Results (R337, R338, R342, R348) -/

/-- The delivered value of a raw code (R337). -/
def State.hkcValue (s : State) (raw : Int) : Nat :=
  clampN 4095 (rndDiv ((raw - sgn 12 (fldOf s.hkc.trim Fld.CAL_TRIM_HKC_OFS)) * fldOf s.hkc.trim Fld.CAL_TRIM_HKC_GAIN) 2048)

/-- A result register's word (R356). -/
def resultWord (value : Nat) (gated : Bool) (src seq : Nat) : Word :=
  BitVec.ofNat 32 (value + 2 ^ 12 * b2n gated + 2 ^ 13 * src + 2 ^ 16 * (seq % 256) + 2 ^ 31)

/-- The queue takes a result (R349). -/
def State.enqueue (s : State) (c : Conv) (value : Nat) (gated : Bool) (seq : Nat) : State :=
  if !bitN (s.fld Fld.HKC_Q_CFG_SRC_MASK) c.src then s
  else if 64 ≤ s.hkc.queue.length then (s.bump Reg.HKC_Q_LOST).sticky Fld.HKC_STATUS_Q_OVF
  else
    let t : Int := s.now - (s.mono - (c.start + acqTicks : Nat))
    let e : HkcEntry :=
      { lo := BitVec.ofNat 32 (value + 2 ^ 12 * c.ch + 2 ^ 17 * c.src + 2 ^ 19 * b2n gated + 2 ^ 20 * (seq % 256) + 2 ^ 31)
        hi := BitVec.ofNat 32 (wrapN 16 t) }
    let s := { s with hkc.queue := s.hkc.queue ++ [e] }
    s.setFld Fld.HKC_Q_LEVEL_HIGH (max (s.fld Fld.HKC_Q_LEVEL_HIGH) s.hkc.queue.length)

/-- The cross-check's share of a conversion (R316): the monitor input's code with the newest code of channel 10, the scale and
the spacing of samples. The sum is in units of 2 fJ. -/
def State.xchkSample (s : State) (c : Conv) (value : Nat) : State :=
  if !s.flag Fld.TOL_XCHK_CFG_EN then
    (if c.ch = s.fld Fld.TOL_XCHK_CFG_CH then { s with tol.xAt := some (c.start + acqTicks) } else s)
  else if c.ch = 10 then { s with tol.xSeen10 := true }
  else if c.ch = s.fld Fld.TOL_XCHK_CFG_CH then
    let t := c.start + acqTicks
    let gap := match s.tol.xAt with | some a => t - a | none => 0
    { s with
      tol.xSeen := true, tol.xAt := some t
      tol.xMeas := s.tol.xMeas + s.regN (Reg.HKC_CH 10) % 4096 * s.fld Fld.TOL_XCHK_CFG_SCALE * value * gap }
  else s

/-- What a conversion's result does beside its registers: the sensor's references (R51), the thermal monitor's reading
times (R326), the temperature step of R351, a coil engine's sample (R196), and HKC_TRIM's raw codes (R354). -/
def State.hkcDeliver (s : State) (c : Conv) (raw : Int) (value : Nat) (gated : Bool) : State :=
  let s := if c.ch = 13 then s.setFld Fld.SEN_VB_MEAS_VOLTS (10 * value)
    else if c.ch = 14 then s.setFld Fld.SEN_VREFQ_MEAS_VOLTS (10 * value) else s
  let s := if 15 ≤ c.ch ∧ c.ch ≤ 21 ∧ !gated then
      { s with tol.convAt := modAt s.tol.convAt (c.ch - 15) fun _ => some (s.mono, value) } else s
  let s := s.xchkSample c value
  let s :=
    if c.ch = 15 ∧ s.hkc.calAt.isSome then
      -- the reading at the last completed self-calibration; the first one after it where there was none (log 112)
      match s.hkc.calTemp with
      | none => { s with hkc.calTemp := some value }
      | some v =>
        if 0 < s.fld Fld.HKC_CAL_CFG_DT_K ∧ 10 * s.fld Fld.HKC_CAL_CFG_DT_K < ((value : Int) - v).natAbs then
          { s with hkc.calDue := true }
        else s
    else s
  if c.src = Inj.coil then
    let put := fun (e : Eng) => match e.sampling with
      | some w => { e with samples := e.samples ++ [(w, value)], sampling := none }
      | none => e
    if c.eng = 0 then { s with coil.a := put s.coil.a } else { s with coil.b := put s.coil.b }
  else if c.src = Inj.internal then
    match s.casks.cal with
    | some k =>
      -- a group that an aborted HKC_TRIM has left behind is not one of this one's
      let own := match k.groupBase with | some b => decide (b ≤ s.hkc.groupAt) | none => false
      if !own then s
      else { s with casks.cal := some (if c.ch = 22 then { k with raws22 := k.raws22 ++ [raw] }
                                       else { k with raws23 := k.raws23 ++ [raw] }) }
    | none => s
  else s

/-- The number of a result's run or group (R342, R348). -/
def State.hkcSeq (s : State) (c : Conv) : Nat :=
  match c.src with
  | 0 => s.regN Reg.HKC_SEQ_COUNT
  | 1 => s.hkc.hostGroups
  | 2 => if c.eng = 0 then s.hkc.coilGroupsA else s.hkc.coilGroupsB
  | _ => s.hkc.internalGroups

/-- A regular run's last conversion is complete at elapsed tick `t` (R341, R356). -/
def State.endRegRun (s : State) (start t : Nat) : State :=
  let d := min (t - start) 0xFFFF
  let s := (s.setFld Fld.HKC_REG_DUR_LAST d).setFld Fld.HKC_REG_DUR_MAX (max d (s.fld Fld.HKC_REG_DUR_MAX))
  let s := { s with hkc.run := none }
  if s.hkc.pend then
    let s := { s with hkc.pend := false }
    let s := s.bump Reg.HKC_SEQ_COUNT
    { s with hkc.run := some (0, s.fld Fld.HKC_REG_CFG_LEN, s.regChannels, t), hkc.retrig := s.flag Fld.HKC_REG_CFG_RETRIG }
  else s

/-- The group that waited for the completion of the one before it starts (R339). -/
def State.startNext (s : State) : State :=
  match s.hkc.next with
  | some (src, chs, eng) => State.startGroup { s with hkc.next := none } src chs eng
  | none => s

/-- The conversion in the converter is complete with a raw code (R337 to R342, R348). -/
def State.doConversion (s : State) (raw : Int) : State :=
  match s.hkc.conv with
  | none => s
  | some c =>
    if s.mono < c.start + convTicks then s
    else
      let t := c.start + convTicks
      let gated := c.gated
      let value := if gated then 0 else s.hkcValue raw
      let seq := s.hkcSeq c
      let s := if c.src = 0 then s.setReg (Reg.HKC_RES c.idx) (resultWord value gated 0 seq)
        else if c.src = Inj.host then s.setReg (Reg.HKC_INJ_RES c.idx) (resultWord value gated 0 seq) else s
      let s := if 16 ≤ c.ch ∧ c.ch ≤ 20 ∧ !s.present (c.ch - 16) then s
        else s.setReg (Reg.HKC_CH c.ch) (resultWord value gated c.src seq)
      let s := (s.enqueue c value gated seq).hkcDeliver c raw value gated
      let s := { s with hkc.conv := none }
      let s :=
        if c.src = 0 then match s.hkc.run with
          | some (i, n, chs, st) => if i + 1 < n then { s with hkc.run := some (i + 1, n, chs, st) } else s.endRegRun st t
          | none => s
        else match s.hkc.group with
          | some (src, i, chs, eng) =>
            if i + 1 < chs.length then { s with hkc.group := some (src, i + 1, chs, eng) }
            else
              State.startNext { s with hkc.group := none }
          | none => s
      s.hkcServe t

def execHkcConversionComplete (raw : Int) (s : State) : Host.Outcome State Fault Refusal :=
  runIf "HKC_CONVERSION_COMPLETE" (Instr.wf (.hkcConversionComplete raw)) (fun s => s.doConversion raw) s

/-! ## The queue (R350) -/

/-- A read of HKC_Q_LO removes the oldest entry. DESIGN CHOICE (log 104): a read of an empty queue captures nothing. -/
def State.doQRead (s : State) : State :=
  if s.pow.st = .recall then s.recallRead Reg.HKC_Q_LO [Reg.HKC_Q_HI]
  else match s.hkc.queue with
    | [] => s.emit (.readData Reg.HKC_Q_LO 0)
    | e :: t =>
      let s := { s with hkc.queue := t }
      (s.capture Reg.HKC_Q_HI e.hi).emit (.readData Reg.HKC_Q_LO e.lo)

def execHkcQLoRead (s : State) : Host.Outcome State Fault Refusal := run State.doQRead s

def execQFlush (s : State) : Host.Outcome State Fault Refusal := run (fun s => { s.woken with hkc.queue := [] }) s

/-! ## Self-calibration (R351, R352) -/

/-- SELFCAL is written 1: self-calibration becomes due, and the bit reads 1 until one completes. -/
def State.requestSelfcal (s : State) : State :=
  State.setFld { s with hkc.calDue := true } Fld.HKC_CTRL_SELFCAL 1

def execSelfcal (s : State) : Host.Outcome State Fault Refusal := run (fun s => s.woken.requestSelfcal) s

def execHkcSelfcalStart (s : State) : Host.Outcome State Fault Refusal :=
  run (fun s => if s.hkcFree && s.selfcalClear then { s with hkc.calRun := some s.mono } else s) s

/-- The period since the last completed self-calibration has passed (R351). -/
def State.doSelfcalPeriod (s : State) : State :=
  let p := s.fld Fld.HKC_CAL_CFG_PERIOD_S
  match s.hkc.calAt with
  | some t => if 0 < p ∧ t + 250000000 * p ≤ s.mono then { s with hkc.calDue := true } else s
  | none => s

def execHkcSelfcalPeriod (s : State) : Host.Outcome State Fault Refusal := run State.doSelfcalPeriod s

def execHkcSelfcalDone (s : State) : Host.Outcome State Fault Refusal := run State.doSelfcalDone s

/-- A coil profile starts or restarts: a running self-calibration is aborted and stays due (R352). -/
def State.selfcalAbort (s : State) : State :=
  let s := s.doSelfcalDone
  if s.hkc.calRun.isSome then
    State.hkcServe (State.sticky { s with hkc.calRun := none } Fld.HKC_STATUS_CAL_ABORTED) s.mono
  else s

end Sys2Proof.Machine
end

