-- ==== Sys2Proof/Machine/Coil.lean ====
section
/-! DEFINITION. The coil drive (chapter 7): requests and runs of the two groups, the sequencer engines, current
regulation, kink detection, gaps and stops. The meanings of its events stand in `Sys2Proof/Machine/Shutter.lean`, where
a calibration that waits for the shutter takes part. -/

namespace Sys2Proof.Machine

open Sys2Proof

/-! ## Engines and groups -/

def State.eng (s : State) (g : Group) : Eng := match g with | .a => s.coil.a | .b => s.coil.b

def State.setEng (s : State) (g : Group) (e : Eng) : State :=
  match g with
  | .a => { s with coil.a := e }
  | .b => { s with coil.b := e }

/-- The on-time of a group's switches up to now is metered: the newest conversion of channel 12 times TARGET times the time, in
10 mV, mA and ticks (R314). -/
def State.meter (s : State) (g : Group) : State :=
  let e := s.eng g
  let pay := match e.hs, e.phase with
    | true, some (_, _, target, _, _) => s.regN (Reg.HKC_CH 12) % 4096 * target * (s.mono - e.onSince)
    | _, _ => 0
  State.setEng { s with coil.metered := s.coil.metered + pay } g { e with onSince := s.mono }

def grpIdx : Group → Nat
  | .a => 0
  | .b => 1

/-- The group of a coil code (R207). -/
def groupOf (coil : Nat) : Group := if coil < 2 then .a else .b

def grpKinkCfg : Group → Nat
  | .a => Reg.COIL_KINK_CFG_A
  | .b => Reg.COIL_KINK_CFG_B
def grpStart : Group → Nat
  | .a => Reg.COIL_ENG_A_START_LO
  | .b => Reg.COIL_ENG_B_START_LO
def grpKink : Group → Nat
  | .a => Reg.COIL_ENG_A_KINK_LO
  | .b => Reg.COIL_ENG_B_KINK_LO
def grpDmax : Group → Nat
  | .a => Reg.COIL_ENG_A_DMAX
  | .b => Reg.COIL_ENG_B_DMAX
def grpOc : Group → Fld
  | .a => Fld.COIL_OC_GRP_A
  | .b => Fld.COIL_OC_GRP_B

/-- Reasons of COIL_ENG_g_STATUS (R209). -/
abbrev CoilEnd.done : Nat := 0
abbrev CoilEnd.restarted : Nat := 1
abbrev CoilEnd.oc : Nat := 2
abbrev CoilEnd.illegal : Nat := 3
abbrev CoilEnd.stopped : Nat := 4
abbrev CoilEnd.power : Nat := 5
abbrev CoilEnd.stuck : Nat := 6

/-- The switches are enabled (R186). -/
def State.coilEnabled (s : State) : Bool :=
  s.pow.st = .keepWarm || s.pow.st = .ready || s.pow.st = .stream || s.pow.st = .take

/-! ## Positions (R162, R200, R449) -/

/-- The shutter's state changes; the frame now integrating carries SHUTTER unless it is OPEN throughout (R162). -/
def State.setShut (s : State) (m : MechState) : State :=
  let s := { s with casks.shut := m }
  if m = .one then s else s.mapFrames fun f => if f.closed then f else { f with shutter := true }

/-- The position state of a group. -/
def State.setPos (s : State) (g : Group) (m : MechState) : State :=
  match g with
  | .a => s.setShut m
  | .b => { s with coil.filt := m }

/-- The position that a counting kink on a coil proves: LS_A0 CLOSED, LS_A1 OPEN, LS_B0 IN, LS_B1 OUT. -/
def kinkPos (coil : Nat) : MechState := if coil = 0 ∨ coil = 3 then .two else .one

/-! ## Completions (R207, R265, R268, R270) -/

/-- The word that an engine executes, or the last one that it executed (R209): a JUMP_IF or a SET_FLAG takes its own tick. -/
def State.wordAt (s : State) (e : Eng) : Nat :=
  if e.st = .running ∧ e.fetch ∧ s.mono < e.readyAt then e.last else min e.pc 127

/-- What a COIL_RUN reports: t_kink or all ones, and the block of t_start, t_kink and the last word. -/
def State.coilReport (s : State) (cid status reason : Nat) (kink : Option Nat) (start last : Nat) : State :=
  let k := kink.getD allOnes
  s.complete cid status reason (some k) (some (leBytes 8 start ++ leBytes 8 k ++ leBytes 1 last))

/-- A request that has run ends. -/
def State.endReq (s : State) (e : Eng) (r : CoilReq) (status reason : Nat) : State :=
  match r.cid with
  | some cid => s.coilReport cid status reason (if e.kinked then some e.tKink else none) e.tStart (s.wordAt e)
  | none => s

/-- A request that never ran ends; its start and last word are not stated (log 6). -/
def State.endUnrun (s : State) (r : Option CoilReq) (status reason : Nat) : State :=
  match r with
  | some { cid := some cid, .. } => s.drew.coilReport cid status reason none (s.freeVal % 2 ^ 64) (s.freeVal % 256)
  | _ => s

/-! ## Starting (R186, R194, R201, R209) -/

/-- The state of an engine at the start of a run (R194): flags, records and windows are cleared, and the engine stands at the
entry word. -/
def Eng.begin (e : Eng) (r : CoilReq) (now : Nat) : Eng :=
  { e with
    st := .running, req := some r, restart := none, pc := r.entry, coil := r.coil, flags := 0, kinked := false
    counted := false, gapRec := false, fetch := true, readyAt := now, ran := false, reached := none, untimed := 0
    wait := none, samples := [], decided := 0, sampling := none }

/-- A profile starts from IDLE or GAP. -/
def State.startProfile (s : State) (g : Group) (r : CoilReq) : State :=
  let e := (s.eng g).begin r s.mono
  let e := { e with
    hold := none, tStart := s.now, gridStart := s.mono, hs := false, ls := false, phase := none, blankEnd := none
    offSince := none, cfg := s.reg Reg.COIL_CFG, kinkCfg := s.reg (grpKinkCfg g), gapAfterEnd := false, endTick := none
    stuck := false }
  let s := (s.setEng g e).setPair (grpStart g) s.now
  (s.setPos g .moving).selfcalAbort

/-- A profile restarts at a grid point (R201): the command it replaces ends; the current it carries is kept. -/
def State.restartProfile (s : State) (g : Group) (r : CoilReq) : State :=
  let s := s.meter g
  let e := s.eng g
  let s := match e.req with
    | some q => s.endReq e q St.aborted CoilEnd.restarted
    | none => s
  let e := { (e.begin r s.mono) with reason := CoilEnd.restarted }
  ((s.setEng g e).setPos g .moving).selfcalAbort

/-- The result of asking a group for a profile (R201). -/
inductive Grant where
  | started
  | waiting
  | refused
  deriving DecidableEq, Repr

/-- A request to a group: started, held or waiting, or refused (R201, R204). -/
def State.requestCoil (s : State) (r : CoilReq) : State × Grant :=
  let g := groupOf r.coil
  let e := s.eng g
  if !s.coilEnabled || s.flag (grpOc g) || e.stuck then (s, .refused)
  else match e.st with
    | .idle => (s.startProfile g r, .started)
    | .running =>
      if e.coil = r.coil then
        ((s.endUnrun e.restart St.aborted CoilEnd.restarted).setEng g { e with restart := some r }, .waiting)
      else if e.hold.isNone then (s.setEng g { e with hold := some r }, .waiting)
      else (s, .refused)
    | .gap => if e.hold.isNone then (s.setEng g { e with hold := some r }, .waiting) else (s, .refused)

/-! ## Stopping (R186, R191, R195, R202, R205, R206) -/

/-- The running profile of a group ends: its switches turn off, it enters GAP, and its command completes. A profile that
ends without a counting kink, or by over-current, leaves the position UNKNOWN. -/
def State.endProfile (s : State) (g : Group) (status reason code : Nat) : State :=
  let s := s.meter g
  let e := s.eng g
  if e.st ≠ .running then s
  else
    let s := match e.req with
      | some q => s.endReq e q status code
      | none => s
    let s := if e.counted && reason ≠ CoilEnd.oc then s else s.setPos g .unknown
    s.setEng g { e with
      st := .gap, req := none, restart := none, hs := false, ls := false, phase := none, fetch := false, wait := none
      sampling := none, blankEnd := none, offSince := none, reason, gapStart := s.mono
      gapAfterEnd := reason = CoilEnd.done, endTick := some s.now, pc := s.wordAt e }

/-- A stop other than END: the waiting restart ends like the running command (R201). -/
def State.stopProfile (s : State) (g : Group) (reason : Nat) : State :=
  let e := s.eng g
  (s.endProfile g St.aborted reason reason).endUnrun e.restart St.aborted reason

/-- A held request is discarded. -/
def State.dropHeld (s : State) (g : Group) (reason : Nat) : State :=
  let e := s.eng g
  (s.endUnrun e.hold St.aborted reason).setEng g { e with hold := none }

/-- The switches lose their enable (R186): both engines stop, and running and held commands end. -/
def State.coilPowerStop (s : State) : State :=
  let s := ((s.stopProfile .a CoilEnd.power).dropHeld .a CoilEnd.power)
  ((s.stopProfile .b CoilEnd.power).dropHeld .b CoilEnd.power)

/-- END with its result code (R195, R201, R207): a waiting restart is handled as a request made in GAP. -/
def State.finishProfile (s : State) (g : Group) (result : Nat) : State :=
  let e := s.eng g
  let s := s.setEng g { e with result }
  let s := s.endProfile g St.ok CoilEnd.done (result + 4 * b2n e.kinked + 8 * b2n e.gapRec)
  match e.restart with
  | none => s
  | some r =>
    let e := s.eng g
    if e.hold.isNone then s.setEng g { e with hold := some r } else s.endUnrun (some r) St.busy Why.none

/-! ## Microcode (R189 to R193) -/

def ucOp (w : Nat) : Nat := w / 2 ^ 29

/-- Is a word legal (R190, R191)? -/
def ucLegal (w : Nat) : Bool :=
  match ucOp w with
  | 0 => w / 2 ^ 26 % 4 ≠ 3 && w / 2 ^ 18 % 256 ≤ 250 && w / 2 ^ 16 % 4 ≠ 3 && w / 2 ^ 12 % 8 = 0 && w % 4096 ≠ 0
  | 1 => w / 2 ^ 20 % 256 = 0 && w / 2 ^ 12 % 2 = 0 && w % 4096 ≠ 0
  | 2 => w / 2 ^ 25 % 16 ≠ 7 && w % 2 ^ 18 = 0
  | 3 => w % 2 ^ 25 = 0
  | 4 => w % 2 ^ 27 = 0
  | _ => false

/-- The word an engine stands at. -/
def State.ucWord (s : State) (e : Eng) : Nat := s.regN (Reg.COIL_UCODE (e.pc % 128))

/-- Is an engine about to execute a legal word with this opcode? The 256th untimed instruction in a row executes before the engine stops
(R189); an END in that place ends the profile with OK (DESIGN CHOICE, log 116). -/
def State.atWord (s : State) (e : Eng) (op : Nat) : Bool :=
  e.st = .running && e.fetch && e.readyAt ≤ s.mono && e.pc < 128 && e.untimed < 256 &&
    ucLegal (s.ucWord e) && ucOp (s.ucWord e) = op && (op ≠ 1 || e.ran)

/-- Is an engine at a word that is illegal, or past the last word (R189, R191, R193)? -/
def State.atIllegal (s : State) (e : Eng) : Bool :=
  e.st = .running && e.fetch && e.readyAt ≤ s.mono && e.untimed < 256 &&
    (128 ≤ e.pc || !ucLegal (s.ucWord e) || (ucOp (s.ucWord e) = 1 && !e.ran))

/-- The engine goes to a word, to be executed from elapsed tick `t` on. -/
def Eng.goto (e : Eng) (pc t : Nat) : Eng := { e with pc, fetch := true, readyAt := t, wait := none, sampling := none }

/-- Ticks of a PHASE's duration unit (R190). -/
def unitTicks (u : Nat) : Nat := if u = 0 then 2500 else if u = 1 then 25000 else 250000

/-! ## Current regulation (R187, R188) -/

/-- The decay mode's switches at elapsed tick `t` in an off interval that began at `t0`. -/
def Eng.decay (e : Eng) (code t0 t : Nat) : Eng :=
  { e with hs := false
           ls := code = 0 || (code = 2 && t0 + 250 * fldOf e.cfg Fld.COIL_CFG_MIX_US ≤ t) }

/-- The off interval begins at elapsed tick `t`. -/
def Eng.offFrom (e : Eng) (t : Nat) : Eng :=
  match e.phase with
  | some (_, code, _, _, _) => { (e.decay code t t) with offSince := some t, blankEnd := none }
  | none => e

/-- A PHASE with reach ends where the sensed current is at its target. -/
def Eng.reachEnd (e : Eng) (t : Nat) : Eng :=
  match e.phase with
  | some (off, code, target, stop, true) =>
    if !off && !e.fetch && e.wait.isNone then
      { (e.goto (e.pc + 1) t) with phase := some (off, code, target, stop, false), reached := some true }
    else e
  | _ => e

/-- PHASE executes (R190, R192). Switches that are on stay on until the comparator or the next grid point changes them; in
an off interval the new decay mode holds. -/
def State.doPhase (s : State) (g : Group) : State :=
  if !s.atWord (s.eng g) 0 then s
  else
    let s := s.meter g
    let e := s.eng g
    let w := s.ucWord e
    let off := bitN w 28
    let code := w / 2 ^ 26 % 4
    let stop := s.mono + w % 4096 * unitTicks (w / 2 ^ 16 % 4)
    let e := { e with phase := some (off, code, 10 * (w / 2 ^ 18 % 256), stop, bitN w 15)
                      fetch := false, ran := true, untimed := 0, last := e.pc }
    let e :=
      if off then { (e.decay code s.mono s.mono) with offSince := some s.mono, blankEnd := none }
      else match e.offSince with
        | some t0 => e.decay code t0 s.mono
        | none => e
    s.setEng g e

/-- The PHASE has run its duration (R192). -/
def State.doPhaseEnd (s : State) (g : Group) : State :=
  let e := s.eng g
  match e.phase with
  | some (off, code, target, stop, reach) =>
    if e.st = .running && !e.fetch && e.wait.isNone && decide (stop ≤ s.mono) then
      let e := { (e.goto (e.pc + 1) s.mono) with phase := some (off, code, target, stop, false) }
      s.setEng g (if reach then { e with reached := some false } else e)
    else s
  | none => s

/-- A point of the chop grid (R187, R201): a waiting restart takes place; under SUPPLY = VPP both switches turn on, and
the comparator is blanked for 1 µs. -/
def State.doGridPoint (s : State) (g : Group) : State :=
  let s := s.meter g
  let e := s.eng g
  if e.st ≠ .running ∨ (s.mono - e.gridStart) % 6250 ≠ 0 then s
  else
    let s := match e.restart with
      | some r => if e.gridStart < s.mono then s.restartProfile g r else s
      | none => s
    let e := s.eng g
    match e.phase with
    | some (false, _, _, _, _) =>
      s.setEng g { e with hs := true, ls := true, blankEnd := some (s.mono + 250), offSince := none }
    | _ => s

/-- Blanking ends (R187): with TARGET = 0, or the current already at the target, the off interval begins. -/
def State.doBlankEnd (s : State) (g : Group) (atTarget : Bool) : State :=
  let s := s.meter g
  let e := s.eng g
  match e.blankEnd, e.phase with
  | some b, some (false, _, target, _, _) =>
    if e.st = .running ∧ b ≤ s.mono then
      let e := { e with blankEnd := none }
      if target = 0 ∨ atTarget then s.setEng g ((e.offFrom s.mono).reachEnd s.mono) else s.setEng g e
    else s
  | _, _ => s

/-- The sensed current is at or above TARGET (R187, R192): the off interval begins, unless it has begun already. -/
def State.doAtTarget (s : State) (g : Group) : State :=
  let s := s.meter g
  let e := s.eng g
  match e.phase with
  | some (false, _, _, _, _) =>
    if e.st = .running && e.blankEnd.isNone then
      s.setEng g (if e.hs then (e.offFrom s.mono).reachEnd s.mono else e.reachEnd s.mono)
    else s
  | _ => s

/-- The fast part of MIXED decay is over (R188). -/
def State.doMixedEnd (s : State) (g : Group) : State :=
  let e := s.eng g
  match e.phase, e.offSince with
  | some (_, 2, _, _, _), some t0 => if e.st = .running then s.setEng g (e.decay 2 t0 s.mono) else s
  | _, _ => s

/-! ## Untimed instructions (R189, R190, R194) -/

/-- A condition of JUMP_IF (R190). -/
def State.jumpCond (s : State) (e : Eng) (c : Nat) : Bool :=
  match c with
  | 0 => true
  | 1 => e.kinked
  | 2 => !e.kinked
  | 3 => e.reached = some true
  | 4 => e.reached = some false
  | 5 => let v := s.regN (Reg.HKC_CH 12)
    v / 2 ^ 31 = 0 || v % 4096 < s.fld Fld.COIL_VPP_MIN_VALUE
  | 6 => e.gapRec
  | _ => if c < 12 then bitN e.flags (c - 8) else !bitN e.flags (c - 12)

def State.doJump (s : State) (g : Group) : State :=
  let e := s.eng g
  if !s.atWord e 2 then s
  else
    let w := s.ucWord e
    let pc := if s.jumpCond e (w / 2 ^ 25 % 16) then w / 2 ^ 18 % 128 else e.pc + 1
    s.setEng g { (e.goto pc (s.mono + 1)) with untimed := e.untimed + 1, last := e.pc }

def State.doSetFlag (s : State) (g : Group) : State :=
  let e := s.eng g
  if !s.atWord e 3 then s
  else
    let w := s.ucWord e
    let f := w / 2 ^ 27 % 4
    let v := w / 2 ^ 26 % 2
    let flags := e.flags - (e.flags / 2 ^ f % 2) * 2 ^ f + v * 2 ^ f
    let s := s.setEng g { (e.goto (e.pc + 1) (s.mono + 1)) with flags, untimed := e.untimed + 1, last := e.pc }
    if bitN w 25 then
      (s.sticky Fld.COIL_STATUS_FLAG_EVT).event 0x000A
        (leBytes 1 (grpIdx g) ++ leBytes 1 e.coil ++ leBytes 1 f ++ leBytes 1 v ++ leBytes 4 0 ++ leBytes 8 s.now)
    else s

/-- END executes (R195). -/
def State.doEnd (s : State) (g : Group) : State :=
  let e := s.eng g
  if !s.atWord e 4 then s else s.finishProfile g (s.ucWord e / 2 ^ 27 % 4)

def State.doIllegal (s : State) (g : Group) : State :=
  if s.atIllegal (s.eng g) then (s.sticky Fld.COIL_STATUS_ILLEGAL).stopProfile g CoilEnd.illegal else s

/-- 256 untimed instructions in a row have executed (R189): the engine stops at the last of them. -/
def State.doUntimed (s : State) (g : Group) : State :=
  let e := s.eng g
  if e.st = .running ∧ 256 ≤ e.untimed then
    ((s.setEng g { e with pc := e.last }).sticky Fld.COIL_STATUS_ILLEGAL).stopProfile g CoilEnd.illegal
  else s

/-! ## Kink detection (R193, R196 to R199) -/

def State.doWait (s : State) (g : Group) : State :=
  let e := s.eng g
  if !s.atWord e 1 then s
  else
    let w := s.ucWord e
    let s := s.setReg (grpDmax g) 0x8000
    s.setEng g { e with
      fetch := false, untimed := 0, last := e.pc, samples := [], decided := 0, sampling := none, dmax := none
      wait := some (s.mono, bitN w 28, w / 2 ^ 13 % 128, s.mono + 250000 * (w % 4096)) }

def State.doWaitTimeout (s : State) (g : Group) : State :=
  let e := s.eng g
  match e.wait with
  | some (_, _, miss, stop) => if e.st = .running ∧ stop ≤ s.mono then s.setEng g (e.goto miss s.mono) else s
  | none => s

/-- The fields of a kink configuration (the layout is the same in both registers). -/
def kinkThr (v : Word) : Nat := fldOf v Fld.COIL_KINK_CFG_A_THR
def kinkAvg (v : Word) : Nat := fldOf v Fld.COIL_KINK_CFG_A_AVG
def kinkSamp (v : Word) : Nat := fldOf v Fld.COIL_KINK_CFG_A_SAMP
def kinkBlank (v : Word) : Nat := fldOf v Fld.COIL_KINK_CFG_A_BLANK

/-- Ticks of a window (R197). -/
def Eng.winTicks (e : Eng) : Nat := 6250 * kinkAvg e.kinkCfg

/-- A sampling tick of a WAIT_KINK (R196): an injected conversion, or a lost one (R199). -/
def State.doSample (s : State) (g : Group) : State :=
  let e := s.eng g
  let step := 1250 * 2 ^ kinkSamp e.kinkCfg
  match e.wait with
  | some (t0, _, _, _) =>
    if e.st ≠ .running ∨ s.now % step ≠ 625 * (grpIdx g) then s
    else
      let s := s.setEng g { e with sampling := some ((s.mono - t0) / max 1 e.winTicks) }
      let (s, lost) := s.inject Inj.coil [6 + (grpIdx g)] (grpIdx g)
      if lost then
        let s := s.setEng g { s.eng g with sampling := none, gapRec := true }
        let s := s.sticky Fld.COIL_STATUS_GAP_SEEN
        match g with
        | .a => (s.sticky Fld.CAL_STATUS_KINK_GAP).setShut .unknown
        | .b => s
      else s
  | none => s

/-- Sum and number of a window's samples. -/
def winSum (samples : List (Nat × Nat)) (m : Nat) : Int × Nat :=
  let l := (samples.filter (·.1 = m)).map (·.2)
  (sumN l, l.length)

/-- D of a window as a fraction: numerator and positive denominator (R197); none where a window holds no sample. -/
def secondDiff (samples : List (Nat × Nat)) (m : Nat) : Option (Int × Nat) :=
  let (a, na) := winSum samples m
  let (b, nb) := winSum samples (m - 1)
  let (c, nc) := winSum samples (m - 2)
  if na = 0 ∨ nb = 0 ∨ nc = 0 then none
  else some (a * nb * nc - 2 * b * na * nc + c * na * nb, na * nb * nc)

/-- A kink is confirmed (R198 to R200, R449): recorded, counted if the run has no gap record, and reported to
restoration with its episode (R137). -/
def State.confirmKink (s : State) (g : Group) : State :=
  let e := s.eng g
  let s := s.sticky (match g with | .a => Fld.COIL_STATUS_KINK_A | .b => Fld.COIL_STATUS_KINK_B)
  let s := s.setPair (grpKink g) s.now
  let count := !e.gapRec
  let s := s.setEng g { (e.goto (e.pc + 1) s.mono) with kinked := true, tKink := s.now, counted := e.counted || count }
  let s := if count then (s.setPos g (kinkPos e.coil)).ctrInc (if e.coil = 0 then 0 else if e.coil = 1 then 1 else 2) else s
  -- the settings latched for the frame that integrates (R86)
  let cfg := fun (x : Fld) => match s.frameOf s.tmg.frame with | some f => f.fld x | none => s.fld x
  let travel := 250000 * cfg Fld.TRS_COIL_CFG_TRAVEL
  let settle := 250000 * cfg Fld.TRS_COIL_CFG_SETTLE
  s.kinkFlush (max e.tStart (s.now - travel)) (s.now + settle)

/-- A window of a WAIT_KINK has ended and its conversions are complete: the decision (R197, R198). -/
def State.doWindow (s : State) (g : Group) : State :=
  let e := s.eng g
  match e.wait with
  | none => s
  | some (t0, pol, _, _) =>
    let m := e.decided
    if e.st ≠ .running ∨ s.mono < t0 + (m + 1) * e.winTicks ∨ e.sampling = some m then s
    else
      let e := { e with decided := m + 1 }
      let s := s.setEng g { e with samples := e.samples.filter fun x => m ≤ x.1 + 1 }
      if m < kinkBlank e.kinkCfg + 2 then s
      else match secondDiff e.samples m with
        | none => s
        | some (num, den) =>
          let sd := rndDiv (if pol then num else -num) den
          let d := max sd (e.dmax.getD sd)
          let s := s.setEng g { s.eng g with dmax := some d }
          let s := s.setRegN (grpDmax g) (wrapN 16 (clampI (-32767) 32767 d))
          let thr : Int := kinkThr e.kinkCfg * den
          if (if pol then thr ≤ num else num ≤ -thr) then s.confirmKink g else s

/-! ## Over-current and GAP (R202, R205) -/

/-- The over-current comparator trips (R205). DESIGN CHOICE (log 116): it latches nothing while the switches are not enabled. -/
def State.doOverCurrent (s : State) (g : Group) : State :=
  if !s.coilEnabled then s
  else
    let e := s.eng g
    let s := (s.sticky (grpOc g)).event 0x000B
      (leBytes 1 (grpIdx g) ++ leBytes 1 e.coil ++ leBytes 1 (s.wordAt e) ++ leBytes 5 0 ++ leBytes 8 s.now)
    let s := (s.stopProfile g CoilEnd.oc).dropHeld g CoilEnd.oc
    let e := s.eng g
    let e := if e.st = .idle then { e with st := .gap, gapStart := s.mono, gapAfterEnd := false } else e
    (s.setEng g { e with hs := false, ls := false }).setPos g .unknown

/-- Ticks of COIL_GAP_US (R202). -/
def Eng.gapTicks (e : Eng) : Nat := 250 * fldOf e.cfg Fld.COIL_CFG_GAP_US

/-- The gap time has passed and the current is below the zero-current threshold (R202). -/
def State.doGapEnd (s : State) (g : Group) : State :=
  let e := s.eng g
  if e.st ≠ .gap ∨ s.mono < e.gapStart + e.gapTicks then s
  else match e.hold with
    | some r => if s.coilEnabled then s.startProfile g r else s
    | none => s.setEng g { e with st := .idle, stuck := false }

/-- 500 ms beyond the gap time the current still flows (R202). -/
def State.doGapStuck (s : State) (g : Group) : State :=
  let e := s.eng g
  if e.st ≠ .gap ∨ e.stuck ∨ s.mono < e.gapStart + e.gapTicks + 125000000 then s
  else
    let s := (s.sticky Fld.COIL_STATUS_GAP_STUCK).setEng g { e with stuck := true }
    s.dropHeld g CoilEnd.stuck

/-! ## Commands (R204, R206, R207) -/

/-- The first parameter of COIL_RUN at fault (R207). -/
def coilBad (coil entry : Nat) : Option Nat :=
  if 3 < coil then some 0x10 else if 127 < entry ∧ entry ≠ 0xFF then some 0x11 else none

/-- The entry word that a coil's field of COIL_ENTRY selects (R207). -/
def State.entryOf (s : State) (coil entry : Nat) : Nat :=
  if entry = 0xFF then s.regN Reg.COIL_ENTRY / 2 ^ (8 * coil) % 128 else entry

/-- Is a host COIL_RUN refused by a running calibration (R159)? -/
def State.calRefusesCoil (s : State) (coil : Nat) : Bool :=
  match s.casks.cal with
  | some k => k.kind = 0 || k.kind = 1 || k.kind = 4 || k.kind = 6 || (k.kind = 2 && coil < 2)
  | none => false

def State.doCoilRun (s : State) (h : Hdr) (coil entry : Nat) : State :=
  s.acceptCmd h Op.coilRun 4 (fun _ => coilBad coil entry) fun s cid =>
    if s.calRefusesCoil coil then s.fail cid St.busy Why.none
    else
      let (s, r) := s.requestCoil { coil, entry := s.entryOf coil entry, cid := some cid }
      if r = .refused then s.fail cid St.busy Why.none else s

/-- COIL_RUN with the STOP flag (R206). DESIGN CHOICE (log 116): a STOP acts whatever R159 and R204 say of a COIL_RUN, so that it is never
refused with BUSY. It has no run of its own: VALUE and t_kink report no kink, and the rest of its block is free (log 109). -/
def State.doCoilStop (s : State) (h : Hdr) (coil entry : Nat) : State :=
  s.acceptCmd h Op.coilRun 4 (fun _ => coilBad coil entry) fun s cid =>
    let g := groupOf coil
    let e := s.eng g
    -- the latest profile reached END in this tick, or in an earlier one and the GAP after it lasts
    let late := e.gapAfterEnd && (e.st = .gap || (e.st = .idle && decide (e.endTick = some s.now)))
    let running := e.st = .running
    let s := if running then s.stopProfile g CoilEnd.stopped else s
    let s := s.dropHeld g CoilEnd.stopped
    s.drew.coilReport cid (if late then St.abortLate else St.ok) Why.none none (s.freeVal % 2 ^ 64) (s.freeVal / 2 ^ 64 % 256)

end Sys2Proof.Machine
end

