-- ==== Sys2Proof/Machine/Calibration.lean ====
section
/-! DEFINITION. Calibrations (R156 to R182): acceptance, the shutter, captures, decisions, reports, requests and trims, with the
meanings of their commands and events. -/

namespace Sys2Proof.Machine

open Sys2Proof

/-! ## Names -/

abbrev Kind.offset : Nat := 0
abbrev Kind.tauMap : Nat := 1
abbrev Kind.twoPoint : Nat := 2
abbrev Kind.convTrim : Nat := 3
abbrev Kind.biasTrim : Nat := 4
abbrev Kind.gridTrim : Nat := 5
abbrev Kind.hkcTrim : Nat := 6

/-- Reason codes of R182. -/
abbrev Rej.kinkMissing : Nat := 1
abbrev Rej.kinkGap : Nat := 2
abbrev Rej.notOpen : Nat := 3
abbrev Rej.flat : Nat := 4
abbrev Rej.lowContrast : Nat := 5
abbrev Rej.agree : Nat := 6
abbrev Rej.implausible : Nat := 7
abbrev Rej.hostAbort : Nat := 8
abbrev Rej.interference : Nat := 9
abbrev Rej.discarded : Nat := 10
abbrev Rej.unstable : Nat := 11
abbrev Rej.power : Nat := 12

/-- The completion status of a reason (R179). -/
def rejStatus : Nat → Nat
  | 0 => St.ok
  | 1 => St.shutterUnconfirmed
  | 2 => St.shutterUnconfirmed
  | 3 => St.shutterUnconfirmed
  | 4 => St.sceneNotUniform
  | 5 => St.sceneNotUniform
  | 6 => St.agreeFail
  | 7 => St.trimImplausible
  | 11 => St.sceneNotUniform
  | _ => St.aborted

/-- The result code of a reason: PASS, FAIL, or ABORTED. -/
def rejResult (why : Nat) : Nat :=
  if why = 0 then 0 else if rejStatus why = St.aborted then 2 else 1

def calNeedsShut (kind : Nat) : Bool := kind = 0 || kind = 1 || kind = 4

/-! ## The report (R182) -/

def calRepZero : CalRep := { gen := 0, counted := 0, failing := 0, spread := 0, drift := 0, qSu := 0, qMk := 0, old := 0, new := 0 }

/-- The 80 bytes of a CALREPORT. -/
def Cal.report (k : Cal) (why : Nat) (racked : Option Nat) : List Byte :=
  let flags := b2n k.auto + 2 * b2n (bitN k.flags 2) + 4 * b2n racked.isSome + 8 * b2n (bitN k.flags 1) +
    16 * b2n (bitN k.flags 3)
  let r := k.rep
  let area := if k.kind < 3 then [k.area.x0, k.area.y0, k.area.w, k.area.h] else [0, 0, 0, 0]
  leBytes 1 k.kind ++ leBytes 1 (rejResult why) ++ leBytes 1 why ++ leBytes 1 flags ++
    leBytes 1 (if k.kind < 3 then k.target else 0xFF) ++ leBytes 3 0 ++ leBytes 4 (if why = 0 then r.gen else 0) ++
    (area.flatMap fun v => leBytes 1 v) ++ leBytes 8 (k.firstFrame.getD 0) ++ leBytes 8 k.lastFrame ++ leBytes 4 r.counted ++
    leBytes 4 r.failing ++ leBytes 4 r.spread ++ leBytes 4 (wrapN 32 r.drift) ++ leBytes 4 r.qSu ++ leBytes 4 r.qMk ++
    leBytes 4 k.closeUs ++ leBytes 4 k.openUs ++ leBytes 8 (racked.getD allOnes) ++ leBytes 4 r.old ++ leBytes 4 r.new

/-- A report is published on channel 2, and the registers follow it (R160, R179, R183). -/
def State.publishCal (s : State) (k : Cal) (why : Nat) (racked : Option Nat) : State :=
  let s := s.formRec 2 (plainRec 5 k.lastFrame (k.report why racked))
  let s := (s.sticky Fld.CAL_STATUS_REPORT).stickyIf (decide (why ≠ 0)) Fld.CAL_STATUS_REJECTED
  let s := s.setRegN Reg.CAL_LAST (k.kind + 2 ^ 8 * rejResult why + 2 ^ 16 * why)
  s.setRegN Reg.CAL_LAST_QUALITY k.rep.qSu

/-- The command of a calibration completes after its report has left channel 2 (R272). -/
def State.completeCal (s : State) (k : Cal) (why : Nat) : State :=
  match k.cid with
  | some cid => s.completeAfter 2 5 k.lastFrame cid (rejStatus why) why (some (if why = 0 then k.rep.gen else 0))
  | none => s

/-! ## The shutter (R161, R163) -/

/-- Is a request a calibration's own? -/
def CoilReq.own (r : CoilReq) (coil : Nat) : Bool := r.cid.isNone && r.coil = coil

/-- A calibration asks for a profile: one that finds a host profile running is held and starts after it (R163). -/
def State.calCoil (s : State) (coil entry : Nat) : State × Bool :=
  let r : CoilReq := { coil, entry, cid := none }
  let e := s.eng .a
  if e.st = .running && s.coilEnabled && !s.flag (grpOc .a) && !e.stuck then
    if e.hold.isNone then (s.setEng .a { e with hold := some r }, true) else (s, false)
  else
    let (s, g) := s.requestCoil r
    (s, g ≠ .refused)

/-- The open profile is asked for where the calibration moved the shutter and KEEP_CLOSED is clear; refused, it is not run. -/
def State.openShutter (s : State) (k : Cal) : State × Cal :=
  if k.moved && !bitN k.flags 1 && !k.opening then
    let (s, ok) := s.calCoil 1 (s.fld Fld.CAL_SHUT_CFG_OPEN_ENTRY)
    (s, { k with opening := ok })
  else (s, k)

/-! ## Ends -/

/-- A calibration ends other than by acceptance (R161, R163, R170, R179): its result is discarded, a calibration profile gives way
to the displaced one at the next snapshot, and the shutter is opened where `openUp` says so. -/
def State.rejectCal (s : State) (k : Cal) (why : Nat) (openUp : Bool) : State :=
  let (s, k) := if openUp then s.openShutter k else (s, k)
  let s := if why = Rej.hostAbort then s else { s with casks.decided := some s.mono }
  let s := { s with casks.cal := none, casks.restore := if k.stage = 2 then k.displaced else s.casks.restore }
  (s.publishCal k why none).completeCal k why

/-- An accepted calibration ends (R160). -/
def State.acceptCal (s : State) (k : Cal) (racked : Option Nat) : State :=
  (State.publishCal { s with casks.cal := none } k 0 racked).completeCal k 0

/-- A held capture is discarded (R175). -/
def State.discardHeld (s : State) : State :=
  match s.casks.held with
  | some h => State.publishCal { s with casks.held := none } h.cal Rej.discarded none
  | none => s

/-! ## Acceptance (R156, R157, R163, R170, R178) -/

/-- The first parameter at fault (R270, R179). -/
def State.calBad (s : State) (kind flags capture : Nat) : Option Nat :=
  if 6 < kind then some 0x10
  else if 15 < flags then some 0x11
  else if 2 < capture ∨ (kind = 2 ∧ capture = 0) ∨ (kind ≠ 2 ∧ capture ≠ 0) then some 0x12
  else if 3 ≤ kind ∧ s.flag Fld.SEC_STATUS_SEC_LOCK then some 0x10
  else none

/-- May a kind start in the power state (R156)? -/
def State.calState (s : State) (kind : Nat) : Bool :=
  s.pow.st = .ready || (s.pow.st = .stream && kind < 3) || (s.pow.st = .take && kind = 2)

def State.calTarget (s : State) : Nat := if s.casks.active = 0 then 1 else 0

/-- Does a kind find its target in use (R156)? -/
def State.targetBusy (s : State) (kind : Nat) : Bool :=
  kind < 3 && (s.rackPending s.calTarget || s.loading s.calTarget || (s.cask s.calTarget).copying)

/-- The dies that a band phase is dealt to (R170). -/
def State.bandDies (s : State) : List Nat :=
  (List.range 5).filter fun n =>
    (s.roleOf n = .stripe || s.roleOf n = .spare) && (s.die n).ready && !(s.die n).withdrawn

/-- Tile columns of each die of `d` in a band (R170). -/
def bandShares (d : Nat) : List Nat := (List.range d).map fun i => 64 / d + if i < 64 % d then 1 else 0

/-- P_cal of R170. -/
def bandPeriod (d level : Nat) : Nat :=
  max 65104 (ceilDiv (250 * (maxN (bandShares d) * 64 * 192) * 8) (1520 * capEighths level))

/-- The plan of a band phase (R170, R320): every stripe and spare die runs its share of the committed pass at P_cal, and
nothing goes to a channel. -/
def State.bandPlan (s : State) (period : Nat) : PlanTerms :=
  let t := s.planTerms s.rol.map (bandProfile { s.tol.prof with l := 0, mode := Mode.even } period 0) 0
  { t with hFrame := 0, dieFrame := (bandShares s.bandDies.length).map fun c => c * 64 * 192 * Config.coeff Coef.committed }

/-- How many frames a capture takes. -/
def State.calTotal (s : State) (kind : Nat) : Nat :=
  if kind = 0 ∨ kind = 2 then 2 * s.regN Reg.CAL_N
  else if kind = 1 then 16 * (s.fld Fld.CAL_TAU_CFG_LEAD + 6 * s.fld Fld.CAL_TAU_CFG_N)
  else if kind = 5 then 256
  else if kind = 6 then 0
  else 16

/-- A calibration as it starts. -/
def State.newCal (s : State) (kind flags capture : Nat) (auto : Bool) (cid : Option Nat) : Cal :=
  { kind, flags, capture, auto, cid, target := s.calTarget, stage := 1, closing := 0, opening := false, moved := false
    firstFrame := none, lastFrame := 0, total := s.calTotal kind, n := s.regN Reg.CAL_N, start := s.mono
    settleUntil := 0, closeUs := 0, openUs := 0, source := s.caskNow, win := s.tol.prof, acc := []
    gridSums := List.replicate 48 0, gridHalf1 := List.replicate 48 0, shortCount := 0, shortTicks := 0, actCount := 0, trimEdges := 0, framesSeen := 0, displaced := none
    pCal := bandPeriod s.bandDies.length s.tol.level, interfered := false, result := none, rep := calRepZero
    groupsDone := 0, tries := 0, groupBase := none, raws22 := [], raws23 := [] }

/-- The calibration starts: the shutter is closed where the kind needs it (R163), or self-calibration becomes due (R177). -/
def State.startCal (s : State) (k : Cal) : State :=
  let s := State.setRegN { s with casks.decided := none } Reg.CAL_REQ_RUN 0
  if k.kind = 6 then { s with casks.cal := some k, hkc.calDue := true }
  else if calNeedsShut k.kind then
    let settle := 250000 * s.fld Fld.CAL_SHUT_CFG_SETTLE_MS
    if s.casks.shut = .two then
      -- closed already: counted from the kink that closed it
      { s with casks.cal := some { k with settleUntil := s.mono + settle - (s.now - s.coil.a.tKink) } }
    else
      let (s, ok) := s.calCoil 0 (s.fld Fld.CAL_SHUT_CFG_CLOSE_ENTRY)
      if ok then { s with casks.cal := some { k with stage := 0, closing := 1, moved := true } }
      else s.rejectCal k Rej.kinkMissing false
  else { s with casks.cal := some k }

/-- Does a group run a profile or hold one (R156, R178)? -/
def Eng.runsOrHolds (e : Eng) : Bool := decide (e.st = .running) || e.hold.isSome || e.restart.isSome

def State.doCalibrate (s : State) (h : Hdr) (kind flags capture : Nat) : State :=
  s.acceptCmd h Op.calibrate 1 (fun s => s.calBad kind flags capture) fun s cid =>
    let k := s.newCal kind flags capture false (some cid)
    if !s.calState kind || s.casks.cal.isSome || s.settling || s.targetBusy kind ||
        (kind = 6 && (s.coil.a.runsOrHolds || s.coil.b.runsOrHolds)) then s.fail cid St.busy Why.none
    else if kind = 2 ∧ s.casks.shut ≠ .one then s.rejectCal k Rej.notOpen false
    else if kind = 1 ∧ (s.tol.allowOut ∨ s.bandDies.isEmpty ∨ !fitsPower s.budget (s.bandPlan k.pCal) k.pCal) then
      s.fail cid St.overBudget Why.none
    else s.startCal k

def execCalibrate (h : Hdr) (kind flags capture : Nat) (s : State) : Host.Outcome State Fault Refusal :=
  runIf "CALIBRATE" (Instr.wf (.calibrate h kind flags capture)) (fun s => s.doCalibrate h kind flags capture) s

/-! ## What coil events mean for a calibration (R162, R163, R175) -/

/-- Microseconds between two ticks, rounded. -/
def usOf (t : Nat) : Nat := sat32 ((t + 125) / 250)

/-- After every event of the coil drive: the close profile has its kink, or has ended without one; the open profile has its
kink. -/
def State.coilHook (s : State) : State :=
  match s.casks.cal with
  | none => s
  | some k =>
    let e := s.eng .a
    let has := fun (coil : Nat) => [e.req, e.hold, e.restart].any fun r => match r with | some r => r.own coil | none => false
    let runs : Bool := match e.req with | some r => r.own 0 | none => false
    let runs1 : Bool := match e.req with | some r => r.own 1 | none => false
    let k := if k.closing = 1 ∧ runs then { k with closing := 2 } else k
    let k := if runs1 ∧ e.counted ∧ k.stage ≤ 3 ∧ k.openUs = 0 then { k with openUs := usOf (e.tKink - e.tStart) } else k
    let kinked := k.closing = 2 && runs && e.counted
    let k := if kinked && k.stage = 0 then
        { k with stage := 1, closeUs := usOf (e.tKink - e.tStart)
                 settleUntil := s.mono - (s.now - e.tKink) + 250000 * s.fld Fld.CAL_SHUT_CFG_SETTLE_MS }
      else k
    let s := { s with casks.cal := some k }
    if k.closing ≠ 0 ∧ !has 0 then
      if s.casks.shut = .two then { s with casks.cal := some { k with closing := 0 } }
      else if k.stage ≤ 3 then
        s.rejectCal { k with closing := 0 } (if k.closing = 2 ∧ e.gapRec then Rej.kinkGap else Rej.kinkMissing) true
      else s
    else s

/-- The end of a window ends the WAIT_KINK of its group only where a kink is confirmed; on group B, a held capture is discarded (R175). -/
def State.kinkHook (s : State) (before : State) (g : Group) : State :=
  if g = .b ∧ (before.eng .b).wait.isSome ∧ (s.eng .b).wait.isNone then s.discardHeld else s

/-! ## Captures (R163, R165, R169, R170, R171, R174, R177) -/

/-- May the capture start at a snapshot at elapsed tick `t`? -/
def Cal.mayStart (k : Cal) (t : Nat) : Bool := k.stage = 1 && k.kind ≠ 6 && k.start < t && k.settleUntil ≤ t

/-- Empty accumulators for a capture. -/
def Cal.emptyAcc (k : Cal) (p : Profile) : List Acc :=
  let cols := (calCols k.kind (calArea k.kind p)).length
  if k.kind = 1 then List.replicate 16 (accEmpty 6 cols 192)
  else if k.kind < 3 then [accEmpty 2 cols (64 * p.h)] else []

/-- A PROFILE flush falls due for the frame that opens now, and the new window and period come into force. -/
def State.forceProfile (s : State) (p : Profile) : State :=
  { s with tol.prof := p, trs.dueCauses := if s.inStream then s.trs.dueCauses ||| Cause.profile else s.trs.dueCauses }

/-- The capture snapshot: it closes frame `k`. -/
def State.startCapture (s : State) (c : Cal) (k : Nat) : State :=
  let c := { c with stage := 2, firstFrame := some (k + 1), lastFrame := k + c.total, win := s.tol.prof
                    acc := c.emptyAcc s.tol.prof }
  if c.kind = 1 then
    let s := { s with casks.cal := some { c with displaced := some s.tol.prof } }
    (s.forceProfile (bandProfile s.tol.prof c.pCal 0)).event 0x0007 (leBytes 8 (k + 1))
  else { s with casks.cal := some c }

/-- The displaced profile returns; frame `k` was the last of the band phase. -/
def State.endBand (s : State) (p : Profile) (k : Nat) : State :=
  State.event { (s.forceProfile p) with casks.restore := none, sen.rowStep := none, tmg.realign := true } 0x0008 (leBytes 8 k)

/-- The bias of the rows of band `band` after `done` of its frames (R169): stepped at the end of frame LEAD, down instead of up where
it would exceed 2.30 V, and restored at the end of frame LEAD + 3n. -/
def State.stepRows (s : State) (band done : Nat) : State :=
  let lead := s.fld Fld.CAL_TAU_CFG_LEAD
  if done = lead then { s with sen.rowStep := some (band, if 60 ≤ s.sen.biasCode then 90 else 110) }
  else if done = lead + 3 * s.fld Fld.CAL_TAU_CFG_N then { s with sen.rowStep := none }
  else s

/-- What a snapshot that closes frame `k` at elapsed tick `t` means for a calibration. -/
def State.calSnap (s : State) (k t : Nat) : State :=
  let s := match s.casks.restore with
    | some p => s.endBand p k
    | none => s
  match s.casks.cal with
  | none => s
  | some c =>
    if c.mayStart t then s.startCapture c k
    else if c.stage = 2 then
      let done := k + 1 - c.firstFrame.getD 0
      let per := c.total / 16
      if c.kind = 1 ∧ c.interfered ∧ done % per = 0 then
        let s := s.rejectCal c Rej.interference true
        match c.displaced with
        | some p => s.endBand p k
        | none => s
      else if k = c.lastFrame then
        let (s, c) := s.openShutter c
        let s := { s with casks.cal := some { c with stage := 3 } }
        match c.displaced with
        | some p => s.endBand p k
        | none => s
      else if c.kind = 1 then
        if done % per = 0 then s.forceProfile { s.tol.prof with y0 := 3 * (done / per) } else s.stepRows (done / per) (done % per)
      else s
    else s

/-- Is frame `k`, which opens now, counted into a capture; and its band (R169)? -/
def State.captureOf (s : State) (k : Nat) : Bool × Option (Nat × Nat) :=
  match s.casks.cal with
  | some c =>
    let f := c.firstFrame.getD 0
    let i := k - f
    let per := max 1 (c.total / 16)
    let hit := c.stage = 2 && c.firstFrame.isSome && f ≤ k && k ≤ c.lastFrame
    (hit && c.kind < 3, if hit ∧ c.kind = 1 then some (i / per, i % per) else none)
  | none => (false, none)

/-- A captured frame has what its sums need: its reference, and but for TAU_MAP its measured grid. -/
def FrameW.sumReady (f : FrameW) : Bool := f.captured && f.ref.isSome && (f.band.isSome || f.gridMeas.isSome)

/-- What the pass of a captured frame sees on its way to DRIFT, where no stream shows it: row terms substituted (R92) and, but for
TAU_MAP, which stops at BLIND, ΔT clamped (R97). -/
def State.noteCapture (s : State) (f : FrameW) (kind : Nat) : State :=
  if f.streamed then s
  else
    let dT := f.deltas (f.gridMeas.getD [])
    let clamped : Bool := kind ≠ 1 && (List.range f.high).any fun y => (List.range f.wide).any fun x => (f.gain dT 0 x y).range
    let subst := (List.range f.high).any fun y => (f.rowTerm y).2
    (s.stickyIf clamped Fld.PPL_STATUS_DRIFT_RANGE).stickyIf subst Fld.PPL_STATUS_BLIND_SUB

/-- A captured frame is summed, once (R165, R172, R174). -/
def State.sumFrame (s : State) (k : Nat) : State :=
  match s.frameOf k, s.casks.cal with
  | some f, some c =>
    if !f.sumReady then s
    else if k < c.firstFrame.getD 0 ∨ c.lastFrame < k ∨ c.firstFrame.isNone then s.setFrame { f with captured := false }
    else
      let s := s.noteCapture { f with img := c.source } c.kind
      let o := f.calValues c.kind c.source
      let lead := s.fld Fld.CAL_TAU_CFG_LEAD
      let n := if c.kind = 1 then s.fld Fld.CAL_TAU_CFG_N else c.n
      let (b, i) := match f.band with
        | some e => e
        | none => (0, k - c.firstFrame.getD 0)
      let acc := modAt c.acc b fun a => a.add c.kind (calPart c.kind n lead i) o
      State.setFrame { s with casks.cal := some { c with acc, framesSeen := c.framesSeen + 1 } } { f with captured := false }
  | _, _ => s

/-- The measured grid of a captured frame is summed (R165, R177). -/
def State.sumGrid (s : State) (k : Nat) (g : List Int) : State :=
  match s.casks.cal with
  | some c =>
    let f := c.firstFrame.getD 0
    if (c.kind = 0 ∨ c.kind = 5) ∧ c.firstFrame.isSome ∧ f ≤ k ∧ k ≤ c.lastFrame then
      let c := { c with gridSums := List.zipWith (· + ·) c.gridSums g }
      let c := if c.kind = 5 then
          { c with framesSeen := c.framesSeen + 1
                   gridHalf1 := if k - f < 128 then List.zipWith (· + ·) c.gridHalf1 g else c.gridHalf1 }
        else c
      { s with casks.cal := some c }
    else s
  | none => s

/-- Is physical pixel `i` an active one (R42)? -/
def inActivePixels (i : Nat) : Bool := 12 ≤ i % 4120 && i % 4120 < 4108 && 16 ≤ i / 4120 && i / 4120 < 3088

/-- A frame of `ticks` ticks with counts `d` is summed for CONVERTER_TRIM, in whose frames the test source feeds the shorted rows'
converters, and for BIAS_TRIM (R177). -/
def State.sumShorted (s : State) (k ticks : Nat) (d : PixMap Nat) : State :=
  match s.casks.cal with
  | some c =>
    if (c.kind = 3 ∨ c.kind = 4) ∧ c.stage = 2 ∧ c.firstFrame.getD 0 ≤ k then
      { s with casks.cal := some { c with
          shortCount := c.shortCount + sumOver d inShortedRows 32960 id, shortTicks := c.shortTicks + ticks
          actCount := c.actCount + sumOver d inActivePixels 12582912 id
          trimEdges := c.trimEdges + sumN (s.sen.subCounts.map (·.1)) } }
    else s
  | none => s

/-! ## HKC_TRIM (R177, R178, R354) -/

/-- The next group of HKC_TRIM is triggered: one every 1,250 ticks from the end of its own self-calibration. -/
def State.doTrimGroup (s : State) : State :=
  match s.casks.cal with
  | some k =>
    match k.groupBase with
    | some t =>
      if k.kind = 6 ∧ k.stage ≤ 2 ∧ k.groupsDone < 32 ∧ t + 1250 * k.tries ≤ s.mono then
        let (s, lost) := s.inject Inj.internal [23, 22, 23, 22] 0
        let k := { k with stage := 2, tries := k.tries + 1, groupsDone := k.groupsDone + b2n (!lost) }
        { s with casks.cal := some k }
      else s
    | none => s
  | none => s

def execHkcTrimGroupTrigger (s : State) : Host.Outcome State Fault Refusal := run State.doTrimGroup s

/-! ## Trims (R177) -/

/-- The FACTORY bandgap code (log 20). -/
def bandgapCode : Nat := ofLe ((List.range 2).map (Config.factoryField 6))

/-- The CPKT code of the capacitance that `counts` counts of the shorted rows in `ticks` ticks give at a QREF code (R177, R183): the
charge in zeptocoulomb over the counts and VREF_Q in units of 12.5 mV / 25, from 0.3000 fF in steps of 0.0002 fF. -/
def cpktOf (counts ticks qref : Nat) : Option Int :=
  let den := counts * (1000 + 25 * qref)
  if den = 0 then none else some (rndDiv (20 * testCurrent * ticks * 32960 - 3000 * den : Int) (2 * den))

/-- New values of HKC_OFS and HKC_GAIN from the raw codes. -/
def hkcTrimOf (r22 r23 : List Int) : Option (Int × Int) :=
  let ofs := rndDiv (sumI r23) (max 1 r23.length)
  let den := sumI r22 - ofs * r22.length
  if den ≤ 0 then none else some (ofs, rndDiv (2048 * bandgapCode * r22.length) den.toNat)

/-- Does a new value differ by no more than a limit, and fit its field? -/
def trimFits (old new : Int) (lim : Nat) (lo hi : Int) : Bool := (new - old).natAbs ≤ lim && lo ≤ new && new ≤ hi

/-- Offsets of the 48 diodes from the sums of 256 grids (R177): each diode's mean minus the median of the means. -/
def gridTrims (sums : List Int) : List Int :=
  let med := median sums
  sums.map fun v => rndDiv (v - med) 256

/-- Is any diode unsteady: first and second half differ by more than 2 mK (R177)? -/
def gridUnsteady (sums half : List Int) : Bool :=
  (List.zipWith (fun t h => (2 * h - t).natAbs) sums half).any fun d => 4 * 128 < d

/-- A trim is accepted: it takes effect at the next frame snapshot (R177). -/
def State.trimTaken (s : State) (bit : Nat) : State := { s with sen.trimAccept := s.sen.trimAccept ||| 2 ^ bit }

def State.trimGridReg (s : State) (n : Nat) : Int := (s.reg (Reg.CAL_TRIM_GRID n)).toInt

def maxAbs (l : List Int) : Nat := maxN (l.map Int.natAbs)

/-- The skimming ratio code that brings `n` pixels from their mean working point to `twentieths` of full scale (R177): `slope` is the
change of the code per full scale, which is analogue (log 40). None without a frame. -/
def skimOf (old : Nat) (slope : Int) (counts edges n twentieths : Nat) : Option Int :=
  let den := 20 * edges * n
  if den = 0 then none else some (old + rndDiv (slope * (20 * counts - (twentieths * edges * n : Int))) den)

/-- The decision of a trim: the reason, the state with the accepted values written, the old and the new value of the report. -/
def State.trimDecide (s : State) (k : Cal) (meas : List Int) : State × Nat × Nat × Nat :=
  match k.kind with
  | 3 =>
    let old := s.regN Reg.CAL_TRIM_CONV
    match cpktOf k.shortCount k.shortTicks s.sen.qrefCode with
    | none => (s, Rej.implausible, old, 0)
    | some v =>
      let new := clampN (2 ^ 32 - 1) v
      if trimFits (fldOf s.sen.trimConv Fld.CAL_TRIM_CONV_CPKT) v (s.fld Fld.CAL_TRIM_LIM_CONV) 0 1023 then
        ((s.setFld Fld.CAL_TRIM_CONV_CPKT v.toNat).trimTaken 0, 0, old, new)
      else (s, Rej.implausible, old, new)
  | 4 =>
    let old := s.regN Reg.CAL_TRIM_SKIM
    let now := s.sen.trimSkim
    let act := fldOf now Fld.CAL_TRIM_SKIM_ACT
    let sh := fldOf now Fld.CAL_TRIM_SKIM_SH
    match skimOf act (meas.getD 0 0) k.actCount k.trimEdges 12582912 7,
        skimOf sh (meas.getD 1 0) k.shortCount k.trimEdges 32960 10 with
    | some a, some b =>
      let new := clampN 4095 a + 2 ^ 16 * clampN 4095 b
      let lim := s.fld Fld.CAL_TRIM_LIM_SKIM
      if trimFits act a lim 0 4095 && trimFits sh b lim 0 4095 then
        (((s.setFld Fld.CAL_TRIM_SKIM_ACT a.toNat).setFld Fld.CAL_TRIM_SKIM_SH b.toNat).trimTaken 1, 0, old, new)
      else (s, Rej.implausible, old, new)
    | _, _ => (s, Rej.implausible, old, 0)
  | 5 =>
    let old := (List.range 48).map s.trimGridReg
    let new := gridTrims k.gridSums
    let lim := s.fld Fld.CAL_TRIM_LIM_GRID_VALUE
    if gridUnsteady k.gridSums k.gridHalf1 then (s, Rej.unstable, maxAbs old, maxAbs new)
    else if (List.zipWith (fun o n => trimFits o n lim (-32768) 32767) s.sen.trimGrid new).all id then
      (State.trimTaken ((new.zipIdx).foldl (fun (s : State) (v, i) => s.setRegN (Reg.CAL_TRIM_GRID i) (wrapN 32 v)) s) 2, 0,
        maxAbs old, maxAbs new)
    else (s, Rej.implausible, maxAbs old, maxAbs new)
  | _ =>
    let old := s.regN Reg.CAL_TRIM_HKC
    match hkcTrimOf k.raws22 k.raws23 with
    | none => (s, Rej.implausible, old, 0)
    | some (o, g) =>
      let new := wrapN 12 o + 2 ^ 16 * clampN 4095 g
      if trimFits (sgn 12 (fldOf s.hkc.trim Fld.CAL_TRIM_HKC_OFS)) o (s.fld Fld.CAL_TRIM_LIM_HKC_OFS) (-2048) 2047 &&
          trimFits (fldOf s.hkc.trim Fld.CAL_TRIM_HKC_GAIN) g (s.fld Fld.CAL_TRIM_LIM_HKC_GAIN) 0 4095 then
        (((s.setFld Fld.CAL_TRIM_HKC_OFS (wrapN 12 o)).setFld Fld.CAL_TRIM_HKC_GAIN g.toNat).trimTaken 3, 0, old, new)
      else (s, Rej.implausible, old, new)

/-- Trims accepted or changed since the last frame snapshot take effect (R177): a converter or skimming trim starts a settling
period, and each but that of the HKC sets TRIM_STALE. -/
def State.applyTrims (s : State) : State :=
  let conv := s.reg Reg.CAL_TRIM_CONV
  let skim := s.reg Reg.CAL_TRIM_SKIM
  let grid := (List.range 48).map s.trimGridReg
  let later := fun (s : State) (t : Nat) => { s with sen.settleEnd := some (max (s.sen.settleEnd.getD 0) t) }
  let newConv := bitN s.sen.trimAccept 0 || decide (conv ≠ s.sen.trimConv)
  let newSkim := bitN s.sen.trimAccept 1 || decide (skim ≠ s.sen.trimSkim)
  let newGrid := bitN s.sen.trimAccept 2 || decide (grid ≠ s.sen.trimGrid)
  let t := s.stickyIf (newConv || newSkim || newGrid) Fld.CAL_STATUS_TRIM_STALE
  let t := if newSkim then later t (s.mono + 10000000) else t
  let t := if newConv then later t (s.mono + 500000) else t
  { t with
    sen.trimConv := conv, sen.trimSkim := skim, sen.trimGrid := grid, sen.trimAccept := 0
    hkc.trim := if bitN s.sen.trimAccept 3 then s.reg Reg.CAL_TRIM_HKC else s.hkc.trim }

/-- A direct write of a trim register: discarded once SEC_LOCK is 1 (R9, R177). One that changes CAL_TRIM_HKC is in force at once; the
others wait for the next frame snapshot. DESIGN CHOICE (log 116): a write that SEC_LOCK discards leaves CAL_STATUS.CFG_REJ as it is. -/
def State.doTrimWrite (s : State) (off : Nat) (v : Word) : State :=
  let w := trimWord off v
  if s.flag Fld.SEC_STATUS_SEC_LOCK ∨ w = s.reg off then s
  else if off = Reg.CAL_TRIM_HKC then
    State.setReg { s with hkc.trim := w, sen.trimAccept := s.sen.trimAccept % 8 } off w
  else s.setReg off w

def execCalTrimWrite (off : Nat) (v : Word) (s : State) : Host.Outcome State Fault Refusal :=
  runIf "CAL_TRIM_WRITE" (Instr.wf (.calTrimWrite off v)) (fun s => s.woken.doTrimWrite off v) s

/-! ## Decisions (R157, R158, R160, R164 to R176) -/

/-- The generation of a new result (R157). -/
def State.nextGen (s : State) : Nat :=
  let g := max (s.genOf 0) (s.genOf 1)
  if 0xFFFFFFFF ≤ g then 1 else g + 1

/-- What a decision has found: the reason (0: accepted), the measured fields, and the result image without its header. -/
structure Verdict where
  why : Nat
  rep : CalRep
  image : CaskImage
  deriving DecidableEq, Repr

def capGrid (sums : List Int) (frames : Nat) : List Nat := sums.map fun v => clampN (2 ^ 20 - 1) (rndDiv v (max 1 frames))

/-- 16 times a mean N·δ, as the report gives it. -/
def driftField (sum : Int) (den : Nat) : Int :=
  if den = 0 then 0 else clampI (-(2 ^ 31)) (2 ^ 31 - 1) (rndDiv (16 * sum) den)

/-- The reason that the two checks of a result give (R164). -/
def checksWhy (flatOk fracOk : Bool) : Nat := if !flatOk then Rej.flat else if !fracOk then Rej.agree else 0

def State.judgeOffset (s : State) (k : Cal) : Verdict :=
  let h := s.halves k
  let (spread, flatOk) := s.uniform k (2 * k.n) h.fail
  let q := s.halfQuality k h
  let img := { k.base with
    recs := k.records (fun j y => planeAt h.fail j y != 0) fun j y w => recPut w 0 18 (wrapN 18 (ofsClamp (k.ofsOf j y)))
    grid := capGrid k.gridSums (2 * k.n), captureFrame := k.lastFrame }
  { why := checksWhy flatOk (s.fracOk h.counted h.failing), image := img
    rep := { calRepZero with counted := h.counted, failing := h.failing, spread, drift := driftField h.sum (k.n * h.base)
                             qSu := q.1, qMk := q.2 } }

def State.judgeTau (s : State) (k : Cal) : Verdict :=
  let fail := planeOf k.wide k.high fun x y => b2n (s.tauPass k x y).isNone
  let (counted, failing) := k.count fail
  let (spread, flatOk) := s.uniform k (s.fld Fld.CAL_TAU_CFG_LEAD) fail
  let good := k.positions fun x y => k.counts x y && planeAt fail x y == 0
  let ms := good.foldl (fun a p => match s.tauPass k p.1 p.2 with
    | some (_, u, d) => fracAdd a ((max u d - min u d) ^ 2) ((u + d) ^ 2)
    | none => a) (0, 1)
  let q := if good.isEmpty then (0, 0) else s.pureQuality ms.1 (ms.2 * good.length)
  let img := { k.base with
    recs := k.records (fun x y => planeAt fail x y != 0) fun x y w => match s.tauPass k x y with
      | some (c, _, _) => recPut w 46 8 c
      | none => w }
  { why := checksWhy flatOk (s.fracOk counted failing), image := img
    rep := { calRepZero with counted, failing, spread, qSu := q.1, qMk := q.2 } }

/-- A capture of BLACKBODY_2P on its own (R174). -/
def State.judgeCapture (s : State) (k : Cal) : Verdict × Plane :=
  let h := s.halves k
  let (spread, flatOk) := s.uniform k (2 * k.n) h.fail
  let q := s.halfQuality k h
  ({ why := checksWhy flatOk (s.fracOk h.counted h.failing), image := k.base
     rep := { calRepZero with counted := h.counted, failing := h.failing, spread, drift := driftField h.sum (k.n * h.base)
                              qSu := q.1, qMk := q.2 } }, h.fail)

/-- The second capture of BLACKBODY_2P (R176). -/
def State.judgeTwo (s : State) (k : Cal) (lo hi : Cal) (failLo failHi : Plane) (spread : Nat) : Verdict :=
  let both := k.positions fun x y => k.counts x y && planeAt failLo x y == 0 && planeAt failHi x y == 0
  let m := both.length
  let sum := sumI (both.map fun p => twoDelta lo hi p.1 p.2)
  let den := 2 * lo.n * hi.n * m
  let gainOf := fun (x y : Nat) =>
    let d := twoDelta lo hi x y
    if d ≤ 0 then none
    else
      let g := rndDiv (2048 * sum) (m * d.toNat)
      if 1024 ≤ g ∧ g ≤ 4095 then some g.toNat else none
  let pass := fun (x y : Nat) => k.counts x y && planeAt failLo x y == 0 && planeAt failHi x y == 0 && (gainOf x y).isSome
  let fail := planeOf k.wide k.high fun x y => b2n (k.counts x y && !pass x y)
  let (counted, failing) := k.count fail
  let low := sum < (s.regN Reg.CAL_2P_MIN_DELTA : Int) * den
  let good := k.positions pass
  let ms := good.foldl (fun a p =>
    let d1 := twoHalf lo hi 0 p.1 p.2
    let d2 := twoHalf lo hi 1 p.1 p.2
    fracAdd a ((sum * (d1 - d2)).natAbs ^ 2) ((den * (d1 + d2).natAbs) ^ 2)) (0, 1)
  let q := if good.isEmpty then (0, 0) else s.quality ms.1 (ms.2 * good.length)
  let img := { k.base with
    recs := k.records (fun x y => planeAt fail x y != 0) fun x y w => if pass x y then
      match gainOf x y with | some g => recPut w 18 12 g | none => w
      else w }
  { why := if m ≠ 0 ∧ low then Rej.lowContrast else if s.fracOk counted failing then 0 else Rej.agree, image := img
    rep := { calRepZero with counted, failing, spread, drift := driftField sum den, qSu := q.1, qMk := q.2 } }

/-- A cask kind is accepted: the result goes into the target (R157, R160). -/
def State.acceptResult (s : State) (k : Cal) (v : Verdict) : State :=
  let gen := s.nextGen
  let img := s.finishImage k v.image gen
  let s := if k.kind = 0 then s.setRegN Reg.CAL_REQ_RUN 0 else s
  let s := { s with casks.request := s.casks.request && decide (k.kind ≠ 0) }
  let k := { k with stage := 4, result := some img, rep := { v.rep with gen } }
  let s := { s with casks.decided := some s.mono }
  let s := (s.clearStale.ctrInc 9).startCopy k.target img
  if k.auto || bitN k.flags 0 then { s with casks.cal := some k }
  else State.publishCal { s with casks.cal := some k } k 0 none

/-- A capture is held; it has no report (R175). -/
def State.holdCapture (s : State) (k : Cal) (fail : Plane) : State :=
  let s := { s with casks.cal := none, casks.decided := some s.mono, casks.held := some { cal := k, failed := fail } }
  match k.cid with
  | some cid => s.complete cid St.ok Why.none (some 0) none
  | none => s

/-- The decision of a BLACKBODY_2P capture (R174 to R176). DESIGN CHOICE (log 113): a pair that is rejected takes the held capture
with it, with no report of its own. -/
def State.decideTwo (s : State) (k : Cal) : State :=
  let (v, fail) := s.judgeCapture k
  if v.why ≠ 0 then s.rejectCal { k with rep := v.rep } v.why false
  else
    match s.casks.held with
    | some h =>
      if h.cal.capture = k.capture then
        s.holdCapture { k with rep := v.rep } fail
      else
        let (lo, hi, fl, fh) := if k.capture = 1 then (k, h.cal, fail, h.failed) else (h.cal, k, h.failed, fail)
        let w := s.judgeTwo k lo hi fl fh v.rep.spread
        let s := { s with casks.held := none }
        if w.why ≠ 0 then s.rejectCal { k with rep := w.rep } w.why false else s.acceptResult k w
    | none => s.holdCapture { k with rep := v.rep } fail

/-- Are the data of the decision there? -/
def State.calDataIn (s : State) (k : Cal) : Bool :=
  match k.kind with
  | 3 => k.stage = 3
  | 4 => k.stage = 3
  | 5 => k.stage = 3 && 256 ≤ k.framesSeen
  | 6 => k.groupsDone = 32 && s.hkc.group.isNone && 64 ≤ k.raws22.length && 64 ≤ k.raws23.length
  | _ => k.stage = 3 && k.total ≤ k.framesSeen

/-- The decision (R160). `meas` is what BIAS_TRIM measured (log 40). -/
def State.doDecision (s : State) (meas : List Int) : State :=
  match s.casks.cal with
  | none => s
  | some k =>
    if 3 < k.stage ∨ !s.calDataIn k then s
    else if 3 ≤ k.kind then
      let (s, why, old, new) := s.trimDecide k meas
      let k := { k with rep := { calRepZero with old, new } }
      if why = 0 then State.acceptCal { (s.ctrInc 9) with casks.decided := some s.mono } k none
      else s.rejectCal k why false
    else if k.kind = 2 then s.decideTwo k
    else
      let v := if k.kind = 0 then s.judgeOffset k else s.judgeTau k
      if v.why = 0 then s.acceptResult k v
      else s.rejectCal { k with rep := v.rep } v.why false

def execCalibrationDecision (meas : List Int) (s : State) : Host.Outcome State Fault Refusal :=
  runIf "CALIBRATION_DECISION" (Instr.wf (.calibrationDecision meas)) (fun s => s.doDecision meas) s

/-- The copies are valid on every die (R157, R160): the calibration completes, or waits for its racking snapshot. -/
def State.doCopyValid (s : State) : State :=
  match s.casks.cal with
  | some k =>
    if k.stage ≠ 4 then s
    else match k.result with
      | some img =>
        if img.digest = imgDigest img then
          let s := s.endCopy k.target
          if k.auto || bitN k.flags 0 then { s with casks.cal := some { k with stage := 5 } }
          else State.completeCal { s with casks.cal := none } k 0
        else (s.failCopy k.target).rejectCal k Rej.interference false
      | none => s
  | none => s

def execCalibrationCopyValid (s : State) : Host.Outcome State Fault Refusal := run State.doCopyValid s

/-- The racking of an accepted result at the snapshot that closes frame `k` (R160). The flag says that the target was racked. -/
def State.calRack (s : State) (k : Nat) : State × Bool :=
  match s.casks.cal with
  | some c =>
    if c.stage ≠ 5 then (s, false)
    else if s.caskOk c.target then
      ((s.putCask c.target).acceptCal c (some k), true)
    else (s.rejectCal c Rej.interference false, false)
  | none => (s, false)

/-! ## CAL_ABORT, CRIT and resets (R161, R175) -/

/-- A close profile of a calibration that group A still holds is not run after the calibration's end. -/
def State.dropClose (s : State) (k : Cal) : State × Cal :=
  let e := s.eng .a
  match e.hold with
  | some r => if r.own 0 then (s.setEng .a { e with hold := none }, { k with closing := 0, moved := false }) else (s, k)
  | none => (s, k)

/-- Is this the tick of a decision or later, with the calibration's own end still to come (R161)? -/
def State.decisionMade (s : State) : Bool :=
  decide (s.casks.decided = some s.mono) || (match s.casks.cal with | some k => 3 < k.stage | none => false)

def State.doCalAbort (s : State) (h : Hdr) : State :=
  s.acceptCmd h Op.calAbort 64 (fun _ => none) fun s cid =>
    if s.decisionMade then s.complete cid St.abortLate Why.none (some 0) none
    else
      let s := s.discardHeld
      let s := match s.casks.cal with
        | none => s
        | some k =>
          let (s, k) := s.dropClose k
          s.rejectCal k Rej.hostAbort true
      s.complete cid St.ok Why.none (some 0) none

def execCalAbort (h : Hdr) (s : State) : Host.Outcome State Fault Refusal :=
  runIf "CAL_ABORT" (Instr.wf (.calAbort h)) (fun s => s.doCalAbort h) s

/-- A calibration ends without its result and a copy in progress leaves its cask without valid content (R161). DESIGN CHOICE
(log 106): a band phase that a warm reset ends gives the displaced profile back at once, in mid-frame. -/
def State.dropCal (s : State) : State :=
  let s := { s with sen.rowStep := none }
  let s := match s.casks.restore with
    | some p => { s with casks.restore := none, tol.prof := p }
    | none => s
  match s.casks.cal with
  | some k =>
    let s := { s with casks.cal := none, tol.prof := if k.stage = 2 then k.displaced.getD s.tol.prof else s.tol.prof }
    if k.stage = 4 then s.modCask k.target fun c => { c with copying := false } else s
  | none => s

/-- A CRIT shutdown (R161, R179, R330). -/
def State.critCal (s : State) : State :=
  match s.casks.cal with
  | some k => ((s.dropCal.publishCal k Rej.power none).completeCal k Rej.power)
  | none => s

/-! ## Shutter requests (R180, R181) -/

/-- A committed frame's array score (R180). -/
def State.scoreFrame (s : State) (k score : Nat) : State :=
  if s.casks.cal.isSome then s.setRegN Reg.CAL_REQ_RUN 0
  else if score = 0xFFFF then s
  else if s.regN Reg.CAL_REQ_LIMIT < score then
    let n := min (s.regN Reg.CAL_REQ_RUN + 1) 0xFFFF
    let s := s.setRegN Reg.CAL_REQ_RUN n
    if n = s.regN Reg.CAL_REQ_FRAMES then
      (State.sticky { s with casks.request := true } Fld.CAL_STATUS_REQ_SEEN).event 0x0009 (leBytes 8 k ++ leBytes 2 score)
    else s
  else s.setRegN Reg.CAL_REQ_RUN 0

/-- May a standing request start a calibration now (R181)? -/
def State.autoReady (s : State) : Bool :=
  s.casks.request && s.flag Fld.CAL_CTRL_CAL_AUTO && (s.pow.st = .ready || s.pow.st = .stream) && s.casks.cal.isNone &&
    !s.settling && !s.targetBusy 0 &&
    (match s.casks.lastAuto with
     | some t => t + 250000000 * s.regN Reg.CAL_AUTO_HOLDOFF ≤ s.mono
     | none => true)

def State.doAutoStart (s : State) : State :=
  if s.autoReady then State.startCal { s with casks.lastAuto := some s.mono } (s.newCal 0 1 0 true none) else s

def execCalAutoStart (s : State) : Host.Outcome State Fault Refusal := run State.doAutoStart s

/-! ## Registers (R183, R159) -/

/-- Is a value in the range of its CAL_ register? -/
def calValueOk (off : Nat) (v : Word) : Bool :=
  let x := v.toNat % 2 ^ 20
  if off = Reg.CAL_N then 4 ≤ x && x ≤ 128
  else if off = Reg.CAL_AGREE_MAX_FRAC then x ≤ 1000000
  else if off = Reg.CAL_RESP then 16 ≤ x
  else if off = Reg.CAL_REQ_FRAMES ∨ off = Reg.CAL_AUTO_HOLDOFF then 1 ≤ x && x ≤ 65535
  else if off = Reg.CAL_AGREE_TOL ∨ off = Reg.CAL_FLAT_LIMIT ∨ off = Reg.CAL_REQ_LIMIT ∨ off = Reg.CAL_2P_MIN_DELTA then 1 ≤ x
  else if off = Reg.CAL_TAU_CFG then
    let n := fldOf v Fld.CAL_TAU_CFG_N
    4 ≤ n && n ≤ 40 && 2 ≤ fldOf v Fld.CAL_TAU_CFG_LEAD && 1 ≤ fldOf v Fld.CAL_TAU_CFG_AGREE_PM
  else true

/-- A write of an RW register of the CAL_ block. -/
def State.writeCal (s : State) (off : Nat) (v : Word) : State :=
  if off = Reg.CAL_STATUS ∨ off = Reg.CAL_CTRL then s.hostSet off v
  else if rwMask off = 0 then s
  else if s.casks.cal.isSome || !calValueOk off v then s.sticky Fld.CAL_STATUS_CFG_REJ
  else s.hostSet off v

/-- Live fields of the CAL_ registers. -/
def State.liveCal (s : State) (off : Nat) : Word :=
  let held := s.casks.force
  if off = Reg.CAL_STATUS then
    let shut := match s.casks.shut with | .unknown => 0 | .one => 1 | .two => 2 | .moving => 3
    let mis : Bool := match held with | some c => decide (c.bias ≠ s.sen.biasCode ∨ c.qref ≠ s.sen.qrefCode) | none => false
    BitVec.ofNat 32 (b2n s.casks.cal.isSome + 2 * shut + 8 * b2n s.casks.held.isSome + 16 * b2n mis +
      32 * b2n s.casks.request + 64 * b2n (s.casks.request && s.flag Fld.CAL_CTRL_CAL_AUTO && !s.autoReady))
  else if off = Reg.CAL_CASK then
    BitVec.ofNat 32 (s.casks.active + 2 ^ 8 * b2n (s.caskOk 0) + 2 ^ 9 * b2n (s.caskOk 1) +
      2 ^ 10 * b2n s.anyRack + 2 ^ 11 * b2n (s.casks.load.isSome || s.casks.a.copying || s.casks.b.copying))
  else if off = Reg.CAL_GEN_A then BitVec.ofNat 32 (s.genOf 0)
  else if off = Reg.CAL_GEN_B then BitVec.ofNat 32 (s.genOf 1)
  else if off = Reg.CAL_DRIFT_EXP_1 then BitVec.ofNat 32 (wrapN 32 ((held.map (·.e1)).getD 0))
  else if off = Reg.CAL_DRIFT_EXP_2 then BitVec.ofNat 32 (wrapN 32 ((held.map (·.e2)).getD 0))
  else 0

end Sys2Proof.Machine
end

