-- ==== Sys2Proof/Machine/Waymark.lean ====
section
/-! DEFINITION. The Waymark ring (chapter 11): messages and forwarding, roles and epochs, the census, time alignment, frame
epochs, joining and leaving, with the meanings of their commands and events. -/

namespace Sys2Proof.Machine

open Sys2Proof

/-! ## Messages (R288 to R293) -/

abbrev Msg.timeSync : Nat := 0
abbrev Msg.frameEpoch : Nat := 1
abbrev Msg.trigger : Nat := 2
abbrev Msg.census : Nat := 3
abbrev Msg.censusReply : Nat := 4
abbrev Msg.delay : Nat := 5
abbrev Msg.user : Nat := 6
abbrev Msg.nack : Nat := 7
abbrev Msg.censusReq : Nat := 8

/-- Bits of FLAGS. -/
abbrev Msg.delivered : Nat := 1
abbrev Msg.nacked : Nat := 2
abbrev Msg.retx : Nat := 4
abbrev Msg.mseen : Nat := 8

def State.nodeId (s : State) : Nat := s.fld Fld.WAY_CFG_NODE_ID

def State.isMaster (s : State) : Bool := s.wayRole = 0

/-- Bytes of a body from index `o`, as a little-endian number (R12). -/
def bodyLe (m : RingMsg) (o n : Nat) : Nat :=
  ((m.body.drop o).take n).foldr (fun b a => b + 256 * a) 0

/-- A little-endian field of a body. -/
def leNats : Nat → Nat → List Nat
  | 0, _ => []
  | n + 1, v => v % 256 :: leNats n (v / 256)

/-- Bytes 0 to 8 of a message (R288). -/
def msgChars (m : RingMsg) : List Byte :=
  leBytes 1 (m.typ % 16 + 16 * (m.seq % 16)) ++ leBytes 1 (m.origin % 16 + 16 * (m.flags % 16)) ++ m.body.flatMap (leBytes 1)

/-- Byte 9 of a message. -/
def msgCrc (m : RingMsg) : Nat := crc8 (msgChars m)

/-- Byte 9 of a TIME_SYNC with a 68-bit time field (R288): bits 67 to 64 stand with TYPE, 63 to 56 in byte 1, the others in the body. -/
def syncCrc (field : Nat) : Nat :=
  crc8 (leBytes 1 (16 * (field / 2 ^ 64 % 16)) ++ leBytes 1 (field / 2 ^ 56 % 16 + 16 * (field / 2 ^ 60 % 16)) ++ leBytes 7 field)

/-- The message that ten characters spell, without its CRC. -/
def msgOfChars (cs : List Byte) : RingMsg :=
  let b := fun (i : Nat) => fieldLe cs i 1
  { typ := b 0 % 16, seq := b 0 / 16, origin := b 1 % 16, flags := b 1 / 16, body := (List.range 7).map fun i => b (i + 2) }

/-- A truncated tick field, completed to the value nearest to device time (R289). -/
def State.nearTick (s : State) (bits v : Nat) : Nat := wrapN 64 ((v : Int) + 2 ^ bits * rndDiv ((s.now : Int) - v) (2 ^ bits))

/-- The loop timeout in ticks (R292). -/
def State.loopTimeout (s : State) : Nat :=
  match s.way.loopTime with
  | some r => ceilDiv r 64 + 500
  | none => 5000

/-- A message leaves at RING_OUT with its CRC. -/
def State.ringOut (s : State) (m : RingMsg) : State := s.emit (.ring m (msgCrc m))

/-- The tick at which what goes out next can start (R290). -/
def State.sendStart (s : State) : Nat := max s.mono s.way.sendEnd

/-- RING_OUT is taken for one more message: 220 ns and two idle characters, after the one that it carries (R287, R290). -/
def State.occupy (s : State) : State := { s with way.sendEnd := s.sendStart + 65 }

/-- A message of this node starts now (R290): its return is awaited where R292 says so, and a CENSUS is timed from here (R297). -/
def State.ringStart (s : State) (q : RingOwn) : State :=
  let s := s.occupy.ringOut q.msg
  if q.msg.typ = Msg.timeSync ∨ q.msg.typ = Msg.frameEpoch then s
  else if q.msg.typ = Msg.census then { s with way.census := s.way.census.map fun c => { c with start := s.mono } }
  else { s with way.sent := s.way.sent ++
    [{ msg := q.msg, sentAt := s.mono, deadline := s.mono + s.loopTimeout, again := q.again }] }

/-- A message of this node's own starts at once where RING_OUT is free, and else waits for its turn: between forwarded messages only
(R290). -/
def State.ownSend (s : State) (q : RingOwn) : State :=
  if s.way.sendEnd ≤ s.mono ∧ s.way.waiting = [] then s.ringStart q
  else { s with way.waiting := s.way.waiting ++ [q] }

/-- The oldest waiting message starts once RING_OUT is free. -/
def State.ringDrain (s : State) : State :=
  match s.way.waiting with
  | q :: rest => if s.way.sendEnd ≤ s.mono then State.ringStart { s with way.waiting := rest } q else s
  | [] => s

/-- A message of this node goes out (R290, R292). Outside the ring nothing is sent. -/
def State.ringSend (s : State) (typ : Nat) (body : List Nat) : State :=
  if !s.way.joined then s
  else
    let seq := tabGet (fun _ => 0) s.way.seqs typ
    let m : RingMsg := { typ, seq, origin := s.nodeId, flags := 0, body := (body ++ List.replicate 7 0).take 7 }
    let s := { s with way.seqs := tabSet (fun _ => 0) s.way.seqs typ ((seq + 1) % 16) }
    s.ownSend { msg := m, again := false }

/-- A message passes through (R290): one that meets another on RING_OUT follows it, before what waits. -/
def State.passOn (s : State) (m : RingMsg) : State := s.occupy.ringOut m

/-- A message is forwarded; a master marks it as seen (R291). -/
def State.ringForward (s : State) (m : RingMsg) : State :=
  s.passOn (if s.isMaster then { m with flags := m.flags ||| Msg.mseen } else m)

/-- Was a message acted on already (R292)? The newest eight of an origin and type are remembered. -/
def State.actedOn (s : State) (m : RingMsg) : Bool := s.way.acted.contains (m.origin, m.typ, m.seq)

def State.markActed (s : State) (m : RingMsg) : State :=
  let same := (s.way.acted.filter fun e => e.1 = m.origin && e.2.1 = m.typ).take 7
  let rest := s.way.acted.filter fun e => !(e.1 = m.origin && e.2.1 = m.typ)
  { s with way.acted := (m.origin, m.typ, m.seq) :: same ++ rest }

/-- Does the master remove and count a message, because it has passed a master before (R291)? -/
def State.seenBefore (s : State) (m : RingMsg) : Bool := s.isMaster && m.flags &&& Msg.mseen ≠ 0

/-- A message reaches this node under the row of TYPE `typ`. A master removes and counts one that it has seen before (R291); the
node's own is not acted on again; one of another TYPE, a reserved one with it, is only forwarded (R289); every other one goes to
`act`, which also forwards it. -/
def State.ringReceive (s : State) (typ : Nat) (m : RingMsg) (act : State → State) : State :=
  if !s.way.joined then s
  else if s.seenBefore m then s.bump Reg.WAY_BAD_COUNT
  else if m.origin = s.nodeId then s
  else if m.typ ≠ typ then s.ringForward m
  else act s

/-- A message that is forwarded is acted on after that, and once only: what it makes this node send follows it (R290, R292). -/
def State.actOnce (s : State) (m : RingMsg) (out : State → State) (act : State → State) : State :=
  if s.actedOn m then out s else act (out (s.markActed m))

/-- A broadcast: forwarded, and acted on once. -/
def State.ringBroadcast (s : State) (typ : Nat) (m : RingMsg) (act : State → State) : State :=
  s.ringReceive typ m fun s => s.actOnce m (fun s => s.ringForward m) act

/-- An addressed message (R293): its destination takes it under its own epoch and marks it DELIVERED, or refuses it with a NACK.
A NACK is an addressed message like the others (log 43). -/
def State.ringAddressed (s : State) (typ : Nat) (m : RingMsg) (act : State → State) : State :=
  s.ringReceive typ m fun s =>
    if bodyLe m 0 1 ≠ s.nodeId then s.ringForward m
    else if s.way.epoch ≠ 0 ∧ bodyLe m 1 1 = s.way.epoch then
      s.actOnce m (fun s => s.ringForward { m with flags := m.flags ||| Msg.delivered }) act
    else
      let s := s.ringForward { m with flags := m.flags ||| Msg.nacked }
      s.ringSend Msg.nack [m.origin, s.way.epoch, m.typ, m.seq, 0, 0, 0]

/-! ## Alignment states (R299, R300) -/

abbrev Align.unaligned : Nat := 0
abbrev Align.slewing : Nat := 1
abbrev Align.aligned : Nat := 2
abbrev Align.holdover : Nat := 3

/-- A change of alignment state publishes an ALIGN record (R300, R306). -/
def State.setAlign (s : State) (a : Nat) (e : Int) : State :=
  if s.way.align = a then s
  else State.event { s with way.align := a, way.goodRun := 0, way.badRun := 0 } 0x0201
    (leBytes 1 a ++ leBytes 3 0 ++ leBytes 4 (wrapN 32 (clampI (-(2 ^ 31)) (2 ^ 31 - 1) e)))

/-- WAY_ERR as a signed number. -/
def State.wayErr (s : State) : Int := (s.reg Reg.WAY_ERR).toInt

/-- A follower's steering is frozen from a CENSUS or CENSUS_REQ on (R300); `met` says that it is a CENSUS. -/
def State.freezeSteering (s : State) (met : Bool := false) : State :=
  if s.wayRole = 1 then { s with way.frozen := true, way.censused := met } else s

/-- A CENSUS_REQ is sent. -/
def State.sendCensusReq (s : State) : State := if s.way.joined then (s.ringSend Msg.censusReq []).freezeSteering else s

/-! ## The census (R297, R298) -/

/-- The master starts a census, or remembers that it must. -/
def State.startCensus (s : State) : State :=
  if !s.way.joined || !s.isMaster then s
  else if s.way.census.isSome then { s with way.censusDue := true }
  else
    let e := if s.way.epoch = 255 then 1 else s.way.epoch + 1
    let s := { s with
      way.epoch := e, way.position := 0, way.censusDue := false
      way.census := some { start := s.mono, loop := none, hops := 0, replies := [] } }
    s.ringSend Msg.census [e, 0]

abbrev CensusRes.ok : Nat := 0
abbrev CensusRes.mismatch : Nat := 1
abbrev CensusRes.order : Nat := 2
abbrev CensusRes.timeout : Nat := 3
abbrev CensusRes.run : Nat := 4

def State.nPhys (s : State) : Nat := s.fld Fld.WAY_CFG_N_PHYS

/-- Segments from the master to node `id`. -/
def State.segsTo (s : State) (id : Nat) : Nat := (id + s.nPhys - s.nodeId % max 1 s.nPhys) % max 1 s.nPhys

/-- What the `j`-th node after the master adds to a path: its latency, or the 0.2 ns of a bypass; in units of 1/80 ns. -/
def State.nodeDelay (s : State) (reps : List CensusRep) (j : Nat) : Nat :=
  match reps.find? fun r => s.segsTo r.id = j with
  | some r => 5 * r.latency
  | none => 16

/-- The sum of `n` segments from the master on, with the nodes between them, in units of 1/80 ns (R298). -/
def State.pathSum (s : State) (reps : List CensusRep) (n : Nat) : Nat :=
  sumN ((List.range n).map fun j => 5 * s.regN (Reg.WAY_SEG ((s.nodeId + j) % max 1 s.nPhys))) +
    sumN (((List.range n).drop 1).map (s.nodeDelay reps))

/-- Are numbers strictly rising? -/
def rising : List Nat → Bool
  | [] => true
  | [_] => true
  | a :: b :: t => a < b && rising (b :: t)

/-- The longest run of missing IDs around the ring, from the segment counts of the powered nodes. -/
def missingRun : Nat → List Nat → Nat → Nat
  | a, [], n => n - 1 - a
  | a, b :: t, n => max (b - a - 1) (missingRun b t n)

/-- The residual r in units of 1/80 ns, from R_m in 1/16 ns. -/
def State.residual (s : State) (reps : List CensusRep) (loop : Nat) : Int :=
  (5 * loop : Int) - s.pathSum reps s.nPhys

/-- The case of R298 (log 44: the order of the checks). -/
def State.censusResult (s : State) (reps : List CensusRep) (loop : Nat) : Nat :=
  let ids := reps.map fun r => s.segsTo r.id
  if s.nPhys < 2 ∨ 16 < s.nPhys ∨ reps.any (fun r => s.nPhys ≤ r.id) ∨ !rising (0 :: ids) then CensusRes.order
  else if 3 < missingRun 0 ids s.nPhys then CensusRes.run
  else if (5 * s.fld Fld.WAY_CENSUS_TOL_VALUE : Nat) < (s.residual reps loop).natAbs then CensusRes.mismatch
  else CensusRes.ok

/-- D_i of a node, in 1/16 ns. -/
def State.delayOf (s : State) (reps : List CensusRep) (loop : Nat) (id : Nat) : Nat :=
  let k := s.segsTo id
  clampN (2 ^ 24 - 1) (rndDiv ((s.pathSum reps k * s.nPhys : Nat) + s.residual reps loop * k) (5 * max 1 s.nPhys))

/-- The census ends with a result: registers, the CENSUS record, and the DELAY messages of a passing one. What was not
measured is a free value. -/
def State.endCensus (s : State) (c : CensusRun) (res : Nat) : State :=
  let reps := c.replies.mergeSort fun a b => decide (a.position ≤ b.position)
  let powered := reps.length + 1
  let loop := c.loop.getD (s.freeVal % 2 ^ 24)
  let s := if c.loop.isSome then s else s.drew
  let r := rndDiv (s.residual reps loop) 5
  let s := (s.setFld Fld.WAY_CENSUS_RESULT res).setFld Fld.WAY_CENSUS_NODES powered
  let s := match c.loop with
    | some l => State.setRegN { s with way.loopTime := some l } Reg.WAY_LOOP (min l (2 ^ 24 - 1))
    | none => s
  let s := s.stickyIf (decide (res ≠ 0)) Fld.WAY_STATUS_CENSUS_FAIL
  let s := State.setFld { s with way.census := none } Fld.WAY_CTRL_CENSUS (b2n (s.way.censusDue && s.flag Fld.WAY_CTRL_CENSUS))
  let s := s.event 0x0200 (leBytes 1 s.way.epoch ++ leBytes 1 res ++ leBytes 1 powered ++
    leBytes 1 (s.nPhys - powered) ++ leBytes 4 loop ++ leBytes 4 (wrapN 32 r))
  let s := if res = CensusRes.ok then
      (reps.filter (·.role = 1)).foldl (fun s x =>
        s.ringSend Msg.delay ([x.id, s.way.epoch] ++ leNats 4 (s.delayOf reps loop x.id) ++ [0])) s
    else s
  if s.way.censusDue then s.startCensus else s

/-- The census is over once the CENSUS is back and every node that it passed has replied. -/
def State.censusCheck (s : State) : State :=
  match s.way.census with
  | some c =>
    match c.loop with
    | some l => if c.hops ≤ c.replies.length then
        s.endCensus c (s.censusResult (c.replies.mergeSort fun a b => decide (a.position ≤ b.position)) l)
      else s
    | none => s
  | none => s

/-- The master's own CENSUS is back: R_m, to 1/16 ns. What a tick does not resolve is a free value (log 6). -/
def State.censusBack (s : State) (m : RingMsg) : State :=
  match s.way.census with
  | some c =>
    if c.loop.isNone ∧ bodyLe m 0 1 = s.way.epoch then
      let l := 64 * (s.mono - c.start) + s.freeVal % 64
      State.censusCheck { s.drew with way.census := some { c with loop := some l, hops := bodyLe m 1 1 } }
    else s
  | none => s

/-- A node other than the master meets a CENSUS (R295, R297). Its latency, measured to 0.1 ns, lies at 12 ns ± 0.5 ns (log 6). -/
def State.answerCensus (s : State) (m : RingMsg) : State :=
  let pos := bodyLe m 1 1 + 1
  let s := { s with way.epoch := bodyLe m 0 1, way.position := pos, way.delayValid := false }
  let s := s.freezeSteering true
  let lat := 183 + s.freeVal % 19
  let s := s.drew.setRegN Reg.WAY_LATENCY lat
  let s := s.passOn { m with body := modAt m.body 1 fun _ => pos }
  s.ringSend Msg.censusReply ([m.origin, s.way.epoch, pos, s.wayRole] ++ leNats 2 lat ++ [0])

/-- MASTER_CONFLICT (R296). -/
def State.conflict (s : State) (origin : Nat) : State :=
  (s.sticky Fld.WAY_STATUS_MASTER_CONFLICT).event 0x0203 (leBytes 1 origin ++ leBytes 7 0)

/-- A master counts its own message that comes back marked as seen by another; it is removed in any case (R291, log 110). -/
def State.countSeen (s : State) (m : RingMsg) : State := if s.seenBefore m then s.bump Reg.WAY_BAD_COUNT else s

/-- A master steps down (R296). -/
def State.stepDown (s : State) : State :=
  State.setFld { s with
    way.steppedDown := true, way.census := none, way.censusDue := false, way.foreign := none
    way.waiting := s.way.waiting.filter fun q => q.msg.typ ≠ Msg.census && q.msg.typ ≠ Msg.frameEpoch } Fld.WAY_CTRL_CENSUS 0

/-- A CENSUS is received (R291, R295 to R297). One that passes again, since its master has left, is not acted on again (R292). -/
def State.doCensus (s : State) (m : RingMsg) : State :=
  if !s.way.joined then s
  else if m.typ ≠ Msg.census then s.ringReceive Msg.census m fun s => s
  else if s.isMaster then
    if m.origin = s.nodeId then (s.countSeen m).censusBack m
    else if s.seenBefore m then s.bump Reg.WAY_BAD_COUNT
    else if s.actedOn m then s
    else
      let s := (s.markActed m).conflict m.origin
      let s := { s with way.foreign := s.way.foreign.map fun f => (f.1, f.2.1, true) }
      if m.origin < s.nodeId then s.stepDown.answerCensus m else s
  else if s.actedOn m then s.ringForward m
  else (s.markActed m).answerCensus m

def execCensus (m : RingMsg) (s : State) : Host.Outcome State Fault Refusal :=
  runIf "CENSUS" (Instr.wf (.census m)) (fun s => s.doCensus m) s

/-- A CENSUS_REPLY (R297). -/
def State.doCensusReply (s : State) (m : RingMsg) : State :=
  s.ringAddressed Msg.censusReply m fun s =>
    match s.way.census with
    | some c => State.censusCheck { s with way.census := some { c with
        replies := c.replies ++ [{ id := m.origin, position := bodyLe m 2 1, role := bodyLe m 3 1, latency := bodyLe m 4 2 }] } }
    | none => s

def execCensusReply (m : RingMsg) (s : State) : Host.Outcome State Fault Refusal :=
  runIf "CENSUS_REPLY" (Instr.wf (.censusReply m)) (fun s => s.doCensusReply m) s

/-- 1 ms has passed without the CENSUS or a reply (R298). -/
def State.doCensusTimeout (s : State) : State :=
  match s.way.census with
  | some c => if c.start + 250000 ≤ s.mono then s.endCensus c CensusRes.timeout else s
  | none => s

def execCensusTimeout (s : State) : Host.Outcome State Fault Refusal := run State.doCensusTimeout s

/-- A write of WAY_CTRL.CENSUS: the master runs a census, during which the bit reads 1 (R9); another node asks for one, and is done
once it has (log 110). -/
def State.doCensusRequest (s : State) : State :=
  if s.isMaster then
    if s.way.joined then (s.setFld Fld.WAY_CTRL_CENSUS 1).startCensus else s
  else s.sendCensusReq

def execCensusRequest (s : State) : Host.Outcome State Fault Refusal := run (fun s => s.woken.doCensusRequest) s

/-- A CENSUS_REQ is received. -/
def State.doCensusReq (s : State) (m : RingMsg) : State :=
  s.ringBroadcast Msg.censusReq m fun s => if s.isMaster then s.startCensus else s.freezeSteering

def execCensusReq (m : RingMsg) (s : State) : Host.Outcome State Fault Refusal :=
  runIf "CENSUS_REQ" (Instr.wf (.censusReq m)) (fun s => s.doCensusReq m) s

/-- A DELAY gives a follower its D_i; one under the epoch of a CENSUS that came since steering was frozen ends the freeze
(R298, R300). -/
def State.doDelay (s : State) (m : RingMsg) : State :=
  s.ringAddressed Msg.delay m fun s =>
    if s.wayRole = 1 then
      State.setRegN { s with way.delayValid := true, way.frozen := s.way.frozen && !s.way.censused } Reg.WAY_DELAY (bodyLe m 2 4 % 2 ^ 24)
    else s

def execDelay (m : RingMsg) (s : State) : Host.Outcome State Fault Refusal :=
  runIf "DELAY" (Instr.wf (.delay m)) (fun s => s.doDelay m) s

/-! ## USER and NACK (R293, R307) -/

/-- A write of WAY_CTRL.USER_SEND: a MASTER or FOLLOWER in the ring sends. -/
def State.doUserSend (s : State) : State :=
  if s.flag Fld.WAY_CTRL_USER_SEND || 1 < s.wayRole || !s.way.joined then s
  else
    let s := s.setFld Fld.WAY_CTRL_USER_SEND 1
    s.ringSend Msg.user ([s.fld Fld.WAY_USER_DST_DST, s.way.epoch] ++ leNats 4 (s.regN Reg.WAY_USER_TX) ++
      [s.fld Fld.WAY_USER_DST_TAG])

def execUserSend (s : State) : Host.Outcome State Fault Refusal := run (fun s => s.woken.doUserSend) s

def State.doUser (s : State) (m : RingMsg) : State :=
  s.ringAddressed Msg.user m fun s =>
    s.event 0x0202 (leBytes 1 m.origin ++ leBytes 1 (bodyLe m 6 1) ++ leBytes 2 0 ++ leBytes 4 (bodyLe m 2 4))

def execUser (m : RingMsg) (s : State) : Host.Outcome State Fault Refusal :=
  runIf "USER" (Instr.wf (.user m)) (fun s => s.doUser m) s

def State.doNack (s : State) (m : RingMsg) : State := s.ringAddressed Msg.nack m fun s => s.sticky Fld.WAY_STATUS_NACK_RX

def execNack (m : RingMsg) (s : State) : Host.Outcome State Fault Refusal :=
  runIf "NACK" (Instr.wf (.nack m)) (fun s => s.doNack m) s

/-! ## Returns and losses (R288, R291, R292) -/

/-- Types that carry a destination. -/
def isAddressed (typ : Nat) : Bool := typ = 4 || typ = 5 || typ = 6 || typ = 7

/-- A message of this node comes back and is removed. -/
def State.doRingReturn (s : State) (m : RingMsg) : State :=
  if !s.way.joined ∨ m.origin ≠ s.nodeId then s
  else if m.typ = Msg.census then (if s.isMaster then (s.countSeen m).censusBack m else s)
  else
    let s := s.countSeen m
    match s.way.sent.find? fun (x : RingSent) => x.msg.typ = m.typ ∧ x.msg.seq = m.seq with
    | none => s
    | some x =>
      let s := { s with way.sent := s.way.sent.erase x }
      -- what a census measures at the master, another node learns from its own reply (R292, log 110)
      let s := if m.typ = Msg.censusReply ∧ !x.again then { s with way.loopTime := some (64 * (s.mono - x.sentAt)) } else s
      let ack := m.flags &&& Msg.delivered ≠ 0
      let s := s.stickyIf (decide (isAddressed m.typ = true ∧ m.flags &&& (Msg.delivered ||| Msg.nacked) = 0))
        Fld.WAY_STATUS_UNREACH
      if m.typ = Msg.user then (s.stickyIf ack Fld.WAY_STATUS_USER_ACK).setFld Fld.WAY_CTRL_USER_SEND 0 else s

def execRingMessageReturn (m : RingMsg) (s : State) : Host.Outcome State Fault Refusal :=
  runIf "RING_MESSAGE_RETURN" (Instr.wf (.ringMessageReturn m)) (fun s => s.doRingReturn m) s

/-- The loop timeout of a message: it is sent once more with RETX, and lost the second time. -/
def State.doLoopTimeout (s : State) (seq typ : Nat) : State :=
  match s.way.sent.find? fun (x : RingSent) => x.msg.typ = typ ∧ x.msg.seq = seq with
  | none => s
  | some x =>
    if s.mono < x.deadline then s
    else
      let s := { s with way.sent := s.way.sent.erase x }
      if x.again then
        let s := s.sticky Fld.WAY_STATUS_MSG_LOST
        if typ = Msg.user then s.setFld Fld.WAY_CTRL_USER_SEND 0 else s
      else
        let m := { x.msg with flags := x.msg.flags ||| Msg.retx }
        (s.ownSend { msg := m, again := true }).bump Reg.WAY_RETX_COUNT

def execRingLoopTimeout (seq typ : Nat) (s : State) : Host.Outcome State Fault Refusal :=
  runIf "RING_LOOP_TIMEOUT" (Instr.wf (.ringLoopTimeout seq typ)) (fun s => s.doLoopTimeout seq typ) s

/-- A message that is not acted on. With a bad CRC or a code violation, an unknown start with it, its characters pass on unchanged
and are counted (R288); one of a reserved type is forwarded like any message (R289, R291). -/
def State.doBadMessage (s : State) (chars : List Byte) (violation : Bool) : State :=
  if !s.way.joined then s
  else if violation || crc8 (chars.take 9) ≠ fieldLe chars 9 1 then (s.occupy.emit (.ringRaw chars)).bump Reg.WAY_BAD_COUNT
  else
    let m := msgOfChars chars
    s.ringReceive 16 m fun s => s

/-- `chars` are the ten characters received, and `violation` says that one of them violates the code. -/
def execRingBadMessage (s : State) (chars : List Byte := []) (violation : Bool := false) : Host.Outcome State Fault Refusal :=
  runIf "RING_BAD_MESSAGE" (Instr.wf (.ringBadMessage chars violation)) (fun s => s.doBadMessage chars violation) s

/-! ## TIME_SYNC (R294, R296, R299, R300) -/

/-- Device time steps by `d` ticks, and with it the snapshot schedule (R58) and every tick that a later one is compared with, so
that nothing changes its place beside them. Times already reported stay as they were. -/
def State.stepTime (s : State) (d : Int) : State :=
  let mv := fun (t : Nat) => tickAdd t d
  let pend := fun (p : TrigPend) => { p with t := if p.src = 1 then p.t else mv p.t, recv := mv p.recv }
  let s := { s with
    now := mv s.now
    tmg.lastSnap := mv s.tmg.lastSnap, tmg.prevSnap := mv s.tmg.prevSnap, tmg.nextSnap := mv s.tmg.nextSnap
    tmg.refLast := s.tmg.refLast.map mv, tmg.alignWait := s.tmg.alignWait.map (fun (w : Nat × Nat) => (mv w.1, mv w.2))
    tmg.ltcBoundary := mv s.tmg.ltcBoundary, tmg.ltcStart := mv s.tmg.ltcStart
    tmg.ltcPredicted := s.tmg.ltcPredicted.map (fun (e : Nat × Nat × Nat) => (e.1, e.2.1, mv e.2.2))
    tmg.trigEdge := s.tmg.trigEdge.map pend, tmg.trigPending := s.tmg.trigPending.map pend
    hif.outstanding := s.hif.outstanding.map (fun (c : OutCmd) => { c with accept := mv c.accept })
    trs.kinkOpen := s.trs.kinkOpen.map (fun (e : Nat × Nat) => (mv e.1, mv e.2))
    hif.lastAccept := s.hif.lastAccept.map mv
    pow.kwEntry := mv s.pow.kwEntry, trs.kwNext := mv s.trs.kwNext, trs.snaps := s.trs.snaps.map (fun (e : Nat × Nat) => (e.1, mv e.2)) }
  (s.mapFrames fun f => if f.closed then f else { f with prev := mv f.prev }).sticky Fld.TMG_STATUS_TIME_STEPPED

/-- The rate loop of R299, in 1/1024 ppm, from an error in 1/16 ns. -/
def State.steer (s : State) (e : Int) : State :=
  let f := clampI (-51200) 51200 (s.way.fTerm - 8 * e)
  let r := clampI (-51200) 51200 (f - 32 * e)
  State.setRegN { s with way.fTerm := f, way.rate := r } Reg.WAY_RATE (wrapN 32 r)

def State.setErr (s : State) (e : Int) : State :=
  s.setRegN Reg.WAY_ERR (wrapN 32 (clampI (-(2 ^ 31)) (2 ^ 31 - 1) e))

/-- A follower has an undelayed TIME_SYNC with error `e`, in 1/16 ns, while steering is not frozen. A message that changes
UNALIGNED or HOLDOVER to SLEWING does no more than that (log 45). -/
def State.follow (s : State) (e : Int) : State :=
  if s.way.align = Align.unaligned then
    if !s.way.delayValid then s
    else
      let n := rndDiv e 3200
      let (s, e) := if n ≠ 0 ∧ !s.inStream then (s.stepTime (-50 * n), e - 3200 * n) else (s, e)
      State.setAlign (State.setErr { s with way.lastUsable := s.mono } e) Align.slewing e
  else if s.way.align = Align.holdover then
    State.setAlign (State.setErr { s with way.lastUsable := s.mono } e) Align.slewing e
  else if s.way.align = Align.aligned ∧ (e < -128 ∨ 128 < e) then
    let s := s.bump Reg.WAY_SYNC_REJ
    let n := s.way.badRun + 1
    let s := { s with way.badRun := n }
    if 4 ≤ n then s.setAlign Align.unaligned e else s
  else
    let good := if -32 ≤ e ∧ e ≤ 32 then s.way.goodRun + 1 else 0
    let s := State.setErr { s.steer e with way.lastUsable := s.mono, way.goodRun := good, way.badRun := 0 } e
    if s.way.align = Align.slewing ∧ 8 ≤ good then s.setAlign Align.aligned e else s

/-- A TIME_SYNC is received: `arrival` is its stamp at RING_IN in 1/16 ns of device time, `field` the 68-bit time field. -/
def State.doTimeSync (s : State) (arrival field : Nat) : State :=
  if !s.way.joined then s
  else if s.isMaster then
    if s.way.lastSync = some (field % 2 ^ 66) then s
    else
      let s := s.conflict 0xFF
      match s.way.foreign with
      | none => State.startCensus { s with way.foreign := some (s.mono, s.mono, false) }
      | some (a, _, c) => { s with way.foreign := some (a, s.mono, c) }
  else
    -- one that meets a message of this node's own, or one held behind it, is held meanwhile, and marked DELAYED (R290)
    let out := if s.mono < s.way.sendEnd ∧ !bitN field 66 then field + 2 ^ 66 else field
    let s := s.occupy.emit (.timeSync out (syncCrc out))
    if s.wayRole ≠ 1 ∨ bitN field 66 ∨ s.way.frozen then s
    else s.follow ((arrival : Int) - (16 * (field % 2 ^ 66) + s.fld Fld.WAY_DELAY_VALUE))

def execTimeSync (arrival field : Nat) (s : State) : Host.Outcome State Fault Refusal :=
  runIf "TIME_SYNC" (Instr.wf (.timeSync arrival field)) (fun s => s.doTimeSync arrival field) s

/-- The master sends TIME_SYNC where device time is a multiple of 250,000 (R294). -/
def State.doTimeSyncSend (s : State) : State :=
  if s.way.joined && s.isMaster && s.now % 250000 = 0 then
    State.emit (State.occupy { s with way.lastSync := some (4 * s.now) }) (.timeSync (4 * s.now) (syncCrc (4 * s.now)))
  else s

def execTimeSyncSend (s : State) : Host.Outcome State Fault Refusal := run State.doTimeSyncSend s

/-- 10 ms after the first foreign TIME_SYNC (R296). -/
def State.doConflictDecision (s : State) : State :=
  match s.way.foreign with
  | some (a, b, other) =>
    if s.isMaster ∧ a + 2500000 ≤ s.mono then
      if s.mono ≤ b + 500000 ∧ !other then s.stepDown else { s with way.foreign := none }
    else s
  | none => s

def execMasterConflictDecision (s : State) : Host.Outcome State Fault Refusal := run State.doConflictDecision s

/-- No usable TIME_SYNC for 10 ms (R300). -/
def State.doHoldover (s : State) : State :=
  if s.wayRole = 1 && (s.way.align = Align.slewing || s.way.align = Align.aligned) &&
      decide (s.way.lastUsable + 2500000 ≤ s.mono) then
    s.setAlign Align.holdover s.wayErr
  else s

def execAlignHoldoverTimeout (s : State) : Host.Outcome State Fault Refusal := run State.doHoldover s

/-! ## FRAME_EPOCH (R301, R171) -/

/-- The master announces its next snapshot. -/
def State.sendEpoch (s : State) : State :=
  if s.isMaster then s.ringSend Msg.frameEpoch (leNats 6 s.tmg.nextSnap ++ [s.tmg.frame % 256]) else s

/-- An announced tick places the next snapshot of an ALIGNED follower under RING. -/
def State.takeEpoch (s : State) (e : Nat) : State :=
  let prev := s.tmg.lastSnap
  let least := tickAdd prev (pMin s.rol.map s.tol.prof s.tol.level)
  let last := tickSpan s.tmg.prevSnap prev
  if !s.ringPlacing || !s.tmg.scheduled || s.way.epochTick.isSome then s
  else if s.tmg.realign then
    if tickLe least e then { s with tmg.nextSnap := e, tmg.realign := false, way.epochTick := some e } else s
  else if tickLe e prev || !tickLe (tickAdd s.now 2500) (tickAdd prev last) then s
  else if !tickLe least e then
    State.sticky { s with tmg.nextSnap := least, way.epochTick := some e } Fld.WAY_STATUS_EPOCH_SLIP
  else { s with tmg.nextSnap := e, way.epochTick := some e }

/-- A FRAME_EPOCH is received; the master removes it, and counts one that it has seen before. -/
def State.doFrameEpoch (s : State) (m : RingMsg) : State :=
  if !s.way.joined then s
  else if m.typ ≠ Msg.frameEpoch then s.ringReceive Msg.frameEpoch m fun s => s
  else if s.isMaster then s.countSeen m
  else
    let s := s.passOn m
    if s.wayRole = 1 && !s.inBand then s.takeEpoch (s.nearTick 48 (bodyLe m 0 6)) else s

def execFrameEpoch (m : RingMsg) (s : State) : Host.Outcome State Fault Refusal :=
  runIf "FRAME_EPOCH" (Instr.wf (.frameEpoch m)) (fun s => s.doFrameEpoch m) s

/-- A snapshot of an ALIGNED follower that no FRAME_EPOCH had placed is counted (R301, R171). -/
def State.epochMiss (s : State) : State :=
  if s.ringPlacing && s.way.epochTick.isNone && !s.inBand && !s.tmg.realign then s.bump Reg.WAY_EPOCH_MISS else s

/-! ## Triggers on the ring (R75, R303) -/

/-- May the node originate and accept ring triggers? -/
def State.ringTrigOk (s : State) : Bool := s.way.joined && (s.isMaster || (s.wayRole = 1 && s.way.align = Align.aligned))

/-- The settings that were in force at an elapsed tick, from the present ones and the earlier ones (R83). -/
def trigSettings (at_ : Nat) : Word × Word → List (Nat × Word × Word) → Word × Word
  | cur, [] => cur
  | cur, (till, old) :: rest => if till ≤ at_ then cur else trigSettings at_ old rest

/-- The settings under which an edge at device time `t` is judged (R83). -/
def State.trigSet (s : State) (t : Nat) : Word × Word :=
  let at_ := if tickLe t s.now then s.mono - tickSpan t s.now else s.mono + tickSpan s.now t
  trigSettings at_ (s.tmg.trigCfg, s.tmg.trigHoldoff) s.tmg.trigOld

/-- A TRIGGER is received: it waits for acceptance like one of the pin. -/
def State.doRingTrigger (s : State) (m : RingMsg) : State :=
  s.ringBroadcast Msg.trigger m fun s =>
    if s.wayRole = 1 ∧ s.way.align ≠ Align.aligned then s.sticky Fld.WAY_STATUS_TRIG_UNALIGNED
    else
      let t := s.nearTick 56 (bodyLe m 0 7)
      let (cfg, holdoff) := s.trigSet t
      if s.ringTrigOk && fldOf cfg Fld.TMG_TRIG_CFG_RING_EN = 1 then
        { s with tmg.trigPending := s.tmg.trigPending ++ [{ t, src := 1, recv := s.now, cfg, holdoff }] }
      else s

def execRingTrigger (m : RingMsg) (s : State) : Host.Outcome State Fault Refusal :=
  runIf "RING_TRIGGER" (Instr.wf (.ringTrigger m)) (fun s => s.doRingTrigger m) s

/-! ## Joining and leaving (R304, R305) -/

/-- May the bypass open? -/
def State.mayJoin (s : State) : Bool :=
  s.flag Fld.WAY_CFG_ENABLE && s.pow.st ≠ .off && s.pow.st ≠ .recall && s.pow.st ≠ .standby

/-- The bypass closes: messages on their way are out of reach (log 42). -/
def State.leaveRing (s : State) : State :=
  let s := (s.setFld Fld.WAY_CTRL_USER_SEND 0).setFld Fld.WAY_CTRL_CENSUS 0
  { s with way.lock := false, way.joined := false, way.sent := [], way.waiting := [], way.census := none, way.censusDue := false
           way.foreign := none }

/-- The retimer locks: a node that was bypassed joins; either way it sends CENSUS_REQ, and a master runs a census. -/
def State.doRingLock (s : State) : State :=
  if !s.mayJoin || s.way.lock then s
  else
    let s := { s with way.lock := true, way.joined := true }
    s.sendCensusReq.startCensus

def execRingLock (s : State) : Host.Outcome State Fault Refusal := run State.doRingLock s

def execRingLockLoss (s : State) : Host.Outcome State Fault Refusal := run (fun s => { s with way.lock := false }) s

/-! ## Configuration (R294, R307) -/

/-- The fields of WAY_CFG that STREAM and TAKE protect. -/
def wayIdent (v : Word) : Nat × Nat × Nat :=
  (fldOf v Fld.WAY_CFG_ROLE, fldOf v Fld.WAY_CFG_NODE_ID, fldOf v Fld.WAY_CFG_N_PHYS)

/-- ENABLE takes effect. -/
def State.setRingEnable (s : State) (on : Bool) : State :=
  let s := s.setFld Fld.WAY_CFG_ENABLE (b2n on)
  if on then s else s.leaveRing

/-- A write of WAY_CFG. In STREAM and TAKE only ENABLE can change; else the node starts anew in its role. -/
def State.doWayCfg (s : State) (v : Word) : State :=
  let on := fldOf v Fld.WAY_CFG_ENABLE = 1
  if fldOf v Fld.WAY_CFG_ROLE = 3 then s.sticky Fld.WAY_STATUS_CFG_REJ
  else if s.inStream then
    (s.stickyIf (decide (wayIdent v ≠ wayIdent (s.reg Reg.WAY_CFG))) Fld.WAY_STATUS_CFG_REJ).setRingEnable on
  else
    let s := s.hostSet Reg.WAY_CFG v
    let s := { s with way.steppedDown := false, way.frozen := false, way.delayValid := false, way.foreign := none }
    let s := s.setAlign Align.unaligned s.wayErr
    -- a census ends with the role of MASTER
    let s := if s.isMaster then s
      else State.setFld { s with way.census := none, way.censusDue := false } Fld.WAY_CTRL_CENSUS 0
    (s.setRingEnable on).sendCensusReq

def execWayCfgWrite (v : Word) (s : State) : Host.Outcome State Fault Refusal := run (fun s => s.woken.doWayCfg v) s

/-- Live fields of the WAY_ registers. -/
def State.liveWay (s : State) (off : Nat) : Word :=
  if off = Reg.WAY_STATUS then
    BitVec.ofNat 32 (s.way.align + 4 * b2n s.way.lock + 8 * b2n (!s.way.joined) + 16 * b2n s.way.frozen)
  else if off = Reg.WAY_CENSUS then BitVec.ofNat 32 (s.way.epoch + 2 ^ 8 * if s.isMaster then 0 else s.way.position % 16)
  else 0

end Sys2Proof.Machine
end

