-- ==== Sys2Proof/Machine/Tick.lean ====
section
/-! DEFINITION. One timebase tick, which is what passes when no command waits (log 1). -/

namespace Sys2Proof.Machine

open Sys2Proof

/-- Up to its sampling instant a conversion follows the power of its source domain (R338). -/
def State.latchGated (s : State) : State :=
  { s with hkc.conv := s.hkc.conv.map fun (c : Conv) =>
      if s.mono ≤ c.start + acqTicks then { c with gated := s.gated c.ch } else c }

/-- Does the timebase run (R57)? It stands still in OFF and while a cold reset lasts (R309, R437). -/
def State.clockRuns (s : State) : Bool := s.pow.st ≠ .off

/-- The trigger settings that a tick replaces are remembered for the edges before it (R83). -/
def State.latchTrig (s : State) : State :=
  let c := s.reg Reg.TMG_TRIG_CFG
  let h := s.reg Reg.TMG_TRIG_HOLDOFF
  if c = s.tmg.trigCfg ∧ h = s.tmg.trigHoldoff then s
  else { s with
    tmg.trigCfg := c, tmg.trigHoldoff := h
    tmg.trigOld := (s.mono, s.tmg.trigCfg, s.tmg.trigHoldoff) :: s.tmg.trigOld }

/-- May the link rest in L1.2 (R24, R255)? The host has enabled it, the link is up, the state is STANDBY, or KEEP_WARM with the
link idle, and nothing waits to be fetched or delivered. -/
def State.linkRests (s : State) : Bool :=
  let idle := s.hif.held.isEmpty && s.hif.heldOuts.isEmpty && decide (s.hif.cmdFetch = s.hif.cmdProd) &&
    s.hif.chans.all fun c => c.xfer.isNone && c.queue.isEmpty
  Config.l12Enabled && decide (s.hif.linkSpeed ≠ 0) && decide (s.pow.st = .standby ∨ s.pow.st = .keepWarm) && (idle || !s.busOk)

/-- One tick: device time advances by one (R57); the trigger settings written in the tick before come into force (R83);
the W1C bits set in the tick before can be cleared again (R11); register writes of the tick before can be latched (R86); a link
with nothing to carry goes to L1.2 where the power state holds it there (R24); an EGRESS slice goes on (R414); a message that waits
for RING_OUT starts (R290). -/
def State.tick (s : State) : State :=
  if s.clockRuns then
    let s := s.latchGated.egressTick
    State.refreshSummary (State.ringDrain
      (State.latchTrig { s with
        now := (s.now + 1) % 2 ^ 64, mono := s.mono + 1, fresh := [], held := s.regs
        linkL12 := s.linkL12 || s.linkRests }))
  else s

end Sys2Proof.Machine
end

