-- ==== Sys2Proof/Machine/SelfTest.lean ====
section
/-! DEFINITION. Self-test (chapter 16): BIST_RUN, CONTROL items, ends and retries of slices, background and spare slices, the
full BIST and its reuse at boot, with the meanings of their commands and events. -/

namespace Sys2Proof.Machine

open Sys2Proof

/-! ## BIST_RUN (R416, R221) -/

/-- Die code of a BIST_RUN: 0xFF names H units 0 to 5 and S2 units from 8 on. -/
def bistDie (die unit : Nat) : Nat := if die ≠ 0xFF then die else if unit < 8 then 5 else 6

/-- The first parameter at fault. -/
def State.bistBad (s : State) (die unit slices : Nat) : Option Nat :=
  if die ≠ 0xFF ∧ !s.present die then some 0x10
  else
    let n := sliceCount (bistDie die unit) unit
    if n = 0 then some 0x11 else if slices = 0 ∨ 2 ^ n ≤ slices then some 0x14 else none

/-- Does a rotation run stand on a die? -/
def State.rotRunOn (s : State) (die : Nat) : Bool := s.bst.runs.any fun r => r.die = die && r.kind = Owner.rotation

def State.bistBusy (s : State) (die unit : Nat) : Bool :=
  s.bst.full.isSome ||
    (if die < 5 then s.rotRunOn die
     else unit = 5 || ((unit = 4 || die = 6) && s.pow.st ≠ .ready) || (unit = 4 && s.cel.replay.isSome))

/-- A run of named slices begins. -/
def State.startNamed (s : State) (die unit slices cid : Nat) : State :=
  State.advanceRun { s with bst.runs := s.bst.runs ++ [namedRun die unit slices cid s.mono] } die Owner.bistRun (some cid)

/-- A BIST_RUN of which no slice has run ends (R270, R416). -/
def State.failBist (s : State) (die unit slices cid status reason : Nat) : State :=
  s.complete cid status reason (some slices) (some (namedRun die unit slices cid s.mono).block)

def State.doBistRun (s : State) (h : Hdr) (die unit slices : Nat) : State :=
  s.acceptCmd h Op.bistRun 1 (fun s => s.bistBad die unit slices) fun s cid =>
    let d := bistDie die unit
    if s.bistBusy d unit then s.failBist d unit slices cid St.busy Why.none
    else if d < 5 then s.setJob cid (.bist d unit slices)
    else s.startNamed d unit slices cid

def execBistRun (h : Hdr) (die unit slices : Nat) (s : State) : Host.Outcome State Fault Refusal :=
  runIf "BIST_RUN" (Instr.wf (.bistRun h die unit slices)) (fun s => s.doBistRun h die unit slices) s

/-- Does a die hold a role, its drain being over (R221)? One that is initialised anew to leave BIST holds it up to the change. -/
def State.holds (s : State) (n : Nat) (role : Role) : Bool :=
  s.roleOf n = role && (s.die n).powered && ((s.die n).ready || role = .bist) && !(s.die n).withdrawn && (s.die n).draining.isNone

/-- A CONTROL item reaches a die that does not hold the role (R220, R221). -/
def State.controlMissed (s : State) (body : State → State) : State := (body s).sticky Fld.ROL_STATUS_MISDELIVER_SEEN

/-- A run that starts on a die which a pending change takes out of BIST is abandoned at once, and the die is initialised anew: its
preparation is complete before the change falls due (R211, DESIGN CHOICE, log 114). -/
def State.releave (s : State) (n : Nat) : State :=
  match s.rol.pend with
  | some c => if (mapAt c.map n).role = .stripe ∨ (mapAt c.map n).role = .spare then s.renewDie n else s
  | none => s

/-- A CONTROL item with command `cid` reaches die `n`. -/
def State.doControl (s : State) (n cid : Nat) : State :=
  match s.jobOf cid with
  | .bist die unit slices =>
    if die ≠ n then s
    else if !s.holds n .bist then s.controlMissed fun s => s.failBist die unit slices cid St.misdelivered Why.none
    else if s.rotRunOn n then s.failBist die unit slices cid St.busy Why.none
    else ((s.setJob cid .none).startNamed die unit slices cid).releave n
  | .replay die take mode first count interval =>
    if die ≠ n then s
    else if s.holds n .replay then (s.setJob cid .none).startReplay cid die take mode first count interval
    else s.controlMissed fun s => s.fail cid St.misdelivered Why.none
  | _ => s

def execControl (die cid : Nat) (s : State) : Host.Outcome State Fault Refusal :=
  runIf "CONTROL" (Instr.wf (.control die cid)) (fun s => s.doControl die cid) s

/-! ## Ends of slices (R407, R414, R415) -/

/-- The snapshot schedule starts again where slices of S2 had suspended it (R414). -/
def State.resumeSnaps (s : State) : State :=
  if s.sen.biased && !s.tmg.scheduled then
    { s with
      tmg.scheduled := true, tmg.first := true, tmg.lastSnap := s.now, tmg.prevSnap := s.now, tmg.subDone := 0
      tmg.nextSnap := tickAdd s.now s.tol.prof.period, tmg.intervals := [], tmg.alignWait := []
      sen.subCounts := [], sen.subGrids := [], sen.gridDue := [], sen.subValid := List.replicate 48 true
      sen.settleEnd := some (max (s.sen.settleEnd.getD 0) (s.mono + 10000000)) }
  else s

/-- Is a slice of S2 running, waiting or to come? -/
def State.s2Testing (s : State) : Bool :=
  s.bst.running.any (fun x => x.id.die = 6) || s.bst.retry.any (fun x => x.id.die = 6) ||
    s.bst.runs.any fun r => r.die = 6

/-- Failing egress buffers of the range that a slice tests are retired, 128 at most (R415). -/
def State.retire (s : State) (range failed : Nat) : State :=
  let had := s.bst.retiredIn.getD range 0
  let n := min failed (min (128 - s.hif.retired) (64 - had))
  if n = 0 then s
  else
    let s := State.noteFree { s with hif.retired := s.hif.retired + n, bst.retiredIn := s.bst.retiredIn.set range (had + n) }
    (s.setRegN Reg.BST_POOL_RETIRED s.hif.retired).sticky Fld.BST_STATUS_RETIRED_SEEN

/-- A running slice ends with a result. After a first INCOMPLETE result, which is reported like every other (R415), the slice runs once
more at once. -/
def State.endSlice (s : State) (x : SliceRun) (code misr ref failed : Nat) : State :=
  let s := { s with bst.running := s.bst.running.filter (·.id ≠ x.id) }
  let s := s.releaseUnit x.id
  -- a regular run that waited for the slice begins to convert (R353)
  let s := if x.id.die = 5 ∧ x.id.unit = 1 then s.hkcServe s.mono else s
  let s := s.reportSlice x.id code misr ref
  if code = Slice.incomplete ∧ !x.again then s.tryStart { x with again := true, aborts := 0 }
  else
    if code = Slice.failed ∧ x.id.die < 5 then (s.enterOnly x code misr ref).withdraw x.id.die Gone.bist
    else
      let s := if code = Slice.failed ∧ x.id.die = 5 ∧ x.id.unit = 0 then s.retire x.id.slice (max 1 failed) else s
      let s := s.enterResult x code misr ref
      if x.id.die = 6 ∧ !s.s2Testing then s.resumeSnaps else s

/-- The result of a slice (R407). -/
def sliceResult (entry : Option (Nat × Nat)) (count misr failed : Nat) : Nat × Nat :=
  match entry with
  | none => (Slice.noRef, 0)
  | some (n, ref) =>
    (if count < n then Slice.incomplete else if misr = ref ∧ failed = 0 then Slice.pass else Slice.failed, ref)

/-- A slice reaches its terminal count or is cut short: its pattern count, its MISR, and for EGRESS how many of its buffers
failed (R407, R410). -/
def State.doSliceEnd (s : State) (id : SliceId) (count misr failed : Nat) : State :=
  match s.bst.running.find? (·.id = id) with
  | none => s
  | some x =>
    let egress : Bool := id.die = 5 && id.unit = 0
    let r := sliceResult (s.sliceRef id) count misr (if egress then failed else 0)
    -- a slice of EGRESS that has not obtained every buffer falls short of its terminal count (R414)
    let r := if egress ∧ s.bst.egressLeft ≠ 0 ∧ r.1 ≠ Slice.noRef then (Slice.incomplete, r.2) else r
    (s.endSlice x r.1 misr r.2 failed).rotReturn

def execSliceEnd (id : SliceId) (count misr failedBuffers : Nat) (s : State) : Host.Outcome State Fault Refusal :=
  runIf "SLICE_END" (Instr.wf (.sliceEnd id count misr failedBuffers)) (fun s => s.doSliceEnd id count misr failedBuffers) s

/-- Is this a power state in which background slices start (R413)? -/
def State.bgLive (s : State) : Bool := s.pow.st = .ready || s.pow.st = .stream || s.pow.st = .take

/-- An aborted or waiting slice runs once its unit is free (R407); one of the background, in READY, STREAM and TAKE only (R413). -/
def State.doSliceRetry (s : State) (id : SliceId) : State :=
  match s.bst.retry.find? fun x => x.id = id ∧ (x.owner ≠ Owner.background ∨ s.bgLive) with
  | none => s
  | some x =>
    if s.unitFree id then
      State.startSlice { s with
        bst.retry := s.bst.retry.erase x
        bst.bgWait := s.bst.bgWait && !(x.owner = Owner.background && x.aborts = 0) } x
    else s

def execSliceRetry (id : SliceId) (s : State) : Host.Outcome State Fault Refusal :=
  runIf "SLICE_RETRY" (Instr.wf (.sliceRetry id)) (fun s => s.doSliceRetry id) s

/-- An EGRESS slice has waited 100 ms for a buffer that it has not obtained (R414). Its MISR is what the responses so far gave: a free value. -/
def State.doEgressTimeout (s : State) : State :=
  match s.bst.running.find? fun x => x.id.die = 5 ∧ x.id.unit = 0 ∧ x.start + 25000000 ≤ s.mono ∧ s.bst.egressLeft ≠ 0 with
  | none => s
  | some x =>
    let code := if (s.sliceRef x.id).isNone then Slice.noRef else Slice.incomplete
    s.drew.endSlice x code (s.freeVal % 2 ^ 64) (((s.sliceRef x.id).map (·.2)).getD 0) 0

def execEgressSliceBufferTimeout (s : State) : Host.Outcome State Fault Refusal := run State.doEgressTimeout s

/-! ## Background slices (R411, R413) -/

/-- The live H units in their order: unit and slice. -/
def bgOrder : List (Nat × Nat) := [0, 1, 2, 3].flatMap (unitSlices 5)

/-- The next background slice starts, or waits for its unit. -/
def State.nextBackground (s : State) : State :=
  let (u, i) := bgOrder.getD s.bst.bgNext (0, 0)
  let x : SliceRun := { id := ⟨5, u, i⟩, start := s.mono, aborts := 0, again := false, owner := Owner.background, cid := none }
  let s := { s with bst.bgNext := (s.bst.bgNext + 1) % bgOrder.length }
  if s.unitFree x.id then { s.startSlice x with bst.bgWait := false }
  else { s with bst.retry := s.bst.retry ++ [x], bst.bgWait := true }

/-- Slices that a die in SPARE may run: CORE 4 to 7 and SRAM outside the MiB that holds ref_c (R411). -/
def spareSlices : List (Nat × Nat) :=
  [(0, 4), (0, 5), (0, 6), (0, 7)] ++ (unitSlices 0 1).filter fun t => t.2 ≠ Config.refMib % 32

/-- A slice starts on a die in SPARE of a BM4030-5 (R411, R412); which one is not stated (log 41). -/
def State.spareSlice (s : State) (n : Nat) : State :=
  if s.variant = .bm5 && s.holds n .spare && !(s.bst.running.any fun x => x.id.die = n) then
    let (u, i) := spareSlices.getD (s.freeVal % 35) (0, 4)
    s.drew.startSlice { id := ⟨n, u, i⟩, start := s.mono, aborts := 0, again := false, owner := Owner.spare, cid := none }
  else s

/-- The period of background slices has passed. A slice that still waits for its unit is skipped. -/
def State.doBgTimer (s : State) : State :=
  if s.bgLive && decide (s.bst.bgLast + 250000 * s.fld Fld.BST_BG_PERIOD_VALUE ≤ s.mono) then
    let s := { s with
      bst.bgLast := s.mono, bst.bgWait := false
      bst.retry := s.bst.retry.filter fun x => !(x.owner = Owner.background && x.aborts = 0) }
    let s := if s.flag Fld.BST_CFG_BG_EN then s.nextBackground else s
    if s.flag Fld.BST_CFG_SPARE_EN then (List.range 5).foldl (fun s n => s.spareSlice n) s else s
  else s

def execBgSliceTimer (s : State) : Host.Outcome State Fault Refusal := run State.doBgTimer s

/-! ## The full BIST (R410, R417, R418) -/

/-- A full BIST begins, for the boot or for the shutdown: every die that counts is powered, and every run starts. -/
def State.startFull (s : State) (kind : Nat) : State :=
  -- no P die is powered without its image (R388)
  let ps := if (s.sec.images.getD 2 none).isSome then s.counted else []
  let s := ps.foldl (fun s n =>
      if (s.die n).powered then s else s.powerDie n) s
  let ds := ps ++ [5, 6]
  let new := ds.map fun d =>
    ({ die := d, unit := 0xFF, todo := runSlices d, cid := none, kind, start := s.mono, requested := 0, pass := 0, fail := 0
       incomplete := 0, aborted := 0, noRef := 0, firstBad := none } : BistRun)
  let s := { s with bst.full := some s.mono, bst.fullBad := false, bst.runs := s.bst.runs ++ new }
  ds.foldl (fun s d => s.advanceRun d kind none) s

/-- Has every run of the full BIST ended? -/
def State.fullOver (s : State) : Bool :=
  s.bst.full.isSome && !(s.bst.runs.any fun r => r.kind = Owner.boot || r.kind = Owner.shutdown)

/-- The full BIST is over; every P die loses its power again unless it is in use. -/
def State.endFull (s : State) : State :=
  let s := { s with bst.full := none }
  if s.pow.st = .standby then
    (List.range 5).foldl (fun s n => if (s.die n).powered then s.gateDie n else s) s
  else s

/-- The row of log slot `i`. -/
def State.logRow (s : State) (i : Nat) : List Byte := s.nvBytes (0x10000 + 64 * i) 64

/-- Valid log entries: sequence and row. -/
def State.logRows (s : State) : List (Nat × List Byte) :=
  (List.range 1024).filterMap fun i => (s.logAt i).map fun q => (q, s.logRow i)

/-- The newest SHUTDOWN_PASS entry. -/
def State.lastPass (s : State) : Option (Nat × List Byte) :=
  s.logRows.foldl (fun b e =>
    if fieldLe e.2 4 2 ≠ 0x20 then b
    else match b with
      | some c => if newer e.1 c.1 then some e else b
      | none => some e) none

/-- Power-on hours since a log entry. -/
def State.hoursSince (s : State) (row : List Byte) : Nat := (s.ctrValue 3 + 2 ^ 32 - fieldLe row 0x38 4) % 2 ^ 32

/-- The conditions under which boot BIST is skipped (R418). -/
def State.skipsBist (s : State) : Bool :=
  match s.lastPass with
  | none => false
  | some (q, row) =>
    let bars := fun (t : Nat) => [0x01, 0x04, 0x10, 0x15, 0x21].contains t
    -- an entry that is held for later writing is newer than every written one
    !(s.logRows.any fun e => newer e.1 q && bars (fieldLe e.2 4 2)) && !(s.nv.deferred.any fun e => bars e.1) &&
      s.hoursSince row < fieldLe row 0x10 2 && fieldLe row 0x14 4 = s.imageVersion 0 && fieldLe row 0x18 4 = s.imageVersion 2 &&
      (s.abNow abBist).isSome

/-- BST_BOOT at step 6 of the boot, and the full BIST where it is not skipped. -/
def State.bootBist (s : State) : State :=
  let age := match s.lastPass with
    | some (_, row) => min (s.hoursSince row) 0xFFFF
    | none => 0xFFFF
  let s := s.setFld Fld.BST_BOOT_AGE_H age
  if s.skipsBist then s.setFld Fld.BST_BOOT_SKIPPED 1
  else (s.setFld Fld.BST_BOOT_RAN 1).startFull Owner.boot

/-- The log entry of a shutdown in which every slice passed (R417). -/
def State.logPass (s : State) : State :=
  s.nvLog 0x20 (leBytes 2 (s.fld Fld.BST_CFG_VALID_HOURS) ++ leBytes 2 0 ++ leBytes 4 (s.imageVersion 0) ++
    leBytes 4 (s.imageVersion 2))

/-! ## Registers (R420) -/

/-- A write of an RW register of the BST_ block. -/
def State.writeBst (s : State) (off : Nat) (v : Word) : State :=
  let x := v.toNat % 2 ^ 16
  if (off = Reg.BST_ROTATE ∧ (x < 10 ∨ 3600 < x)) ∨ (off = Reg.BST_BG_PERIOD ∧ (x = 0 ∨ 1000 < x)) then
    s.sticky Fld.BST_STATUS_CFG_REJ
  else s.hostSet off v

/-- Live fields of the BST_ registers. -/
def State.liveBst (s : State) (off : Nat) : Word :=
  if off = Reg.BST_STATUS then
    let run := s.bst.runs.any fun r => r.die < 5 || r.kind = Owner.bistRun
    let bg := s.bst.running.any fun x => x.owner = Owner.background
    BitVec.ofNat 32 (b2n run + 2 * b2n bg + 4 * b2n s.bst.full.isSome + 8 * b2n (s.abNow abBist).isNone)
  else
    match (List.range 5).find? fun n => off = Reg.BST_DIE n with
    | some n =>
      let age := match (s.die n).lastRun with
        | some t => min ((s.mono - t) / 250000000) 0xFFFFFF
        | none => 0xFFFFFF
      BitVec.ofNat 32 (2 ^ 8 * age)
    | none => 0

end Sys2Proof.Machine
end

