-- ==== Sys2Proof/Machine/Shutter.lean ====
section
/-! DEFINITION. The meanings of the coil drive's commands and events (chapter 7): each is the drive's own operation, followed by
what it means for a calibration that moves the shutter (R163) or holds a capture (R175); and the COIL_ registers (R209). -/

namespace Sys2Proof.Machine

open Sys2Proof

/-- An event of a coil group, with what follows from it for calibrations. -/
def State.coilEvent (f : State → Group → State) (g : Group) (s : State) : State :=
  (f s g).coilHook

def execCoilRun (h : Hdr) (coil entry : Nat) (s : State) : Host.Outcome State Fault Refusal :=
  runIf "COIL_RUN" (Instr.wf (.coilRun h coil entry)) (fun s => (s.doCoilRun h coil entry).coilHook) s

def execCoilStop (h : Hdr) (coil entry : Nat) (s : State) : Host.Outcome State Fault Refusal :=
  runIf "COIL_STOP" (Instr.wf (.coilStop h coil entry)) (fun s => (s.doCoilStop h coil entry).coilHook) s

def execChopGridPoint (g : Group) (s : State) : Host.Outcome State Fault Refusal := run (State.coilEvent State.doGridPoint g) s

def execCoilCurrentAtTarget (g : Group) (s : State) : Host.Outcome State Fault Refusal :=
  run (State.coilEvent State.doAtTarget g) s

def execPhase (g : Group) (s : State) : Host.Outcome State Fault Refusal := run (State.coilEvent State.doPhase g) s

def execPhaseDurationEnd (g : Group) (s : State) : Host.Outcome State Fault Refusal :=
  run (State.coilEvent State.doPhaseEnd g) s

def execWaitKink (g : Group) (s : State) : Host.Outcome State Fault Refusal := run (State.coilEvent State.doWait g) s

def execWaitKinkTimeout (g : Group) (s : State) : Host.Outcome State Fault Refusal :=
  run (State.coilEvent State.doWaitTimeout g) s

def execJumpIf (g : Group) (s : State) : Host.Outcome State Fault Refusal := run (State.coilEvent State.doJump g) s

def execSetFlag (g : Group) (s : State) : Host.Outcome State Fault Refusal := run (State.coilEvent State.doSetFlag g) s

def execEndProfile (g : Group) (s : State) : Host.Outcome State Fault Refusal := run (State.coilEvent State.doEnd g) s

def execIllegalWord (g : Group) (s : State) : Host.Outcome State Fault Refusal := run (State.coilEvent State.doIllegal g) s

def execUntimedLimit (g : Group) (s : State) : Host.Outcome State Fault Refusal := run (State.coilEvent State.doUntimed g) s

def execKinkSampleTrigger (g : Group) (s : State) : Host.Outcome State Fault Refusal := run (State.coilEvent State.doSample g) s

def execKinkWindowDecision (g : Group) (s : State) : Host.Outcome State Fault Refusal :=
  run (State.coilEvent (fun s g => (s.doWindow g).kinkHook s g) g) s

def execCoilOc (g : Group) (s : State) : Host.Outcome State Fault Refusal := run (State.coilEvent State.doOverCurrent g) s

def execGapEnd (g : Group) (s : State) : Host.Outcome State Fault Refusal := run (State.coilEvent State.doGapEnd g) s

def execGapStuck (g : Group) (s : State) : Host.Outcome State Fault Refusal := run (State.coilEvent State.doGapStuck g) s

def execMixedDecayFastEnd (g : Group) (s : State) : Host.Outcome State Fault Refusal := run (State.coilEvent State.doMixedEnd g) s

def execCoilBlankingEnd (g : Group) (atTarget : Bool) (s : State) : Host.Outcome State Fault Refusal :=
  run (State.coilEvent (fun s g => s.doBlankEnd g atTarget) g) s

/-! ## Registers (R209) -/

/-- A write of a microcode word: accepted while both groups are IDLE with nothing held. -/
def State.writeUcode (s : State) (w : Nat) (v : Word) : State :=
  if s.coil.a.active || s.coil.b.active then s.sticky Fld.COIL_STATUS_CFG_REJ else s.setReg (Reg.COIL_UCODE w) v

def execCoilUcodeWrite (w : Nat) (v : Word) (s : State) : Host.Outcome State Fault Refusal :=
  runIf "COIL_UCODE_WRITE" (Instr.wf (.coilUcodeWrite w v)) (fun s => s.woken.writeUcode w v) s

/-- Is a value in the range of its COIL_ register? -/
def coilValueOk (off : Nat) (v : Word) : Bool :=
  if off = Reg.COIL_CFG then let m := fldOf v Fld.COIL_CFG_MIX_US; 1 ≤ m && m ≤ 24
  else if off = Reg.COIL_OC_LIMIT then let x := v.toNat % 512; 10 ≤ x && x ≤ 300
  else if off = Reg.COIL_KINK_CFG_A ∨ off = Reg.COIL_KINK_CFG_B then
    let a := kinkAvg v
    1 ≤ kinkThr v && 1 ≤ a && a ≤ 16 && a % 2 ^ kinkSamp v = 0
  else true

/-- A write of a COIL_ register with a field to write (R209). DESIGN CHOICE (log 116): a write of one whose every field is RO, which R9
discards, leaves COIL_STATUS.CFG_REJ as it is. -/
def State.writeCoil (s : State) (off : Nat) (v : Word) : State :=
  if coilValueOk off v then s.hostSet off v else s.sticky Fld.COIL_STATUS_CFG_REJ

def groupCode : GroupState → Nat
  | .idle => 0
  | .running => 1
  | .gap => 2

def State.engStatus (s : State) (e : Eng) : Word :=
  BitVec.ofNat 32 (s.wordAt e + 2 ^ 8 * e.coil + 2 ^ 10 * (e.flags % 16) + 2 ^ 16 * e.result + 2 ^ 18 * b2n e.kinked +
    2 ^ 19 * b2n e.gapRec + 2 ^ 20 * e.reason)

/-- Live fields of the COIL_ registers. -/
def State.liveCoil (s : State) (off : Nat) : Word :=
  if off = Reg.COIL_STATUS then
    let f := match s.coil.filt with | .unknown => 0 | .one => 1 | .two => 2 | .moving => 3
    BitVec.ofNat 32 (groupCode s.coil.a.st + 4 * groupCode s.coil.b.st + 16 * b2n s.coil.a.hold.isSome +
      32 * b2n s.coil.b.hold.isSome + 64 * f + 256 * b2n s.coilEnabled)
  else if off = Reg.COIL_ENG_A_STATUS then s.engStatus s.coil.a
  else if off = Reg.COIL_ENG_B_STATUS then s.engStatus s.coil.b
  else 0

end Sys2Proof.Machine
end

