-- ==== Sys2Proof/Machine/Trigger.lean ====
section
/-! DEFINITION. Triggers (R74 to R77): the pin's width filter, acceptance, holdoff, and forwarding on the ring, with the
meanings of their events. -/

namespace Sys2Proof.Machine

open Sys2Proof

/-- Ticks for which the pin must hold its level. -/
def TrigPend.width (p : TrigPend) : Nat := fldOf p.cfg Fld.TMG_TRIG_CFG_TRIG_MIN_WIDTH

/-- A filtered edge whose level has held until tick `t` waits for acceptance (R74). -/
def State.ripenEdge (s : State) (t : Nat) : State :=
  match s.tmg.trigEdge with
  | some p => if tickLe (tickAdd p.t p.width) t then
      { s with tmg.trigEdge := none, tmg.trigPending := s.tmg.trigPending ++ [p] } else s
  | none => s

/-- An edge of TRIG_IN at tick `t` to `level`: it ends an older edge's filter time, and starts one of its own if it has the
selected polarity (R74, R83). -/
def State.doTrigEdge (s : State) (t : Nat) (level : Bool) : State :=
  let s := { s.ripenEdge t with tmg.trigEdge := none }
  let (cfg, holdoff) := s.trigSet t
  let rising := fldOf cfg Fld.TMG_TRIG_CFG_TRIG_EDGE = 0
  if fldOf cfg Fld.TMG_TRIG_CFG_PIN_EN = 1 ∧ level = rising then
    { s with tmg.trigEdge := some { t, src := 0, recv := s.now, cfg, holdoff } }
  else s

def execTrigInEdge (t : Nat) (level : Bool) (s : State) : Host.Outcome State Fault Refusal :=
  runIf "TRIG_IN_EDGE" (Instr.wf (.trigInEdge t level)) (fun s => if tickLe t s.now then s.doTrigEdge t level else s) s

/-- The frame to which tick `t` belongs (R77): the first one closed at or after it, else the frame now integrating. -/
def State.frameAt (s : State) (t : Nat) : Nat :=
  ((s.trs.snaps.filter fun e => tickLe t e.2).map (·.1)).foldl min s.tmg.frame

/-- Does holdoff refuse a trigger (R76)? -/
def State.trigHeld (s : State) (p : TrigPend) : Bool := s.tmg.trigs.any fun a => a < p.t && p.t ≤ a + p.holdoff.toNat

/-- A trigger is accepted (R75 to R77). -/
def State.acceptTrigger (s : State) (p : TrigPend) : State :=
  let k := s.frameAt p.t
  let s := { s with tmg.trigs := p.t :: s.tmg.trigs }
  let s := ((s.bump Reg.TMG_TRIG_COUNT).sticky Fld.TMG_STATUS_TRIG_SEEN).setPair Reg.TMG_TRIG_TIME_LO p.t
  let s := s.event 0x0001 (leBytes 8 p.t ++ leBytes 8 k)
  let s := if p.src = 0 && fldOf p.cfg Fld.TMG_TRIG_CFG_RING_FWD = 1 && s.ringTrigOk then
    s.ringSend Msg.trigger (leNats 7 p.t) else s
  s.takeTrigger p.t k (p.src = 1) p.recv

/-- The oldest waiting trigger is judged: one that carries the timestamp of an accepted trigger is the same trigger. -/
def State.judgeTrigger (s : State) : State :=
  match s.tmg.trigPending with
  | [] => s
  | p :: rest =>
    let s := { s with tmg.trigPending := rest }
    if s.tmg.trigs.contains p.t then s
    else if s.trigHeld p then s.bump Reg.TMG_TRIG_HELD
    else s.acceptTrigger p

def execTriggerAccept (s : State) : Host.Outcome State Fault Refusal := run (fun s => (s.ripenEdge s.now).judgeTrigger) s

end Sys2Proof.Machine
end

