-- ==== Sys2Proof/Machine/Tollgate.lean ====
section
/-! DEFINITION. The Tollgate (chapter 12): requests for streams, profiles and budgets, the energy plan, and what admission puts
into force at a snapshot. -/

namespace Sys2Proof.Machine

open Sys2Proof

/-! ## The profile outside a band phase -/

/-- A profile comes into force; in the band phase it waits for the phase's end, which it disturbs (R170, R179). -/
def State.setOwnProf (s : State) (p : Profile) : State :=
  match s.casks.restore, s.casks.cal with
  | some _, _ => { s with casks.restore := some p }
  | none, some k =>
    if k.stage = 2 ∧ k.displaced.isSome then
      { s with casks.cal := some { k with displaced := some p, interfered := k.interfered || decide (k.displaced ≠ some p) } }
    else { s with tol.prof := p }
  | none, none => { s with tol.prof := p }

/-- A thermal step or a Tollgate reduction falls due: a band phase ends at its next band boundary (R170). -/
def State.interfere (s : State) : State :=
  match s.casks.cal with
  | some k => if k.stage = 2 ∧ k.displaced.isSome then { s with casks.cal := some { k with interfered := true } } else s
  | none => s

/-- Does a change of profile flush (R136)? -/
def profFlush (a b : Profile) : Bool :=
  a.period ≠ b.period || a.mode ≠ b.mode || decide ((a.x0, a.y0, a.w, a.h) ≠ (b.x0, b.y0, b.w, b.h))

/-- The kinds that a change of profile enters in a take's change list (R243). -/
def profKinds (a b : Profile) : Nat :=
  Chg.period * b2n (decide (a.period ≠ b.period)) + Chg.mode * b2n (decide (a.mode ≠ b.mode)) +
    Chg.depth * b2n (decide (a.l ≠ b.l))

/-- Causes of BUDGET_STEP (R333). -/
abbrev Step.admission : Nat := 0
abbrev Step.cap : Nat := 1
abbrev Step.thermal : Nat := 2
abbrev Step.budget : Nat := 3

/-- The steps in force as a change in them shows (R322): the bits of TOL_STEPS, the runtime steps, and how far the steps on L, the
mode and the rate go. -/
def stepShape (steps runtime : Nat) (c : Profile) : List Nat :=
  [steps, runtime, if steps.testBit 1 then c.l else 0, if steps.testBit 2 then c.mode else 0, if steps.testBit 3 then c.period else 0]

/-- A configuration comes into force at S_k (R322, R329, R333): profile, flush, change list, and the steps that it shows. -/
def State.putProfile (s : State) (k : Nat) (cfg : Profile) (cause : Nat) : State :=
  let old := s.ownProf
  let band := s.inBand
  let s := s.setOwnProf cfg
  let s := if profFlush old cfg && s.inStream && !band then { s with trs.dueCauses := s.trs.dueCauses ||| Cause.profile } else s
  let kinds := profKinds old cfg
  let s := s.takeChange k (kinds + Chg.thermal * b2n (decide (cause = Step.thermal)))
  let steps := stepsOf s.tol.req cfg (pMin s.rol.map s.tol.req s.tol.level)
  let shape := stepShape steps s.tol.runtime cfg
  let shown := steps + 2 ^ 4 * min s.tol.runtime 15
  let s := s.setRegN Reg.TOL_STEPS shown
  if shape = s.tol.stepShape then s
  else
    (State.sticky { s with tol.stepShape := shape } Fld.TOL_STATUS_STEP_SEEN).event 0x0100
      (leBytes 1 cause ++ leBytes 1 shown ++ leBytes 1 cfg.l ++ leBytes 1 cfg.mode ++ leBytes 4 cfg.period ++ leBytes 8 k)

/-- The requested profile is judged again at S_k (R317, R318, R329): the status, and the state with the configuration in
force, unless it is refused. -/
def State.reform (s : State) (k cause : Nat) : State × Nat :=
  let (st, c) := s.admission s.budget s.rol.map s.tol.req s.takeStore
  if st = St.overBudget then (s, st) else (s.putProfile k (runtimeSteps s.tol.runtime c) cause, st)

/-! ## START_STREAM and STOP_STREAM (R62, R132, R270) -/

/-- Is a power-state transition in progress (R310)? -/
def State.moving (s : State) : Bool := s.pow.target.isSome

def State.doStartStream (s : State) (h : Hdr) : State :=
  s.acceptCmd h Op.startStream 1
    (fun s => if s.refPeriodBad s.tol.req.period (pMin s.rol.map s.tol.req 0) then some Why.noField else none) fun s cid =>
    if s.pow.st ≠ .ready ∨ s.moving ∨ s.settling ∨ s.syncBusy then s.fail cid St.busy Why.none
    else { s with tol.start := some (cid, 0), sec.chainStart := s.now }

def execStartStream (h : Hdr) (s : State) : Host.Outcome State Fault Refusal :=
  runIf "START_STREAM" (Instr.wf (.startStream h)) (fun s => s.doStartStream h) s

/-- The result block of SET_PROFILE and START_STREAM (R270). -/
def Profile.block (p : Profile) : List Byte :=
  leBytes 4 p.period ++ leBytes 1 p.x0 ++ leBytes 1 p.y0 ++ leBytes 1 p.w ++ leBytes 1 p.h ++ leBytes 1 p.fmt ++
    leBytes 1 p.mode ++ leBytes 1 p.l ++ leBytes 1 (b2n p.preview)

/-- A command that ends at a snapshot with the profile in its result block: its slot, status and VALUE. -/
structure Told where
  cid : Nat
  status : Nat
  value : Option Nat
  deriving DecidableEq, Repr

/-- Its completion, once every change of the snapshot is made: the block holds the profile in force from k0 + 1 on (R270). -/
def State.tell (s : State) (x : Told) : State := s.complete x.cid x.status Why.none x.value (some s.ownProf.block)

/-- A START_STREAM falls due at S_k, tick `t` (R62, R310, R321). No slice of the hub runs on into the stream (R410). -/
def State.dueStart (s : State) (k t : Nat) : State × List Told :=
  match s.tol.start with
  | none => (s, [])
  | some (cid, _) =>
    if tickLe t (s.acceptTick cid) then (s, [])
    else
      let s := { s with tol.start := none }
      if s.pow.st ≠ .ready ∨ s.moving then (s.fail cid St.busy Why.none, [])
      else
        let old := s.tol.runtime
        let (s, st) := State.reform { s with tol.runtime := 0 } k Step.admission
        if st = St.overBudget then
          -- the profile in force goes on: the result block shows it (R270)
          ({ s with tol.runtime := old }, [⟨cid, St.overBudget, none⟩])
        else
          let s := (s.goState .stream).wantHub
          let s := { s with
            trs.firstFrame := k + 1, trs.lastFrame := none, trs.dueCauses := s.trs.dueCauses ||| Cause.streamStart
            trs.burstRun := 0, trs.burstSeen := k, trs.queuedPrev := [], trs.revWait := [], trs.episode := none
            trs.coldEnd := none, trs.mon := [], trs.monSince := 0, sec.chainOver := false }
          (s, [⟨cid, st, some (k + 1)⟩])

/-- STOP_STREAM (R132, R270). -/
def State.doStopStream (s : State) (h : Hdr) : State :=
  s.acceptCmd h Op.stopStream 1 (fun _ => none) fun s cid =>
    if !s.inStream ∨ s.tol.stop.isSome ∨ s.trs.lastFrame.isSome then s.complete cid St.ok Why.none (some allOnes) none
    else { s with tol.stop := some cid }

def execStopStream (h : Hdr) (s : State) : Host.Outcome State Fault Refusal :=
  runIf "STOP_STREAM" (Instr.wf (.stopStream h)) (fun s => s.doStopStream h) s

/-- A STOP_STREAM falls due at S_k: frame `k` is the last one, a running take ends with it, and its last L frames, L that of frame `k`, carry TAIL
(R132, R245). -/
def State.dueStop (s : State) (k t : Nat) : State :=
  match s.tol.stop with
  | none => s
  | some cid =>
    if tickLe t (s.acceptTick cid) then s
    else
      let s := { s with tol.stop := none, tol.stopping := some (k, cid), trs.lastFrame := some k }
      let l := match s.frameOf k with | some f => f.prof.l | none => 0
      let s := s.mapFrames fun f => if f.streamed ∧ f.k ≤ k ∧ k < f.k + l then { f with tail := true } else f
      s.endTakeAt k 3 Why.none

/-! ## SET_PROFILE (R29, R54, R271) -/

/-- The checks at acceptance. The P_min checks of R54 and R65 are made under the map of the effective snapshot. -/
def profileBad (r : ProfileReq) : Option Nat :=
  match profileFieldBad r with
  | some o => some o
  | none =>
    match windowBad r with
    | some o => some o
    | none =>
      if r.period < 65104 ∨ 1000000000 < r.period then some 0x10
      else if r.fmt = Fmt.raw20 ∧ 50000000 < r.period then some 0x18
      else none

def State.doSetProfile (s : State) (h : Hdr) (r : ProfileReq) (frame : Nat) : State :=
  s.acceptCmd h Op.setProfile 1 (fun _ => profileBad r) (fun s cid =>
    if s.pow.st = .take ∨ s.casks.cal.isSome then s.fail cid St.busy Why.none
    else { s with tol.setProf := some (cid, reqProfile r, frame) }) (profileFieldBad r)

def execSetProfile (h : Hdr) (p : ProfileReq) (frame : Nat) (s : State) : Host.Outcome State Fault Refusal :=
  runIf "SET_PROFILE" (Instr.wf (.setProfile h p frame)) (fun s => s.doSetProfile h p frame) s

/-- A SET_PROFILE falls due at S_k (R29, R215): the map is balanced for a new window, the profile is checked and judged under
it, and what admission forms comes into force. -/
def State.dueProfile (s : State) (k t : Nat) : State × List Told :=
  match s.tol.setProf with
  | none => (s, [])
  | some (cid, p, frame) =>
    if tickLe t (s.acceptTick cid) = true ∨ k < frame then (s, [])
    else
      let s := { s with tol.setProf := none }
      let m := s.mapFor s.rol.map p
      if s.pow.st = .take ∨ s.casks.cal.isSome then (s.fail cid St.busy Why.none, [])
      else match s.periodBad m p with
        | some o => (s.fail cid St.badParam o, [])
        | none =>
          let (st, c) := s.admission s.budget m p 0
          if st = St.overBudget then (s, [⟨cid, St.overBudget, none⟩])
          else
            let s := if m = s.rol.map then s else (s.applyMap k m true true).1
            (State.putProfile { s with tol.req := p, tol.runtime := 0 } k c Step.admission, [⟨cid, st, some k⟩])

/-! ## SET_BUDGET (R317) -/

/-- The first budget field at fault. -/
def budgetBad (cap window flat mask : Nat) : Option Nat :=
  if 15 < mask then some 0x20
  else if bitN mask 0 ∧ cap ≠ 0 ∧ (cap < 1000 ∨ 30000 < cap) then some 0x10
  else if bitN mask 1 ∧ (window = 0 ∨ 60000 < window) then some 0x14
  else if bitN mask 3 ∧ flat ≠ 0 ∧ (flat < 2000 ∨ 25000 < flat) then some 0x1C
  else none

/-- The always-on entry in milliwatt (R314): a constant of the state. -/
def State.alwaysOnMw (s : State) : Nat := (rndDiv (Config.coeff (Coef.ledger (stateCode s.pow.st))) 1000).toNat

/-- Cap and flat target in force afterwards leave no room for the sensor and always-on entries of the last interval (log 111: 0 before
the first). -/
def State.budgetClash (s : State) (cap flat mask : Nat) : Bool :=
  let c := if bitN mask 0 then cap else s.regN Reg.TOL_CAP_MW
  let f := if bitN mask 3 then flat else s.regN Reg.TOL_FLAT_MW
  c != 0 && f != 0 && decide (c < f + s.regN Reg.TOL_SENSOR_MW + s.tol.alwaysOn)

def State.doSetBudget (s : State) (h : Hdr) (cap window allow flat mask : Nat) : State :=
  s.acceptCmd h Op.setBudget 1 (fun s => match budgetBad cap window flat mask with
      | some o => some o
      | none => if s.budgetClash cap flat mask then some Why.noField else none) fun s cid =>
    { s with tol.budget := some (cid, [cap, window, allow, flat, mask]) }

def execSetBudget (h : Hdr) (cap window allow flat mask : Nat) (s : State) : Host.Outcome State Fault Refusal :=
  runIf "SET_BUDGET" (Instr.wf (.setBudget h cap window allow flat mask)) (fun s => s.doSetBudget h cap window allow flat mask) s

/-- TOL_ALLOW_LEFT_MJ of an allowance left in microjoule. -/
def allowMj (uj : Nat) : Nat := ceilDiv uj 1000

/-- Budget values are written. -/
def State.putBudget (s : State) (v : List Nat) : State :=
  let mask := v.getD 4 0
  let s := if bitN mask 0 then s.setRegN Reg.TOL_CAP_MW (v.getD 0 0) else s
  let s := if bitN mask 1 then s.setRegN Reg.TOL_WINDOW_MS (v.getD 1 0) else s
  let s := if bitN mask 2 then
      let a := v.getD 2 0
      { (s.setRegN Reg.TOL_ALLOW_MJ a).setRegN Reg.TOL_ALLOW_LEFT_MJ a with tol.allowUj := 1000 * a, tol.allowOut := false }
    else s
  if bitN mask 3 then s.setRegN Reg.TOL_FLAT_MW (v.getD 3 0) else s

/-- What the frames of a state draw beside its fixed terms, in microwatt of the flat sum: none where no stream runs or its last
frame has come. -/
def State.flatPlan (s : State) : Nat :=
  let p := s.ownProf
  let t := s.planTerms s.rol.map p s.takeStore
  t.flatFixed + if s.inStream && s.trs.lastFrame.isNone then uwAt t.frame p.period else 0

/-- Filler is the first activity removed when a higher control reduces power (R26, R27). -/
def State.stopFiller (s : State) : State := { s with tol.filler := [] }

/-- A SET_BUDGET falls due at S_k (R317). -/
def State.dueBudget (s : State) (k t : Nat) : State :=
  match s.tol.budget with
  | none => s
  | some (cid, v) =>
    if tickLe t (s.acceptTick cid) then s
    else
      let s := { s with tol.budget := none }
      let before := s.ownProf
      let (new, st) := State.reform { (s.putBudget v) with tol.runtime := 0 } k Step.budget
      -- what falls due at S_k is in force from frame k + 1 on (R16)
      if st = St.overBudget then s.complete cid St.overBudget Why.none (some (k + 1)) none
      else (if new.flatPlan < s.flatPlan then new.stopFiller else new).complete cid (if new.ownProf = before then St.ok else St.admitReduced) Why.none (some (k + 1)) none

/-! ## Runtime and throttle steps at a snapshot (R318, R329) -/

/-- A runtime step falls due at S_k. -/
def State.dueRuntime (s : State) (k : Nat) : State :=
  if s.tol.runtimeDue then
    let s := { s with tol.runtimeDue := false }
    match runtimeStep s.ownProf with
    | none => s
    | some p => (State.putProfile { s.stopFiller with tol.runtime := s.tol.runtime + 1, tol.runtimeAt := s.mono } k p Step.cap).interfere
  else s

/-- A throttle level falls due at S_k. Where admission refuses, only the throttled P_min raises the period (log 48). -/
def State.dueThrottle (s : State) (k : Nat) : State :=
  if s.tol.levelDue = s.tol.level then s
  else
    let s := State.interfere { (if s.tol.level < s.tol.levelDue then s.stopFiller else s) with tol.level := s.tol.levelDue }
    let (t, st) := s.reform k Step.thermal
    if st = St.overBudget then
      let p := s.ownProf
      s.putProfile k { p with period := max p.period (pMin s.rol.map p s.tol.level) } Step.thermal
    else t

/-! ## ENERGY_PLAN (R323) -/

/-- Is a die in THROTTLE or above? -/
def State.anyThrottled (s : State) : Bool := s.tol.thm.any fun t => decide (2 ≤ t.st)

/-- Filler under R324 for a plan without filler, in microwatt: up to the flat target, the dies' headroom and the cap; none
while a die is throttled. -/
def State.planFiller (s : State) (t : PlanTerms) (period : Nat) (others : Nat) : Nat :=
  let flat := s.regN Reg.TOL_FLAT_MW * 1000
  let work := t.flatFixed + uwAt t.frame period
  let total := t.fixed + uwAt t.frame period
  let static := Config.coeff Coef.dieStatic
  let head := sumN (t.dieFrame.map fun w => 2600000 - (static + uwAt w period)) +
    others * (2600000 - (static + Config.coeff Coef.dieBist))
  let room := if s.regN Reg.TOL_CAP_MW = 0 then head else s.regN Reg.TOL_CAP_MW * 1000 - total
  if flat = 0 ∨ s.tol.level ≠ 0 ∨ s.anyThrottled then 0 else min (flat - work) (min head room)

/-- Bytes per pixel and frame that a die's Cellar carries, in eighths (R234). -/
def cellarEighths (p : Profile) (store : Nat) : Nat :=
  176 + (if p.l = 0 then 0 else 49 + 50 * p.l) + (if store = 0 then 0 else segBytes p.fmt * 8 / 64)

/-- The uncertainty of a plan in mW under R315: a tenth of it; with ρ applied, 3 % of the P dies' part and a tenth of the rest
(log 111). -/
def State.uncertainty (s : State) (planMw diesMw : Nat) : Nat :=
  let d := if s.flag Fld.TOL_XCHK_CFG_EN && s.flag Fld.TOL_XCHK_CFG_APPLY then diesMw else 0
  (rndDiv (10 * (planMw - d) + 3 * d : Nat) 100).toNat

/-- The plan's result block and VALUE. Energies are formed exactly and rounded to the nearest unit. -/
def State.planReport (s : State) (m : List MapEnt) (req c : Profile) (frames store : Nat) : Nat × List Byte :=
  let t := s.planTerms m c store
  let powered := (m.filter fun e => e.role ≠ .off).length
  let fill := s.planFiller t c.period (powered - t.dieFrame.length)
  let mw := fun (uw : Nat) => (rndDiv uw 1000).toNat
  let exact := (t.fixed + fill) * c.period + 250 * t.frame
  let total := t.fixed + fill + uwAt t.frame c.period
  let planMw := (rndDiv exact (1000 * c.period)).toNat
  let perFrame := 4 * exact
  let uj := if frames = 0 then total else (rndDiv (perFrame * frames) (10 ^ 9)).toNat
  let mj := if frames = 0 then planMw else (rndDiv (perFrame * frames) (10 ^ 12)).toNat
  let cellar := uwAt (s.fld Fld.TOL_DRAM_PJB_VALUE * cellarEighths c store * nWin c / 8) c.period
  let allow := s.regN Reg.TOL_ALLOW_MJ
  let cover := if allow = 0 then allOnes else s.regN Reg.TOL_ALLOW_LEFT_MJ * 10 ^ 12 / max 1 perFrame
  let cap := s.regN Reg.TOL_CAP_MW
  let margin := if cap = 0 then 0x7FFFFFFF else wrapN 32 ((cap : Int) - planMw)
  (mj, leBytes 4 planMw ++ leBytes 4 (mw t.sensor) ++ leBytes 4 (mw (t.hFixed + t.pcie + uwAt t.hFrame c.period)) ++
    leBytes 4 (mw (t.pFixed + uwAt (sumN t.dieFrame) c.period + fill)) ++ leBytes 4 (mw fill) ++ leBytes 4 (mw cellar) ++
    leBytes 4 c.period ++ leBytes 1 (stepsOf req c (pMin m req s.tol.level)) ++ leBytes 1 c.l ++ leBytes 1 c.mode ++
    leBytes 1 (b2n c.preview) ++ leBytes 8 uj ++ leBytes 8 cover ++ leBytes 4 margin ++
    leBytes 4 (s.uncertainty planMw (mw (t.pFixed + uwAt (sumN t.dieFrame) c.period + fill))) ++ leBytes 8 0)

/-- The fields of ENERGY_PLAN that are checked before any other (R271). -/
def planFieldBad (r : ProfileReq) (store : Nat) : Option Nat :=
  match profileFieldBad r with
  | some o => some o
  | none => if 2 < store then some 0x20 else none

/-- The first field of ENERGY_PLAN at fault: the fields of R271, then the rules of R323. -/
def State.planBad (s : State) (r : ProfileReq) (store : Nat) : Option Nat :=
  match planFieldBad r store with
  | some o => some o
  | none =>
    match windowBad r with
    | some o => some o
    | none => s.periodBad s.rol.map (reqProfile r)

def State.doEnergyPlan (s : State) (h : Hdr) (r : ProfileReq) (frames store : Nat) : State :=
  s.acceptCmd h Op.energyPlan 4 (fun s => s.planBad r store) (fun s cid =>
    let (st, c) := s.admission s.budget s.rol.map (reqProfile r) store
    let (v, b) := s.planReport s.rol.map (reqProfile r) c frames store
    s.complete cid st Why.none (some v) (some b)) (planFieldBad r store)

def execEnergyPlan (h : Hdr) (p : ProfileReq) (frames store : Nat) (s : State) : Host.Outcome State Fault Refusal :=
  runIf "ENERGY_PLAN" (Instr.wf (.energyPlan h p frames store)) (fun s => s.doEnergyPlan h p frames store) s

end Sys2Proof.Machine
end

