-- ==== Sys2Proof/Machine/Ledger.lean ====
section
/-! DEFINITION. The Tollgate's intervals (chapter 12): the ledger, the cap, the allowance, flat dissipation, the cross-check,
thermal control and the CRIT shutdown, with the meanings of their events and the TOL_ and THM_ registers. -/

namespace Sys2Proof.Machine

open Sys2Proof

/-! ## The ledger (R314, log 23) -/

/-- Coefficients of the ledger: powers in microwatt, energies in picojoule per count. -/
abbrev Coef.l1 (speed : Nat) : Nat := 120 + speed
abbrev Coef.l12 (speed : Nat) : Nat := 128 + speed
abbrev Coef.mgmtCycle : Nat := 140
abbrev Coef.poolByte : Nat := 141
abbrev Coef.hubByte : Nat := 142
abbrev Coef.nvRow : Nat := 143
abbrev Coef.coreCycle : Nat := 144
abbrev Coef.fillerCycle : Nat := 145
abbrev Coef.cellarByte : Nat := 146
abbrev Coef.trellisByte : Nat := 147
/-- Static power of a die (0 to 4 for P_n, 5 for H) at a reading, and array power by bias code and SEN_VB_MEAS. -/
abbrev Coef.staticAt (die : Nat) (r : Int) : Nat := 100000 * (die + 1) + wrapN 16 r
abbrev Coef.arrayAt (code vb : Nat) : Nat := 1000000 + 65536 * code + vb

/-- Microjoule of one interval from a power in microwatt and an energy in picojoule, rounded to the nearest. -/
def entryUj (uw pj : Nat) : Nat := (rndDiv (uw * 1000 + pj) 1000000).toNat

/-- The entries of one interval, in microjoule, which is also their power in milliwatt; per P die the whole entry and its
filler. -/
structure Entries where
  sensor : Nat
  alwaysOn : Nat
  pcie : Nat
  h : Nat
  dies : List (Nat × Nat)
  /-- the entries outside the total: coil and Cellar devices -/
  coil : Nat
  devices : Nat
  deriving DecidableEq, Repr

def Entries.diesSum (e : Entries) : Nat := sumN (e.dies.map (·.1))
def Entries.fillSum (e : Entries) : Nat := sumN (e.dies.map (·.2))
def Entries.total (e : Entries) : Nat := e.sensor + e.alwaysOn + e.pcie + e.h + e.diesSum
/-- The flat sum without filler (R324). -/
def Entries.work (e : Entries) : Nat := e.pcie + e.h + e.diesSum - e.fillSum

def State.thmAt (s : State) (n : Nat) : Thm := s.tol.thm.getD n thmCold

/-- ρ as it multiplies the dynamic part of a P-die entry, in 1/40960, between 0.90 and 1.10 (R316). -/
def State.rhoApplied (s : State) : Nat :=
  if s.flag Fld.TOL_XCHK_CFG_EN && s.flag Fld.TOL_XCHK_CFG_APPLY then min (11 * 4096) (max (9 * 4096) (10 * s.tol.rho))
  else 40960

/-- Core cycles of a die in one interval (R328), and those that its work leaves to filler (R27): none where its work takes every
Cellar slot, 64.0 GB/s (R235). -/
def State.dieCycles (s : State) : Nat :=
  if s.pow.st = .keepWarm then 190000
  else match s.tol.level with
    | 0 => 1520000
    | 1 => 1330000
    | 2 => 1140000
    | 3 => 760000
    | 4 => 760000
    | _ => 380000
def State.spareCycles (s : State) (a : DieActivity) : Nat := if 64000000 ≤ a.cellar then 0 else s.dieCycles - a.core

/-- The entry of P_n: zero while gated. Its filler is what was set for the interval (R324), as far as the work has left cycles for it
(R27; log 111). -/
def State.dieEntry (s : State) (n : Nat) (a : DieActivity) : Nat × Nat :=
  if !(s.die n).powered then (0, 0)
  else
    let fill := min (s.spareCycles a * Config.coeff Coef.fillerCycle) (s.tol.filler.getD n 0 * 1000000)
    let dyn := a.core * Config.coeff Coef.coreCycle + fill + a.cellar * Config.coeff Coef.cellarByte +
      a.trellis * Config.coeff Coef.trellisByte
    (entryUj (Config.coeff (Coef.staticAt n (s.thmAt n).reading)) (dyn * s.rhoApplied / 40960), entryUj 0 fill)

def State.entries (s : State) (a : Activity) : Entries :=
  let sp := s.hif.linkSpeed
  let vb := s.fld Fld.SEN_VB_MEAS_VOLTS
  { sensor := if s.sen.biased then entryUj (Config.coeff Coef.sensorFixed + Config.coeff (Coef.arrayAt s.sen.biasCode vb)) 0 else 0
    alwaysOn := s.alwaysOnMw
    pcie := entryUj ((a.linkL0 * s.pcieUw + a.linkL1 * Config.coeff (Coef.l1 sp) + a.linkL12 * Config.coeff (Coef.l12 sp)) /
      250000) 0
    h := entryUj (Config.coeff (Coef.staticAt 5 (s.thmAt 5).reading))
      (a.mgmt * Config.coeff Coef.mgmtCycle + a.pool * Config.coeff Coef.poolByte + a.hub * Config.coeff Coef.hubByte +
        a.rows * Config.coeff Coef.nvRow)
    dies := (List.range 5).map fun n => s.dieEntry n (a.dies.getD n ⟨0, 0, 0, 0⟩)
    coil := (rndDiv s.coil.metered 25000000).toNat
    devices := entryUj 0 (sumN (a.dies.map (·.cellar)) * s.regN Reg.TOL_DRAM_PJB) }

/-- The entries go to the registers, the totals to the average and the energy (R314). -/
def State.bookEntries (s : State) (a : Activity) (e : Entries) : State :=
  let hist := (e.total :: s.tol.hist).take 60000
  let w := hist.take (max 1 (s.regN Reg.TOL_WINDOW_MS))
  let s := { s with
    tol.hist := hist, tol.energy := s.tol.energy + e.total, tol.coilUj := s.tol.coilUj + e.coil, coil.metered := 0
    tol.alwaysOn := e.alwaysOn, tol.devices := e.devices
    tol.xDies := if s.flag Fld.TOL_XCHK_CFG_EN then s.tol.xDies + e.diesSum else 0 }
  let s := s.setRegN Reg.TOL_NOW_MW (sat32 e.total)
  let s := s.setRegN Reg.TOL_AVG_MW (sat32 (rndDiv (sumN w) w.length).toNat)
  let s := s.setRegN Reg.TOL_FILLER_MW (sat32 e.fillSum)
  let s := s.setPair Reg.TOL_ENERGY_LO s.tol.energy
  let s := s.setRegN Reg.TOL_COIL_MJ (s.tol.coilUj / 1000)
  let s := (s.setRegN Reg.TOL_SENSOR_MW (sat32 e.sensor)).setRegN Reg.TOL_H_MW (sat32 (e.h + e.pcie))
  let s := (e.dies.zipIdx).foldl (fun s (d, n) => if s.present n then s.setRegN (Reg.TOL_DIE_MW n) (sat32 d.1) else s) s
  (a.dies.zipIdx).foldl (fun s (d, n) =>
    -- CEL_LOAD: the data load of the last millisecond in 0.1 GB/s (R235, R253)
    if s.present n then s.setRegN (Reg.CEL_LOAD n) (min 0xFFFF (d.cellar / 100000)) else s) s

/-! ## Flat dissipation (R324, R325) -/

/-- Filler given to the dies in order of their headroom, greatest first: die and headroom to die and filler. -/
def spreadFiller : Nat → List (Nat × Nat) → List (Nat × Nat)
  | _, [] => []
  | f, (n, room) :: t => (n, min f room) :: spreadFiller (f - min f room) t

/-- Is flat dissipation enabled and applicable? -/
def State.flatOn (s : State) : Bool := s.regN Reg.TOL_FLAT_MW != 0 && (s.pow.st = .ready || s.inStream)

/-! ## The cap and the allowance (R318, R319) -/

def State.capStep (s : State) (e : Entries) : State :=
  let cap := s.regN Reg.TOL_CAP_MW
  let above := cap != 0 && decide (cap < s.regN Reg.TOL_AVG_MW)
  let more := (runtimeStep s.ownProf).isSome
  let s := { s with tol.capOver := above && !more }
  let waits := s.tol.runtime ≠ 0 ∧ s.mono < s.tol.runtimeAt + 250000 * s.regN Reg.TOL_WINDOW_MS
  if above && e.fillSum == 0 && more && !s.tol.runtimeDue && !decide waits then { s with tol.runtimeDue := true } else s

def State.allowStep (s : State) (e : Entries) : State :=
  let allow := s.regN Reg.TOL_ALLOW_MJ
  if allow = 0 then s
  else
    let low := fun (uj : Nat) => decide (10 * uj < 1000 * allow)
    let was := s.tol.allowUj
    let now := was - e.total
    let s := State.setRegN { s with tol.allowUj := now } Reg.TOL_ALLOW_LEFT_MJ (allowMj now)
    let s := if low now && !low was then
        (s.sticky Fld.TOL_STATUS_ALLOW_LOW).event 0x0102 (leBytes 8 (allowMj now)) else s
    if now = 0 ∧ !s.tol.allowOut then State.event { s with tol.allowOut := true } 0x0103 (leBytes 8 s.newest) else s

/-! ## CRIT (R330, R331) -/

/-- What the frames in flight and the stream leave behind when they end without being delivered. -/
def State.dropFrames (s : State) : State :=
  { s with
    frames := [], tol.stopping := none
    trs.episode := none, trs.dueCauses := 0, trs.dueRows := [], trs.coldEnd := none, trs.burstRun := 0
    trs.queuedPrev := [], trs.revWait := [], trs.lastFrame := none, trs.mon := []
    rol.moves := [], rol.returned := [], rol.rotWait := false }

/-- Commands that need S or P dies end with ABORTED (R330): those of streams, profiles, casks and maps, and items on their way to
a die. -/
def State.abortWork (s : State) : State :=
  let ids := (s.tol.start.map (·.1)).toList ++ s.tol.stop.toList ++ (s.tol.stopping.map (·.2)).toList ++
    (s.tol.setProf.map (·.1)).toList ++ ((s.casks.rack.bind (·.2.2)).toList) ++ (s.casks.load.map (·.cid)).toList ++
    (s.casks.save.map (·.cid)).toList ++
    (s.hif.outstanding.filter fun c => match c.job with | .replay .. => true | _ => false).map (·.cid)
  let s := s.hif.outstanding.foldl (fun s c => match c.job with
    | .bist die unit slices => s.failBist die unit slices c.cid St.aborted Why.power
    | _ => s) s
  let s := match s.casks.load with
    | some x => if x.stage = 1 then s.modCask x.cask fun c => { c with copying := false } else s
    | none => s
  let s := { s with tol.start := none, tol.stop := none, tol.stopping := none, tol.setProf := none
                    casks.rack := none, casks.load := none, casks.save := none }
  (ids.foldl (fun s c => s.fail c St.aborted Why.power) s).abortPend Why.power

/-- Power is removed from the sensor and every P die (R24, R330 step 3). -/
def State.powerOff (s : State) : State :=
  (List.range 5).foldl (fun s n => s.gateDie n) s.unbiasSensor

/-- R330 step 1: what a CRIT records at once. -/
def State.critRecord (s : State) (die : Nat) (r : Int) : State :=
  let t : State := (s.setRegN Reg.THM_CRIT_DIE die).setPair Reg.THM_CRIT_TICK_LO s.now
  let t := t.nvCritAbort.nvCritRows
  { t with tol.crit := s.tol.crit ++ [(die, r, s.now)], nv.barred := true }

/-- R330 steps 2 and 3: the coil loses its power, what runs is aborted, and S and P dies lose theirs. -/
def State.critStop (s : State) : State :=
  let t : State := s.coilPowerStop.stageAbort.dropSlices
  let t : State := ((t.critCal.interruptTake).breakReplay Why.power).abortWork
  let t : State := if t.sec.chain.isSome then t.endChain 1 else t
  -- without its self-test slice the housekeeping converter goes on with what waits
  t.dropFrames.powerOff.leaveRing.hkcServe t.mono

/-- The chip goes to STANDBY, unless it is still in RECALL. -/
def State.critStandby (s : State) : State :=
  let t : State := { s with pow.target := none, pow.stored := none }
  if t.pow.st = .recall then t else t.goState .standby

/-- A die enters CRIT at this tick (R330 steps 1 to 4). -/
def State.enterCrit (s : State) (die : Nat) (r : Int) : State :=
  let t : State := (s.critRecord die r).critStop.critStandby
  (t.sticky Fld.TOL_PSTATE_CRIT_HOLD).event 0x0107
    (leBytes 1 die ++ leBytes 1 0 ++ leBytes 2 (wrapN 16 r) ++ leBytes 4 0 ++ leBytes 8 s.now)

/-! ## Thermal control (R326 to R328) -/

/-- Thresholds of a die in 0.1 °C. -/
def State.thresholds (s : State) (n : Nat) : List Int :=
  let v := s.regN (if n < 5 then Reg.THM_THR_P else if n = 5 then Reg.THM_THR_H else Reg.THM_THR_S2)
  [0, 1, 2].map fun i => (10 * (v / 2 ^ (8 * i) % 256) : Nat)

/-- HKC channel and THM_TEMP register of a die code. `Tol.convAt` is in the order of the channels: H first, then P_n, then S2. -/
def thmChannel (n : Nat) : Nat := if n < 5 then 16 + n else if n = 5 then 15 else 21
def thmTemp (n : Nat) : Nat := if n < 5 then Reg.THM_TEMP_P n else if n = 5 then Reg.THM_TEMP_H else Reg.THM_TEMP_S2

/-- Is a die monitored? -/
def State.monitored (s : State) (n : Nat) : Bool :=
  if n < 5 then s.present n && (s.die n).powered else n = 5 || s.sen.biased

/-- The factory offset of a temperature channel (R336; log 20). -/
def tempOffset (n : Nat) : Int :=
  sgn 16 (ofLe [Config.factoryField 4 (2 * n), Config.factoryField 4 (2 * n + 1)])

/-- One reading through the state machine of R327. -/
def Thm.step (t : Thm) (x : List Int) (hyst : Int) (dwell : Nat) (r : Int) : Thm :=
  let up := List.zipWith (fun u v => if v ≤ r then u + 1 else 0) t.up x
  let dn := List.zipWith (fun d v => if r < v - hyst then d + 1 else 0) t.dn x
  let st := match [3, 2, 1].find? fun i => decide (t.st < i) && decide (dwell ≤ up.getD (i - 1) 0) with
    | some i => i
    | none => t.st
  let st := if 0 < st ∧ dwell ≤ dn.getD (st - 1) 0 then st - 1 else st
  { t with st, up, dn }

/-- A reading far below every threshold, which a die without power counts with (R331; log 50). -/
def coldReading : Int := -800

/-- The reading of a die in this interval (R326), none while it has had no conversion yet; and the state with its register. -/
def State.reading (s : State) (n : Nat) : State × Option Int :=
  let t := s.thmAt n
  let put := fun (s : State) (t : Thm) => { s with tol.thm := modAt s.tol.thm n fun _ => t }
  if !s.monitored n then
    let s := put { s with tol.convAt := modAt s.tol.convAt (thmChannel n - 15) fun _ => none } { t with since := none, fresh := false }
    (if s.present n || decide (5 ≤ n) then s.setRegN (thmTemp n) (s.regN (thmTemp n) % 2 ^ 16) else s,
      if 0 < t.st then some coldReading else none)
  else
    let from_ := t.since.getD s.mono
    let conv := s.tol.convAt.getD (thmChannel n - 15) none
    let at_ := max from_ ((conv.map (·.1)).getD 0)
    if at_ + 2500000 ≤ s.mono then
      let r := (s.thresholds n).getD 1 0
      let s := put s { t with since := some from_, fresh := false, reading := r }
      ((s.sticky Fld.THM_STATUS_STALE_SEEN).setRegN (thmTemp n) (s.regN (thmTemp n) % 2 ^ 16), some r)
    else match conv with
      | none => (put s { t with since := some from_ }, none)
      | some (_, v) =>
        let r := (v : Int) - 800 + tempOffset n
        let s := put s { t with since := some from_, fresh := true, reading := r }
        (s.setRegN (thmTemp n) (wrapN 16 r + 2 ^ 31), some r)

/-- A die's state has changed: record, sticky bits, counters, throttle, CRIT (R327, R328, R333, R335). -/
def State.thermalChange (s : State) (n old new : Nat) (r : Int) : State :=
  let s := s.event 0x0101 (leBytes 1 n ++ leBytes 1 new ++ leBytes 1 s.tol.level ++ leBytes 1 0 ++ leBytes 2 (wrapN 16 r) ++
    leBytes 2 0)
  if new ≤ old then s
  else match new with
    | 1 => s.sticky Fld.THM_STATUS_WARN_SEEN
    | 2 =>
      -- filler is the first activity that goes (R26, R27)
      let s := State.stopFiller s
      let s := ((s.sticky Fld.THM_STATUS_THROTTLE_SEEN).bumpFld Fld.THM_TRIP_COUNT_THROTTLE).ctrInc 5
      if s.tol.levelDue = 0 then { s with tol.levelDue := 1, tol.levelAt := s.mono } else s
    | _ =>
      (((s.sticky Fld.THM_STATUS_CRIT_SEEN).bumpFld Fld.THM_TRIP_COUNT_CRIT).sticky Fld.GLB_EVENT_ALERT_EVT).enterCrit n r

/-- The reading of one die is taken and judged. -/
def State.judgeDie (s : State) (n : Nat) : State :=
  let (s, r) := s.reading n
  match r with
  | none => s
  | some r =>
    let t := s.thmAt n
    let t' := t.step (s.thresholds n) (10 * s.fld Fld.THM_CFG_HYST) (s.fld Fld.THM_CFG_DWELL) r
    let s := { s with tol.thm := modAt s.tol.thm n fun _ => t' }
    if t'.st = t.st then s else s.thermalChange n t.st t'.st r

/-- THM_STATE and THERM_ALERT_N follow the dies' states (R330, R331, R335). -/
def State.showThermal (s : State) : State :=
  let s := s.setRegN Reg.THM_STATE (sumN ((List.range 7).map fun n => (s.thmAt n).st * 4 ^ n))
  let alert := s.tol.thm.any fun t => decide (t.st = 3)
  if alert = s.tol.alert then s else State.emit { s with tol.alert := alert } (.thermAlert alert)

/-- Step 5 of R330: H reads below WARN, and every CRIT since the last step 5 gets its log entry and its count. -/
def State.doCritResume (s : State) : State :=
  let t := s.thmAt 5
  if !s.tol.crit.isEmpty && t.fresh && decide (t.reading < (s.thresholds 5).getD 0 0) then
    let entry := fun (s : State) (die : Nat) (r : Int) (t0 : Nat) =>
      (s.nvLog 0x01 (leBytes 1 die ++ leBytes 1 0 ++ leBytes 2 (wrapN 16 r) ++ leBytes 4 0 ++ leBytes 8 t0)).ctrInc 6
    (s.tol.crit.foldl (fun s (die, r, t0) => entry s die r t0) { s with tol.crit := [], nv.barred := false }).logFlush
  else s

def execCritNvResume (s : State) : Host.Outcome State Fault Refusal := run State.doCritResume s

/-- CRIT_HOLD is written 1 (R331, R11). -/
def State.doCritClear (s : State) : State :=
  if !s.flag Fld.TOL_PSTATE_CRIT_HOLD then s
  else if !s.tol.crit.isEmpty || s.tol.thm.any fun t => decide (0 < t.st) then s.sticky Fld.TOL_STATUS_CFG_REJ
  else if (tabGet (fun _ => (0 : Word)) s.fresh Reg.TOL_PSTATE).getLsbD 12 then s
  else s.setFld Fld.TOL_PSTATE_CRIT_HOLD 0

def execCritHoldClear (s : State) : Host.Outcome State Fault Refusal := run (fun s => s.woken.doCritClear) s

/-- THM_STEP_MS has passed since the level last changed or was last judged (R328; log 51). -/
def State.doThrottleTimer (s : State) : State :=
  if s.mono < s.tol.levelAt + 250000 * s.fld Fld.THM_CFG_STEP_MS then s
  else
    let s := { s with tol.levelAt := s.mono }
    let hot := (List.range 7).any fun n =>
      let t := s.thmAt n
      decide (t.st = 2) && decide ((s.thresholds n).getD 1 0 ≤ t.reading)
    if hot then { s with tol.levelDue := min 5 (s.tol.levelDue + 1) }
    else if s.tol.thm.any fun t => decide (t.st = 2) then s
    else { s with tol.levelDue := s.tol.levelDue - 1 }

def execThrottleStepTimer (s : State) : Host.Outcome State Fault Refusal := run State.doThrottleTimer s

/-- A second of the cross-check ends (R316). -/
def State.doXchk (s : State) : State :=
  if s.now % 250000000 != 0 then s
  else if !s.flag Fld.TOL_XCHK_CFG_EN then
    -- without a cross-check of the second before, the entries are not corrected
    { s with tol.rho := 4096, tol.xMeas := 0, tol.xDies := 0, tol.xSeen := false, tol.xSeen10 := false }
  else
    let meas := 2 * s.tol.xMeas
    let dies := s.tol.xDies * 10 ^ 9
    let seen := s.tol.xSeen && s.tol.xSeen10 && dies != 0
    let mw := s.tol.xDies / 1000
    let s := { s with tol.xMeas := 0, tol.xDies := 0, tol.xSeen := false, tol.xSeen10 := false }
    if !seen then s
    else
      let rho := (rndDiv (meas * 4096) dies).toNat
      let s := State.setRegN { s with tol.rho := rho } Reg.TOL_XCHK_RATIO (min 0xFFFF rho)
      if s.fld Fld.TOL_XCHK_CFG_TOL_PM * dies < (max meas dies - min meas dies) * 1000 then
        (s.sticky Fld.TOL_STATUS_XCHK_DEV).event 0x0105 (leBytes 4 (sat32 rho) ++ leBytes 4 mw)
      else s

def execXchkInterval (s : State) : Host.Outcome State Fault Refusal := run State.doXchk s

/-- An hour of device time has passed (R370). -/
def State.doHour (s : State) : State :=
  if s.clockRuns && s.now % 900000000000 == 0 && s.now != 0 then s.ctrInc 3 else s

def execPowerOnHour (s : State) : Host.Outcome State Fault Refusal := run State.doHour s

/-! ## Registers (R332, R334, R335) -/

/-- Live fields of the TOL_ and THM_ registers. -/
def State.liveTol (s : State) (off : Nat) : Word :=
  if off = Reg.TOL_STATUS then
    BitVec.ofNat 32 (b2n s.flatOn + 2 * b2n (s.flatOn && s.tol.flatUnmet) + 4 * b2n s.tol.allowOut + 8 * b2n s.tol.capLimit +
      16 * b2n s.tol.capOver)
  else if off = Reg.TOL_PSTATE then BitVec.ofNat 32 (2 ^ 8 * stateCode s.pow.st + 2 ^ 11 * b2n s.moving)
  else if off = Reg.THM_STATUS then BitVec.ofNat 32 (s.reported Rested.level + 8 * b2n s.tol.alert)
  else 0

/-- Thresholds that a THM_THR_ register may take (R332). -/
def thrOk (off : Nat) (v : Word) : Bool :=
  let b := fun (w : Word) (i : Nat) => w.toNat / 2 ^ (8 * i) % 256
  [0, 1, 2].all (fun i => b v i ≤ b (resetVal off) i) && b v 0 < b v 1 && b v 1 < b v 2

def thmCfgOk (v : Word) : Bool :=
  1 ≤ fldOf v Fld.THM_CFG_HYST && 1 ≤ fldOf v Fld.THM_CFG_DWELL && 10 ≤ fldOf v Fld.THM_CFG_STEP_MS &&
    fldOf v Fld.THM_CFG_STEP_MS ≤ 10000

/-- A write of an RW register of the THM_ block. -/
def State.writeThm (s : State) (off : Nat) (v : Word) : State :=
  if off = Reg.THM_CFG ∧ !thmCfgOk v then s.sticky Fld.THM_STATUS_CFG_REJ
  else if (off = Reg.THM_THR_P ∨ off = Reg.THM_THR_H ∨ off = Reg.THM_THR_S2) ∧ !thrOk off v then
    s.sticky Fld.THM_STATUS_CFG_REJ
  else s.hostSet off v

end Sys2Proof.Machine
end

