-- ==== Sys2Proof/Machine/Frames.lean ====
section
/-! DEFINITION. Work items of frames between dies (R218 to R226): readout of tile rows, halos, hand-over, and the grid that
completes a frame's committed pass, with the meanings of their events. -/

namespace Sys2Proof.Machine

open Sys2Proof

/-! ## Preparing a frame: references (R90, R91, R448), predicted grid (R135), bursts (R138) -/

/-- Dies that run BLIND on a frame: its stripe dies and the spare ones, or those of a band phase (R91, R170). -/
def State.blindDies (s : State) (f : FrameW) : List Nat :=
  if f.band.isSome then s.bandDies
  else (List.range 5).filter fun n =>
    let r := (mapAt f.map n).role
    (r = .stripe || r = .spare) && (s.die n).powered && !(s.die n).withdrawn

def zeroRef : Array Int := (Array.range 4120).map fun _ => 0

/-- ref_c takes up the frame, and the frame its column references. -/
def State.formRef (s : State) (f : FrameW) : State :=
  let ds := s.blindDies f
  if ds.isEmpty then s.setFrame { f with ref := some zeroRef }
  else
    let seeded := ds.any fun n => (s.die n).blindSeeded
    let (ref, sd) := f.refNext (if seeded then s.trs.refC else zeroRef) seeded
    let s := (List.range 5).foldl (fun s n => s.modDie n fun d =>
        let runs := ds.contains n && (f.band.isSome || isStripe (mapAt f.map n))
        { d with
          blindSeeded := if ds.contains n then sd else d.blindSeeded
          previewAct := runs && f.streamed && f.prof.preview, commitAct := runs }) s
    let s := s.stickyIf f.colMeans.2 Fld.PPL_STATUS_BLIND_SUB
    State.setFrame { s with trs.refC := ref } { f with ref := some (ref.map refSub) }

/-- The newest measured grid of frame `k`, if it is kept. -/
def State.gridOf (s : State) (k : Nat) : Option (List Int) := (s.sen.grids.find? (·.1 = k)).map (·.2)

/-- The derivative term's two ends: the grid of frame k - 2 and the period of frame k - 1. -/
def State.derivative (s : State) (f : FrameW) : Option (List Int × Nat) :=
  if f.arraySeed || f.k < 2 then none
  else match s.gridOf (f.k - 2), s.snapOf (f.k - 2) with
    | some g, some t => if tickLe f.prev t then none else some (g, tickSpan t f.prev)
    | _, _ => none

/-- The predicted grid (R135). With no cask in force and no grid measured the manual gives no value: a free one (log 6). -/
def State.predictGrid (s : State) (f : FrameW) : State × List Int :=
  match (if f.k = 0 then none else s.gridOf (f.k - 1)), f.img with
  | some t1, _ =>
    match s.derivative f with
    | some (t2, p1) => (s, List.zipWith (fun a b => a + rndDiv ((a - b) * f.period) p1) t1 t2)
    | none => (s, t1)
  | none, some c => (s, c.grid.map fun (g : Nat) => (g : Int))
  | none, none => (s.drew, List.replicate 48 (s.freeVal % 2 ^ 20 : Nat))

/-- Is a streamed frame a burst frame (R138)? -/
def FrameW.burst (f : FrameW) : Bool :=
  let n := sumOver f.marks (inWindow f.prof) (nWin f.prof) fun m => b2n (m != 0)
  ceilDiv (nWin f.prof * f.fld Fld.TRS_SAT_CFG_SAT_FRAC) 65536 ≤ n

/-- Frame `f`, all of whose rows have been sent, is judged: a run of RUN burst frames begins a burst, once, at its first frame, and
the first other frame ends one whose end has not been seen (R138; DESIGN CHOICE, log 113: RUN is that of frame `f`). -/
def State.judgeBurst (s : State) (f : FrameW) : State :=
  let run := if !f.burst then 0 else if s.trs.burstSeen + 1 = f.k then s.trs.burstRun + 1 else 1
  let begun := s.trs.burstBegun && decide (1 < run)
  let s := { s with trs.burstRun := run, trs.burstSeen := f.k, trs.burstBegun := begun }
  if f.fld Fld.TRS_SAT_CFG_RUN ≤ run ∧ 0 < run ∧ !begun then
    let s := State.burstFlush { s with trs.burstBegun := true } (f.k + 1 - run)
    match s.frameOf (f.k + 1) with
    | some g => if g.closed && g.prepared && !g.burst then s.burstEnd g.k g.prev else s
    | none => s
  else s

/-- Every frame whose readout is over and which has not been judged, in order. -/
def State.judgeBursts (s : State) : State :=
  s.frames.foldl (fun s g => match s.frameOf g.k with
    | some f =>
      let earlier := s.frames.any fun g => g.streamed && s.trs.burstSeen < g.k && g.k < f.k
      if f.streamed && f.closed && f.unread.isEmpty && s.trs.burstSeen < f.k && !earlier then s.judgeBurst f else s
    | none => s) s

/-- An open burst ends before the first frame that is not a burst frame is processed. -/
def State.burstOver (s : State) (f : FrameW) : State :=
  match s.trs.episode with
  | some e => if f.streamed && e.seed.isNone && !f.burst then s.burstEnd f.k f.prev else s
  | none => s

/-- The trigger offset of a frame (R81): the latest accepted trigger at or before its snapshot. It is fixed when processing
begins (log 57). -/
def State.offsetOf (s : State) (f : FrameW) : Option Nat :=
  match (s.tmg.trigs.filter fun t => tickLe t f.snap).map fun t => tickSpan t f.snap with
  | [] => none
  | d :: ds => some (ds.foldl min d)

/-! ## Tile rows (R118 to R124, R133) -/

/-- Is row `row` of frame `f` restored on the committed pass, or missing, or not part of the frame? -/
def FrameW.rowDone (f : FrameW) (row : Nat) : Bool :=
  f.comDone || !f.streamed || !(winRows f.prof).contains row || f.missCom.contains row || (rowOf f.yRows row).isSome

/-- Are the carries after frame k - 1 of a tile row there: restored before, and arrived where the row has moved (R133, R224)? -/
def State.carriesIn (s : State) (f : FrameW) (row : Nat) : Bool :=
  (s.frames.all fun g => !(g.closed && g.k < f.k) || g.rowDone row) &&
    s.rol.moves.all fun m => !(m.row = row && m.k0 < f.k) || m.stateDone

def State.carryOf (s : State) (row : Nat) : Option Plane := (s.trs.carry.find? (·.1 = row)).map (·.2)

/-- What a pass sees on its way to GAIN: ΔT clamped, row terms substituted. -/
def State.noteRow (s : State) (f : FrameW) (g : Array (Array GainOut)) (row : Nat) : State :=
  (s.stickyIf (g.any fun r => r.any (·.range)) Fld.PPL_STATUS_DRIFT_RANGE).stickyIf (f.rowSubst row)
    Fld.PPL_STATUS_BLIND_SUB

/-- The preview pass restores a tile row from checkpoint k - 1 and keeps no carry (R133). -/
def State.previewRow (s : State) (k row : Nat) : State :=
  match s.frameOf k with
  | none => s
  | some f =>
    match f.gridPred with
    | none => s
    | some t =>
      let g := f.gainRow t row
      let r := (f.restoreRow g (s.carryOf row) row).1
      (s.noteRow f g row).setFrame { f with prevRows := f.prevRows ++ [r] }

/-- The committed pass takes a tile row up to RESTORE. In KEEP_WARM it stops at GAIN (R312). -/
def State.commitRow (s : State) (f : FrameW) (t : List Int) (row : Nat) : State :=
  let g := f.gainRow t row
  let s := s.noteRow f g row
  if f.streamed then
    let (r, c) := f.restoreRow g (s.carryOf row) row
    State.setFrame { s with trs.carry := tabIns (tabDel s.trs.carry row) row c } { f with yRows := f.yRows ++ [r] }
  else s.setFrame { f with yRows := f.yRows ++ [f.throughRow g row] }

/-- A tile row of a frame is restored if all it needs is there. -/
def State.tryRow (s : State) (k row : Nat) : State :=
  match s.frameOf k with
  | none => s
  | some f =>
    match f.gridMeas with
    | none => s
    | some t =>
      if !(f.streamed || f.keepWarm) || f.comDone || !f.gotRows.contains row || f.missCom.contains row ||
          (rowOf f.yRows row).isSome || f.ref.isNone || (f.streamed && !s.carriesIn f row) then s
      else s.commitRow f t row

/-- Every row that can be restored now is, in frame order. -/
def State.catchUp (s : State) : State :=
  s.frames.foldl (fun s f => f.gotRows.foldl (fun s row => s.tryRow f.k row) s) s

/-- A frame's processing begins: its trigger offset, an open burst's end, the predicted grid, its column references, and its sums
for a calibration. Where a seed found late has made its earlier results void, its rows are restored again (R126). -/
def State.prepFrame (s : State) (k : Nat) : State :=
  match s.frameOf k with
  | none => s
  | some f =>
    let s := if f.prepared then s else (s.setFrame { f with trigOffset := s.offsetOf f, prepared := true }).burstOver f
    match s.frameOf k with
    | none => s
    | some f =>
      let (s, g) := if f.streamed && f.prof.preview && f.gridPred.isNone then
          match s.predictGrid f with | (s, g) => (s, some g)
        else (s, f.gridPred)
      let s := (s.formRef { f with gridPred := g }).sumFrame k
      if f.gotRows.isEmpty then s
      else
        let s := if f.prevDone then s else f.gotRows.foldl (fun s row => s.previewRow k row) s
        s.catchUp

/-- Processing begins on every closed frame up to `k`, in order. -/
def State.prepUpTo (s : State) (k : Nat) : State :=
  (s.frames.filter fun f => f.closed && f.k ≤ k && f.ref.isNone).foldl (fun s f => s.prepFrame f.k) s

/-- Frames that nothing needs any more are forgotten: of the completed ones the newest are kept for LOOKAHEAD. -/
def State.tidy (s : State) : State :=
  let top := maxN ((s.frames.filter fun f => f.streamed && f.comDone).map (·.k))
  { s with frames := s.frames.filter fun f =>
      !f.closed || (f.streamed && (!f.comDone || (f.prof.preview && !f.prevDone) || top < f.k + 5)) ||
        (f.keepWarm && !f.comDone) || (f.captured && s.casks.cal.isSome) || !f.openRows.isEmpty }

/-! ## RAWTAP (R277) -/

/-- d of physical pixels, packed under R108. -/
def FrameW.raw (f : FrameW) (is : List Nat) : List Byte := pack20 (is.map fun i => pixGet f.d i % 2 ^ 20)

/-- The payload of a record on channel 5. -/
def FrameW.rawTap (f : FrameW) (gap : Bool) : List Byte :=
  let m : MetaIn := { preview := true, cold := f.coldPrev, gap, grid := [], miss := f.missPrev, score := 0xFFFF, dyn := 0
                      clamps := 0, sats := 0 }
  let rows := List.range f.high
  padTo 128 (({ f with prof := { f.prof with fmt := 0 } }.metadata m).take 0x34) ++
    (rows.flatMap fun y => f.raw ((List.range f.wide).map fun x => f.pix x y)) ++
    ((List.range 16 ++ (List.range 8).map (3088 + ·)).flatMap fun r => f.raw ((List.range 4120).map fun c => phys c r)) ++
    (rows.flatMap fun y => f.raw (blindCols.map fun c => phys c (16 + 64 * f.prof.y0 + y)))

/-- GAP of a copy of frame `f` that goes out now (R22): that of the committed copy
where it is out, since both are of one frame (R115; log 65). -/
def State.gapOf (s : State) (f : FrameW) : Bool := if f.comDone then f.comGap else s.hif.gap

/-- The raw tap of a streamed frame: its metadata is that of its preview copy (R277), so its record is issued with that copy where
the frame has one (DEDUCED, log 66), and with its first tile row where it has none. -/
def State.issueRaw (s : State) (f : FrameW) : State :=
  if !f.streamed || 50000000 < f.prof.period then s
  else
    let b := f.rawTap (s.gapOf f)
    s.issue 5 { typ := 0, frame := f.k, subtype := 0, len := b.length, payload := b, last := false, missing := false, detail := 0 }

/-! ## READOUT (R218, R220) -/

/-- Does a die take a READOUT item? In a band phase any die that shares it does (R170). -/
def State.takesRow (s : State) (d : Nat) (i : ItemHdr) : Bool :=
  match s.frameOf i.frame with
  | some f => if f.band.isSome then s.bandDies.contains d else s.accepts d i.row i.version
  | none => s.accepts d i.row i.version

/-- Is it the row that S2 sends next (R17): the first of the oldest frame that it still reads out? -/
def State.rowNext (s : State) (f : FrameW) (row : Nat) : Bool :=
  f.unread.head? = some row && s.frames.all fun g => !(g.closed && g.k < f.k) || g.unread.isEmpty

/-- Is the item's row still to be processed: sent now, or sent before and forwarded by the dispatcher (R220)? -/
def State.rowDue (s : State) (f : FrameW) (i : ItemHdr) : Bool :=
  f.closed && decide (f.version = i.version) && f.openRows.contains i.row &&
    (s.rowNext f i.row || !f.unread.contains i.row) && (!f.streamed || s.carriesIn f i.row)

/-- S2 has sent a row. -/
def State.rowSent (s : State) (i : ItemHdr) : State :=
  match s.frameOf i.frame with
  | some f => if s.rowNext f i.row then s.setFrame { f with unread := f.unread.drop 1 } else s
  | none => s

/-- A READOUT item reaches a die: it is processed, or returned to the dispatcher. -/
def State.doReadout (s : State) (die : Nat) (i : ItemHdr) : State :=
  if !s.takesRow die i then ((s.rowSent i).returnItem die 0 i).judgeBursts
  else match s.frameOf i.frame with
    | none => s
    | some f =>
      -- the item of a row that is missing already goes no further
      if !s.rowDue f i then (if f.closed && decide (f.version = i.version) then (s.rowSent i).judgeBursts else s)
      else
        let s := (s.prepUpTo f.k).rowSent i
        let s := if f.gotRows.isEmpty then (match s.frameOf f.k with
          | some f => if f.prof.preview then s else s.issueRaw f
          | none => s) else s
        let s := s.previewRow f.k i.row
        let s := s.mapFrames fun g => if g.k = f.k then
            { g with openRows := g.openRows.filter (· ≠ i.row), gotRows := g.gotRows ++ [i.row] } else g
        s.catchUp.judgeBursts.tidy

def execReadout (die : Nat) (i : ItemHdr) (s : State) : Host.Outcome State Fault Refusal :=
  runIf "READOUT" (Instr.wf (.readout die i)) (fun s => s.doReadout die i) s

/-! ## The grid (R45 to R47, R98) -/

/-- A grid sample is converted; the one that closes a frame lets its committed pass go on. -/
def State.doGrid (s : State) (readings : List (Option Int)) : State :=
  match s.gridSample readings with
  | (s, none) => s
  | (s, some (k, g, fault)) =>
    let s := s.mapFrames fun f => if f.k = k then { f with gridMeas := some g, gridFault := fault } else f
    ((s.sumGrid k g).sumFrame k).catchUp.tidy

def execGridConversionDone (readings : List (Option Int)) (s : State) : Host.Outcome State Fault Refusal :=
  runIf "GRID_CONVERSION_DONE" (Instr.wf (.gridConversionDone readings)) (fun s => s.doGrid readings) s

/-! ## LOOKAHEAD's reach (R130) -/

/-- The last frame that the window of `f` reaches. -/
def State.reach (s : State) (f : FrameW) : Nat :=
  let later := s.frames.filter fun m => m.streamed && f.k ≤ m.k
  let upTo := fun (m : FrameW) => m.k + if m.episode then 0 else m.prof.l
  let r := later.foldl (fun a m => min a (upTo m)) (upTo f)
  let r := (later.filter fun m => f.k < m.k && m.arraySeed).foldl (fun a m => min a (m.k - 1)) r
  match s.trs.lastFrame with
  | some e => min r e
  | none => r

/-- Are the restored values that LOOKAHEAD of a tile row of `f` weighs there, sent back where the row has moved (R223, R224)? -/
def State.lookReady (s : State) (f : FrameW) (row : Nat) : Bool :=
  let r := s.reach f
  (List.range (r + 1 - f.k)).all (fun j => match s.frameOf (f.k + j) with
    | some m => m.closed && m.streamed && m.rowDone row
    | none => false) &&
  s.rol.moves.all fun m =>
    m.row ≠ row ||
      (if f.k ≤ m.k0 then (List.range (r - m.k0)).all fun j => m.backfed.contains (m.k0 + 1 + j)
       else m.k0 + f.prof.l < f.k || m.historyDone)

/-! ## HALO (R219) -/

/-- Edges of a frame across which halos go: the tile row above each. -/
def FrameW.haloEdges (f : FrameW) : List Nat :=
  (winRows f.prof).filter fun r => (winRows f.prof).contains (r + 1) && decide (ownerOf f.map r ≠ ownerOf f.map (r + 1))

/-- Has the sender of a halo what the part holds? -/
def State.haloReady (s : State) (f : FrameW) (edge part : Nat) (down preview : Bool) : Bool :=
  let row := if down then edge else edge + 1
  match part with
  | 1 => if preview then (rowOf f.prevRows row).isSome else s.lookReady f row && (rowOf f.yRows row).isSome
  | p => f.halos.contains (edge, p - 1, !down, preview)

/-- A HALO item reaches a die. Its header names the die's own row at the edge; parts 1 to 3 come from above, 4 to 6 are the three
parts from below. -/
def State.doHalo (s : State) (die : Nat) (i : ItemHdr) (part : Nat) : State :=
  if !s.accepts die i.row i.version then s.returnItem die 1 i
  else match s.frameOf i.frame with
    | none => s
    | some f =>
      let down := decide (part ≤ 3)
      let p := if down then part else part - 3
      let edge := if down then i.row - 1 else i.row
      let key := (edge, p, down, i.preview)
      let past := if i.preview then f.prevDone else f.comDone
      if f.streamed && f.version = i.version && !past && !(down && i.row = 0) && f.haloEdges.contains edge &&
          !f.halos.contains key && s.haloReady f edge p down i.preview then
        s.setFrame { f with halos := f.halos ++ [key] }
      else s

def execHalo (die : Nat) (i : ItemHdr) (part : Nat) (s : State) : Host.Outcome State Fault Refusal :=
  runIf "HALO" (Instr.wf (.halo die i part)) (fun s => s.doHalo die i part) s

/-- Every halo of a pass has been exchanged; edges of a missing row exchange nothing more. -/
def FrameW.halosIn (f : FrameW) (preview : Bool) : Bool :=
  let miss := if preview then f.missPrev else f.missCom
  f.haloEdges.all fun r => miss.contains r || miss.contains (r + 1) ||
    [1, 2, 3].all fun p => f.halos.contains (r, p, true, preview) && f.halos.contains (r, p, false, preview)

/-! ## Hand-over (R222 to R224) -/

def State.modMove (s : State) (row : Nat) (dst : Nat) (g : Move → Move) : State :=
  { s with rol.moves := s.rol.moves.map fun m => if m.row = row ∧ m.dst = dst then g m else m }

/-- Has the old owner restored a moved row of frame k0? -/
def State.movedFrom (s : State) (m : Move) : Bool :=
  match s.frameOf m.k0 with
  | some f => f.rowDone m.row
  | none => true

/-- Carries and ref_c of a moved row reach the new owner. -/
def State.doState (s : State) (die : Nat) (i : ItemHdr) : State :=
  if !s.accepts die i.row i.version then s.returnItem die 2 i
  else match s.rol.moves.find? fun m => m.row = i.row && m.dst = die && !m.stateDone with
    | none => s
    | some m =>
      if !s.movedFrom m then s
      else
        let any := s.rol.dies.any (·.blindSeeded)
        let s := s.modMove i.row die fun m => { m with stateDone := true }
        (s.modDie die fun d => { d with blindSeeded := d.blindSeeded || any }).catchUp

def execState (die : Nat) (i : ItemHdr) (s : State) : Host.Outcome State Fault Refusal :=
  runIf "STATE" (Instr.wf (.state die i)) (fun s => s.doState die i) s

/-- Restored values of the frames up to k0 reach the new owner, after the carries. -/
def State.doHistory (s : State) (die : Nat) (i : ItemHdr) : State :=
  if !s.accepts die i.row i.version then s.returnItem die 3 i
  else if s.rol.moves.any fun m => m.row = i.row && m.dst = die && m.stateDone then
    s.modMove i.row die fun m => { m with historyDone := true }
  else s

def execHistory (die : Nat) (i : ItemHdr) (s : State) : Host.Outcome State Fault Refusal :=
  runIf "HISTORY" (Instr.wf (.history die i)) (fun s => s.doHistory die i) s

/-- Restored values of a frame after k0 reach the old owner, under the version that it drains (log 55). -/
def State.doBackfeed (s : State) (die : Nat) (i : ItemHdr) : State :=
  if !s.accepts die i.row i.version then s.returnItem die 4 i
  else match s.rol.moves.find? fun m => m.row = i.row && m.src = die && m.k0 < i.frame with
    | none => s
    | some m =>
      match s.frameOf i.frame with
      | some f =>
        if f.streamed && f.rowDone i.row && !m.backfed.contains i.frame then
          s.modMove i.row m.dst fun m => { m with backfed := m.backfed ++ [i.frame] }
        else s
      | none => s

def execBackfeed (die : Nat) (i : ItemHdr) (s : State) : Host.Outcome State Fault Refusal :=
  runIf "BACKFEED" (Instr.wf (.backfeed die i)) (fun s => s.doBackfeed die i) s

end Sys2Proof.Machine
end

