-- ==== Sys2Proof/Machine/Commit.lean ====
section
/-! DEFINITION. Frames complete: the preview pass (R133, R134), the committed pass with its revision, its link, its records
and its take (R19 to R22, R99 to R117, R129, R143 to R146), and the frames of KEEP_WARM (R312). -/

namespace Sys2Proof.Machine

open Sys2Proof

/-! ## What a pass delivers -/

/-- DEFECT's planes, the counts of the pass, and its output rows. -/
structure PassOut where
  d : DefOut
  dyn : Nat
  clamps : Nat
  sats : Nat
  rows : List (Nat × List Byte)
  deriving DecidableEq, Repr

/-- DEFECT and MAP over the rows of a pass; a missing row takes no part. -/
def FrameW.passOut (f : FrameW) (miss : List Nat) (rs : List RowRes) : PassOut :=
  let rs := rs.filter fun r => !miss.contains r.row
  let d := f.defect miss (f.joinRows rs (·.y))
  { d
    dyn := planeCount f.wide 0 f.high fun x y => planeAt d.dyn x y != 0
    clamps := f.clamps miss d.out
    sats := f.satPixels (f.joinRows rs (·.sat))
    rows := (winRows f.prof).map fun r => (r, f.mapRow miss d.out r) }

/-- The sticky bits of what a pass has seen (R84, R107). -/
def State.notePass (s : State) (o : PassOut) : State :=
  (s.stickyIf (decide (0 < o.sats)) Fld.PPL_STATUS_CLIP_SEEN).stickyIf (decide (0 < o.clamps)) Fld.PPL_STATUS_MAPCLAMP_SEEN

/-- A FRAME record of channel 0 or 1 (R276). -/
def frameRec (f : FrameW) (md : List Byte) (rows : List (Nat × List Byte)) (last : Bool) : Rec :=
  let b := md ++ rows.flatMap (·.2)
  { typ := 0, frame := f.k, subtype := f.prof.fmt, len := b.length, payload := b, last, missing := false, detail := 0 }

/-- Is every item of a frame resolved (R220)? -/
def State.itemsIn (s : State) (f : FrameW) : Bool :=
  f.closed && f.openRows.isEmpty && !(s.rol.returned.any fun e => e.2.2.frame = f.k)

/-! ## Preview frames (R133, R134, R144) -/

/-- May preview frame `f` complete: its rows and halos are there, earlier previews have completed, and no committed frame whose
revision would precede it is still open? The measured grid has come too, since GRID_FAULT is the same in both copies (R115). A
preview of the tick of a late notice that covers it stands before the notice (R140, log 107). -/
def State.prevReady (s : State) (f : FrameW) : Bool :=
  f.streamed && f.prof.preview && !f.prevDone && s.itemsIn f && f.halosIn true && decide (f.k ≤ s.trs.burstSeen) &&
    ((winRows f.prof).all fun r => f.missPrev.contains r || (rowOf f.prevRows r).isSome) && f.gridMeas.isSome &&
    (match s.trs.notice with | some (k, t) => !(decide (k ≤ f.k) && decide (s.mono ≤ t)) | none => true) &&
    s.frames.all fun g => !(g.streamed && g.k < f.k) ||
      ((!g.prof.preview || g.prevDone) && (g.comDone || f.k ≤ g.k + g.prof.l))

/-- The REVISION records that `due` names are published, or go: where the preview stream was dropped, and where their preview frame
was not delivered (R144). -/
def State.putRevisions (s : State) (due : Nat × Rec → Bool) : State :=
  let now := s.trs.revWait.filter fun e => due e && s.previewing && !(s.chan 1).lost.contains e.2.frame
  now.foldl (fun s e => State.sticky ((s.formRec 1 e.2).bump Reg.TRS_REVISION_COUNT) Fld.TRS_STATUS_REVISE_SEEN)
    { s with trs.revWait := s.trs.revWait.filter fun e => !due e }

/-- Those that follow the preview frames up to `k`. -/
def State.dueRevisions (s : State) (k : Nat) : State := s.putRevisions fun e => e.1 ≤ k

/-- Is preview frame `k` still to come? -/
def State.previewComes (s : State) (k : Nat) : Bool :=
  match s.frameOf k with
  | some f => f.streamed && f.prof.preview && !f.prevDone
  | none => decide (s.integrating < k) && (match s.trs.lastFrame with | some e => decide (k ≤ e) | none => s.inStream)

/-- REVISION records whose preview frame is not to come are published (R144). -/
def State.freeRevisions (s : State) : State :=
  s.putRevisions fun e => !s.previewComes e.1

/-- Preview frame `f` goes to channel 1. -/
def State.putPreview (s : State) (f : FrameW) : State :=
  let o := f.passOut f.missPrev f.prevRows
  let m : MetaIn := { preview := true, cold := f.coldPrev, gap := s.gapOf f, grid := f.gridPred.getD [], miss := f.missPrev
                      score := 0xFFFF, dyn := o.dyn, clamps := o.clamps, sats := o.sats }
  let r := frameRec f (f.metadata m ++ List.replicate 32 0) o.rows false
  let drops := s.reg (Reg.HIF_CH_DROP_COUNT 1)
  let s := ((s.notePass o).issueRaw f).issue 1 r
  let queued := s.reg (Reg.HIF_CH_DROP_COUNT 1) = drops
  let s := s.setFrame { f with prevDone := true, prevQueued := queued, prevOut := o.d.out, prevFlags := o.d.flags }
  let s := if queued then { s with trs.queuedPrev := f.k :: s.trs.queuedPrev } else s
  (s.dueRevisions f.k).tidy

def State.doPreview (s : State) (k : Nat) : State :=
  let t := (s.prepUpTo k).judgeBursts
  match t.frameOf k with
  | some f => if t.prevReady f then t.putPreview f else s
  | none => s

def execPreviewFrameComplete (frame : Nat) (s : State) : Host.Outcome State Fault Refusal :=
  runIf "PREVIEW_FRAME_COMPLETE" (Instr.wf (.previewFrameComplete frame)) (fun s => s.doPreview frame) s

/-! ## Revisions (R143, R146) -/

/-- The differences of a window tile over the pixels that neither pass flagged. -/
def FrameW.tileDiffs (f : FrameW) (d : DefOut) (i j : Nat) : List Int :=
  (List.range 64).flatMap fun y => (List.range 64).filterMap fun x =>
    let px := 64 * i + x
    let py := 64 * j + y
    if planeAt d.flags px py = 0 ∧ planeAt f.prevFlags px py = 0 then some (planeAt d.out px py - planeAt f.prevOut px py)
    else none

/-- A revised tile: number, |rnd(mean D)|, pixels beyond the limit. -/
def FrameW.revised (f : FrameW) (d : DefOut) : List (Nat × Nat × Nat) :=
  (List.range f.prof.h).flatMap fun j => (List.range f.prof.w).filterMap fun i =>
    let ds := f.tileDiffs d i j
    if ds.isEmpty then none
    else
      let mean := (rndDiv (sumI ds) ds.length).natAbs
      let many := (ds.filter fun v => f.fld Fld.TRS_REV_PIX_VALUE < v.natAbs).length
      if f.fld Fld.TRS_REV_CFG_MEAN_LIMIT < mean ∨ f.fld Fld.TRS_REV_CFG_COUNT_LIMIT < many then
        some (f.prof.x0 + i + 64 * (f.prof.y0 + j), mean, many)
      else none

/-- The 384-byte tile map. -/
def tileMap (ts : List Nat) : List Byte :=
  (List.range 384).map fun b => BitVec.ofNat 8 (sumN ((List.range 8).map fun i => if ts.contains (8 * b + i) then 2 ^ i else 0))

def revPayload (k : Nat) (ts : List (Nat × Nat × Nat)) (predErr : Nat) : List Byte :=
  leBytes 8 k ++ leBytes 2 ts.length ++ leBytes 2 0 ++ leBytes 4 (sat32 (maxN (ts.map (·.2.1)))) ++
    leBytes 4 (sumN (ts.map (·.2.2))) ++ leBytes 4 predErr ++ leBytes 8 0 ++ tileMap (ts.map (·.1))

/-- Committed frame `f` has completed: its revision waits for preview frame k + L, or is published now. -/
def State.revise (s : State) (f : FrameW) (d : DefOut) : State :=
  if f.prof.fmt = Fmt.raw20 || !s.trs.queuedPrev.contains f.k || !s.previewing then s
  else
    let ts := f.revised d
    if ts.isEmpty then s
    else
      let r := plainRec 1 f.k (revPayload f.k ts (s.regN Reg.TRS_PRED_ERR))
      State.freeRevisions { s with trs.revWait := s.trs.revWait ++ [(f.k + f.prof.l, r)] }

/-! ## MONITOR (R104 to R106) -/

/-- The score of a frame against the plane Λ frames before, and the history with the frame's own plane. A row whose history started
again in between has no score (R106). -/
def State.monitor (s : State) (f : FrameW) (h : Plane) : State × List (Nat × Nat × Nat) :=
  let lag := f.fld Fld.PPL_MON_CFG_LAG
  let scores :=
    let old := if f.keepWarm then s.trs.mon[lag - 1]?
      else s.trs.mon.find? fun e => e.k + max lag (2 * f.prof.l + 1) = f.k
    let from_ := (old.map (·.k)).getD 0
    f.tileScores h (old.map (·.h)) fun r => !(s.trs.monCuts.any fun c => decide (from_ < c.1) && decide (c.1 ≤ f.k) && c.2.contains r)
  let mon := ({ k := f.k, y0 := f.prof.y0, map := f.map, h } :: s.trs.mon).take 32
  let cuts := s.trs.monCuts.filter fun c => decide ((mon.getLast?.map (·.k)).getD 0 < c.1)
  (State.setRegN { s with trs.mon := mon, trs.monCuts := cuts } Reg.PPL_MON_SCORE (arrayScore scores), scores)

/-- MONITOR_MAP every PUBLISH committed frames (R106). DESIGN CHOICE (log 113): they are counted from the start of the stream. -/
def State.publishMap (s : State) (f : FrameW) (scores : List (Nat × Nat × Nat)) : State :=
  let n := f.fld Fld.PPL_MON_CFG_PUBLISH
  let s := { s with trs.monSince := s.trs.monSince + 1 }
  if n ≠ 0 ∧ n ≤ s.trs.monSince then State.event { s with trs.monSince := 0 } 0x0005 (f.scoreMap scores) else s

/-! ## Committed frames -/

/-- May committed frame `f` complete (R21, R130, R138, R219, R220, R224)? -/
def State.comReady (s : State) (f : FrameW) : Bool :=
  f.streamed && !f.comDone && s.itemsIn f && f.gridMeas.isSome && f.halosIn false && decide (f.k ≤ s.trs.burstSeen) &&
    ((winRows f.prof).all fun r => f.missCom.contains r || ((rowOf f.yRows r).isSome && s.lookReady f r)) &&
    (s.frames.all fun g => !(g.streamed && g.k < f.k) || g.comDone) &&
    match s.cel.run with
    | some r => !(r.stage = 3 && r.t.last = f.k) || r.finalMembers
    | none => true

/-- TRS_PRED_ERR of a frame (R135). -/
def FrameW.predErr (f : FrameW) : Option Nat :=
  match f.gridPred, f.gridMeas with
  | some p, some t => some (maxN (List.zipWith (fun a b => (a - b).natAbs) t p))
  | _, _ => none

/-- The counts of the last committed frame (R116, R117). -/
def State.showCounts (s : State) (f : FrameW) (o : PassOut) (sat : Plane) : State :=
  let s := ((s.setRegN Reg.PPL_DYN_COUNT o.dyn).setRegN Reg.PPL_CLIP_COUNT o.sats).setRegN Reg.PPL_MAPCLAMP_COUNT o.clamps
  let s := (s.bump Reg.PPL_UNREPLACED o.d.unreplaced).stickyIf (decide (0 < o.d.unreplaced)) Fld.PPL_STATUS_UNREPLACED_SEEN
  (stripeDies f.map).foldl (fun s n =>
    if (s.die n).withdrawn then s
    else
      let e := mapAt f.map n
      let own := fun (y : Nat) => ownsRow e (f.prof.y0 + y / 64)
      let s := s.setPair (Reg.PPL_P_FRAME_LO n) f.k
      let s := s.setRegN (Reg.PPL_P_DYN_COUNT n) (planeCount f.wide 0 f.high fun x y => own y && planeAt o.d.dyn x y != 0)
      s.setRegN (Reg.PPL_P_CLIP_COUNT n) (planeCount f.wide 0 f.high fun x y => own y && planeAt sat x y != 0)) s

/-- The closing kinds of a milestone of frame `k` (R400), with the take. -/
def State.closingKinds (s : State) (k : Nat) : Nat × Nat :=
  let stream := if s.trs.lastFrame = some k then Ms.streamEnd else 0
  match s.cel.run with
  | some r => if 2 ≤ r.stage ∧ r.t.last = k then (stream + Ms.takeEnd, r.t.id) else (stream, 0xFF)
  | none => (stream, 0xFF)

/-- The link before a frame that enters the chain; a chain that starts with it has its seed there. -/
def State.linkBefore (s : State) : List Byte :=
  match s.sec.chain with
  | some (_, _, h, _, _) => h
  | none => []

/-- The stream ends with frame `k` (R132, R272, R310, R398). DESIGN CHOICE (log 113): an open burst goes without a second record. While a take still closes, READY follows its end. -/
def State.streamEnd (s : State) (k : Nat) : State :=
  let cid := s.tol.stopping
  let s := s.endChain 0
  let s := { s with
    tol.stopping := none, trs.episode := none, trs.coldEnd := none, trs.burstRun := 0, trs.mon := [], rol.moves := []
    frames := s.frames.filter fun f => !f.streamed || (f.prof.preview && !f.prevDone) }
  let s := if s.pow.st = .stream then State.goState { s with trs.lastFrame := none } .ready else s
  match cid with
  | some (_, c) => s.completeAfter 0 0 k c St.ok Why.none (some k)
  | none => s

/-- A committed frame enters chain, channel 0 and take (R21, R22, R240, R397, R400). -/
def State.deliverFrame (s : State) (f : FrameW) (md : List Byte) (rows : List (Nat × List Byte)) : State :=
  let s := if s.sec.chain.isNone && !s.sec.chainOver then s.startChain f.k else s
  let before := s.linkBefore
  let (s, link) := s.chainFrame f.k md (rows.flatMap fun r => rowDigest r.1 r.2)
  let full := md ++ link
  let drops := s.reg (Reg.HIF_CH_DROP_COUNT 0)
  let s := s.issue 0 (frameRec f full rows (decide (s.trs.lastFrame = some f.k)))
  let dropped := s.reg (Reg.HIF_CH_DROP_COUNT 0) ≠ drops
  let s := s.takeRecord f full rows before
  let (kinds, take) := s.closingKinds f.k
  s.milestoneDue f.k f.snap kinds take dropped

/-- Committed frame `f` completes. DESIGN CHOICE (log 113): TRS_PRED_ERR keeps its value where the frame had no preview pass. -/
def State.commitFrame (s : State) (f : FrameW) : State :=
  let reach := s.reach f
  let rs := (winRows f.prof).map fun r => f.lookRow s.frames reach r
  let o := f.passOut f.missCom rs
  let sat := f.joinRows (rs.filter fun r => !f.missCom.contains r.row) (·.sat)
  let s := s.setFrame { f with comDone := true, comGap := s.hif.gap }
  let s := match f.predErr with
    | some e => s.setRegN Reg.TRS_PRED_ERR (sat32 e)
    | none => s
  let (s, scores) := s.monitor f (f.highPlane o.d.out o.d.flags)
  let score := arrayScore scores
  let m : MetaIn := { preview := false, cold := f.cold, gap := s.hif.gap, grid := f.gridMeas.getD [], miss := f.missCom, score
                      dyn := o.dyn, clamps := o.clamps, sats := o.sats }
  let s := s.deliverFrame f (f.metadata m) o.rows
  let s := ((s.notePass o).showCounts f o sat).publishMap f scores
  let s := (s.scoreFrame f.k score).revise f o.d
  if s.trs.lastFrame = some f.k then s.streamEnd f.k else s.tidy

/-! ## KEEP_WARM (R312) -/

def State.warmReady (s : State) (f : FrameW) : Bool :=
  f.keepWarm && !f.comDone && s.itemsIn f && f.gridMeas.isSome &&
    (winRows f.prof).all fun r => f.missCom.contains r || (rowOf f.yRows r).isSome

/-- A frame processed in KEEP_WARM: MONITOR's input is the GAIN output. -/
def State.warmFrame (s : State) (f : FrameW) : State :=
  let rs := f.yRows.filter fun r => !f.missCom.contains r.row
  let v := f.joinRows rs (·.y)
  let s := s.stickyIf (decide (0 < f.satPixels (f.joinRows rs (·.sat)))) Fld.PPL_STATUS_CLIP_SEEN
  let flags := planeOf f.wide f.high fun x y => (b2n (f.preFlag f.missCom x y) : Int)
  let s := s.setFrame { f with comDone := true }
  (s.monitor f (f.highPlane v flags)).1.tidy

def State.doCommitted (s : State) (k : Nat) : State :=
  let t := (s.prepUpTo k).judgeBursts
  match t.frameOf k with
  | some f => if t.comReady f then t.commitFrame f else if t.warmReady f then t.warmFrame f else s
  | none => s

def execCommittedFrameComplete (frame : Nat) (s : State) : Host.Outcome State Fault Refusal :=
  runIf "COMMITTED_FRAME_COMPLETE" (Instr.wf (.committedFrameComplete frame)) (fun s => s.doCommitted frame) s

end Sys2Proof.Machine
end

