-- ==== Sys2Proof/Machine/Operands.lean ====
section
/-! DEFINITION. The operand forms of host commands: the fields of a 64-byte command descriptor (R262, R270), its
reserved fields (R8), and the command that it spells. -/

namespace Sys2Proof.Machine

open Sys2Proof

/-- The parameter fields of an opcode: offset and size (R270); none for an unknown opcode. -/
def descFields (op : Nat) : Option (List (Nat × Nat)) :=
  let profile := [(0x10, 4), (0x14, 1), (0x15, 1), (0x16, 1), (0x17, 1), (0x18, 1), (0x19, 1), (0x1A, 1), (0x1B, 1)]
  let nv := [(0x10, 1), (0x14, 4), (0x18, 4), (0x20, 8), (0x28, 8)]
  match op with
  | 0x01 => some []
  | 0x02 => some []
  | 0x03 => some (profile ++ [(0x20, 8)])
  | 0x10 => some [(0x10, 4), (0x14, 4), (0x18, 4), (0x1C, 1)]
  | 0x11 => some [(0x10, 1)]
  | 0x12 => some [(0x10, 1), (0x11, 1), (0x12, 1), (0x18, 8), (0x20, 4), (0x24, 4)]
  | 0x20 => some [(0x10, 1), (0x11, 1), (0x12, 1)]
  | 0x21 => some [(0x10, 1), (0x18, 8)]
  | 0x22 => some [(0x10, 1), (0x18, 8)]
  | 0x23 => some [(0x10, 1), (0x18, 8)]
  | 0x24 => some []
  | 0x30 => some [(0x10, 1), (0x11, 1), (0x12, 1)]
  | 0x40 => some ([(0x10, 2), (0x12, 1), (0x18, 8)] ++
      (List.range 5).flatMap fun n => [(0x20 + 4 * n, 1), (0x21 + 4 * n, 1), (0x22 + 4 * n, 1)])
  | 0x50 => some (profile ++ [(0x1C, 4), (0x20, 1)])
  | 0x51 => some [(0x10, 4), (0x14, 4), (0x18, 4), (0x1C, 4), (0x20, 1)]
  | 0x60 => some [(0x10, 1), (0x11, 1), (0x14, 4)]
  | 0x70 => some nv
  | 0x71 => some nv
  | 0x72 => some []
  | 0x80 => some [(0x10, 32), (0x30, 8)]
  | 0x81 => some [(0x10, 1), (0x14, 4), (0x18, 8)]
  | 0x82 => some [(0x10, 1)]
  | 0x83 => some [(0x10, 1), (0x14, 4), (0x18, 8)]
  | _ => none

/-- Bits of a one-byte parameter that are assigned; the others are reserved. -/
def descBits (op off : Nat) : Nat :=
  match op, off with
  | 0x10, 0x1C => 0x0F
  | 0x20, 0x11 => 0x0F
  | 0x30, 0x12 => 0x01
  | 0x51, 0x20 => 0x0F
  | _, _ => 0xFF

/-- The first reserved field of a descriptor that is not zero (R8), as a byte offset. The two bytes at 2 are one field, bits 7 to 1 of
FLAGS and every parameter byte that the opcode does not assign are reserved. -/
def descReserved (op : Nat) (fields : List (Nat × Nat)) (desc : List Byte) : Option Nat :=
  (List.range 64).find? fun i =>
    let b := fieldLe desc i 1
    if i = 1 then 2 ≤ b
    else if i = 2 then fieldLe desc 2 2 ≠ 0
    else if i < 16 then false
    else match fields.find? (fun (o, n) => o ≤ i && i < o + n) with
      | none => b ≠ 0
      | some (o, n) => n = 1 && b &&& (0xFF - descBits op o) ≠ 0

/-- The header of a descriptor (R262). -/
def descHdr (desc : List Byte) : Hdr :=
  { tag := fieldLe desc 0x04 4, resultAddr := fieldLe desc 0x08 8, fence := fieldLe desc 0x01 1 % 2 = 1 }

/-- The profile fields of a descriptor (R270). -/
def descProfile (d : List Byte) : ProfileReq :=
  { period := fieldLe d 0x10 4, x0 := fieldLe d 0x14 1, y0 := fieldLe d 0x15 1, w := fieldLe d 0x16 1,
    h := fieldLe d 0x17 1, fmt := fieldLe d 0x18 1, mode := fieldLe d 0x19 1, l := fieldLe d 0x1A 1,
    preview := fieldLe d 0x1B 1 }

/-- The command that a descriptor spells (R270), or the offset of the field that selects no form. `data` is what host
memory holds where the command's ADDR points. -/
def descInstr (d : List Byte) (data : HostData) : Except Nat Instr :=
  let h := descHdr d
  let f := fieldLe d
  match f 0 1 with
  | 0x01 => .ok (.startStream h)
  | 0x02 => .ok (.stopStream h)
  | 0x03 => .ok (.setProfile h (descProfile d) (f 0x20 8))
  | 0x10 => .ok (.armTake h
      { pre := f 0x10 4, post := f 0x14 4, extent := f 0x18 4, retrig := f 0x1C 1 % 2, store := f 0x1C 1 / 2 % 2,
        immediate := f 0x1C 1 / 4 % 2 = 1, freeAll := f 0x1C 1 / 8 % 2 = 1 })
  | 0x11 => if f 0x10 1 = 0 then .ok (.abortTake h) else if f 0x10 1 = 1 then .ok (.abortReplay h) else .error 0x10
  | 0x12 => .ok (.replayTake h (f 0x10 1) (f 0x11 1) (f 0x12 1) (f 0x18 8) (f 0x20 4) (f 0x24 4))
  | 0x20 => .ok (.calibrate h (f 0x10 1) (f 0x11 1) (f 0x12 1))
  | 0x21 => .ok (.rackCask h (f 0x10 1) (f 0x18 8))
  | 0x22 => .ok (.loadCask h (f 0x10 1) (f 0x18 8) data)
  | 0x23 => .ok (.saveCask h (f 0x10 1) (f 0x18 8))
  | 0x24 => .ok (.calAbort h)
  | 0x30 => if f 0x12 1 = 0 then .ok (.coilRun h (f 0x10 1) (f 0x11 1)) else .ok (.coilStop h (f 0x10 1) (f 0x11 1))
  | 0x40 => .ok (.roleSet h (f 0x10 2) (f 0x12 1) (f 0x18 8)
      ((List.range 5).map fun n => ⟨f (0x20 + 4 * n) 1, f (0x21 + 4 * n) 1, f (0x22 + 4 * n) 1⟩))
  | 0x50 => .ok (.energyPlan h (descProfile d) (f 0x1C 4) (f 0x20 1))
  | 0x51 => .ok (.setBudget h (f 0x10 4) (f 0x14 4) (f 0x18 4) (f 0x1C 4) (f 0x20 1))
  | 0x60 => .ok (.bistRun h (f 0x10 1) (f 0x11 1) (f 0x14 4))
  | 0x70 => .ok (.nvRead h (f 0x10 1) (f 0x14 4) (f 0x18 4) (f 0x20 8) (f 0x28 8))
  | 0x71 => .ok (.nvWrite h (f 0x10 1) (f 0x14 4) (f 0x18 4) (f 0x20 8) (f 0x28 8) data)
  | 0x72 => .ok (.nvStoreTrims h)
  | 0x80 => .ok (.attest h ((d.drop 0x10).take 32) (f 0x30 8))
  | 0x81 => .ok (.fwStage h (f 0x10 1) (f 0x14 4) (f 0x18 8) data)
  | 0x82 => .ok (.fwCommit h (f 0x10 1))
  | 0x83 =>
    if f 0x10 1 = 0 then .ok (.debugUnlockChallenge h (f 0x18 8))
    else if f 0x10 1 = 1 then .ok (.debugUnlockResponse h (f 0x14 4) (f 0x18 8) data)
    else .error 0x10
  | _ => .error 0x00

end Sys2Proof.Machine
end

