-- ==== Sys2Proof/Machine/Host.lean ====
section
/-! DEFINITION. Meanings of the host's doorbells, ring enables and bus events (chapter 10), and of the writes of the
interrupt summary (R445). -/

namespace Sys2Proof.Machine

open Sys2Proof

/-- What a read of BAR2 at `off` returns (R258): a doorbell's last accepted value, 0 at the reserved offsets (log 109). The table has
a row for each doorbell's writes and none for other accesses of BAR2: writes elsewhere are discarded. -/
def State.doorbell (s : State) (off : Nat) : Nat :=
  if off = 0 then s.hif.cmdProd
  else if off = 0x100 then s.hif.cmpCons
  else
    match (List.range 8).find? fun n => off = 0x40 + 8 * n ∨ off = 0x108 + 8 * n with
    | some n => if off = 0x40 + 8 * n then (s.chan n).bufProd else (s.chan n).scmpCons
    | none => 0

/-- A doorbell write is discarded: DB_REJ with the ring's kind and channel (R259). -/
def State.dbReject (s : State) (kind ch : Nat) : State :=
  ((s.sticky Fld.HIF_STATUS_DB_REJ).setFld Fld.HIF_STATUS_DB_RING kind).setFld Fld.HIF_STATUS_DB_CH ch

/-- CMD_PROD (R258, R259). -/
def State.doCmdProd (s : State) (v : Nat) : State :=
  if v < 65536 && s.cmdRun && idxDist s.hif.cmdFetch v ≤ s.cmdSize then { s with hif.cmdProd := v }
  else s.dbReject 0 0

def execCmdProd (v : Nat) (s : State) : Host.Outcome State Fault Refusal :=
  runIf "CMD_PROD" (Instr.wf (.cmdProd v)) (fun s => s.woken.doCmdProd v) s

/-- CH_n_BUF_PROD (R258, R259). `descs` are the descriptors the host has posted since its last write; slots it left
unwritten hold zeros. -/
def State.doBufProd (s : State) (n v : Nat) (descs : List BufDesc) : State :=
  let c := s.chan n
  let k := idxDist c.bufCons v
  if v < 65536 && s.chanOn n && k ≤ s.bufSize n then
    let posted := (c.bufs ++ descs ++ List.replicate k (⟨0, 0, 0⟩ : BufDesc)).take k
    State.settleAfter ((s.setChan n { c with bufProd := v, bufs := posted }).pump n)
  else s.dbReject 2 n

def execChBufProd (ch v : Nat) (descs : List BufDesc) (s : State) : Host.Outcome State Fault Refusal :=
  runIf "CH_BUF_PROD" (Instr.wf (.chBufProd ch v descs)) (fun s => s.woken.doBufProd ch v descs) s

/-- CMP_CONS (R258, R259), which also re-evaluates the ring's vector (R285). -/
def State.doCmpCons (s : State) (v : Nat) : State :=
  let k := idxDist s.hif.cmpCons v
  if v < 65536 && s.cmdRun && k ≤ idxDist s.hif.cmpCons s.hif.cmpProd then
    State.modCmp { s with
      hif.cmpCons := v, hif.cmpTicks := s.hif.cmpTicks.drop k
      hif.cmpLastDoorbell := s.mono, hif.cmpSignalled := false }
  else s.dbReject 1 0

def execCmpCons (v : Nat) (s : State) : Host.Outcome State Fault Refusal :=
  runIf "CMP_CONS" (Instr.wf (.cmpCons v)) (fun s => s.woken.doCmpCons v) s

/-- CH_n_SCMP_CONS (R258, R259, R285). -/
def State.doScmpCons (s : State) (n v : Nat) : State :=
  let c := s.chan n
  let k := idxDist c.scmpCons v
  if v < 65536 && s.chanOn n && k ≤ idxDist c.scmpCons c.scmpProd then
    let s := s.setChan n { c with scmpCons := v, entryTicks := c.entryTicks.drop k, lastDoorbell := s.mono,
                                  signalled := false }
    State.settleAfter ((s.modChan n).pump n)
  else s.dbReject 3 n

def execChScmpCons (ch v : Nat) (s : State) : Host.Outcome State Fault Refusal :=
  runIf "CH_SCMP_CONS" (Instr.wf (.chScmpCons ch v)) (fun s => s.woken.doScmpCons ch v) s

/-- Moderation time has passed: the ring's vector is signalled if it is due now (R285). Vector 0 is the completion
ring, vectors 1 to 8 are channels 0 to 7. -/
def State.doModTimeout (s : State) (v : Nat) : State :=
  match v with
  | 0 => s.modCmp
  | n + 1 => s.modChan n

def execInterruptModerationTimeout (vector : Nat) (s : State) : Host.Outcome State Fault Refusal :=
  runIf "INTERRUPT_MODERATION_TIMEOUT" (Instr.wf (.interruptModerationTimeout vector)) (fun s => s.doModTimeout vector) s

/-- A write of HIF_CTRL (R286): enabling resets the rings' indices (R258, R260); clearing stops fetching, and
outstanding commands still complete. -/
def State.doCmdEn (s : State) (v : Word) : State :=
  let was := s.cmdRun
  let s := s.hostSet Reg.HIF_CTRL v
  if s.cmdRun && !was then
    { s with
      hif.cmdProd := 0, hif.cmdFetch := 0, hif.cmpProd := 0, hif.cmpCons := 0
      hif.cmpTicks := [], hif.cmpLastDoorbell := s.mono, hif.cmpSignalled := false }
  else s

def execCmdEn (v : Word) (s : State) : Host.Outcome State Fault Refusal := run (fun s => s.woken.doCmdEn v) s

/-- Are both ring sizes in a HIF_CH_n_CTRL value in range? -/
def chCtrlOk (v : Word) : Bool :=
  let b := fldOf v (Fld.HIF_CH_CTRL_BUF_LOG2 0)
  let c := fldOf v (Fld.HIF_CH_CTRL_SCMP_LOG2 0)
  4 ≤ b && b ≤ 12 && 4 ≤ c && c ≤ 12

/-- A write of HIF_CH_n_CTRL (R280, R286). While the channel is enabled its size fields are discarded with CFG_REJ if
the write would change them; an out-of-range size discards the whole write. -/
def State.writeChCtrl (s : State) (n : Nat) (v : Word) : State :=
  let off := Reg.HIF_CH_CTRL n
  if !chCtrlOk v then s.sticky Fld.HIF_STATUS_CFG_REJ
  else if s.chanOn n then
    let s := s.stickyIf (decide (fldOf v (Fld.HIF_CH_CTRL_BUF_LOG2 n) ≠ s.fld (Fld.HIF_CH_CTRL_BUF_LOG2 n) ∨
      fldOf v (Fld.HIF_CH_CTRL_SCMP_LOG2 n) ≠ s.fld (Fld.HIF_CH_CTRL_SCMP_LOG2 n))) Fld.HIF_STATUS_CFG_REJ
    if fldOf v (Fld.HIF_CH_CTRL_ENABLE n) = 1 then s
    else
      -- disabling: a record in transfer is completed, everything later is discarded (R280)
      let s := s.setFld (Fld.HIF_CH_CTRL_ENABLE n) 0
      let s := s.discardQueue n
      (s.setChan n { s.chan n with enabled := false, halted := false, discard := false }).settleAfter
  else if fldOf v (Fld.HIF_CH_CTRL_ENABLE n) = 1 then
    -- a record still in transfer from before the disable is completed first (R280, log 11)
    let s := (s.finishXfer n false).hostSet off v
    let c := s.chan n
    (s.setChan n { chanIdle with
      enabled := true, lastDoorbell := s.mono, dropsSince := c.dropsSince, lost := c.lost }).settleAfter
  else s.hostSet off v

def execChannelEnable (ch : Nat) (v : Word) (s : State) : Host.Outcome State Fault Refusal :=
  runIf "CHANNEL_ENABLE" (Instr.wf (.channelEnable ch v)) (fun s => s.woken.writeChCtrl ch v) s

def execChannelDisable (ch : Nat) (v : Word) (s : State) : Host.Outcome State Fault Refusal :=
  runIf "CHANNEL_DISABLE" (Instr.wf (.channelDisable ch v)) (fun s => s.woken.writeChCtrl ch v) s

/-- A write of GLB_INT_SUMMARY (R445 items 3 and 5). -/
def State.doIntSummary (s : State) (v : Word) : State :=
  let s := s.hostSet Reg.GLB_INT_SUMMARY v
  let left := s.reg Reg.GLB_INT_SUMMARY ||| (s.intRaw &&& s.reg Reg.GLB_INT_EN)
  let s := s.setReg Reg.GLB_INT_SUMMARY left
  if left = 0 then s else s.signal 9

def execGlbIntSummaryWrite (v : Word) (s : State) : Host.Outcome State Fault Refusal := run (fun s => s.woken.doIntSummary v) s

/-- A write of GLB_INT_EN (R445 item 4): the summary follows when the command ends. -/
def execGlbIntEnWrite (v : Word) (s : State) : Host.Outcome State Fault Refusal :=
  run (fun s => s.woken.hostSet Reg.GLB_INT_EN v) s

/-- Waiting completions, vectors and records go on once memory requests may be issued (R256). -/
def State.resumeBus (s : State) : State :=
  if s.busOk then
    let s := s.flushPosts.flushHeld.flushVectors
    ((List.range 8).foldl (fun s n => s.pump n) s).settleAfter
  else s

/-- Bus Master Enable changes (R256). -/
def execBusMasterEnableChange (on : Bool) (s : State) : Host.Outcome State Fault Refusal :=
  run (fun s => State.resumeBus { s.woken with hif.busMaster := on }) s

/-- A pool buffer or host buffers are available: a paused transfer or a waiting record goes on (R281, R283). -/
def State.doEgress (s : State) (n : Nat) : State :=
  let c := s.chan n
  match c.xfer with
  | some x =>
    if x.held = 0 && x.record.typ = 0 && s.mayTake n 1 then
      let s := s.take n 1
      s.setChan n { s.chan n with xfer := some { x with held := 1 } }
    else s
  | none => (s.pump n).settleAfter

def execEgressBufferAvailable (ch : Nat) (s : State) : Host.Outcome State Fault Refusal :=
  runIf "EGRESS_BUFFER_AVAILABLE" (Instr.wf (.egressBufferAvailable ch)) (fun s => s.doEgress ch) s

/-- Can the transfer of a channel end now? It has its pool buffers and the bus (R256, R281). -/
def State.xferReady (s : State) (n : Nat) : Bool :=
  match (s.chan n).xfer with
  | some x => s.busOk && (0 < x.held || x.record.typ = 2)
  | none => false

/-- A record's write to host memory ends (R276, R278). -/
def State.doXferDone (s : State) (n : Nat) (dmaError : Bool) : State :=
  if s.xferReady n then (s.finishXfer n dmaError).settleAfter else s

def execRecordTransferDone (ch : Nat) (dmaError : Bool) (s : State) : Host.Outcome State Fault Refusal :=
  runIf "RECORD_TRANSFER_DONE" (Instr.wf (.recordTransferDone ch dmaError)) (fun s => s.doXferDone ch dmaError) s

/-- Link training completes (R255): Gen3 to Gen5, one to eight lanes, once PERST_N is released and RECALL has ended (R437). -/
def State.doLinkUp (s : State) (speed width : Nat) : State :=
  if s.pow.perstN && s.pow.st ≠ .recall then { s with hif.linkSpeed := speed, hif.linkWidth := width, linkL12 := false } else s

def execLinkUp (speed width : Nat) (s : State) : Host.Outcome State Fault Refusal :=
  runIf "LINK_UP" (Instr.wf (.linkUp speed width)) (fun s => s.doLinkUp speed width) s

/-- The link goes down (R255): SPEED reads 0. WIDTH is not stated for a link that is down: a free value (log 6). -/
def execLinkDown (s : State) : Host.Outcome State Fault Refusal :=
  run (fun s => State.drew { s with hif.linkSpeed := 0, hif.linkWidth := s.freeVal % 64, linkL12 := false }) s

end Sys2Proof.Machine
end

