-- ==== Sys2Proof/Machine/Snapshot.lean ====
section
/-! DEFINITION. Frame snapshots (R59 to R63): what a snapshot latches, the frame it closes, the changes that fall due there in the
order of R29, and the frame it opens. -/

namespace Sys2Proof.Machine

open Sys2Proof

/-! ## The frame that closes -/

/-- The SEN_ registers of the frame that closes (R36, R43). -/
def State.showSen (s : State) (edges : Nat) (d marks : PixMap Nat) : State :=
  let p := s.tol.prof
  let n := nWin p
  let sat := sumOver marks (inWindow p) n fun m => m % 2
  let starve := sumOver marks (inWindow p) n fun m => m / 2 % 2
  let level := rndDiv (65536 * sumOver d (inWindow p) n id : Nat) (n * max 1 edges)
  let blind := rndDiv (16 * sumOver d inBlindRows 65920 id : Nat) 65920
  let s := (s.stickyIf (decide (0 < sat)) Fld.SEN_STATUS_SAT_SEEN).stickyIf (decide (0 < starve)) Fld.SEN_STATUS_STARVE_SEEN
  let s := (s.setRegN Reg.SEN_SAT_COUNT sat).setRegN Reg.SEN_STARVE_COUNT starve
  (s.setRegN Reg.SEN_ARRAY_LEVEL (clampN 0xFFFF level)).setRegN Reg.SEN_BLINDROW_MEAN (clampN (2 ^ 32 - 1) blind)

/-- The TMG_ registers of the snapshot at tick `t` that closes frame `k` (R82). -/
def State.showTmg (s : State) (k t prev : Nat) : State :=
  ((s.setRegN Reg.TMG_PERIOD (sat32 (tickSpan prev t))).setPair Reg.TMG_SNAP_LO t).setPair Reg.TMG_FRAME_LO k

/-- The order in which S2 sends the tile rows of a frame (R17): one of each stripe in turn, in the order of the stripes down the
array, top to bottom in each. A band has no stripes (R170). -/
def readOrder (m : List MapEnt) (p : Profile) (band : Bool) : List Nat :=
  if band then winRows p
  else
    let owned := (List.range m.length).map fun n => (winRows p).filter (ownsRow (mapAt m n))
    let stripes := (owned.filter fun l => !l.isEmpty).mergeSort fun a b => decide (a.headD 0 ≤ b.headD 0)
    (List.range 48).flatMap fun j => stripes.filterMap fun l => l[j]?

/-- Is a frame that closes at tick `t` processed in KEEP_WARM (R312)? Not while a full BIST holds the units (R406). -/
def State.warmDue (s : State) (t : Nat) : Bool :=
  s.pow.st = .keepWarm && s.bst.full.isNone && !s.tmg.first && tickLe s.trs.kwNext t

/-- Frame `k` closes at tick `t` (R34 to R37, R72, R86). The first frame after biasing is not processed (R61). -/
def State.closeFrame (s : State) (k t prev : Nat) (d marks : PixMap Nat) : State :=
  let tc := s.timecodeAt t
  let warm := s.warmDue t
  let p := s.tol.prof
  let edges := s.sen.subCounts.map (·.1)
  let sat := sumOver marks (inWindow p) (nWin p) fun m => m % 2
  let starve := sumOver marks (inWindow p) (nWin p) fun m => m / 2 % 2
  let s := if tc.valid && tc.predicted then { s with tmg.ltcPredicted := s.tmg.ltcPredicted ++ [(k, tc.code, t)] } else s
  let first := s.tmg.first
  let s := s.mapFrames fun f =>
    if f.k = k ∧ !f.closed then
      let run := !first && (f.streamed || f.captured || warm)
      { f with
        snap := t, prev := prev, closed := true, edges := edges, d := d, marks := marks, satCount := sat, starveCount := starve
        timecode := tcWord tc, ltcPhase := tc.phase, keepWarm := warm, streamed := f.streamed && !first
        captured := f.captured && !first, openRows := if run then (winRows f.prof).filter fun r => !f.missCom.contains r else []
        unread := if run then readOrder f.map f.prof f.band.isSome else [] }
    else f
  let s := if warm then { s with trs.kwNext := tickAdd s.pow.kwEntry (250000000 * (tickSpan s.pow.kwEntry t / 250000000 + 1)) } else s
  s.tidy

/-- The interval that ends at tick `t` is latched, and the frame's values are formed. -/
def State.latchFrame (s : State) (sc : Scene) (k t prev : Nat) : State :=
  let t0 := tickAdd prev (25000000 * s.tmg.subDone)
  let s := s.closeInterval sc t0 t
  let d := frameValue s.sen.subCounts
  let marks := frameMarks s.sen.subCounts
  let s := (s.showSen (sumN (s.sen.subCounts.map (·.1))) d marks).showTmg k t prev
  let s := (s.closeFrame k t prev d marks).sumShorted k (tickSpan prev t) d
  { s with
    sen.subCounts := [], sen.gridDue := s.sen.gridDue ++ [(tickSpan t0 t, some k)]
    tmg.lastSnap := t, tmg.prevSnap := prev, tmg.frame := k + 1, tmg.first := false, tmg.subDone := 0
    trs.snaps := (k, t) :: s.trs.snaps }

/-! ## The stripe map (R29 step 1) -/

/-- A map is applied at S_k: rows that are seeded make a ROLE_RESEED flush, and the MONITOR history of moved rows starts again
(R106, R136, R222). -/
def State.applyDue (s : State) (k : Nat) (m : List MapEnt) (reseed seeded : Bool) : State :=
  let moved := movedRows s.rol.map m
  let (s, rows) := s.applyMap k m reseed seeded
  State.monCut { s with
    trs.dueRows := s.trs.dueRows ++ rows
    trs.dueCauses := s.trs.dueCauses ||| (if rows.isEmpty then 0 else Cause.roleReseed) } (k + 1) moved

/-- The period rises to P_min of a failover map (R228). -/
def State.forceRate (s : State) (k : Nat) : State :=
  let p := s.ownProf
  let least := pMin s.rol.map p s.tol.level
  if p.period < least then
    let s := (s.setOwnProf { p with period := least }).sticky Fld.ROL_STATUS_RATE_FORCED
    let s := if s.inStream && !s.inBand then { s with trs.dueCauses := s.trs.dueCauses ||| Cause.profile } else s
    s.takeChange k Chg.period
  else s

/-- Failover maps of withdrawn dies (R228). A die in BIST that is to take over is prepared first. -/
def State.stepFailover (s : State) (k : Nat) (seeded : Bool) : State :=
  s.rol.failover.foldl (fun s n =>
    let done := fun (s : State) => { s with rol.failover := s.rol.failover.filter (· ≠ n) }
    let apply := fun (s : State) (m : List MapEnt) =>
      (done (State.applyDue (s.sticky Fld.ROL_STATUS_FAILOVER) k m (decide (s.fld Fld.ROL_CFG_HANDOVER = 1)) seeded)).forceRate k
    match (if s.roleOf n = .off then none else s.failoverMap n) with
    | none => done s
    | some (m, none) => apply s m
    | some (m, some d) =>
      if (s.die d).ready && (s.die d).renewed then apply s m else s.prepareDie d .stripe) s

/-- The map of a pending change as it falls due. Those of a rotation change the roles of its dies only: they keep the ranges that the map in
force has by then (R230). -/
def State.freshMap (s : State) (c : MapChange) : List MapEnt :=
  if c.cause = 2 ∨ c.cause = 3 then
    let leaver := (List.range 5).find? fun n => s.roleOf n = .stripe && (mapAt c.map n).role ≠ .stripe
    (List.range 5).map fun n =>
      let e := mapAt c.map n
      let now := mapAt s.rol.map n
      if e.role = now.role then now else if e.role = .stripe then mapAt s.rol.map (leaver.getD n) else e
  else c.map

/-- The pending map change, if it falls due at S_k at elapsed tick `et` (R211, R216, R217, R230). -/
def State.stepPending (s : State) (k et : Nat) (seeded : Bool) : State :=
  if !s.mapDue k et then s
  else match s.rol.pend with
    | none => s
    | some c =>
      let old := s.rol.map
      let s := State.applyDue { s with rol.pend := none } k (s.freshMap c) c.reseed seeded
      let s := if c.cause = 2 then
          { s with rol.rotFrom := some et, rol.rotPeriod := s.fld Fld.BST_ROTATE_VALUE }
        else if c.cause = 6 then { s with rol.before := none }
        -- the keep-warm map displaces the map in force, which leaving KEEP_WARM restores (R214)
        else if c.cause = 5 then { s with rol.before := some (s.rol.before.getD old) } else s
      match c.cid with
      | some cid => s.complete cid St.ok Why.none (some k) (some (leBytes 2 s.rol.version))
      | none => s

/-! ## Racking (R29 step 2) -/

/-- A racking pending at S_k, a calibration's own, or new contents of the cask in force (R151 to R154, R160, R175). -/
def State.stepRack (s : State) (k t : Nat) : State × Bool :=
  let (s, a) := s.rackAt k t
  let (s, b) := s.calRack k
  let (s, c) := s.reloadAt
  if a || b || c then
    (State.discardHeld { s with trs.dueCauses := s.trs.dueCauses ||| if s.inStream then Cause.racking else 0 }, true)
  else (s, false)

/-! ## Arming (R237) -/

/-- The energy of PRE + POST frames of the profile as requested exceeds the allowance left (R321). -/
def State.takeTooDear (s : State) (q : ArmReq) : Bool :=
  if s.regN Reg.TOL_ALLOW_MJ = 0 then false
  else
    let p := { s.tol.req with period := max s.tol.req.period (pMin s.rol.map s.tol.req s.tol.level) }
    let t := s.planTerms s.rol.map p (if q.store = 0 then 1 else 2)
    let frames := (if q.immediate then 0 else q.pre) + q.post
    s.regN Reg.TOL_ALLOW_LEFT_MJ * 10 ^ 12 < 4 * (t.fixed * p.period + 250 * t.frame) * frames

/-- An ARM_TAKE falls due at S_k, tick `t`. -/
def State.dueArm (s : State) (k t : Nat) : State :=
  match s.cel.run with
  | none => s
  | some r =>
    if r.stage ≠ 0 ∨ tickLe t r.acceptTick = true then s
    else
      let refuse := fun (status why : Nat) => State.fail { s with cel.run := none } r.cid status why
      if s.pow.st ≠ .stream ∨ s.trs.lastFrame.isSome then refuse St.aborted Why.none
      else match s.armSpace r.req s.rol.map s.tol.prof with
        | .error o => refuse St.badParam o
        | .ok (ext, w) =>
          let (st, c) := s.admission s.budget s.rol.map s.tol.req (if r.req.store = 0 then 1 else 2)
          if st = St.overBudget ∨ s.takeTooDear r.req then refuse St.overBudget Why.none
          else
            let c := runtimeSteps s.tol.runtime c
            let old := s.ownProf
            (s.putProfile k c Step.admission).arm r k ext w (decide (st = St.admitReduced ∧ c ≠ old))

/-! ## Flushes of the frame that opens (R136) -/

/-- A write of 1 to TRS_CTRL.FLUSH that a tick before the snapshot holds, and whose flush no open episode carries yet. -/
def State.flushDue (s : State) : Bool :=
  fldOf (tabGet resetVal s.held Reg.TRS_CTRL) Fld.TRS_CTRL_FLUSH = 1 &&
    match s.trs.episode with
    | some e => (e.causes ||| e.sched) &&& Cause.hostFlush = 0
    | none => true

/-- A write that changed the governing target constant, before the snapshot's tick `et` (R119). -/
def State.tauDue (s : State) (et : Nat) : Bool := s.inStream && s.trs.tauWrites.any (· < et)

/-- Every change that falls due at S_k, in the order of R29; `seeded` says that the array is seeded at the frame that opens, so
that a map change moves nothing (R225). DESIGN CHOICE (log 106): a profile or a stream start that falls due beside a SET_BUDGET is
judged under the budget before it. -/
def State.changes (s : State) (k t et : Nat) (seeded : Bool) : State :=
  let v := s.rol.version
  let p := s.tol.prof
  let codes := (s.sen.biasCode, s.sen.qrefCode)
  -- what falls due with the start of a stream makes no flush of its own (R136)
  let live := s.inStream
  let s := (((s.rotSnap et).stepFailover k seeded).stepPending k et seeded)
  let (s, racked) := s.stepRack k t
  let s := (s.latchSync.applyCodes false).applyTrims
  let (s, told) := (s.calSnap k et).dueProfile k t
  let (s, begun) := (s.dueStop k t).dueStart k t
  let s := if live && s.flushDue then { s with trs.dueCauses := s.trs.dueCauses ||| Cause.hostFlush } else s
  let s := if live && s.tauDue et then { s with trs.dueCauses := s.trs.dueCauses ||| Cause.profile } else s
  let s := { s with trs.tauWrites := s.trs.tauWrites.filter (et ≤ ·) }
  let s := (((s.dueBudget k t).dueRuntime k).dueThrottle k).dueArm k t
  let s := (told ++ begun).foldl (fun s x => s.tell x) s
  let q := s.tol.prof
  let s := if (p.x0, p.y0, p.w, p.h) ≠ (q.x0, q.y0, q.w, q.h) then s.monCut (k + 1) (List.range 48) else s
  let s := if (p.period, p.x0, p.y0, p.w, p.h, p.fmt) ≠ (q.period, q.x0, q.y0, q.w, q.h, q.fmt) ∨
      codes ≠ (s.sen.biasCode, s.sen.qrefCode) then s.discardHeld else s
  let s := s.handoverAt k
  s.takeChange k (Chg.map * b2n (decide (v ≠ s.rol.version)) + Chg.racking * b2n racked)

/-- Do the causes collected seed the whole array? -/
def arraySeeds (causes : Nat) : Bool := causes &&& (0x7F - Cause.roleReseed) != 0

/-- The changes, with what R225 says of a map change beside an array seed. -/
def State.allChanges (s : State) (k t et : Nat) : State :=
  let a := s.changes k t et false
  if a.inStream && ((arraySeeds a.trs.dueCauses && a.trs.episode.isNone) || a.episodeSeeds (k + 1) t) then s.changes k t et true
  else a

/-! ## The frame that opens -/

/-- A radiometric bank swap written before the snapshot's tick (R112). -/
def State.stepSwap (s : State) : State :=
  if fldOf (tabGet resetVal s.held Reg.PPL_RAD_CTRL) Fld.PPL_RAD_CTRL_SWAP = 1 ∧ s.flag Fld.PPL_RAD_CTRL_SWAP then
    State.setFld { s with rad.active := !s.rad.active } Fld.PPL_RAD_CTRL_SWAP 0
  else s

/-- The inputs of the coefficient table in force for the frame that opens (R120, R121; log 56). -/
def State.stepTable (s : State) : State :=
  { s with
    trs.tblPeriod := s.tol.prof.period, trs.tblMode := s.tol.prof.mode
    trs.tblTau := tauOf (tabGet resetVal s.held) s.tol.prof.mode, trs.tblValid := true, trs.tblShown := true }

/-- Frame `k` opens at tick `t` with the settings in force (R16, R86). -/
def State.openFrame (s : State) (k t : Nat) : State :=
  let (cap, band) := s.captureOf k
  let gain := noiseGainOf s.caskNow s.tol.prof (tauOf (tabGet resetVal s.held) s.tol.prof.mode)
  let f : FrameW :=
    { k, snap := t, prev := t, closed := false, edges := [], d := pixConst 0, marks := pixConst 0, satCount := 0
      starveCount := 0, prof := s.tol.prof, cfg := s.held, rad := s.radBank
      cask := if s.caskNow.isSome then s.casks.active else 0xFF, gen := (s.caskNow.map (·.gen)).getD 0, img := s.caskNow
      version := s.rol.version, map := s.rol.map
      streamed := s.inStream && s.trs.lastFrame.isNone && !s.inBand, keepWarm := false, captured := cap, band
      shutter := decide (s.casks.shut ≠ .one), thermal := decide (0 < s.tol.level), tail := false, cold := false
      coldPrev := false, episode := false, seedRows := [], arraySeed := false, timecode := 0, ltcPhase := 0, trigOffset := none
      noiseGain := gain, gridMeas := none, gridPred := none, gridFault := false, ref := none, prepared := false, unread := []
      openRows := [], gotRows := []
      prevRows := [], yRows := [], missPrev := [], missCom := [], halos := [], prevDone := false, prevQueued := false
      comDone := false, comGap := false, prevOut := #[], prevFlags := #[] }
  State.setRegN { s with frames := s.frames ++ [f] } Reg.TRS_NOISE_GAIN gain

/-- Flushes fall due at the frame that opens: only for streamed frames and for the first frame of a band phase (R136, R169). DESIGN
CHOICE (log 116): a FLUSH written outside a stream, whose seed frame never comes, reads 1 until the next frame snapshot. -/
def State.openFlush (s : State) (k t : Nat) : State :=
  let causes := s.trs.dueCauses
  let rows := s.trs.dueRows
  let s := { s with trs.dueCauses := 0, trs.dueRows := [] }
  let counts := s.frames.any fun f => f.k = k && (f.streamed || (s.inStream && f.band = some (0, 0)))
  let s : State := if !counts then s
    else
      let s := s.episodeAt k t
      if causes &&& Cause.streamStart ≠ 0 then s.streamFlush k t causes else s.scheduledFlush k t causes rows
  -- FLUSH reads 1 until its seed frame begins (R148)
  if s.trs.episode.isNone ∧ fldOf (tabGet resetVal s.held Reg.TRS_CTRL) Fld.TRS_CTRL_FLUSH = 1 then
    s.setFld Fld.TRS_CTRL_FLUSH 0
  else s

/-- The snapshot after this one is placed and announced (R59, R67, R301). A band phase places its snapshots as FREE (R171). -/
def State.placeNext (s : State) (t last : Nat) : State :=
  if s.inBand then State.placeAt { s with tmg.intervals := [], tmg.alignWait := [], way.epochTick := none } t s.tol.prof.period
  else (s.scheduleNext t (pMin s.rol.map s.tol.prof s.tol.level) last).sendEpoch

/-! ## FRAME_SNAPSHOT -/

/-- Is a frame snapshot due, with every intermediate one before it taken (R37, R59)? -/
def State.snapDue (s : State) : Bool :=
  s.tmg.scheduled && tickLe s.tmg.nextSnap s.now && !s.subDue

/-- A snapshot of the band phase of a TAU_MAP clears LOCKED (R171). -/
def State.bandUnlock (s : State) : State :=
  if s.inBand then { s with tmg.locked := false, tmg.lockRun := 0 } else s

def State.doSnapshot (s : State) (sc : Scene) : State :=
  if !s.snapDue then s
  else
    let t := s.tmg.nextSnap
    let prev := s.tmg.lastSnap
    let k := s.tmg.frame
    let et := s.mono - tickSpan t s.now
    let s := (((s.epochMiss.bandUnlock.latchFrame sc k t prev).takeSnap k t).stepSwap).allChanges k t et
    let s := s.stepTable.rotClock et
    let s := s.setFld Fld.SEN_SUBSNAP_INTERVALS (subsOf s.tol.prof.period)
    let s := (s.placeNext t (tickSpan prev t)).openFrame (k + 1) t
    let s := (s.openFlush (k + 1) t).freeRevisions
    -- the snapshot's own HOST trigger (R343)
    if s.flag Fld.HKC_INJ_CFG_SNAP_EN then s.hostTrigger else s

def execFrameSnapshot (scene : Scene) (s : State) : Host.Outcome State Fault Refusal :=
  run (fun s => s.doSnapshot scene) s

/-! ## The ledger interval, with the filler of the next one (R314, R324, R325) -/

/-- What the changes of work that fall due in the next interval add to the flat sum, in mW: the plan after the changes of the
snapshot that lies in it, less the plan in force (R324; log 111). -/
def State.workComing (s : State) : Int :=
  if !s.tmg.scheduled || !tickLe s.tmg.nextSnap (tickAdd s.now 250000) then 0
  else rndDiv ((s.allChanges s.tmg.frame s.tmg.nextSnap s.tmg.nextSnap).flatPlan - (s.flatPlan : Int)) 1000

/-- What filler may add to a die: its headroom, and what its unused cycles carry (R27, R324). -/
def State.fillerRoom (s : State) (n : Nat) (d : Nat × Nat) (a : DieActivity) : Nat × Nat × Nat :=
  let head := 2600 - (d.1 - d.2)
  (n, head, min head (entryUj 0 (s.spareCycles a * Config.coeff Coef.fillerCycle)))

/-- The next interval's filler, from this one and the changes that fall due as its prediction, and whether the cap limits it. -/
def State.planFlat (s : State) (a : Activity) (e : Entries) : State :=
  if !s.flatOn then { s with tol.filler := [], tol.capLimit := false, tol.flatUnmet := false, tol.flatRun := 0 }
  else
    let need := (s.regN Reg.TOL_FLAT_MW - ((e.work : Int) + s.workComing)).toNat
    let dies := ((e.dies.zipIdx).filter fun x => (s.die x.2).powered).map fun x =>
      s.fillerRoom x.2 x.1 (a.dies.getD x.2 ⟨0, 0, 0, 0⟩)
    -- in order of headroom, greatest first (R324)
    let rooms := (dies.mergeSort fun x y => decide (y.2.1 ≤ x.2.1)).map fun x => (x.1, x.2.2)
    let head := sumN (rooms.map (·.2))
    let cap := s.regN Reg.TOL_CAP_MW
    let room := if cap = 0 then head else (cap - ((e.total - e.fillSum : Nat) + s.workComing)).toNat
    let hot := s.anyThrottled || decide (0 < s.tol.level)
    let f := if hot then 0 else min need (min head room)
    let limit := cap != 0 && !hot && decide (room < min need head)
    let given := spreadFiller f rooms
    let cause := if 0 < s.tol.level ∨ (hot = true ∧ f < need) then some 0 else if limit then some 1
      else if s.regN Reg.TOL_FLAT_MW < e.work then some 2 else if f < need then some 3 else none
    let run := if cause.isSome then s.tol.flatRun + 1 else 0
    let s := { s with
      tol.filler := (List.range 5).map fun n => (given.find? (·.1 = n)).elim 0 (·.2)
      tol.capLimit := limit, tol.flatUnmet := cause.isSome, tol.flatRun := run }
    if run = 10 then
      let s := s.sticky Fld.TOL_STATUS_FLAT_UNMET_SEEN
      let recent := match s.tol.flatLast with | some t => decide (s.mono < t + 250000000) | none => false
      if recent then s
      else State.event { s with tol.flatLast := some s.mono } 0x0104
        (leBytes 1 (cause.getD 0) ++ leBytes 3 0 ++ leBytes 4 (e.work + e.fillSum))
    else s

/-- The interval ends: ledger, cap and allowance, then one reading per die, and flat dissipation for the next. -/
def State.doLedger (s : State) (a : Activity) : State :=
  if s.clockRuns && s.now % 250000 == 0 then
    let s := (s.meter .a).meter .b
    let e := s.entries a
    let s := ((s.bookEntries a e).capStep e).allowStep e
    let s := (List.range 7).foldl (fun s n => s.judgeDie n) s
    -- the filler of the next interval knows of this interval's readings (R26)
    (s.planFlat a e).showThermal
  else s

def execLedgerInterval (act : Activity) (s : State) : Host.Outcome State Fault Refusal :=
  runIf "LEDGER_INTERVAL" (Instr.wf (.ledgerInterval act)) (fun s => s.doLedger act) s

end Sys2Proof.Machine
end

