-- ==== Sys2Proof/Machine/Power.lean ====
section
/-! DEFINITION. Power states and their transitions (R309 to R313), resets (R437 to R441, R446), start-up (R377, R387, R388, R418,
R442), and D3hot (R438). -/

namespace Sys2Proof.Machine

open Sys2Proof

/-! ## Transitions of the power state (R310, R311) -/

/-- The keep-warm map (R214): the lowest die that is not withdrawn owns every row. -/
def State.warmMap (s : State) : List MapEnt :=
  let d := (s.counted.find? fun n => !(s.die n).withdrawn).getD 0
  (List.range 5).map fun n => if n = d then { role := .stripe, first := 0, count := 48 } else mapOff

/-- The map that leaving KEEP_WARM restores (R214). Rows of a die withdrawn since are shared out again (R212). -/
def State.restoredMap (s : State) : List MapEnt :=
  let old := s.rol.before.getD s.rol.map
  let gone := fun (n : Nat) => !s.present n || (s.die n).withdrawn
  let m := (List.range 5).map fun n => if gone n then mapOff else mapAt old n
  if (List.range 5).any fun n => gone n && isStripe (mapAt old n) then
    let left := stripeDies m
    if left.isEmpty then s.warmMap else balanced m left s.tol.prof
  else m

/-- A map of the power state is made pending, unless a change waits already. -/
def State.pendPower (s : State) (m : List MapEnt) (cause : Nat) : State :=
  if s.rol.pend.isSome then s
  else s.pendMap { map := m, frame := 0, reseed := true, cid := none, cause, accept := s.mono }

/-- The keep-warm map is in force, or is made pending; the map that it displaces is kept when it falls due (R214). -/
def State.pendWarm (s : State) : State :=
  if sameMap s.rol.map s.warmMap then s
  else if s.rol.pend.isSome then s
  else
    let s := (s.counted.filter fun n => (mapAt s.warmMap n).role = .stripe).foldl (fun s n => s.prepareDie n .stripe) s
    s.pendPower s.warmMap 5

/-- The sensor is biased; codes that change with it discard a held capture (R175). -/
def State.biasFresh (s : State) : State :=
  let t := s.biasSensor
  if (s.sen.biasCode, s.sen.qrefCode) ≠ (t.sen.biasCode, t.sen.qrefCode) then t.discardHeld else t

/-- A map in force that is the keep-warm map itself is the one that leaving KEEP_WARM restores (R214). -/
def State.keepBefore (s : State) : State :=
  if sameMap s.rol.map s.warmMap then { s with rol.before := some (s.rol.before.getD s.rol.map) } else s

/-- What the transition to `p` still asks for is begun (R310). DESIGN CHOICE (log 106): the sensor is biased at the request, the
first moment of the 80 ms that R310 gives the transition. -/
def State.pursue (s : State) (p : PState) : State :=
  match s.pow.st, p with
  | .standby, _ =>
    let s := if s.sen.biased then s else s.biasFresh
    let s := s.keepBefore
    let s := (s.counted.filter fun n => (mapAt s.warmMap n).role = .stripe).foldl (fun s n => s.prepareDie n .stripe) s
    s.pendWarm
  | .ready, _ => s.keepBefore.pendWarm
  | .keepWarm, .ready => if s.rol.before.isNone then s else s.pendPower s.restoredMap 6
  | .keepWarm, .standby =>
    if s.flag Fld.BST_CFG_SHUT_EN && s.bst.full.isNone then s.startFull Owner.shutdown else s
  | _, _ => s

/-- A transition begins: TOL_PSTATE.MOVING reads 1 from here (R310). -/
def State.startMove (s : State) (p : PState) : State :=
  if s.pow.st = p then s
  else State.pursue { s with pow.target := some p, pow.since := s.mono } p

def pstateOf : Nat → Option PState
  | 2 => some .standby
  | 3 => some .keepWarm
  | 4 => some .ready
  | _ => none

/-- Is a request for `p` discarded (R311, R388)? -/
def State.requestBad (s : State) (p : PState) : Bool :=
  (match s.pow.st with | .standby => false | .keepWarm => false | .ready => false | _ => true) || s.moving ||
    s.flag Fld.TOL_PSTATE_CRIT_HOLD ||
    (p ≠ .ready && (s.casks.cal.isSome || s.cel.replay.isSome)) ||
    (p ≠ .standby && s.sec.boot ≠ .booting && (s.sec.images.getD 2 none).isNone)

/-- Boot, and any boot BIST, have ended (R311, R418, R442). -/
def State.startedUp (s : State) : Bool := s.sec.bootDone && !(s.pow.st = .standby && s.bst.full.isSome)

/-- A write of TOL_PSTATE: REQ, and the W1C bit CRIT_HOLD beside it. -/
def State.doPstateRequest (s : State) (v : Word) : State :=
  let next := match pstateOf (fldOf v Fld.TOL_PSTATE_REQ) with
    | none => s.sticky Fld.TOL_STATUS_CFG_REJ
    | some p =>
      if s.requestBad p then s.sticky Fld.TOL_STATUS_CFG_REJ
      else
        let s := s.setFld Fld.TOL_PSTATE_REQ (stateCode p)
        if s.startedUp || s.sec.boot = .recovery then s.startMove p else { s with pow.stored := some p }
  if v.getLsbD 12 then next.doCritClear else next

def execPstateRequest (v : Word) (s : State) : Host.Outcome State Fault Refusal := run (fun s => s.woken.doPstateRequest v) s

/-- KEEP_WARM begins: its frames are counted from this tick (R312), and the MONITOR history starts again. -/
def State.enterWarm (s : State) : State :=
  State.goState { s with pow.kwEntry := s.now, trs.kwNext := s.now, trs.mon := [] } .keepWarm

/-- The device goes from KEEP_WARM to STANDBY (R310, R417): the log entry of a clean shutdown, and everything loses its power
(R24, R186, R304). -/
def State.enterStandby (s : State) : State :=
  let s := if s.fullOver && !s.bst.fullBad then s.logPass else s
  let s := { s with bst.full := none }
  State.goState (s.coilPowerStop.dropFrames.powerOff.leaveRing) .standby

/-- One transition of R310 completes, if all that it asks for has come about. -/
def State.doPstateReached (s : State) : State :=
  match s.pow.target with
  | none => s
  | some p =>
    let settled := s.rol.pend.isNone && s.rol.dies.all fun d => d.draining.isNone
    let warm := settled && sameMap s.rol.map s.warmMap &&
      ((stripeDies s.rol.map).all fun n => (s.die n).ready && !(s.die n).withdrawn)
    let go := fun (t : State) => if t.pow.st = p then { t with pow.target := none } else t.pursue p
    match s.pow.st with
    | .standby => if warm && s.sen.biased then go s.enterWarm else s.pursue p
    | .ready => if warm then go s.enterWarm else s.pursue p
    | .keepWarm =>
      if p = .ready then
        if settled && s.rol.before.isNone then
          go (State.goState { s with trs.mon := [] } .ready)
        else s.pursue p
      else if s.bst.full.isNone && s.flag Fld.BST_CFG_SHUT_EN then s.pursue p
      else if s.bst.full.isNone || s.fullOver then go s.enterStandby
      else s
    | _ => s

def execPstateReached (s : State) : Host.Outcome State Fault Refusal := run State.doPstateReached s

/-! ## Cold reset (R437, R440, R441) -/

/-- The NV_WRITE command in progress is cut short by a reset (R363, R368, R378): rows and words that completed stay. They run one after
the other (R264), so only the oldest NV command has begun. -/
def State.nvCut (s : State) : State :=
  match s.nvOldest with
  | some c =>
    match c.job with
    | .nvWrite .. => (s.nvPart c).1
    | _ => s
  | none => s

/-- Everything is at its reset value and the reset still lasts (R437); the NV store keeps its contents, and the pins and rails
stand as `pow` says. The commands that were waiting still wait. -/
def State.cold (s : State) (pow : Pow) : State :=
  let t := s.nvCut.nvStopRows.1
  let z := State.reset
  let t := { z with
    variant := s.variant, pending := s.pending, free := t.free, outs := t.outs
    rol := rolCold s.variant, tol := tolCold s.variant
    nv := { nvCold with mem := t.nv.mem, writes := t.nv.writes, passwordRead := t.nv.passwordRead
                        passwordWrite := t.nv.passwordWrite }
    pow := pow }
  if s.tol.alert then t.emit (.thermAlert false) else t

/-- A cold reset is over once RST_N is released and the rails are in range: the PLL locks, device time is 0, and RECALL begins
(R437). -/
def State.endCold (s : State) : State :=
  if s.pow.st = .off && s.pow.rstN && !s.pow.vioLow && !s.pow.vddHLow then { s with pow.st := .recall } else s

/-- VIO ramps up (R441). The camera holds RST_N asserted until the rails are in range (R430). -/
def execPowerOn (s : State) : Host.Outcome State Fault Refusal :=
  runPower (fun s => s.cold { powCold with
    st := .off, rstN := false, perstN := s.pow.perstN, vioLow := false, vddHLow := false, cause := 0 }) s

/-- RST_N is asserted (R437). -/
def execRstNAssert (s : State) : Host.Outcome State Fault Refusal :=
  runPower (fun s => if !s.pow.rstN then s else s.cold { powCold with
    st := .off, rstN := false, perstN := s.pow.perstN, vioLow := s.pow.vioLow, vddHLow := s.pow.vddHLow, cause := 1 }) s

/-- RST_N is released (R437). -/
def execRstNRelease (s : State) : Host.Outcome State Fault Refusal :=
  runPower (fun s => State.endCold { s with pow.rstN := true }) s

/-- VIO falls below 1.60 V (R440). -/
def execVioLow (s : State) : Host.Outcome State Fault Refusal :=
  runPower (fun s => if s.pow.vioLow then s else s.cold { powCold with
    st := .off, rstN := s.pow.rstN, perstN := s.pow.perstN, vioLow := true, vddHLow := s.pow.vddHLow, cause := 2 }) s

/-- VDD_H falls below 0.74 V (R378, R440). -/
def execVddHLow (s : State) : Host.Outcome State Fault Refusal :=
  runPower (fun s => if s.pow.vddHLow then s else s.cold { powCold with
    st := .off, rstN := s.pow.rstN, perstN := s.pow.perstN, vioLow := s.pow.vioLow, vddHLow := true, cause := 3 }) s

/-- The rails have been back in range for 1 ms (R440). -/
def execSupplyResetRelease (s : State) : Host.Outcome State Fault Refusal :=
  runPower (fun s => if !(s.pow.vioLow || s.pow.vddHLow) then s
    else State.endCold { s with pow.vioLow := false, pow.vddHLow := false }) s

/-- The management watchdog was not serviced for 2 s (R440): a cold reset that is over at once. -/
def execMgmtWatchdogExpire (s : State) : Host.Outcome State Fault Refusal :=
  runPower (fun s => if s.pow.st = .off then s else State.endCold (s.cold { powCold with
    st := .off, rstN := s.pow.rstN, perstN := s.pow.perstN, vioLow := s.pow.vioLow, vddHLow := s.pow.vddHLow, cause := 4 })) s

/-! ## Warm reset (R273, R313, R437, R446) -/

/-- Registers after a warm reset: the bits that R446 names keep their values, every other bit takes its reset value. -/
def warmRegs (regs : Tab Word) : Tab Word :=
  regs.foldl (fun t (o, v) => tabSet resetVal t o ((v &&& keptMask o) ||| (resetVal o &&& ~~~(keptMask o)))) []

/-- Every ring is disabled, and the commands accepted before are forgotten (R273). Retired buffers stay retired (R446). -/
def State.warmHif (s : State) : State :=
  { s with hif := { hifCold with nextCid := s.hif.nextCid, linkSpeed := s.hif.linkSpeed, linkWidth := s.hif.linkWidth
                                 retired := s.hif.retired, badHost := s.hif.badHost, pci := s.hif.pci.afterWarm } }

/-- Drains end with the frames that they waited for. -/
def State.endDrains (s : State) : State :=
  (List.range 5).foldl (fun s n => s.doDrainEnd n) s

/-- The loads, rackings, calibrations and captures that a warm reset ends (R151, R161, R175). -/
def State.warmCasks (s : State) : State :=
  let s := match s.casks.load with
    | some x => if x.stage = 1 then s.modCask x.cask fun c => { c with copying := false } else s
    | none => s
  let s := State.dropCal { s with casks.held := none }
  { s with casks.rack := none, casks.load := none, casks.save := none, casks.request := false }

/-- Streams end; the frame that integrates goes on, and KEEP_WARM keeps its frames (R313). -/
def State.warmFrames (s : State) : State :=
  let fs := s.frames.filter fun f => !f.closed || f.keepWarm
  { s.dropFrames with
    frames := fs.map fun f => { f with streamed := false, captured := false, band := none }
    tol.start := none, tol.stop := none, tol.setProf := none, tol.budget := none }

/-- The housekeeping converter at a warm reset (R355). -/
def State.warmHkc (s : State) : State :=
  { s with hkc := { s.hkc with conv := none, run := none, pend := false, group := none, next := none, heldHost := false, queue := [] } }

/-- What COIL_ENG_g_STATUS reports of an engine takes its reset value (R209, R446). -/
def Eng.forget (e : Eng) : Eng :=
  { e with pc := 0, coil := 0, flags := 0, result := 0, kinked := false, gapRec := false, reason := 7 }

/-- A pending map change stays pending, since ROL_VERSION with its PENDING is kept (R446; DEDUCED, log 117); the completion of its
ROLE_SET is never written (R273). -/
def State.warmPend (s : State) : State :=
  { s with rol.pend := s.rol.pend.map fun c => { c with cid := none } }

/-- The cause and the count of warm resets (R441). -/
def State.warmCause (s : State) (cause : Nat) : State :=
  { s with pow.cause := cause, pow.warmCount := min 255 (s.pow.warmCount + 1), pow.stored := none }

/-- Streams, takes, replays and the chain end (R245, R313, R398); signatures in progress are dropped. -/
def State.warmStreams (s : State) : State :=
  -- the P dies keep their power, or have it anew: an interrupted take is closed in READY (log 108)
  let s := State.interruptTake { s with cel.replay := none }
  let s := { s with cel.repowered := s.cel.interrupted.isSome }
  let s := if s.sec.chain.isSome then s.endChain 2 else s
  State.warmFrames { s with sec.job := none, sec.queue := [], sec.msQueue := [], sec.signed := none }

/-- Slices are abandoned (R415); a boot BIST is not taken up again. -/
def State.warmBist (s : State) : State :=
  let s := s.dropSlices
  if s.pow.st = .standby then s.endFull else s

/-- Registers, captures, the MSI-X table, and what waits on the timing inputs. -/
def State.warmClear (s : State) : State :=
  { s with
    coil.a := s.coil.a.forget, coil.b := s.coil.b.forget
    regs := warmRegs s.regs, fresh := [], cap := [], msix := [], sen.freeze := none, sen.gridWaits := false
    tmg.trigPending := [], tmg.trigEdge := none, tmg.ltcPresent := false, tmg.ltcValid := false, tmg.ltcFreewheel := false
    tol.stepShape := [0, 0, 0, 0, 0]
    tol.rho := 4096, tol.xMeas := 0, tol.xDies := 0, tol.xSeen := false, tol.xSeen10 := false
    trs.tblShown := false
    -- neither bank of the radiometric table is among what R446 keeps (DEDUCED, log 117)
    rad.active := false, rad.bank0 := [], rad.bank1 := []
    rested := (List.range 5).map fun i => (i, s.followed i)
    trs.coldK := 0, trs.coldCode := 0, trs.coldEnd := none, trs.tauWrites := []
    tmg.ltcGood := false, tmg.ltcCode := 0, tmg.ltcUser := 0 }

/-- A warm reset with its cause code (R441). -/
def State.warmReset (s : State) (cause : Nat) : State :=
  let s := ((s.nvCut.warmHif).warmCause cause).coilPowerStop.warmCasks
  let s := (s.warmStreams.warmPend.endDrains.warmBist).warmHkc.resumeSnaps
  let s := if s.inStream then s.goState .ready else s
  s.warmHif.warmClear

/-- PERST_N is asserted: a warm reset while RST_N is deasserted, and the link is down (R437). -/
def execPerstNAssert (s : State) : Host.Outcome State Fault Refusal :=
  runPower (fun s =>
    if !s.pow.perstN then s
    else if s.pow.st = .off then { s with pow.perstN := false }
    else
      let s := { s.warmReset 8 with pow.perstN := false }
      State.drew { s with hif.linkSpeed := 0, hif.linkWidth := s.freeVal % 64, linkL12 := false }) s

/-- PERST_N is deasserted (R437): the link may train again. -/
def execPerstNRelease (s : State) : Host.Outcome State Fault Refusal :=
  runPower (fun s => { s with pow.perstN := true }) s

/-- A function-level reset (R437), which needs the link. -/
def execFunctionLevelReset (s : State) : Host.Outcome State Fault Refusal :=
  run (fun s => if s.pow.perstN then s.warmReset 9 else s) s

/-! ## Start-up -/

/-- The revision ID of a stepping: letter and digit (R254); B1 (R393). -/
def pciRevision : Nat := 2 * 16 + 1

/-- The subsystem IDs that FACTORY holds at RECALL, or the vendor and device ID where it holds none (R254). -/
def State.loadPci (s : State) : State :=
  let b := factoryField 8 4
  let none_ : Bool := b.all (· = 0)
  { s with
    hif.pci.subVendor := if none_ then 0x1F7A else fieldLe b 0 2
    hif.pci.subDevice := if none_ then s.variant.deviceId else fieldLe b 2 2 }

/-- The PCIe function as configuration space shows it (R254, R438). -/
def State.pciIds (s : State) : PciIds :=
  { vendor := 0x1F7A, device := s.variant.deviceId, revision := pciRevision, classCode := 0x048000
    subVendor := s.hif.pci.subVendor, subDevice := s.hif.pci.subDevice, bar0Size := 0x10000, bar2Size := 0x1000
    caps := [.powerManagement true, .pciExpress, .msixVectors 32, .aer, .l1Substates, .functionLevelReset] }

/-- Does reset hold the balls: RST_N is asserted, a rail is missing, or RECALL has not ended (R430, R439)? -/
def State.ballsHeld (s : State) : Bool :=
  !s.pow.rstN || s.pow.vioLow || s.pow.vddHLow || s.pow.st = .off || s.pow.st = .recall

/-- The balls (R430, R433, R439). The Cellar's reset, clock and selects of a die are low while its supply is gated; JTAG_TDO is high
impedance, since no command shifts it. -/
def State.balls (s : State) : Balls :=
  let held := s.ballsHeld
  let then_ := fun (l : Level) => if held then l else .driven
  { pcieTx := if held || s.hif.linkSpeed = 0 then .idle else .driven
    clkreq := if held || s.linkL12 then .released else .low
    thermAlert := if !held && s.tol.alert then .low else .released
    bypassClosed := held || !s.way.joined
    coilOff := held || !(s.coil.a.hs || s.coil.a.ls || s.coil.b.hs || s.coil.b.ls)
    spiClk := then_ .low, spiCs := then_ .pulledUp, spiIo := then_ .pulledUp
    cellar := (List.range 5).map fun n => if held || !(s.die n).powered then .low else .driven
    jtagTdo := .highZ }

/-- RECALL ends and the power state is STANDBY (R310, R377). -/
def State.doRecall (s : State) (us : Nat) : State :=
  if s.pow.st ≠ .recall then s
  else State.goState { (s.recallNv [abTrims, abFwMeta, abBist] us).loadPci with hkc.calDue := true } .standby

def execRecallComplete (us : Nat) (s : State) : Host.Outcome State Fault Refusal :=
  runIf "RECALL_COMPLETE" (Instr.wf (.recallComplete us)) (fun s => s.doRecall us) s

/-- A stored request is carried out, or discarded where R388 or a CRIT forbids it (R311). -/
def State.carryOut (s : State) : State :=
  match s.pow.stored with
  | none => s
  | some p =>
    let s := { s with pow.stored := none }
    if s.requestBad p then s.sticky Fld.TOL_STATUS_CFG_REJ else s.startMove p

/-- Boot reaches step 6, or recovery (R387, R388, R208, R418). -/
def State.doBoot (s : State) (d : SpiSlots) : State :=
  if s.sec.boot ≠ .booting ∨ s.pow.st ≠ .standby then s
  else
    let s := s.bootChain d
    if s.sec.bootDone then
      let s := ((s.setRegN Reg.COIL_ENTRY 0x10100000).setFld Fld.CAL_SHUT_CFG_CLOSE_ENTRY 0).setFld Fld.CAL_SHUT_CFG_OPEN_ENTRY 0
      let s := (s.sticky Fld.GLB_EVENT_BOOT_EVT).bootBist
      if s.startedUp then s.carryOut else s
    else s.carryOut

def execBootComplete (slots : SpiSlots) (s : State) : Host.Outcome State Fault Refusal := run (fun s => s.doBoot slots) s

/-- The boot BIST has ended (R418, R420): its outcome, and the stored request. -/
def State.doBootBist (s : State) : State :=
  if s.pow.st ≠ .standby || !s.fullOver then s
  else
    let ms := match s.bst.full with | some t => min 255 ((s.mono - t) / 250000) | none => 0
    let s := (s.setFld Fld.BST_BOOT_PASSED (b2n (!s.bst.fullBad))).setFld Fld.BST_BOOT_DUR_MS ms
    s.endFull.carryOut

def execBootBistEnd (s : State) : Host.Outcome State Fault Refusal := run State.doBootBist s

/-! ## D3hot (R438) -/

/-- In D3hot the part behaves as with Bus Master Enable 0. -/
def execD3hotEntry (s : State) : Host.Outcome State Fault Refusal := run (fun s => { s with hif.d3hot := true }) s

def execD3hotExit (s : State) : Host.Outcome State Fault Refusal :=
  run (fun s => State.resumeBus { s with hif.d3hot := false }) s

end Sys2Proof.Machine
end

