-- ==== Sys2Proof/Machine/Registers.lean ====
section
/-! DEFINITION. Register access over BAR0 (R5 to R9, R443): what a register reads as, with its live fields; the captured halves of
64-bit quantities; and host writes with the rules of their blocks. -/

namespace Sys2Proof.Machine

open Sys2Proof

/-! ## Absent dies (R5) -/

/-- Is this offset a register that an absent die indexes (R5)? -/
def State.absentReg (s : State) (off : Nat) : Bool :=
  (List.range 5).any fun n => !s.present n &&
    ((Reg.PPL_P_STATUS n ≤ off && off < Reg.PPL_P_STATUS n + 0x100) || off = Reg.CEL_LOAD n || off = Reg.ROL_MAP n ||
      off = Reg.TOL_DIE_MW n || off = Reg.THM_TEMP_P n || off = Reg.BST_DIE n || off = Reg.HKC_CH (16 + n))

/-! ## Live fields -/

/-- GLB_ registers (R444). -/
def State.liveGlb (s : State) (off : Nat) : Word :=
  let dies := List.range s.nDies
  if off = Reg.GLB_ID then BitVec.ofNat 32 (0x1F7A + 2 ^ 16 * s.variant.deviceId)
  else if off = Reg.GLB_REV then BitVec.ofNat 32 (s.reported Rested.version / 2 ^ 16 * 2 ^ 16)
  else if off = Reg.GLB_VARIANT then
    BitVec.ofNat 32 (s.nDies + 2 ^ 8 * sumN (dies.map fun n => 2 ^ n) +
      2 ^ 16 * s.reported Rested.powered)
  else if off = Reg.GLB_STATE then
    BitVec.ofNat 32 (stateCode s.pow.st + 8 * b2n s.moving + 16 * b2n s.sec.bootDone + 32 * b2n (s.sec.boot = .recovery) +
      64 * b2n (s.flag Fld.TOL_PSTATE_CRIT_HOLD) + 128 * b2n s.tol.alert)
  else if off = Reg.GLB_RESET_CAUSE then BitVec.ofNat 32 (s.pow.cause + 2 ^ 8 * s.pow.warmCount)
  else if off = Reg.GLB_INT_RAW then s.intRaw
  else match (List.range 4).find? fun n => off = Reg.GLB_SERIAL n with
    | some n => BitVec.ofNat 32 (fieldLe serialBytes (4 * n) 4)
    | none => 0

/-- HIF_ registers (R286). -/
def State.liveHif (s : State) (off : Nat) : Word :=
  if off = Reg.HIF_STATUS then BitVec.ofNat 32 (b2n s.cmdRun + 2 * b2n (!s.busOk))
  else if off = Reg.HIF_LINK then BitVec.ofNat 32 (s.hif.linkSpeed + 2 ^ 4 * s.hif.linkWidth + 2 ^ 10 * b2n s.linkL12)
  else if off = Reg.HIF_CMD_CONS then BitVec.ofNat 32 (s.hif.cmdFetch % 2 ^ 16 + 2 ^ 16 * s.outCount)
  else match (List.range 8).find? fun n => off = Reg.HIF_CH_STATUS n with
    | some n =>
      let c := s.chan n
      BitVec.ofNat 32 (b2n c.xfer.isSome + 2 * b2n c.halted + 2 ^ 16 * (c.bufCons % 2 ^ 16))
    | none => 0

/-- TMG_ registers (R82). -/
def State.liveTmg (s : State) (off : Nat) : Word :=
  let p := s.tol.prof
  if off = Reg.TMG_STATUS then
    BitVec.ofNat 32 (s.srcActive + 4 * b2n s.tmg.refPresent + 8 * b2n s.tmg.locked + 16 * b2n s.tmg.ltcPresent +
      32 * b2n s.tmg.ltcFreewheel)
  else if off = Reg.TMG_PERIOD then (if s.regN Reg.TMG_PERIOD = 0 then BitVec.ofNat 32 (resetPeriod s.variant) else 0)
  else if off = Reg.TMG_WIN_ORIGIN then BitVec.ofNat 32 (p.x0 + 2 ^ 16 * p.y0)
  else if off = Reg.TMG_TIME_LO then BitVec.ofNat 32 s.now
  else if off = Reg.TMG_TIME_HI then BitVec.ofNat 32 (s.now / 2 ^ 32)
  else if off = Reg.TMG_LTC_CODE then BitVec.ofNat 32 (ltcBare s.tmg.ltcCode.toNat + 2 ^ 25 * b2n s.tmg.ltcValid)
  else if off = Reg.TMG_LTC_USER then s.tmg.ltcUser
  else 0

/-- SEN_ registers (R55). -/
def State.liveSen (s : State) (off : Nat) : Word :=
  if off = Reg.SEN_STATUS then BitVec.ofNat 32 (b2n s.sen.biased + 2 * b2n s.settling) else 0

/-- The radiometric bank that the host loads (R112). -/
def State.radIdle (s : State) : Tab Nat := if s.rad.active then s.rad.bank0 else s.rad.bank1

/-- PPL_ and PPL_Pn_ registers (R116, R117). -/
def State.livePpl (s : State) (off : Nat) : Word :=
  if off = Reg.PPL_STATUS then
    BitVec.ofNat 32 (64 * b2n (s.regN Reg.PPL_MON_SCORE ≠ 0xFFFF) + 128 * b2n s.caskNow.isNone)
  else if off = Reg.PPL_RAD_CTRL then BitVec.ofNat 32 (2 ^ 9 * b2n s.rad.active)
  else if off = Reg.PPL_RAD_DATA then
    BitVec.ofNat 32 (tabGet (fun _ => 0) s.radIdle (s.regN Reg.PPL_RAD_ADDR) % 2 ^ 16)
  else match (List.range 5).find? fun n => off = Reg.PPL_P_STATUS n with
    | some n =>
      let d := s.die n
      BitVec.ofNat 32 (b2n d.previewAct + 2 * b2n d.commitAct + 4 * b2n d.blindSeeded)
    | none => 0

/-- TRS_ registers (R148): the newest frame is the one that integrates. -/
def State.liveTrs (s : State) (off : Nat) : Word :=
  let k := s.integrating
  let t := s.trs
  let cold := match s.frameOf k with | some f => f.cold | none => false
  let n := s.regN Reg.TRS_TBL_IDX
  let on := t.tblValid && t.tblShown && t.tblMode ≠ 0
  if off = Reg.TRS_STATUS then
    BitVec.ofNat 32 (s.tol.prof.mode + 4 * s.tol.prof.l + 32 * b2n cold + 64 * b2n t.episode.isSome + 128 * b2n t.tblValid)
  else if off = Reg.TRS_COLD then
    let left := match t.coldEnd with | some e => e - k | none => 0
    BitVec.ofNat 32 (t.coldK + 2 ^ 8 * t.coldCode + 2 ^ 16 * min left 127)
  else if off = Reg.TRS_TBL_B then BitVec.ofNat 32 (if on then tblB t.tblPeriod t.tblTau % 2 ^ 17 else 0)
  else if off = Reg.TRS_TBL_C then BitVec.ofNat 32 (if on then tblC t.tblPeriod t.tblTau n % 2 ^ 20 else 0)
  else if off = Reg.TRS_TBL_AC then BitVec.ofNat 32 (if on then wrapN 20 (tblAC t.tblPeriod t.tblTau n) else 0)
  else if off = Reg.TRS_TBL_G then
    BitVec.ofNat 32 (if !(t.tblValid && t.tblShown) then 0
      else if t.tblMode = 0 then 0x100 else noiseField (noiseSq t.tblPeriod t.tblMode t.tblTau n) % 2 ^ 16)
  else 0

/-- HKC_ registers (R356). -/
def State.liveHkc (s : State) (off : Nat) : Word :=
  let h := s.hkc
  if off = Reg.HKC_STATUS then
    BitVec.ofNat 32 (b2n h.run.isSome + 2 * b2n h.group.isSome + 4 * b2n h.calRun.isSome + 8 * b2n h.slice.isSome +
      16 * b2n h.heldHost + 32 * b2n h.pend)
  else if off = Reg.HKC_Q_LEVEL then BitVec.ofNat 32 h.queue.length
  else 0

/-- NVS_ registers (R380). -/
def State.liveNvs (s : State) (off : Nat) : Word :=
  if off = Reg.NVS_STATUS then
    BitVec.ofNat 32 (b2n (s.pow.st = .recall) + 2 * b2n s.nv.barred + 8 * b2n (s.abNow abTrims).isSome + 16 * b2n s.sec.factoryOk)
  else if off = Reg.NVS_DEFER then BitVec.ofNat 32 (s.reported Rested.deferred)
  else 0

/-- Live fields of the block that an offset lies in (R443). -/
def State.live (s : State) (off : Nat) : Word :=
  if off < 0x0400 then s.liveGlb off
  else if off < 0x0800 then s.liveHif off
  else if off < 0x0C00 then s.liveTmg off
  else if off < 0x1000 then s.liveSen off
  else if off < 0x1C00 then s.livePpl off
  else if off < 0x2000 then s.liveTrs off
  else if off < 0x2400 then s.liveCal off
  else if off < 0x2800 then s.liveCel off
  else if off < 0x2C00 then s.liveRol off
  else if off < 0x3400 then s.liveTol off
  else if off < 0x3800 then s.liveHkc off
  else if off < 0x3C00 then s.liveCoil off
  else if off < 0x4000 then s.liveNvs off
  else if off < 0x4400 then s.liveBst off
  else if off < 0x4800 then s.liveSec off
  else s.liveWay off

/-- Registers whose stored word gives way to a live one: the profile in force (R82, R116), and the free pool (R286). -/
def State.liveWord (s : State) (off : Nat) : Option Word :=
  let p := s.tol.prof
  if off = Reg.TMG_WIN_SIZE then some (BitVec.ofNat 32 (p.w + 2 ^ 16 * p.h))
  else if off = Reg.PPL_FORMAT then some (BitVec.ofNat 32 p.fmt)
  else if off = Reg.HIF_POOL_FREE then some (fldPut (s.reg off) Fld.HIF_POOL_FREE_FREE s.poolFree)
  else if off = Reg.ROL_VERSION ∨ off = Reg.CAL_CASK ∨ off = Reg.COIL_ENG_A_STATUS ∨ off = Reg.COIL_ENG_B_STATUS ∨
      (off = Reg.TRS_TBL_G ∧ s.trs.tblValid ∧ s.trs.tblShown) then
    some (s.live off)
  -- spare rotation is of the BM4030-5 only (R231)
  else if off = Reg.ROL_CFG ∧ s.variant ≠ .bm5 then some (fldPut (s.reg off) Fld.ROL_CFG_ROTATE_EN 0)
  else if (List.range 5).any (fun n => off = Reg.BST_DIE n) then some ((s.reg off &&& 0xFF) ||| s.live off)
  else none

/-- What a register holds at this moment: stored fields and live ones. Offsets with no register read zero (R8), as do the
registers of absent dies (R5) and accesses that are not aligned (R6). -/
def State.regNow (s : State) (off : Nat) : Word :=
  if off % 4 ≠ 0 ∨ (regRow off).isNone ∨ s.absentReg off then 0
  else match s.liveWord off with
    | some w => w
    | none => s.reg off ||| s.live off

/-! ## Reads (R7) -/

/-- The registers that a read of a _LO register captures (R7, R82, R117). -/
def captures (off : Nat) : List Nat :=
  if off = Reg.TMG_SNAP_LO then [Reg.TMG_SNAP_HI, Reg.TMG_FRAME_LO, Reg.TMG_FRAME_HI]
  else if off = Reg.TMG_FRAME_LO then []
  else match (List.range 5).find? fun n => off = Reg.PPL_P_FRAME_LO n with
    | some n => [Reg.PPL_P_FRAME_HI n, Reg.PPL_P_DYN_COUNT n, Reg.PPL_P_CLIP_COUNT n]
    | none => if isPairLo off then [off + 4] else []

/-- Does a register read as it was captured (R7)? -/
def isCaptured (off : Nat) : Bool :=
  off = Reg.TMG_SNAP_HI || off = Reg.TMG_FRAME_LO || off = Reg.TMG_FRAME_HI || (4 ≤ off && isPairLo (off - 4)) ||
    (List.range 5).any (fun n => off = Reg.PPL_P_DYN_COUNT n || off = Reg.PPL_P_CLIP_COUNT n) || off = Reg.HKC_Q_HI ||
    off = Reg.SEN_GRID_FRAME_HI

/-- A word of the MSI-X table, or of the pending bits (R443): bit `v` of the latter says that vector `v` waits (R285). -/
def State.msixWord (s : State) (off : Nat) : Nat :=
  if off < 0xE200 then (tabGet msixDflt s.msix ((off - 0xE000) / 4)).toNat
  else if off = 0xF000 then sumN ((List.range 32).map fun v => b2n (s.hif.pendingVectors.contains v) * 2 ^ v)
  else 0

/-- What a read of a register returns. -/
def State.readReg (s : State) (off : Nat) : Word :=
  if isCaptured off then (if s.absentReg off then 0 else tabGet (fun _ => 0) s.cap off) else s.regNow off

/-- A read of the MSI-X structures: four or eight aligned bytes (R443), the words of eight bytes one by one. -/
def State.readMsix (s : State) (off size : Nat) : State :=
  let w := fun (o : Nat) => Out.readData o (BitVec.ofNat 32 (s.msixWord o))
  if size = 8 ∧ off % 8 = 0 then (s.emit (w off)).emit (w (off + 4))
  else if size = 4 ∧ off % 4 = 0 then s.emit (w off)
  else s.emit (.readData off 0)

/-- A read of a _LO register. An access of another size or alignment returns zero and captures nothing (R6). Before the end of RECALL no
register is valid (R437): the value read is a free value (log 6). -/
def State.doLoRead (s : State) (off size : Nat) : State :=
  if 0xE000 ≤ off then s.readMsix off size
  else if size ≠ 4 ∨ off % 4 ≠ 0 then s.emit (.readData off 0)
  else if off = Reg.HKC_Q_LO then s.doQRead
  else if off = Reg.SEN_GRID_FRAME_LO then s.doGridLo
  else if off = Reg.SEN_GRID_FRAME_HI then s.doGridHi
  else if s.pow.st = .recall then s.recallRead off (captures off)
  else
    let v := s.readReg off
    let s := (captures off).foldl (fun t o => t.capture o (s.regNow o)) s
    s.emit (.readData off v)

def execLoRegisterRead (a : RegRead) (s : State) : Host.Outcome State Fault Refusal :=
  runIf "LO_REGISTER_READ" (Instr.wf (.loRegisterRead a)) (fun s => s.doLoRead a.off a.size) s

/-! ## Writes -/

/-- Is the value in range for a HIF_ register other than the rings' sizes and bases (R286)? -/
def State.poolOk (s : State) (off : Nat) (v : Word) : Bool :=
  let x := v.toNat % 2 ^ 12
  let rsv := fun (n : Nat) => if off = Reg.HIF_POOL_RSV n then x else s.fld (Fld.HIF_POOL_RSV_BUFFERS n)
  let cap := fun (n : Nat) => if off = Reg.HIF_POOL_CAP n then x else s.fld (Fld.HIF_POOL_CAP_BUFFERS n)
  x ≤ 2048 && (List.range 8).all (fun n => rsv n ≤ cap n) && sumN ((List.range 8).map rsv) ≤ 1920

/-- A write of a HIF_ register (R286). -/
def State.writeHif (s : State) (off : Nat) (v : Word) : State :=
  let rej := s.sticky Fld.HIF_STATUS_CFG_REJ
  -- a command is outstanding until its completion has been written (R263)
  let busy := !s.hif.outstanding.isEmpty || !s.hif.held.isEmpty
  if off = Reg.HIF_CTRL then s.doCmdEn v
  else if off = Reg.HIF_RING_CFG then
    let a := fldOf v Fld.HIF_RING_CFG_CMD_LOG2
    let b := fldOf v Fld.HIF_RING_CFG_CMP_LOG2
    if a < 4 ∨ 12 < a ∨ b < 4 ∨ 12 < b ∨ s.cmdRun then rej
    else if busy then rej.setFld Fld.HIF_RING_CFG_CMP_LOG2 b
    else s.hostSet off v
  else if off = Reg.HIF_CMD_BASE_LO ∨ off = Reg.HIF_CMD_BASE_HI then if s.cmdRun || busy then rej else s.hostSet off v
  else if off = Reg.HIF_CMP_BASE_LO ∨ off = Reg.HIF_CMP_BASE_HI then if s.cmdRun then rej else s.hostSet off v
  else if off = Reg.HIF_CMP_MOD then if fldOf v Fld.HIF_CMP_MOD_COUNT = 0 then rej else s.hostSet off v
  else if Reg.HIF_POOL_RSV 0 ≤ off ∧ off < Reg.HIF_CH_BUF_BASE_LO 0 then if s.poolOk off v then s.hostSet off v else rej
  else if Reg.HIF_CH_BUF_BASE_LO 0 ≤ off ∧ off < Reg.HIF_CH_BUF_BASE_LO 8 then
    let n := (off - Reg.HIF_CH_BUF_BASE_LO 0) / 32
    if off = Reg.HIF_CH_CTRL n then s.writeChCtrl n v
    else if off = Reg.HIF_CH_MOD n then if fldOf v (Fld.HIF_CH_MOD_COUNT n) = 0 then rej else s.hostSet off v
    else if off < Reg.HIF_CH_CTRL n then if s.chanOn n then rej else s.hostSet off v
    else s.hostSet off v
  else s.hostSet off v

/-- A write of PPL_RAD_DATA (R112). -/
def State.doRadData (s : State) (v : Word) : State :=
  if s.pow.st = .take || s.flag Fld.PPL_RAD_CTRL_SWAP then s.sticky Fld.PPL_STATUS_CFG_REJ
  else
    let i := s.regN Reg.PPL_RAD_ADDR
    let x := v.toNat % 2 ^ 16
    let s : State := if s.rad.active then { s with rad.bank0 := tabSet (fun _ => 0) s.rad.bank0 i x }
      else { s with rad.bank1 := tabSet (fun _ => 0) s.rad.bank1 i x }
    s.setRegN Reg.PPL_RAD_ADDR ((i + 1) % 4096)

/-- Is a value in the range of its PPL_ register (R113, R116)? -/
def pplValueOk (off : Nat) (v : Word) : Bool :=
  if off = Reg.PPL_BLIND_CFG then
    1 ≤ fldOf v Fld.PPL_BLIND_CFG_ROW_MIN && fldOf v Fld.PPL_BLIND_CFG_ROW_MIN ≤ 24
  else if off = Reg.PPL_MON_CFG then 1 ≤ fldOf v Fld.PPL_MON_CFG_LAG
  else if off = Reg.PPL_RAD_CTRL then fldOf v Fld.PPL_RAD_CTRL_STEP_LOG2 ≤ 11
  else if off = Reg.PPL_RAD_K ∨ off = Reg.PPL_RAD_L0 then !f32Special v.toNat
  else true

/-- A write of a PPL_ register (R112, R116). -/
def State.writePpl (s : State) (off : Nat) (v : Word) : State :=
  if off = Reg.PPL_STATUS then s.hostSet off v
  else if rwMask off = 0 ∧ off ≠ Reg.PPL_RAD_CTRL then s
  else if (s.pow.st = .take ∧ off ≠ Reg.PPL_MON_CFG) ∨ !pplValueOk off v then s.sticky Fld.PPL_STATUS_CFG_REJ
  else if off = Reg.PPL_RAD_DATA then s.doRadData v
  else if off = Reg.PPL_RAD_CTRL then
    let s := s.hostSet off v
    if fldOf v Fld.PPL_RAD_CTRL_SWAP = 1 then s.setFld Fld.PPL_RAD_CTRL_SWAP 1 else s
  else s.hostSet off v

/-- Is a value in the range of its TRS_ register (R118, R148)? -/
def trsValueOk (off : Nat) (v : Word) : Bool :=
  let x := v.toNat % 2 ^ 20
  if off = Reg.TRS_TAU_EVEN then 1000 ≤ x && x ≤ 20000
  else if off = Reg.TRS_TAU_FAST then 250 ≤ x && x ≤ 6100
  else if off = Reg.TRS_DN_THETA ∨ off = Reg.TRS_REV_PIX then 1 ≤ x
  else if off = Reg.TRS_REV_CFG then fldOf v Fld.TRS_REV_CFG_COUNT_LIMIT ≤ 4096
  else if off = Reg.TRS_SAT_CFG then
    let r := fldOf v Fld.TRS_SAT_CFG_RUN
    1 ≤ fldOf v Fld.TRS_SAT_CFG_SAT_FRAC && 1 ≤ r && r ≤ 8
  else if off = Reg.TRS_COIL_CFG then 1 ≤ fldOf v Fld.TRS_COIL_CFG_TRAVEL
  else true

/-- A write of a TRS_ register (R119, R148). -/
def State.writeTrs (s : State) (off : Nat) (v : Word) : State :=
  if off = Reg.TRS_CTRL then if v.getLsbD 0 then s.setFld Fld.TRS_CTRL_FLUSH 1 else s
  else if off = Reg.TRS_STATUS ∨ off = Reg.TRS_TBL_IDX then s.hostSet off v
  else if rwMask off = 0 then s
  else if s.pow.st = .take ∨ !trsValueOk off v then s.sticky Fld.TRS_STATUS_CFG_REJ
  else
    let governs := (off = Reg.TRS_TAU_EVEN ∧ s.tol.prof.mode = Mode.even) ∨ (off = Reg.TRS_TAU_FAST ∧ s.tol.prof.mode = Mode.fast)
    let old := s.reg off
    let s := s.hostSet off v
    if governs ∧ s.reg off ≠ old then { s with trs.tauWrites := s.trs.tauWrites ++ [s.mono] } else s

/-- Is a value in the range of its HKC_ register (R356)? -/
def hkcValueOk (off : Nat) (v : Word) : Bool :=
  let chans := (List.range 4).all fun n => seqChannel v n ≤ 23
  if off = Reg.HKC_REG_CFG then
    let l := fldOf v Fld.HKC_REG_CFG_LEN
    let d := fldOf v Fld.HKC_REG_CFG_DIV
    1 ≤ l && l ≤ 16 && 1 ≤ d && d ≤ 8
  else if off = Reg.HKC_INJ_CFG then
    let l := fldOf v Fld.HKC_INJ_CFG_LEN
    1 ≤ l && l ≤ 4
  else if (Reg.HKC_SEQ_0 ≤ off ∧ off ≤ Reg.HKC_SEQ_3) ∨ off = Reg.HKC_INJ_SEQ then chans
  else true

/-- A write of an HKC_ register. An injected and a regular trigger in one write: the group comes first (R346). -/
def State.writeHkc (s : State) (off : Nat) (v : Word) : State :=
  if off = Reg.HKC_CTRL then
    let s := if v.getLsbD 3 then { s with hkc.queue := [] } else s
    let s := if v.getLsbD 1 then s.doInjGo else s
    let s := if v.getLsbD 0 then s.regTrigger else s
    if v.getLsbD 2 then s.requestSelfcal else s
  else if hkcValueOk off v then s.hostSet off v
  else s.sticky Fld.HKC_STATUS_CFG_REJ

/-- A write of a SEC_ register (R405). -/
def State.writeSec (s : State) (off : Nat) (v : Word) : State :=
  if off = Reg.SEC_CTRL then if v.getLsbD 0 then s.setFld Fld.SEC_STATUS_SEC_LOCK 1 else s
  else if off = Reg.SEC_MBOX_REQ then s.doMailbox v
  else if off = Reg.SEC_MS_CFG then s.writeMsCfg v
  else s.hostSet off v

/-- A write of a WAY_ register (R307). -/
def State.writeWay (s : State) (off : Nat) (v : Word) : State :=
  if off = Reg.WAY_CFG then s.doWayCfg v
  else if off = Reg.WAY_CTRL then
    let s := if v.getLsbD 0 then s.doCensusRequest else s
    if v.getLsbD 1 then s.doUserSend else s
  else s.hostSet off v

/-- A write of a TOL_ or THM_ register (R334, R335). -/
def State.writeTol (s : State) (off : Nat) (v : Word) : State :=
  if off = Reg.TOL_PSTATE then s.doPstateRequest v else if off < 0x3000 then s.hostSet off v else s.writeThm off v

/-- A write of a COIL_ register (R209). -/
def State.writeCoilReg (s : State) (off : Nat) (v : Word) : State :=
  if Reg.COIL_UCODE 0 ≤ off then s.writeUcode ((off - Reg.COIL_UCODE 0) / 4) v else s.writeCoil off v

/-- A write of a CAL_ register: trims apart (R177, R183). -/
def State.writeCalReg (s : State) (off : Nat) (v : Word) : State :=
  if Reg.CAL_TRIM_CONV ≤ off then s.doTrimWrite off v else s.writeCal off v

/-- A write of a SEN_ register (R48, R50, R55). -/
def State.writeSen (s : State) (off : Nat) (v : Word) : State :=
  if off = Reg.SEN_BIAS then s.doBiasWrite (fldOf v Fld.SEN_BIAS_BIAS_CODE)
  else if off = Reg.SEN_QREF then s.doQrefWrite (fldOf v Fld.SEN_QREF_QREF_CODE)
  else s.hostSet off v

/-- A write of a TMG_ register (R63, R82, R83). -/
def State.writeTmg (s : State) (off : Nat) (v : Word) : State :=
  if off = Reg.TMG_SYNC_CFG ∨ off = Reg.TMG_REF_OFS ∨ off = Reg.TMG_REF_TOL then s.doSyncWrite off v else s.hostSet off v

/-- A write of a GLB_ register (R444, R445). -/
def State.writeGlb (s : State) (off : Nat) (v : Word) : State :=
  if off = Reg.GLB_INT_SUMMARY then s.doIntSummary v else s.hostSet off v

/-- A write of a CEL_ register (R253): one whose every field is RO is discarded (R9), which CFG_REJ shows (DEDUCED, log 115). -/
def State.writeCel (s : State) (off : Nat) (v : Word) : State :=
  if rwMask off = 0 ∧ w1cMask off = 0 then s.sticky Fld.CEL_STATUS_CFG_REJ else s.hostSet off v

/-- An aligned 32-bit write of a register that exists, by block (R443). -/
def State.writeBlock (s : State) (off : Nat) (v : Word) : State :=
  if off < 0x0400 then s.writeGlb off v
  else if off < 0x0800 then s.writeHif off v
  else if off < 0x0C00 then s.writeTmg off v
  else if off < 0x1000 then s.writeSen off v
  else if off < 0x1C00 then s.writePpl off v
  else if off < 0x2000 then s.writeTrs off v
  else if off < 0x2400 then s.writeCalReg off v
  else if off < 0x2800 then s.writeCel off v
  else if off < 0x2C00 then (if off = Reg.ROL_CFG then s.writeRolCfg v else s.hostSet off v)
  else if off < 0x3400 then s.writeTol off v
  else if off < 0x3800 then s.writeHkc off v
  else if off < 0x3C00 then s.writeCoilReg off v
  else if off < 0x4000 then s.hostSet off v
  else if off < 0x4400 then s.writeBst off v
  else if off < 0x4800 then s.writeSec off v
  else s.writeWay off v

/-- The MSI-X table with one word written. -/
def msixPut (t : Tab Word) (off : Nat) (v : Word) : Tab Word :=
  let k := (off - 0xE000) / 4
  tabSet msixDflt t k (if k % 4 = 3 then v &&& 1 else if k % 4 = 0 then v &&& 0xFFFFFFFC else v)

/-- An aligned write of four or eight bytes into the MSI-X table (R443): vectors that are unmasked by it are signalled (R285). -/
def State.writeMsix (s : State) (off size : Nat) (v hi : Word) : State :=
  if (size = 4 ∨ size = 8) ∧ off % size = 0 then
    let t := msixPut s.msix off v
    State.flushVectors { s with msix := if size = 8 then msixPut t (off + 4) hi else t }
  else s

/-- Does a write of `size` bytes touch a CEL_ register? -/
def touchesCel (off size : Nat) : Bool :=
  [off, off + (size - 1)].any fun a => 0x2400 ≤ a && a < 0x2800 && (regRow (a / 4 * 4)).isSome

/-- A write that R5 or R6 discards: CEL_STATUS.CFG_REJ shows one of a CEL_ register (R253; DEDUCED, log 115). -/
def State.discardWrite (s : State) (off size : Nat) : State := s.stickyIf (touchesCel off size) Fld.CEL_STATUS_CFG_REJ

/-- A host write of `size` bytes at a BAR0 offset: `v`, and `hi` where eight bytes are written (R5, R6, R8, R443). -/
def State.doRegWrite (s : State) (off size : Nat) (v hi : Word) : State :=
  if 0xE000 ≤ off ∧ off < 0xE200 then s.writeMsix off size v hi
  else if size ≠ 4 ∨ off % 4 ≠ 0 ∨ (regRow off).isNone ∨ s.absentReg off then s.discardWrite off size
  else s.writeBlock off v

/-- `v` is what is written: its low half, and its high half where eight bytes are. -/
def execRegisterWrite (off size : Nat) (v : BitVec 64) (s : State) : Host.Outcome State Fault Refusal :=
  runIf "REGISTER_WRITE" (Instr.wf (.registerWrite off size v))
    (fun s => s.woken.doRegWrite off size (v.extractLsb' 0 32) (v.extractLsb' 32 32)) s

def execPplRadDataWrite (v : Word) (s : State) : Host.Outcome State Fault Refusal := run (fun s => s.woken.doRadData v) s

/-- A write of PPL_RAD_CTRL that asks for a swap (R112). -/
def execSwap (v : Word) (s : State) : Host.Outcome State Fault Refusal := run (fun s => s.woken.writePpl Reg.PPL_RAD_CTRL v) s

/-- A write of TRS_CTRL that asks for a flush (R136, R148). -/
def execFlush (v : Word) (s : State) : Host.Outcome State Fault Refusal := run (fun s => s.woken.writeTrs Reg.TRS_CTRL v) s

/-- A write of TRS_TAU_EVEN or TRS_TAU_FAST (R119). -/
def execTrsTauWrite (off : Nat) (v : Word) (s : State) : Host.Outcome State Fault Refusal :=
  runIf "TRS_TAU_WRITE" (Instr.wf (.trsTauWrite off v)) (fun s => s.woken.writeTrs off v) s

end Sys2Proof.Machine
end

