-- ==== Sys2Proof/Machine/Fetch.lean ====
section
/-! DEFINITION. Fetching of command descriptors (R256, R262 to R264, R387, R388). -/

namespace Sys2Proof.Machine

open Sys2Proof

/-- A command taken from the ring. -/
def State.command (s : State) (c : Instr) : State :=
  match c with
  | .startStream h => s.doStartStream h
  | .stopStream h => s.doStopStream h
  | .setProfile h p frame => s.doSetProfile h p frame
  | .armTake h r => s.doArmTake h r
  | .abortTake h => s.doAbortTake h
  | .abortReplay h => s.doAbortReplay h
  | .replayTake h die take mode first count interval => s.doReplayTake h die take mode first count interval
  | .calibrate h kind flags capture => s.doCalibrate h kind flags capture
  | .rackCask h cask frame => s.doRackCask h cask frame
  | .loadCask h cask addr data => s.doLoadCask h cask addr data
  | .saveCask h cask addr => s.doSaveCask h cask addr
  | .calAbort h => s.doCalAbort h
  | .coilRun h coil entry => (s.doCoilRun h coil entry).coilHook
  | .coilStop h coil entry => (s.doCoilStop h coil entry).coilHook
  | .roleSet h expect handover frame map => s.doRoleSet h expect handover frame map
  | .energyPlan h p frames store => s.doEnergyPlan h p frames store
  | .setBudget h cap window allow flat mask => s.doSetBudget h cap window allow flat mask
  | .bistRun h die unit slices => s.doBistRun h die unit slices
  | .nvRead h area offset length addr password => s.doNvRead h area offset length addr password
  | .nvWrite h area offset length _ password data => s.doNvWrite h area offset length password data
  | .nvStoreTrims h => s.doNvStoreTrims h
  | .attest h nonce addr => s.doAttest h nonce addr
  | .fwStage h image length _ data => s.doFwStage h image length data
  | .fwCommit h image => s.doFwCommit h image
  | .debugUnlockChallenge h addr => s.doChallenge h addr
  | .debugUnlockResponse h length _ data => s.doDebugResponse h length data
  | _ => s

/-- May the device fetch a command now: one is waiting, the bus is free to it, boot is over or recovery serves the ring, and the
limits and the fence of R263 allow it? -/
def State.mayFetch (s : State) (fence : Bool) : Bool :=
  s.cmdRun && s.busOk && decide (s.hif.cmdFetch ≠ s.hif.cmdProd) && (s.sec.bootDone || s.sec.boot = .recovery) &&
    s.canAccept fence

/-- The next descriptor is read from its slot of the command ring (R257, R258). -/
def State.fetched (s : State) : State :=
  { s.emit (.hostRead (s.cmdAddr s.hif.cmdFetch) 64) with hif.cmdFetch := (s.hif.cmdFetch + 1) % 65536 }

/-- The field of SET_PROFILE or ENERGY_PLAN at fault that is judged before any other (R271). -/
def descProfileBad (desc : List Byte) : Option Nat :=
  match fieldLe desc 0 1 with
  | 0x03 => profileFieldBad (descProfile desc)
  | 0x50 => planFieldBad (descProfile desc) (fieldLe desc 0x20 1)
  | _ => none

/-- VALUE of a command refused at its descriptor (R270): 0 for phase 1 of DEBUG_UNLOCK. -/
def descLost (desc : List Byte) : Option Nat :=
  if fieldLe desc 0 1 = Op.debugUnlock ∧ fieldLe desc 0x10 1 = 1 then some 0 else lostValue (fieldLe desc 0 1)

/-- The reserved field that is not zero, or RESULT_ADDR where that stands before it and is at fault (R8, R262, R268). -/
def descBad (desc : List Byte) (fields : List (Nat × Nat)) : Option Nat :=
  (descReserved (fieldLe desc 0 1) fields desc).map fun off => if hdrBad (descHdr desc) && decide (0x08 < off) then 0x08 else off

/-- A descriptor is fetched and accepted. An unknown opcode and a reserved field that is not zero end it with BAD_PARAM (R8,
R264, R268), after the profile fields (R271). -/
def State.doFetch (s : State) (desc : List Byte) (data : HostData) : State :=
  let h := descHdr desc
  let op := fieldLe desc 0 1
  let reject := fun (s : State) (off : Nat) =>
    s.acceptCmd h op 64 (fun _ => some off) (fun s _ => s) (some ((descProfileBad desc).getD off)) (descLost desc)
  if !s.mayFetch h.fence then s
  else
    let s := s.fetched
    match descFields op with
    | none => reject s 0x00
    | some fields =>
      match descBad desc fields with
      | some off => reject s off
      | none =>
        match descInstr desc data with
        | .ok c => s.command c
        | .error off => reject s (if hdrBad h then 0x08 else off)

def execCommandFetch (desc : List Byte) (data : HostData) (s : State) : Host.Outcome State Fault Refusal :=
  runIf "COMMAND_FETCH" (Instr.wf (.commandFetch desc data)) (fun s => s.doFetch desc data) s

end Sys2Proof.Machine
end

