-- ==== Sys2Proof/Machine/Dispatch.lean ====
section
/-! DEFINITION. The dispatcher: one arm per command, each a direct call of the command's own meaning. -/

namespace Sys2Proof.Machine

open Sys2Proof

def exec (i : Instr) (s : State) : Host.Outcome State Fault Refusal :=
  match i with
  | .startStream h => Sys2Proof.Machine.execStartStream h s
  | .stopStream h => Sys2Proof.Machine.execStopStream h s
  | .setProfile h p frame => Sys2Proof.Machine.execSetProfile h p frame s
  | .armTake h r => Sys2Proof.Machine.execArmTake h r s
  | .abortTake h => Sys2Proof.Machine.execAbortTake h s
  | .abortReplay h => Sys2Proof.Machine.execAbortReplay h s
  | .replayTake h die take mode first count interval => Sys2Proof.Machine.execReplayTake h die take mode first count interval s
  | .calibrate h kind flags capture => Sys2Proof.Machine.execCalibrate h kind flags capture s
  | .rackCask h cask frame => Sys2Proof.Machine.execRackCask h cask frame s
  | .loadCask h cask addr data => Sys2Proof.Machine.execLoadCask h cask addr data s
  | .saveCask h cask addr => Sys2Proof.Machine.execSaveCask h cask addr s
  | .calAbort h => Sys2Proof.Machine.execCalAbort h s
  | .coilRun h coil entry => Sys2Proof.Machine.execCoilRun h coil entry s
  | .coilStop h coil entry => Sys2Proof.Machine.execCoilStop h coil entry s
  | .roleSet h expect handover frame map => Sys2Proof.Machine.execRoleSet h expect handover frame map s
  | .energyPlan h p frames store => Sys2Proof.Machine.execEnergyPlan h p frames store s
  | .setBudget h cap window allow flat mask => Sys2Proof.Machine.execSetBudget h cap window allow flat mask s
  | .bistRun h die unit slices => Sys2Proof.Machine.execBistRun h die unit slices s
  | .nvRead h area offset length addr password => Sys2Proof.Machine.execNvRead h area offset length addr password s
  | .nvWrite h area offset length addr password data => Sys2Proof.Machine.execNvWrite h area offset length addr password data s
  | .nvStoreTrims h => Sys2Proof.Machine.execNvStoreTrims h s
  | .attest h nonce addr => Sys2Proof.Machine.execAttest h nonce addr s
  | .fwStage h image length addr data => Sys2Proof.Machine.execFwStage h image length addr data s
  | .fwCommit h image => Sys2Proof.Machine.execFwCommit h image s
  | .debugUnlockChallenge h addr => Sys2Proof.Machine.execDebugUnlockChallenge h addr s
  | .debugUnlockResponse h length addr data => Sys2Proof.Machine.execDebugUnlockResponse h length addr data s
  | .cmdProd v => Sys2Proof.Machine.execCmdProd v s
  | .chBufProd ch v descs => Sys2Proof.Machine.execChBufProd ch v descs s
  | .cmpCons v => Sys2Proof.Machine.execCmpCons v s
  | .chScmpCons ch v => Sys2Proof.Machine.execChScmpCons ch v s
  | .commandFetch desc data => Sys2Proof.Machine.execCommandFetch desc data s
  | .interruptModerationTimeout vector => Sys2Proof.Machine.execInterruptModerationTimeout vector s
  | .registerWrite off size v => Sys2Proof.Machine.execRegisterWrite off size v s
  | .loRegisterRead a => Sys2Proof.Machine.execLoRegisterRead a s
  | .senBiasWrite v => Sys2Proof.Machine.execSenBiasWrite v s
  | .senQrefWrite v => Sys2Proof.Machine.execSenQrefWrite v s
  | .senGridFrameLoRead => Sys2Proof.Machine.execSenGridFrameLoRead s
  | .senGridFrameHiRead => Sys2Proof.Machine.execSenGridFrameHiRead s
  | .gridFreezeTimeout => Sys2Proof.Machine.execGridFreezeTimeout s
  | .settlingEnd => Sys2Proof.Machine.execSettlingEnd s
  | .tmgSyncConfigWrite off v => Sys2Proof.Machine.execTmgSyncConfigWrite off v s
  | .tmgTrigConfigWrite off v => Sys2Proof.Machine.execTmgTrigConfigWrite off v s
  | .pplRadDataWrite v => Sys2Proof.Machine.execPplRadDataWrite v s
  | .swap v => Sys2Proof.Machine.execSwap v s
  | .flush v => Sys2Proof.Machine.execFlush v s
  | .trsTauWrite off v => Sys2Proof.Machine.execTrsTauWrite off v s
  | .calTrimWrite off v => Sys2Proof.Machine.execCalTrimWrite off v s
  | .coilUcodeWrite w v => Sys2Proof.Machine.execCoilUcodeWrite w v s
  | .regGo => Sys2Proof.Machine.execRegGo s
  | .injGo => Sys2Proof.Machine.execInjGo s
  | .selfcal => Sys2Proof.Machine.execSelfcal s
  | .qFlush => Sys2Proof.Machine.execQFlush s
  | .hkcQLoRead => Sys2Proof.Machine.execHkcQLoRead s
  | .censusRequest => Sys2Proof.Machine.execCensusRequest s
  | .userSend => Sys2Proof.Machine.execUserSend s
  | .wayCfgWrite v => Sys2Proof.Machine.execWayCfgWrite v s
  | .pstateRequest v => Sys2Proof.Machine.execPstateRequest v s
  | .critHoldClear => Sys2Proof.Machine.execCritHoldClear s
  | .lock => Sys2Proof.Machine.execLock s
  | .secMboxReqWrite v => Sys2Proof.Machine.execSecMboxReqWrite v s
  | .cmdEn v => Sys2Proof.Machine.execCmdEn v s
  | .channelEnable ch v => Sys2Proof.Machine.execChannelEnable ch v s
  | .channelDisable ch v => Sys2Proof.Machine.execChannelDisable ch v s
  | .glbIntSummaryWrite v => Sys2Proof.Machine.execGlbIntSummaryWrite v s
  | .glbIntEnWrite v => Sys2Proof.Machine.execGlbIntEnWrite v s
  | .busMasterEnableChange on => Sys2Proof.Machine.execBusMasterEnableChange on s
  | .d3hotEntry => Sys2Proof.Machine.execD3hotEntry s
  | .powerOn => Sys2Proof.Machine.execPowerOn s
  | .rstNAssert => Sys2Proof.Machine.execRstNAssert s
  | .rstNRelease => Sys2Proof.Machine.execRstNRelease s
  | .vioLow => Sys2Proof.Machine.execVioLow s
  | .vddHLow => Sys2Proof.Machine.execVddHLow s
  | .mgmtWatchdogExpire => Sys2Proof.Machine.execMgmtWatchdogExpire s
  | .perstNAssert => Sys2Proof.Machine.execPerstNAssert s
  | .functionLevelReset => Sys2Proof.Machine.execFunctionLevelReset s
  | .linkUp speed width => Sys2Proof.Machine.execLinkUp speed width s
  | .recallComplete us => Sys2Proof.Machine.execRecallComplete us s
  | .bootComplete slots => Sys2Proof.Machine.execBootComplete slots s
  | .bootBistEnd => Sys2Proof.Machine.execBootBistEnd s
  | .pstateReached => Sys2Proof.Machine.execPstateReached s
  | .frameSnapshot scene => Sys2Proof.Machine.execFrameSnapshot scene s
  | .intermediateSnapshot scene => Sys2Proof.Machine.execIntermediateSnapshot scene s
  | .gridConversionDone readings => Sys2Proof.Machine.execGridConversionDone readings s
  | .readout die it => Sys2Proof.Machine.execReadout die it s
  | .halo die it part => Sys2Proof.Machine.execHalo die it part s
  | .state die it => Sys2Proof.Machine.execState die it s
  | .history die it => Sys2Proof.Machine.execHistory die it s
  | .backfeed die it => Sys2Proof.Machine.execBackfeed die it s
  | .control die cid => Sys2Proof.Machine.execControl die cid s
  | .misdeliveredItemReturn sender it => Sys2Proof.Machine.execMisdeliveredItemReturn sender it s
  | .previewFrameComplete frame => Sys2Proof.Machine.execPreviewFrameComplete frame s
  | .committedFrameComplete frame => Sys2Proof.Machine.execCommittedFrameComplete frame s
  | .egressBufferAvailable ch => Sys2Proof.Machine.execEgressBufferAvailable ch s
  | .recordTransferDone ch dmaError => Sys2Proof.Machine.execRecordTransferDone ch dmaError s
  | .refInEdge t => Sys2Proof.Machine.execRefInEdge t s
  | .refLossTimeout => Sys2Proof.Machine.execRefLossTimeout s
  | .ltcFrame span code user reverse => Sys2Proof.Machine.execLtcFrame span code user reverse s
  | .ltcLossTimeout => Sys2Proof.Machine.execLtcLossTimeout s
  | .trigInEdge t level => Sys2Proof.Machine.execTrigInEdge t level s
  | .triggerAccept => Sys2Proof.Machine.execTriggerAccept s
  | .takeTriggerFinal => Sys2Proof.Machine.execTakeTriggerFinal s
  | .takeFinalise => Sys2Proof.Machine.execTakeFinalise s
  | .takeInterruptedClose => Sys2Proof.Machine.execTakeInterruptedClose s
  | .replayRecordQueue => Sys2Proof.Machine.execReplayRecordQueue s
  | .cellarEccError die region corrected => Sys2Proof.Machine.execCellarEccError die region corrected s
  | .patrolScrub die corrected => Sys2Proof.Machine.execPatrolScrub die corrected s
  | .trellisLinkFail die => Sys2Proof.Machine.execTrellisLinkFail die s
  | .dieWatchdogMiss die => Sys2Proof.Machine.execDieWatchdogMiss die s
  | .diePrepared die sizeGb => Sys2Proof.Machine.execDiePrepared die sizeGb s
  | .replicaCheckDone die okA okB => Sys2Proof.Machine.execReplicaCheckDone die okA okB s
  | .replicaRestore die cask => Sys2Proof.Machine.execReplicaRestore die cask s
  | .roleSetReadyTimeout => Sys2Proof.Machine.execRoleSetReadyTimeout s
  | .drainEnd die => Sys2Proof.Machine.execDrainEnd die s
  | .rotationDue => Sys2Proof.Machine.execRotationDue s
  | .loadCaskCopyDone => Sys2Proof.Machine.execLoadCaskCopyDone s
  | .saveCaskDone => Sys2Proof.Machine.execSaveCaskDone s
  | .calibrationDecision meas => Sys2Proof.Machine.execCalibrationDecision meas s
  | .calibrationCopyValid => Sys2Proof.Machine.execCalibrationCopyValid s
  | .calAutoStart => Sys2Proof.Machine.execCalAutoStart s
  | .chopGridPoint g => Sys2Proof.Machine.execChopGridPoint g s
  | .coilCurrentAtTarget g => Sys2Proof.Machine.execCoilCurrentAtTarget g s
  | .phase g => Sys2Proof.Machine.execPhase g s
  | .phaseDurationEnd g => Sys2Proof.Machine.execPhaseDurationEnd g s
  | .waitKink g => Sys2Proof.Machine.execWaitKink g s
  | .waitKinkTimeout g => Sys2Proof.Machine.execWaitKinkTimeout g s
  | .jumpIf g => Sys2Proof.Machine.execJumpIf g s
  | .setFlag g => Sys2Proof.Machine.execSetFlag g s
  | .endProfile g => Sys2Proof.Machine.execEndProfile g s
  | .illegalWord g => Sys2Proof.Machine.execIllegalWord g s
  | .untimedLimit g => Sys2Proof.Machine.execUntimedLimit g s
  | .kinkSampleTrigger g => Sys2Proof.Machine.execKinkSampleTrigger g s
  | .kinkWindowDecision g => Sys2Proof.Machine.execKinkWindowDecision g s
  | .coilOc g => Sys2Proof.Machine.execCoilOc g s
  | .gapEnd g => Sys2Proof.Machine.execGapEnd g s
  | .gapStuck g => Sys2Proof.Machine.execGapStuck g s
  | .hkcRegTimer => Sys2Proof.Machine.execHkcRegTimer s
  | .hkcConversionComplete raw => Sys2Proof.Machine.execHkcConversionComplete raw s
  | .hkcHeldTriggerStart => Sys2Proof.Machine.execHkcHeldTriggerStart s
  | .hkcSelfcalStart => Sys2Proof.Machine.execHkcSelfcalStart s
  | .hkcSelfcalDone => Sys2Proof.Machine.execHkcSelfcalDone s
  | .hkcSelfcalPeriod => Sys2Proof.Machine.execHkcSelfcalPeriod s
  | .ledgerInterval act => Sys2Proof.Machine.execLedgerInterval act s
  | .critNvResume => Sys2Proof.Machine.execCritNvResume s
  | .throttleStepTimer => Sys2Proof.Machine.execThrottleStepTimer s
  | .xchkInterval => Sys2Proof.Machine.execXchkInterval s
  | .powerOnHour => Sys2Proof.Machine.execPowerOnHour s
  | .logDeferredWrite => Sys2Proof.Machine.execLogDeferredWrite s
  | .signJobDone => Sys2Proof.Machine.execSignJobDone s
  | .milestoneSigned => Sys2Proof.Machine.execMilestoneSigned s
  | .debugChallengeExpire => Sys2Proof.Machine.execDebugChallengeExpire s
  | .timeSync arrival field => Sys2Proof.Machine.execTimeSync arrival field s
  | .timeSyncSend => Sys2Proof.Machine.execTimeSyncSend s
  | .frameEpoch m => Sys2Proof.Machine.execFrameEpoch m s
  | .ringTrigger m => Sys2Proof.Machine.execRingTrigger m s
  | .census m => Sys2Proof.Machine.execCensus m s
  | .censusReply m => Sys2Proof.Machine.execCensusReply m s
  | .censusTimeout => Sys2Proof.Machine.execCensusTimeout s
  | .delay m => Sys2Proof.Machine.execDelay m s
  | .user m => Sys2Proof.Machine.execUser m s
  | .nack m => Sys2Proof.Machine.execNack m s
  | .censusReq m => Sys2Proof.Machine.execCensusReq m s
  | .ringBadMessage chars violation => Sys2Proof.Machine.execRingBadMessage s chars violation
  | .ringLoopTimeout seq typ => Sys2Proof.Machine.execRingLoopTimeout seq typ s
  | .ringLock => Sys2Proof.Machine.execRingLock s
  | .masterConflictDecision => Sys2Proof.Machine.execMasterConflictDecision s
  | .alignHoldoverTimeout => Sys2Proof.Machine.execAlignHoldoverTimeout s
  | .sliceEnd id count misr failedBuffers => Sys2Proof.Machine.execSliceEnd id count misr failedBuffers s
  | .sliceRetry id => Sys2Proof.Machine.execSliceRetry id s
  | .bgSliceTimer => Sys2Proof.Machine.execBgSliceTimer s
  | .egressSliceBufferTimeout => Sys2Proof.Machine.execEgressSliceBufferTimeout s
  | .loadCaskCheckDone => Sys2Proof.Machine.execLoadCaskCheckDone s
  | .fwStageDone readBackOk => Sys2Proof.Machine.execFwStageDone readBackOk s
  | .nvAccessDone => Sys2Proof.Machine.execNvAccessDone s
  | .ltcFreewheelEnd => Sys2Proof.Machine.execLtcFreewheelEnd s
  | .mixedDecayFastEnd g => Sys2Proof.Machine.execMixedDecayFastEnd g s
  | .coilBlankingEnd g atTarget => Sys2Proof.Machine.execCoilBlankingEnd g atTarget s
  | .hkcTrimGroupTrigger => Sys2Proof.Machine.execHkcTrimGroupTrigger s
  | .perstNRelease => Sys2Proof.Machine.execPerstNRelease s
  | .supplyResetRelease => Sys2Proof.Machine.execSupplyResetRelease s
  | .linkDown => Sys2Proof.Machine.execLinkDown s
  | .d3hotExit => Sys2Proof.Machine.execD3hotExit s
  | .trngHealthFail => Sys2Proof.Machine.execTrngHealthFail s
  | .ringMessageReturn m => Sys2Proof.Machine.execRingMessageReturn m s
  | .ringLockLoss => Sys2Proof.Machine.execRingLockLoss s

end Sys2Proof.Machine
end

