-- ==== Sys2Proof/Safety.lean ====
section
/-! DEFINITION. What counts as a safe run, and the words in which the statements are made. -/

namespace Sys2Proof.Machine

open Sys2Proof

/-- A step that neither faults nor refuses. -/
def Completes (o : Host.Outcome State Fault Refusal) : Prop := ∃ t, o = .next t

/-- Command `i`, carried out in `s`, answers a next state, and that state has `P`. -/
def Yields (i : Instr) (s : State) (P : State → Prop) : Prop := ∃ t, exec i s = .next t ∧ P t

/-- The part has its supplies: commands other than those of the supplies act (R309). -/
abbrev State.powered (s : State) : Prop := s.pow.st ≠ .off

/-- A host command of opcode `op` is accepted and not turned away for what all commands have in common (R262 to R264, R388): at
most `limit` commands of the opcode may be outstanding, the new one included. -/
abbrev State.taken (s : State) (h : Hdr) (op limit : Nat) : Prop :=
  s.powered ∧ hdrOk h = true ∧ s.canAccept h.fence = true ∧ s.sec.boot ≠ .recovery ∧ h.resultAddr % 64 = 0 ∧ s.outOf op < limit

/-- The state in which the parameters of the next command are judged: its acceptance tick is the newest (R263). -/
abbrev State.atAccept (s : State) : State := { s with hif.lastAccept := some s.nextAccept }

/-- Every command outstanding, and every command that a self-test run serves, was given a serial number earlier than the next one:
the numbers tell commands apart. -/
abbrev State.cidsOk (s : State) : Prop :=
  (∀ c ∈ s.hif.outstanding, c.cid < s.hif.nextCid) ∧ ∀ r ∈ s.bst.runs, ∀ c ∈ r.cid, c < s.hif.nextCid

/-- Something has left the block between `s` and `t`. -/
def Sent (s t : State) (o : Out) : Prop := ∃ l, t.outs = l ++ s.outs ∧ o ∈ l

/-- Between `s` and `t` a message of this node's own has left by RING_OUT, where that was free, or has joined those that wait for it
(R290). -/
def OwnMessage (s t : State) (m : RingMsg) (again : Bool) : Prop :=
  if s.way.sendEnd ≤ s.mono ∧ s.way.waiting = [] then Sent s t (.ring m (msgCrc m))
  else t.way.waiting = s.way.waiting ++ [{ msg := m, again }]

/-- A completion entry with this tag, opcode, status and reason has been written between `s` and `t` (R265). -/
def Completed (s t : State) (tag op status reason : Nat) : Prop :=
  ∃ e : CmpEntry, Sent s t (.completion e) ∧ e.tag = tag ∧ e.opcode = op ∧ e.status = status ∧ e.reason = reason

/-- A register whose aligned write of `w` no rule of its block holds back, rejects or acts on: what it does is to follow the access
codes (R9, R11). -/
def State.plainWrite (s : State) (off : Nat) (w : Word) : Bool :=
  if off < 0x0400 then off ≠ Reg.GLB_INT_SUMMARY
  else if off < 0x0800 then off = Reg.HIF_STATUS || (List.range 8).any fun n => off = Reg.HIF_CH_STATUS n
  else if off < 0x0C00 then off ∉ [Reg.TMG_SYNC_CFG, Reg.TMG_REF_OFS, Reg.TMG_REF_TOL]
  else if off < 0x1000 then off ∉ [Reg.SEN_BIAS, Reg.SEN_QREF]
  else if off < 0x1C00 then
    off = Reg.PPL_STATUS || (rwMask off ≠ 0 && pplValueOk off w && (s.pow.st ≠ .take || off = Reg.PPL_MON_CFG) &&
      off ∉ [Reg.PPL_RAD_DATA, Reg.PPL_RAD_CTRL])
  else if off < 0x2000 then
    off ∈ [Reg.TRS_STATUS, Reg.TRS_TBL_IDX] || (rwMask off ≠ 0 && trsValueOk off w && s.pow.st ≠ .take && off ≠ Reg.TRS_CTRL)
  else if off < 0x2400 then
    off ∈ [Reg.CAL_STATUS, Reg.CAL_CTRL] ||
      (off < Reg.CAL_TRIM_CONV && rwMask off ≠ 0 && calValueOk off w && s.casks.cal.isNone)
  else if off < 0x2800 then rwMask off ≠ 0 || w1cMask off ≠ 0
  else if off < 0x2C00 then off ≠ Reg.ROL_CFG
  else if off < 0x3000 then off ≠ Reg.TOL_PSTATE
  else if off < 0x3400 then
    (off ≠ Reg.THM_CFG || thmCfgOk w) && (off ∉ [Reg.THM_THR_P, Reg.THM_THR_H, Reg.THM_THR_S2] || thrOk off w)
  else if off < 0x3800 then hkcValueOk off w && off ≠ Reg.HKC_CTRL
  else if off < 0x3C00 then off < Reg.COIL_UCODE 0 && coilValueOk off w
  else if off < 0x4000 then true
  else if off < 0x4400 then
    let x := w.toNat % 2 ^ 16
    (off ≠ Reg.BST_ROTATE || (10 ≤ x && x ≤ 3600)) && (off ≠ Reg.BST_BG_PERIOD || (1 ≤ x && x ≤ 1000))
  else if off < 0x4800 then off ∉ [Reg.SEC_CTRL, Reg.SEC_MBOX_REQ, Reg.SEC_MS_CFG]
  else off ∉ [Reg.WAY_CFG, Reg.WAY_CTRL]

/-- No index of any ring differs between `s` and `t` (R258). -/
def State.sameIndices (s t : State) : Prop :=
  t.hif.cmdProd = s.hif.cmdProd ∧ t.hif.cmdFetch = s.hif.cmdFetch ∧ t.hif.cmpProd = s.hif.cmpProd ∧ t.hif.cmpCons = s.hif.cmpCons ∧
    ∀ n, (t.chan n).bufProd = (s.chan n).bufProd ∧ (t.chan n).bufCons = (s.chan n).bufCons ∧
      (t.chan n).scmpProd = (s.chan n).scmpProd ∧ (t.chan n).scmpCons = (s.chan n).scmpCons

/-- The eight channels are there (R274). -/
abbrev State.chansOk (s : State) : Prop := s.hif.chans.length = 8

/-- The five die slots are there (R1, R210). -/
abbrev State.diesOk (s : State) : Prop := s.rol.dies.length = 5

/-- The NV store's memory is in its canonical form, lists no byte of FACTORY and none past its 512 KiB (R357, R359), and no
write is left uncommitted. -/
def State.memoryOk (s : State) : Bool := Memory.wf s.nv.mem && s.nv.writes.isEmpty

/-! ## What a command leaves alone -/

/-- The parts of the state, beside the registers, what has left the block and the rest of its PCIe link, which any access, delivery
or interrupt ends (R255). -/
inductive Part where
  | time
  | pow
  | hif
  | tmg
  | sen
  | frames
  | trs
  | rad
  | casks
  | coil
  | rol
  | cel
  | way
  | tol
  | hkc
  | nv
  | sec
  | bst
  | captures
  | msix
  deriving DecidableEq, Repr

/-- The part is the same in both states; of the NV store, where no write was left uncommitted. -/
def Part.same : Part → State → State → Prop
  | .time, s, t => t.now = s.now ∧ t.mono = s.mono
  | .pow, s, t => t.pow = s.pow
  | .hif, s, t => t.hif = { s.hif with pendingVectors := t.hif.pendingVectors }
  | .tmg, s, t => t.tmg = s.tmg
  | .sen, s, t => t.sen = s.sen
  | .frames, s, t => t.frames = s.frames
  | .trs, s, t => t.trs = s.trs
  | .rad, s, t => t.rad = s.rad
  | .casks, s, t => t.casks = s.casks
  | .coil, s, t => t.coil = s.coil
  | .rol, s, t => t.rol = s.rol
  | .cel, s, t => t.cel = s.cel
  | .way, s, t => t.way = s.way
  | .tol, s, t => t.tol = s.tol
  | .hkc, s, t => t.hkc = s.hkc
  | .nv, s, t => s.nv.writes = [] → t.nv = s.nv
  | .sec, s, t => t.sec = s.sec
  | .bst, s, t => t.bst = s.bst
  | .captures, s, t => t.cap = s.cap
  | .msix, s, t => t.msix = s.msix

/-- Whenever `i` answers a next state, only the parts in `ps` and the registers that meet `regs` may differ, and the interrupt
summary, which follows every command (R445). -/
def Touches (i : Instr) (s : State) (ps : List Part) (regs : Nat → Prop) : Prop :=
  ∀ t, exec i s = .next t → (∀ p, p ∉ ps → p.same s t) ∧ ∀ o, ¬regs o → o ≠ Reg.GLB_INT_SUMMARY → t.reg o = s.reg o

/-- The rows of the supplies and of the reset pins (R309, R437). -/
def isSupply : Instr → Bool
  | .powerOn => true
  | .rstNAssert => true
  | .rstNRelease => true
  | .vioLow => true
  | .vddHLow => true
  | .mgmtWatchdogExpire => true
  | .perstNAssert => true
  | .perstNRelease => true
  | .supplyResetRelease => true
  | _ => false

end Sys2Proof.Machine
end

