-- ==== Sys2Proof/Certificates/Slice0/Obligations.lean ====
section
/-! DEFINITION. The statements for the provers, one per definition, in the spec's order of chapters. -/

open Sys2Proof Sys2Proof.Machine

/-! ## Host interface (chapter 10) -/

/-- The doorbells inside R259's ranges are served: CMD_PROD and CH_n_BUF_PROD move the device's copy of the producer index,
CMP_CONS and CH_n_SCMP_CONS the consumer index, and with it the moderation restarts (R258, R259, R285). -/
def Obligations.DoorbellsMoveIndices : Prop :=
  ∀ s : State, s.powered → s.chansOk →
    (∀ v, v < 65536 → s.cmdRun = true → idxDist s.hif.cmdFetch v ≤ s.cmdSize →
      Yields (.cmdProd v) s fun t => t.hif.cmdProd = v ∧ t.hif.cmdFetch = s.hif.cmdFetch ∧ t.hif.outstanding = s.hif.outstanding) ∧
    (∀ v, v < 65536 → s.cmdRun = true → idxDist s.hif.cmpCons v ≤ idxDist s.hif.cmpCons s.hif.cmpProd →
      Yields (.cmpCons v) s fun t => t.hif.cmpCons = v ∧ t.hif.cmpProd = s.hif.cmpProd ∧ t.hif.cmpLastDoorbell = s.mono) ∧
    (∀ ch v ds, ch < 8 → v < 65536 → s.chanOn ch = true → idxDist (s.chan ch).bufCons v ≤ s.bufSize ch →
      Yields (.chBufProd ch v ds) s fun t => (t.chan ch).bufProd = v) ∧
    (∀ ch v, ch < 8 → v < 65536 → s.chanOn ch = true → idxDist (s.chan ch).scmpCons v ≤ idxDist (s.chan ch).scmpCons (s.chan ch).scmpProd →
      Yields (.chScmpCons ch v) s fun t => (t.chan ch).scmpCons = v ∧ (t.chan ch).lastDoorbell = s.mono)

/-- A doorbell write outside R259's range, or to a ring that is not enabled, changes no index; it sets DB_REJ and records the
ring's kind and channel (R259, R286). That DB_CH reads 0 for the command and completion rings, which have no channel, is the model's
reading of 'where applicable'. -/
def Obligations.DoorbellOutOfRangeIsDiscarded : Prop :=
  ∀ s : State, s.powered → s.chansOk →
    (∀ v, v < 2 ^ 32 → (65536 ≤ v ∨ s.cmdRun = false ∨ s.cmdSize < idxDist s.hif.cmdFetch v) →
      Yields (.cmdProd v) s fun t => s.sameIndices t ∧ t.flag Fld.HIF_STATUS_DB_REJ = true ∧
        t.fld Fld.HIF_STATUS_DB_RING = 0 ∧ t.fld Fld.HIF_STATUS_DB_CH = 0) ∧
    (∀ v, v < 2 ^ 32 → (65536 ≤ v ∨ s.cmdRun = false ∨ idxDist s.hif.cmpCons s.hif.cmpProd < idxDist s.hif.cmpCons v) →
      Yields (.cmpCons v) s fun t => s.sameIndices t ∧ t.flag Fld.HIF_STATUS_DB_REJ = true ∧
        t.fld Fld.HIF_STATUS_DB_RING = 1 ∧ t.fld Fld.HIF_STATUS_DB_CH = 0) ∧
    (∀ ch v ds, ch < 8 → v < 2 ^ 32 → (65536 ≤ v ∨ s.chanOn ch = false ∨ s.bufSize ch < idxDist (s.chan ch).bufCons v) →
      Yields (.chBufProd ch v ds) s fun t => s.sameIndices t ∧ t.flag Fld.HIF_STATUS_DB_REJ = true ∧
        t.fld Fld.HIF_STATUS_DB_RING = 2 ∧ t.fld Fld.HIF_STATUS_DB_CH = ch) ∧
    (∀ ch v, ch < 8 → v < 2 ^ 32 →
      (65536 ≤ v ∨ s.chanOn ch = false ∨ idxDist (s.chan ch).scmpCons (s.chan ch).scmpProd < idxDist (s.chan ch).scmpCons v) →
      Yields (.chScmpCons ch v) s fun t => s.sameIndices t ∧ t.flag Fld.HIF_STATUS_DB_REJ = true ∧
        t.fld Fld.HIF_STATUS_DB_RING = 3 ∧ t.fld Fld.HIF_STATUS_DB_CH = ch)

/-- Enabling the command ring and a channel starts their indices at 0; disabling a channel discards what waits on it; Bus Master
Enable follows its row (R256, R258, R280). -/
def Obligations.RingsAndChannelsStartAndStop : Prop :=
  ∀ s : State, s.powered → s.chansOk →
    (∀ v : Word, v.getLsbD 0 = true → s.cmdRun = false →
      Yields (.cmdEn v) s fun t => t.cmdRun = true ∧ t.hif.cmdProd = 0 ∧ t.hif.cmdFetch = 0 ∧ t.hif.cmpProd = 0 ∧ t.hif.cmpCons = 0) ∧
    (∀ ch v, ch < 8 → v.getLsbD 0 = true → chCtrlOk v = true → s.chanOn ch = false →
      Yields (.channelEnable ch v) s fun t => t.chanOn ch = true ∧ (t.chan ch).enabled = true ∧ (t.chan ch).bufProd = 0 ∧
        (t.chan ch).bufCons = 0 ∧ (t.chan ch).scmpProd = 0 ∧ (t.chan ch).scmpCons = 0) ∧
    (∀ ch v, ch < 8 → v.getLsbD 0 = false → chCtrlOk v = true → s.chanOn ch = true →
      Yields (.channelDisable ch v) s fun t => t.chanOn ch = false ∧ (t.chan ch).enabled = false ∧ (t.chan ch).queue = []) ∧
    (∀ on, Yields (.busMasterEnableChange on) s fun t => t.hif.busMaster = on)

/-- A paused transfer goes on once its channel may take a buffer, by one buffer (log 10: the model's reading), a record's transfer ends
with its record and stream completion in host memory, one whose write fails drops its record and halts its channel, and a ring's vector
that is due is marked signalled (R261, R278, R281, R285, R286). -/
def Obligations.RecordsReachHostMemory : Prop :=
  ∀ s : State, s.powered → s.chansOk →
    (∀ ch x, ch < 8 → (s.chan ch).xfer = some x → x.held = 0 → x.record.typ = 0 → s.mayTake ch 1 = true →
      Yields (.egressBufferAvailable ch) s fun t => (t.chan ch).xfer = some { x with held := 1 } ∧ (t.chan ch).used = (s.chan ch).used + 1) ∧
    (∀ ch x, ch < 8 → (s.chan ch).xfer = some x → s.xferReady ch = true →
      Yields (.recordTransferDone ch false) s fun t =>
        Sent s t (.record ch x.record x.bufs) ∧
        Sent s t (.scmp (scmpOf ch x (s.chan ch) (s.scmpSize ch) (s.scmpAddr ch (s.chan ch).scmpProd))) ∧
        (t.chan ch).scmpProd = ((s.chan ch).scmpProd + 1) % 65536) ∧
    (∀ ch, ch < 8 → s.xferReady ch = true →
      Yields (.recordTransferDone ch true) s fun t => (t.chan ch).xfer = none ∧ (t.chan ch).halted = true ∧
        t.flag (Fld.HIF_CH_STATUS_DMA_ERR ch) = true ∧ t.flag (Fld.HIF_CH_STATUS_DROP_SEEN ch) = true ∧
        t.reg (Reg.HIF_CH_DROP_COUNT ch) = s.reg (Reg.HIF_CH_DROP_COUNT ch) + 1 ∧ (t.chan ch).scmpProd = (s.chan ch).scmpProd) ∧
    (modDue (s.fld Fld.HIF_CMP_MOD_COUNT) (s.fld Fld.HIF_CMP_MOD_TIME) s.hif.cmpTicks s.hif.cmpLastDoorbell s.hif.cmpSignalled s.mono = true →
      Yields (.interruptModerationTimeout 0) s fun t => t.hif.cmpSignalled = true) ∧
    (∀ ch, ch < 8 → modDue (s.fld (Fld.HIF_CH_MOD_COUNT ch)) (s.fld (Fld.HIF_CH_MOD_TIME ch)) (s.chan ch).entryTicks
        (s.chan ch).lastDoorbell (s.chan ch).signalled s.mono = true →
      Yields (.interruptModerationTimeout (ch + 1)) s fun t => (t.chan ch).signalled = true)

/-- A write of GLB_INT_SUMMARY clears the bits written 1 that are not due again, and a write of GLB_INT_EN stores its 17 bits;
after either, every bit that is raw and enabled is set (R445). -/
def Obligations.SummaryFollowsSources : Prop :=
  ∀ s : State, s.powered →
    (∀ v : Word, tabGet (fun _ => 0) s.fresh Reg.GLB_INT_SUMMARY = 0 →
      Yields (.glbIntSummaryWrite v) s fun t =>
        t.reg Reg.GLB_INT_SUMMARY = ((s.reg Reg.GLB_INT_SUMMARY &&& ~~~(v &&& 0x1FFFF#32)) ||| (s.intRaw &&& s.reg Reg.GLB_INT_EN))) ∧
    (∀ v : Word, Yields (.glbIntEnWrite v) s fun t =>
      t.reg Reg.GLB_INT_EN = ((s.reg Reg.GLB_INT_EN &&& ~~~(0x1FFFF#32)) ||| (v &&& 0x1FFFF#32)) ∧
      t.reg Reg.GLB_INT_SUMMARY = (s.reg Reg.GLB_INT_SUMMARY ||| (s.intRaw &&& t.reg Reg.GLB_INT_EN)))

/-! ## Streams, profiles and budgets (chapters 1, 3, 12) -/

/-- START_STREAM, STOP_STREAM, SET_PROFILE and SET_BUDGET are accepted and become pending until the snapshot that puts them into
force (R60, R62, R132, R270, R317). -/
def Obligations.StreamAndProfileCommandsPend : Prop :=
  ∀ (s : State) (h : Hdr),
    (s.taken h Op.startStream 1 → s.pow.st = .ready → s.pow.target = none → s.sen.settleEnd = none → s.syncBusy = false →
      s.refPeriodBad s.tol.req.period (pMin s.rol.map s.tol.req 0) = false →
      Yields (.startStream h) s fun t => t.tol.start = some (s.hif.nextCid, 0)) ∧
    (s.taken h Op.stopStream 1 → s.inStream = true → s.tol.stop = none → s.trs.lastFrame = none →
      Yields (.stopStream h) s fun t => t.tol.stop = some s.hif.nextCid) ∧
    (∀ p frame, s.taken h Op.setProfile 1 → profileReqOk p = true → frame < 2 ^ 64 → profileBad p = none → s.pow.st ≠ .take →
      s.casks.cal = none →
      Yields (.setProfile h p frame) s fun t => t.tol.setProf = some (s.hif.nextCid, reqProfile p, frame)) ∧
    (∀ cap window allow flat mask, s.taken h Op.setBudget 1 → cap < 2 ^ 32 → window < 2 ^ 32 → allow < 2 ^ 32 → flat < 2 ^ 32 →
      mask < 2 ^ 8 → budgetBad cap window flat mask = none → s.budgetClash cap flat mask = false →
      Yields (.setBudget h cap window allow flat mask) s fun t =>
        t.tol.budget = some (s.hif.nextCid, [cap, window, allow, flat, mask]))

/-- The profile fields of SET_PROFILE and ENERGY_PLAN are checked before anything else of theirs: either command ends with BAD_PARAM,
naming the first field at fault, whatever else is wrong with it, RESULT_ADDR included, and has no effect (R271). RAW20 with a period above 50,000,000 ticks is refused too, whichever
field the reason names (R39). -/
def Obligations.ProfileFieldsAreCheckedFirst : Prop :=
  ∀ (s : State) (h : Hdr) (p : ProfileReq) (n : Nat), s.powered → s.cidsOk → s.busOk = true → hdrOk h = true →
    s.canAccept h.fence = true → s.sec.boot ≠ .recovery → profileReqOk p = true →
    let atFault := fun (off : Nat) =>
      (4 < p.fmt ∧ off = 0x18) ∨ (p.fmt ≤ 4 ∧ 2 < p.mode ∧ off = 0x19) ∨ (p.fmt ≤ 4 ∧ p.mode ≤ 2 ∧ p.l ∉ [0, 1, 2, 4] ∧ off = 0x1A) ∨
        (p.fmt ≤ 4 ∧ p.mode ≤ 2 ∧ p.l ∈ [0, 1, 2, 4] ∧ 1 < p.preview ∧ off = 0x1B)
    let refused := fun (t : State) (op why : Nat) => Completed s t h.tag op St.badParam why ∧ t.tol = s.tol ∧
      t.hif.outstanding = s.hif.outstanding
    (n < 2 ^ 64 →
      (∀ off, atFault off → Yields (.setProfile h p n) s fun t => refused t Op.setProfile off) ∧
      (p.fmt = Fmt.raw20 → 50000000 < p.period → Yields (.setProfile h p n) s fun t => ∃ why, refused t Op.setProfile why)) ∧
    (n < 2 ^ 32 → ∀ store, store < 2 ^ 8 →
      (∀ off, atFault off → Yields (.energyPlan h p n store) s fun t => refused t Op.energyPlan off) ∧
      ((∀ off, ¬atFault off) → 2 < store → Yields (.energyPlan h p n store) s fun t => refused t Op.energyPlan 0x20))

/-- ENERGY_PLAN completes at once with OK, ADMIT_REDUCED or OVER_BUDGET, writes the plan as its result, and changes nothing that the
plan rests on (R321 to R323). -/
def Obligations.EnergyPlanReportsAndChangesNothing : Prop :=
  ∀ (s : State) (h : Hdr) (p : ProfileReq) (frames store : Nat),
    s.taken h Op.energyPlan 4 → s.cidsOk → s.busOk = true → profileReqOk p = true → frames < 2 ^ 32 → store < 2 ^ 8 →
    s.planBad p store = none →
    Yields (.energyPlan h p frames store) s fun t =>
      let d := s.admission s.budget s.rol.map (reqProfile p) store
      (d.1 = St.ok ∨ d.1 = St.admitReduced ∨ d.1 = St.overBudget) ∧ Completed s t h.tag Op.energyPlan d.1 Why.none ∧
      (h.resultAddr ≠ 0 →
        Sent s t (.result h.resultAddr (padTo 64 (s.planReport s.rol.map (reqProfile p) d.2 frames store).2))) ∧
      t.tol = s.tol ∧ t.rol = s.rol ∧ t.pow = s.pow

/-! ## Snapshots and the sensor (chapters 2 and 3) -/

/-- A frame snapshot that is due closes frame k, a streamed one to be processed further, and opens frame k + 1, both at the scheduled
tick (R59, R61); an intermediate one adds a sub-interval and a grid sample (R37, R45); a converted grid sample leaves the queue of
samples (R45). -/
def Obligations.SnapshotsAdvanceFrames : Prop :=
  ∀ s : State, s.powered →
    (∀ sc, s.snapDue = true →
      let k := s.tmg.frame
      Yields (.frameSnapshot sc) s fun t => t.tmg.frame = k + 1 ∧
        (∃ f ∈ t.frames, f.k = k + 1 ∧ f.closed = false ∧ f.prev = s.tmg.nextSnap) ∧
        ((∀ f ∈ s.frames, f.k = k → f.closed = false) →
          ∀ g ∈ t.frames, g.k = k → g.closed = true ∧ g.snap = s.tmg.nextSnap ∧ g.prev = s.tmg.lastSnap) ∧
        ∀ f ∈ s.frames, f.k = k → f.closed = false → (∀ g ∈ s.frames, g.k = k → g = f) → f.streamed = true → f.comDone = false →
          s.tmg.first = false → ∃ g ∈ t.frames, g.k = k ∧ g.closed = true) ∧
    (∀ sc, s.tmg.scheduled = true → 50000000 < s.tol.prof.period → tickLe s.nextSub s.now = true →
      tickLe s.tmg.nextSnap s.nextSub = false →
      Yields (.intermediateSnapshot sc) s fun t =>
        t.tmg.subDone = s.tmg.subDone + 1 ∧ t.sen.gridDue = s.sen.gridDue ++ [(25000000, none)] ∧
        t.sen.subCounts.length = s.sen.subCounts.length + 1) ∧
    (∀ rs g due, rs.length = 48 → s.sen.gridDue = g :: due →
      Yields (.gridConversionDone rs) s fun t => t.sen.gridDue = due ∧ t.sen.lastDelivered.isSome = true)

/-- The sensor's own commands: BIAS and QREF codes in range are stored outside STREAM and TAKE, and any other write of theirs is
discarded and sets SET_REJ; SETTLING ends at its time; outside RECALL, reads of the grid frame
number answer the held grid, freeze it and release it; the freeze ends after 10 ms (R7, R48, R49, R56; that a read while the grid is
frozen moves it to the newest frame and starts the 10 ms again is log 106, the model's choice). -/
def Obligations.SensorRegisterCommands : Prop :=
  ∀ s : State, s.powered →
    (∀ v, s.pow.st ≠ .stream → s.pow.st ≠ .take → fldOf v Fld.SEN_BIAS_BIAS_CODE ≤ 80 →
      Yields (.senBiasWrite v) s fun t => t.regN Reg.SEN_BIAS = fldOf v Fld.SEN_BIAS_BIAS_CODE) ∧
    (∀ v, s.pow.st ≠ .stream → s.pow.st ≠ .take → fldOf v Fld.SEN_QREF_QREF_CODE ≤ 120 →
      Yields (.senQrefWrite v) s fun t => t.regN Reg.SEN_QREF = fldOf v Fld.SEN_QREF_QREF_CODE) ∧
    (∀ v, (s.pow.st = .stream ∨ s.pow.st = .take ∨ 80 < fldOf v Fld.SEN_BIAS_BIAS_CODE) →
      Yields (.senBiasWrite v) s fun t => t.reg Reg.SEN_BIAS = s.reg Reg.SEN_BIAS ∧ t.flag Fld.SEN_STATUS_SET_REJ = true) ∧
    (∀ v, (s.pow.st = .stream ∨ s.pow.st = .take ∨ 120 < fldOf v Fld.SEN_QREF_QREF_CODE) →
      Yields (.senQrefWrite v) s fun t => t.reg Reg.SEN_QREF = s.reg Reg.SEN_QREF ∧ t.flag Fld.SEN_STATUS_SET_REJ = true) ∧
    (∀ e, s.sen.settleEnd = some e → e ≤ s.mono → Yields .settlingEnd s fun t => t.sen.settleEnd = none) ∧
    (let u := if s.sen.gridWaits then s.showGrid else s
     s.pow.st ≠ .recall → Yields .senGridFrameLoRead s fun t => t.sen.freeze = some s.mono ∧
      Sent s t (.readData Reg.SEN_GRID_FRAME_LO (u.reg Reg.SEN_GRID_FRAME_LO)) ∧
      tabGet (fun _ => (0 : Word)) t.cap Reg.SEN_GRID_FRAME_HI = u.reg Reg.SEN_GRID_FRAME_HI) ∧
    (s.pow.st ≠ .recall → Yields .senGridFrameHiRead s fun t => t.sen.freeze = none ∧
      Sent s t (.readData Reg.SEN_GRID_FRAME_HI (tabGet (fun _ => 0) s.cap Reg.SEN_GRID_FRAME_HI))) ∧
    (∀ f, s.sen.freeze = some f → f + 2500000 ≤ s.mono → Yields .gridFreezeTimeout s fun t => t.sen.freeze = none)
/-! ## Takes and replay (chapter 9) -/

/-- ARM_TAKE waits for its snapshot S_a as the one take in progress; the triggers of a take become final 2,500 ticks after S_e,
once those that came in by then are judged; a
take all of whose parts are there is finalised CLOSED, an interrupted one is closed INTERRUPTED when the dies are powered again,
at the frame that its index names complete; an armed take is freed by ABORT_TAKE (R80, R236, R237, R244 to R246). -/
def Obligations.TakesArmCloseAndAbort : Prop :=
  ∀ s : State, s.powered →
    (∀ h q, s.taken h Op.armTake 1 → s.cidsOk → q.pre < 2 ^ 32 → 0 < q.post → q.post < 2 ^ 32 → q.extent < 2 ^ 32 → q.retrig < 2 → q.store < 2 →
      s.pow.st = .stream → s.cel.run = none → s.cel.interrupted = none → (s.cel.stored.length < 16 ∨ q.freeAll = true) →
      (s.cel.replay = none ∨ q.freeAll = false) → s.casks.cal = none → s.sen.settleEnd = none → s.syncBusy = false →
      Yields (.armTake h q) s fun t =>
        ∃ r, t.cel.run = some r ∧ r.stage = 0 ∧ r.cid = s.hif.nextCid ∧ r.req = q ∧ r.acceptTick = s.nextAccept) ∧
    (∀ r e, s.cel.run = some r → r.stage = 3 → r.finalMembers = false → r.endSnap = some e → tickLe (tickAdd e 2500) s.now = true →
      (∀ p ∈ s.tmg.trigPending ++ s.tmg.trigEdge.toList, (tickLe p.t e && tickLe p.recv (tickAdd e 2500)) = false) →
      Yields .takeTriggerFinal s fun t => t.cel.run = some { r with finalMembers := true } ∧ t.cel.lastEnd = some e) ∧
    (∀ r f ms, s.cel.run = some r → r.stage = 3 → r.finalMembers = true → r.t.frames.find? (·.k = r.t.last) = some f →
      f.milestone = some ms →
      Yields .takeFinalise s fun t => t.cel.run = none ∧
        ∃ k ∈ t.cel.stored, k.id = r.t.id ∧ k.state = 3 ∧ k.closing = ms ∧ ∀ x ∈ k.frames, r.t.first ≤ x.k ∧ x.k ≤ r.t.last) ∧
    (∀ r c, s.cel.interrupted = some r → s.cel.repowered = true → (s.pow.st = .ready ∨ s.pow.st = .stream ∨ s.pow.st = .take) →
      r.stage ≠ 1 → r.t.complete = some c → r.t.first ≤ c →
      Yields .takeInterruptedClose s fun t => t.cel.interrupted = none ∧
        ∃ k ∈ t.cel.stored, k.id = r.t.id ∧ k.state = 4 ∧ k.last = min c r.t.last ∧ ∀ x ∈ k.frames, x.k ≤ k.last) ∧
    (∀ h r, s.taken h Op.abortTake 64 → s.cel.run = some r → r.stage = 1 →
      Yields (.abortTake h) s fun t => t.cel.run = none ∧ t.cel.stored = s.cel.stored)

/-- REPLAY_TAKE is accepted for a stored take and its frames; the replay starts as its CONTROL item reaches a die that holds REPLAY, and
where the die does not, the command ends with MISDELIVERED and no effect; its next record goes to channel 4, and the register names its
frame; ABORT_TAKE with target 1 ends the replay (R221, R246 to R248; that MISDELIVER_SEEN shows it too is R231's). -/
def Obligations.ReplayStartsQueuesAndStops : Prop :=
  ∀ s : State, s.powered → s.chansOk →
    (∀ h die take mode first count interval, s.taken h Op.replayTake 1 → take < 2 ^ 8 → first < 2 ^ 64 → count < 2 ^ 32 →
      interval < 2 ^ 32 → s.replayBad die take mode first count = none → s.cel.replay = none →
      Yields (.replayTake h die take mode first count interval) s fun t =>
        ∃ c ∈ t.hif.outstanding, c.cid = s.hif.nextCid ∧ c.opcode = Op.replayTake ∧ c.tag = h.tag ∧
          c.job = .replay die take mode first count interval) ∧
    (∀ die cid take mode first count interval, die < 5 → s.jobOf cid = .replay die take mode first count interval →
      (∀ tk, s.holds die .replay = true → s.takeOf take = some tk →
        Yields (.control die cid) s fun t => ∃ r, t.cel.replay = some r ∧ r.cid = cid ∧ r.die = die ∧ r.take = take ∧
          r.decoded = decide (mode = 1) ∧ r.next = first ∧ r.last = (if count = 0 then tk.last else first + count - 1) ∧
          r.interval = interval) ∧
      (∀ c, s.hif.outstanding.find? (·.cid = cid) = some c → s.holds die .replay = false → s.busOk = true →
        Yields (.control die cid) s fun t => Completed s t c.tag c.opcode St.misdelivered Why.none ∧
          t.flag Fld.ROL_STATUS_MISDELIVER_SEEN = true ∧ t.cel.replay = s.cel.replay)) ∧
    (∀ r tk f, s.cel.replay = some r → s.takeOf r.take = some tk → tk.frames.find? (·.k = r.next) = some f → r.mile = false →
      (∀ t0, r.lastStart = some t0 → t0 + r.interval ≤ s.mono) → s.chanOn 4 = true → (s.chan 4).halted = false →
      (s.chan 4).xfer = none → (s.chan 4).queue = [] → s.busOk = true → 0 < s.scmpFree 4 → s.mayTake 4 1 = true →
      (bufsFor (s.chan 4).bufs (tk.replayRec f r.decoded (!(tk.mileOf f).isSome && decide (r.next = r.last))).len).isSome = true →
      f.k < 2 ^ 64 →
      Yields .replayRecordQueue s fun t => t.pair Reg.CEL_REPLAY_FRAME_LO = f.k ∧
        ((∀ b ∈ (s.chan 4).bufs, BufDesc.ok b = true) → r.next ≤ r.last → ∃ x, (t.chan 4).xfer = some x ∧
          x.record = tk.replayRec f r.decoded (!(tk.mileOf f).isSome && decide (r.next = r.last)))) ∧
    (∀ h r, s.taken h Op.abortTake 64 → s.cel.replay = some r →
      Yields (.abortReplay h) s fun t => t.cel.replay = none)

/-! ## Dies, maps and work items (chapter 8) -/

/-- A die is ready once it is prepared and its replicas are checked; a replica's check is recorded; a bad replica is restored from a
good one; a drain ends once nothing is in flight; a BIST_RUN that reaches a die which a pending change takes out of BIST is abandoned
at once, and the die is initialised anew (R25, R211, R223; the last is log 114, the model's choice). -/
def Obligations.DiesGetReadyAndDrain : Prop :=
  ∀ (s : State) (n : Nat), s.powered → s.diesOk → n < 5 →
    (∀ gb, gb < 2 ^ 32 → (s.die n).preparing = true → (s.die n).powered = true → (s.die n).withdrawn = false →
      s.replicasChecked n = true →
      Yields (.diePrepared n gb) s fun t => (t.die n).ready = true ∧ (t.die n).preparing = false ∧ (t.die n).trained = true) ∧
    (∀ a b, (s.die n).powered = true → (s.die n).withdrawn = false → s.replicasChecked n = false → s.casks.a.img.isSome = true →
      s.casks.a.replicas.length = 5 → s.casks.a.checked.length = 5 →
      Yields (.replicaCheckDone n a b) s fun t =>
        t.casks.a.replicas.getD n none = some a ∧ t.casks.a.checked.getD n false = true) ∧
    (∀ c, c < 2 → (s.die n).powered = true → (s.die n).withdrawn = false → (s.cask c).replicas.getD n none = some false →
      s.counted.any (s.replicaSource c) = true →
      Yields (.replicaRestore n c) s fun t => (t.cask c).replicas.getD n none = some true ∧ t.flag Fld.CAL_STATUS_REPLICA_RESTORED = true) ∧
    ((s.die n).draining.isSome = true → s.inFlight (s.die n).drainTo = false →
      Yields (.drainEnd n) s fun t => (t.die n).draining = none) ∧
    (∀ cid unit slices m, s.jobOf cid = .bist n unit slices → s.holds n .bist = true → s.rotRunOn n = false → s.rol.pend = some m →
      ((mapAt m.map n).role = .stripe ∨ (mapAt m.map n).role = .spare) →
      Yields (.control n cid) s fun t => (∀ r ∈ t.bst.runs, r.die ≠ n) ∧ (∀ x ∈ t.bst.running, x.id.die ≠ n) ∧
        (t.die n).ready = false ∧ (t.die n).preparing = true)

/-- ROLE_SET: under another version than it expects it ends with MISDELIVERED; while another change, a calibration or a replay on a die
that it takes away stands, with the change list full, or below READY, with BUSY; the map in force is met at once; every other map is
pending until its snapshot. Until then the map and its version stand. It is given up 100 ms later while a named die is not ready. When
its period has passed a rotation takes a stripe die for the self-test and gives its rows to the spare, or waits while something is in
its way (R214, R216, R217, R230, R243). That BAD_PARAM comes before MISDELIVERED, MISDELIVERED before BUSY, and BUSY before the OK of the
map in force is log 116, the model's choice. -/
def Obligations.MapChangesPend : Prop :=
  ∀ s : State, s.powered → s.diesOk → s.rol.map.length = 5 →
    (∀ h expect handover frame m, s.taken h Op.roleSet 1 → s.cidsOk → s.busOk = true → expect < 2 ^ 16 → handover < 2 ^ 8 →
      frame < 2 ^ 64 → m.length = 5 → (∀ e ∈ m, e.role < 2 ^ 8 ∧ e.first < 2 ^ 8 ∧ e.count < 2 ^ 8) →
      let i := Instr.roleSet h expect handover frame m
      let ends := fun (t : State) (status why : Nat) => Completed s t h.tag Op.roleSet status why ∧ t.rol = s.rol
      let inWay := s.rol.pend ≠ none ∨ s.casks.cal ≠ none ∨ (s.pow.st ≠ .ready ∧ s.pow.st ≠ .stream ∧ s.pow.st ≠ .take) ∨
        s.replayHolds (reqMap m) = true ∨ s.changesFull = true
      (∀ off, s.atAccept.roleSetBad handover frame m = some off → Yields i s fun t => ends t St.badParam off) ∧
      (s.atAccept.roleSetBad handover frame m = none →
        (expect ≠ s.rol.version → Yields i s fun t => ends t St.misdelivered Why.none) ∧
        (expect = s.rol.version → inWay → Yields i s fun t => ends t St.busy Why.none) ∧
        (expect = s.rol.version → ¬inWay → reqMap m = s.rol.map → Yields i s fun t => ends t St.ok Why.none) ∧
        (expect = s.rol.version → ¬inWay → reqMap m ≠ s.rol.map →
          Yields i s fun t => t.rol.map = s.rol.map ∧ t.rol.version = s.rol.version ∧
            ∃ c, t.rol.pend = some c ∧ c.map = reqMap m ∧ c.frame = frame ∧ c.cause = 0 ∧ c.cid = some s.hif.nextCid ∧
              (c.reseed = true ↔ handover = 2 ∨ handover = 0 ∧ s.fld Fld.ROL_CFG_HANDOVER = 1)))) ∧
    (∀ c, s.rol.pend = some c → c.cause = 0 → c.accept + 25000000 ≤ s.mono →
      (enterDies s.rol.map c.map).all (fun n => (s.die n).ready) = false →
      Yields .roleSetReadyTimeout s fun t => t.rol.pend = none ∧ t.rol.map = s.rol.map ∧ t.rol.version = s.rol.version ∧
        ∀ cid o, c.cid = some cid → s.hif.outstanding.find? (·.cid = cid) = some o → s.busOk = true →
          Completed s t o.tag o.opcode St.aborted Why.none) ∧
    (∀ from_, s.rol.rotFrom = some from_ → s.rotates = true → (s.pow.st = .ready ∨ s.pow.st = .stream ∨ s.pow.st = .take) →
      from_ + 250000000 * s.rol.rotPeriod ≤ s.mono → s.rotMade = false →
      (s.rotBlocked = true → Yields .rotationDue s fun t => t.rol.rotWait = true ∧ t.rol.pend = s.rol.pend) ∧
      (∀ d sp, s.rotBlocked = false → s.rotPick = some d → s.spareReady = some sp →
        Yields .rotationDue s fun t => t.rol.map = s.rol.map ∧ t.rol.version = s.rol.version ∧ d ∈ t.rol.rotDies ∧
          ∃ c, t.rol.pend = some c ∧ c.cause = 2 ∧ mapAt c.map sp = mapAt s.rol.map d ∧ (mapAt c.map d).role = .bist))

/-- A powered die that is present is withdrawn by a failed link or a missed watchdog, and by an uncorrectable error in a cask: it loses
its power for good and its bit of ROL_FAULT is set; corrected Cellar errors are counted and seen, those the patrol scrub finds too
(R227, R233). -/
def Obligations.DieFaultsWithdrawAndCount : Prop :=
  ∀ (s : State) (n : Nat), s.powered → n < 5 → (s.die n).powered = true →
    (∀ i, s.diesOk → s.present n = true → (s.die n).withdrawn = false →
      (i = .trellisLinkFail n ∨ i = .dieWatchdogMiss n ∨ i = .cellarEccError n .caskA false) →
      Yields i s fun t => (t.die n).withdrawn = true ∧ (t.die n).powered = false ∧ (t.reg Reg.ROL_FAULT).getLsbD n = true) ∧
    (∀ g, Yields (.cellarEccError n g true) s fun t =>
      t.reg Reg.CEL_ECC_CORR = s.reg Reg.CEL_ECC_CORR + 1 ∧ t.flag Fld.CEL_STATUS_ECC_CORR_SEEN = true) ∧
    (∀ c, 0 < c → c < 2 ^ 32 → s.flag Fld.CEL_CFG_SCRUB_EN = true →
      Yields (.patrolScrub n c) s fun t =>
        t.reg Reg.CEL_ECC_CORR = s.reg Reg.CEL_ECC_CORR + BitVec.ofNat 32 c ∧ t.flag Fld.CEL_STATUS_ECC_CORR_SEEN = true)

/-- An item that its die does not accept is sent back, whatever its kind, and MISDELIVER_SEEN is set. The dispatcher takes a returned
item off its list and forwards it to its row's owner under its version, where that is another die, ready, which accepts it; it discards
it and counts it where its frame has completed; else the row is missing in every pass of the frame that is not complete (R220, R231). -/
def Obligations.MisdeliveredItemsGoBack : Prop :=
  ∀ (s : State) (n : Nat) (i : ItemHdr), s.powered → n < 5 → itemOk i = true →
    let seen := fun (t : State) => t.flag Fld.ROL_STATUS_MISDELIVER_SEEN = true
    (s.accepts n i.row i.version = false →
      (∀ p, 1 ≤ p → p ≤ 6 → Yields (.halo n i p) s fun t => t.rol.returned = s.rol.returned ++ [(n, 1, i)] ∧ seen t) ∧
      (Yields (.state n i) s fun t => t.rol.returned = s.rol.returned ++ [(n, 2, i)] ∧ seen t) ∧
      (Yields (.history n i) s fun t => t.rol.returned = s.rol.returned ++ [(n, 3, i)] ∧ seen t) ∧
      (Yields (.backfeed n i) s fun t => t.rol.returned = s.rol.returned ++ [(n, 4, i)] ∧ seen t)) ∧
    (s.takesRow n i = false → Yields (.readout n i) s fun t => t.rol.returned = s.rol.returned ++ [(n, 0, i)] ∧ seen t) ∧
    (∀ e, s.rol.returned.find? (fun e => e.1 = n ∧ e.2.2 = i) = some e →
      let owner := (s.mapOfVersion i.version).bind fun m => ownerOf m i.row
      let goesOn := fun (d : Nat) => owner = some d ∧ d ≠ n ∧ (s.die d).ready = true ∧ s.accepts d i.row i.version = true
      let dealt := fun (P : State → Prop) => Yields (.misdeliveredItemReturn n i) s fun t => t.rol.returned = s.rol.returned.erase e ∧ P t
      (∀ d, goesOn d → dealt fun t => Sent s t (.item d e.2.1 i) ∧ t.reg Reg.ROL_FWD_COUNT = s.reg Reg.ROL_FWD_COUNT + 1 ∧
        t.frames = s.frames) ∧
      ((∀ d, ¬goesOn d) → (∀ f, s.frameOf i.frame = some f → f.comDone = true) →
        dealt fun t => t.reg Reg.ROL_STALE_COUNT = s.reg Reg.ROL_STALE_COUNT + 1 ∧ t.frames = s.frames) ∧
      ((∀ d, ¬goesOn d) → ∀ f, s.frameOf i.frame = some f → f.comDone = false →
        dealt fun t => t.reg Reg.ROL_MISSING_COUNT = s.reg Reg.ROL_MISSING_COUNT + 1 ∧ t.flag Fld.ROL_STATUS_MISSING_SEEN = true ∧
          ∃ g, t.frameOf i.frame = some g ∧ i.row ∈ g.missCom ∧ i.row ∉ g.openRows ∧ (f.prevDone = false → i.row ∈ g.missPrev)))

/-- Work items that their die accepts do their work: a tile row is read out, a halo part is there, a moved row's carries and
history have arrived, and a restored value has gone back (R219, R220, R222 to R224). That a halo part is named by a code and its row's
edge (log 67), and that what goes back carries the version that its die drains (log 55), are the model's readings. -/
def Obligations.WorkItemsArrive : Prop :=
  ∀ (s : State) (n : Nat) (i : ItemHdr), s.powered → n < 5 → itemOk i = true →
    (∀ f, s.takesRow n i = true → s.frameOf i.frame = some f → s.rowDue f i = true →
      Yields (.readout n i) s fun t => ∀ g ∈ t.frames, g.k = i.frame → i.row ∉ g.openRows) ∧
    (s.accepts n i.row i.version = true →
      (∀ f p, 1 ≤ p → p ≤ 3 → 0 < i.row → s.frameOf i.frame = some f → f.streamed = true → f.version = i.version →
        (if i.preview then f.prevDone else f.comDone) = false → (i.row - 1) ∈ f.haloEdges → (i.row - 1, p, true, i.preview) ∉ f.halos →
        s.haloReady f (i.row - 1) p true i.preview = true →
        Yields (.halo n i p) s fun t => ∃ g ∈ t.frames, g.k = f.k ∧ g.halos = f.halos ++ [(i.row - 1, p, true, i.preview)]) ∧
      (∀ f p, 1 ≤ p → p ≤ 3 → s.frameOf i.frame = some f → f.streamed = true → f.version = i.version →
        (if i.preview then f.prevDone else f.comDone) = false → i.row ∈ f.haloEdges → (i.row, p, false, i.preview) ∉ f.halos →
        s.haloReady f i.row p false i.preview = true →
        Yields (.halo n i (p + 3)) s fun t => ∃ g ∈ t.frames, g.k = f.k ∧ g.halos = f.halos ++ [(i.row, p, false, i.preview)]) ∧
      (∀ m, s.rol.moves.find? (fun m => m.row = i.row && m.dst = n && !m.stateDone) = some m → s.movedFrom m = true →
        Yields (.state n i) s fun t => ∃ m' ∈ t.rol.moves, m'.row = i.row ∧ m'.dst = n ∧ m'.stateDone = true) ∧
      (∀ m ∈ s.rol.moves, m.row = i.row → m.dst = n → m.stateDone = true →
        Yields (.history n i) s fun t => ∃ m' ∈ t.rol.moves, m'.row = i.row ∧ m'.dst = n ∧ m'.historyDone = true) ∧
      (∀ m f, s.rol.moves.find? (fun m => m.row = i.row && m.src = n && m.k0 < i.frame) = some m → s.frameOf i.frame = some f →
        f.streamed = true → f.rowDone i.row = true → i.frame ∉ m.backfed →
        Yields (.backfeed n i) s fun t => ∃ m' ∈ t.rol.moves, m'.row = i.row ∧ m'.src = n ∧ i.frame ∈ m'.backfed))

/-- A preview frame and a committed frame all of whose parts are there complete; so does a frame of KEEP_WARM. A committed frame that
does not end its stream adds one link to the chain, over its metadata and the digests of its window rows; metadata, link and rows go to
channel 0 as one FRAME record, or are dropped whole, and into the take that holds the frame (R19, R21, R133, R240, R276, R282, R312,
R396, R397; that the record is issued as the pass completes, where R282 issues it with its first tile row, is log 66, the model's
reading). -/
def Obligations.FramesComplete : Prop :=
  ∀ (s : State) (k : Nat) (f : FrameW), s.powered → k < 2 ^ 64 → ((s.prepUpTo k).judgeBursts).frameOf k = some f →
    (((s.prepUpTo k).judgeBursts).prevReady f = true →
      Yields (.previewFrameComplete k) s fun t => ∀ g ∈ t.frames, g.k = k → g.prevDone = true) ∧
    ((((s.prepUpTo k).judgeBursts).comReady f = true ∨ ((s.prepUpTo k).judgeBursts).warmReady f = true) →
      Yields (.committedFrameComplete k) s fun t => ∀ g ∈ t.frames, g.k = k → g.comDone = true) ∧
    (let u := (s.prepUpTo k).judgeBursts
     ∀ c0 seed last before pos, s.chansOk → u.comReady f = true → u.trs.lastFrame ≠ some k →
      u.sec.chain = some (c0, seed, last, before, pos) →
      Yields (.committedFrameComplete k) s fun t => ∃ md rows, md.length = 96 ∧ md.take 8 = leBytes 8 f.k ∧
        rows.map (·.1) = winRows f.prof ∧
        let link := linkOf last md (rows.flatMap fun r => rowDigest r.1 r.2)
        t.sec.chain = some (c0, seed, link, k, pos + 1) ∧
        ((∃ x, (t.chan 0).xfer = some x ∧ x.record = frameRec f (md ++ link) rows false) ∨
          t.reg (Reg.HIF_CH_DROP_COUNT 0) = u.reg (Reg.HIF_CH_DROP_COUNT 0) + 1) ∧
        ∀ r, u.cel.run = some r → r.stage ≠ 0 → r.t.arm < k → (2 ≤ r.stage → r.t.first ≤ k ∧ k ≤ r.t.last) →
          ∃ r', t.cel.run = some r' ∧ ∃ x ∈ r'.t.frames, x.k = k ∧ x.metadata = md ++ link ∧ x.rows = rows)

/-! ## Casks and calibration (chapter 6) -/

/-- RACK_CASK of the cask in force is met at once, and any other waits for its snapshot, with the cask in force as it was; it is BUSY
while another racking is pending, while the take's change list is full, or while its cask is being loaded or written (BUSY and not
BAD_PARAM: log 74, the model's reading). LOAD_CASK transfers, its image is checked and copied: one that
fails the checks ends it with BAD_PARAM and changes no cask; the copies done, the cask is valid, CAL_STALE is cleared and the command
ends with OK, or, where the copied image fails its digest, every replica counts as failed (log 115: the command then ends as after a
failed check). SAVE_CASK takes the image that the cask holds, which reaches host memory when it is done (R151, R153 to R155, R243). -/
def Obligations.CaskCommandsProceed : Prop :=
  ∀ s : State, s.powered → s.cidsOk → s.busOk = true →
    (∀ h cask frame, s.taken h Op.rackCask 1 → cask < 2 ^ 8 → frame < 2 ^ 64 →
      let ends := fun (t : State) (status why : Nat) => Completed s t h.tag Op.rackCask status why ∧ t.casks = s.casks
      let inWay := s.anyRack = true ∨ (s.cask cask).copying = true ∨ s.loading cask = true
      (∀ off, s.atAccept.rackBad cask frame = some off → Yields (.rackCask h cask frame) s fun t => ends t St.badParam off) ∧
      (s.atAccept.rackBad cask frame = none →
        ((inWay ∨ s.casks.active ≠ cask ∧ s.changesFull = true) → Yields (.rackCask h cask frame) s fun t => ends t St.busy Why.none) ∧
        (¬inWay → s.casks.active = cask → Yields (.rackCask h cask frame) s fun t => ends t St.ok Why.none) ∧
        (¬inWay → s.casks.active ≠ cask → s.changesFull = false →
          Yields (.rackCask h cask frame) s fun t => t.casks = { s.casks with rack := some (cask, frame, some s.hif.nextCid) }))) ∧
    (∀ h cask addr d, Instr.wf (.loadCask h cask addr d) = true → s.taken h Op.loadCask 1 → caskAddrBad cask addr = none →
      (s.inStream = false ∨ s.casks.active ≠ cask) → s.rackPending cask = false → s.calTargets cask = false → d ≠ .error →
      Yields (.loadCask h cask addr d) s fun t => t.casks =
        { s.casks with load := some { cask, addr, cid := s.hif.nextCid, img := (caskOf d).getD noCask, stage := 0 } }) ∧
    (∀ x, s.casks.load = some x → x.stage = 0 → imgOk x.img = true →
      Yields .loadCaskCheckDone s fun t => t.casks.load = some { x with stage := 1 } ∧ (t.cask x.cask).img = some x.img ∧
        (t.cask x.cask).copying = true ∧ t.caskOk x.cask = false) ∧
    (∀ x c, s.casks.load = some x → x.stage = 0 → imgOk x.img = false → s.hif.outstanding.find? (·.cid = x.cid) = some c →
      Yields .loadCaskCheckDone s fun t => t.casks = { s.casks with load := none } ∧
        Completed s t c.tag c.opcode St.badParam Why.noField) ∧
    (∀ x c, s.casks.load = some x → x.stage = 1 → x.cask < 2 → s.hif.outstanding.find? (·.cid = x.cid) = some c →
      x.img.digest = imgDigest x.img → (s.cask x.cask).img.isSome = true → s.counted ≠ [] → (∀ n ∈ s.counted, n < 5) →
      Yields .loadCaskCopyDone s fun t => t.casks.load = none ∧ (t.cask x.cask).copying = false ∧ t.caskOk x.cask = true ∧
        t.flag Fld.SEN_STATUS_CAL_STALE = false ∧ Completed s t c.tag c.opcode St.ok Why.none) ∧
    (∀ x c, s.casks.load = some x → x.stage = 1 → x.cask < 2 → s.hif.outstanding.find? (·.cid = x.cid) = some c →
      x.img.digest ≠ imgDigest x.img →
      Yields .loadCaskCopyDone s fun t => t.casks.load = none ∧ (t.cask x.cask).copying = false ∧
        (∀ n ∈ s.counted, n < 5 → (t.cask x.cask).replicas.getD n none = some false) ∧
        Completed s t c.tag c.opcode St.badParam Why.noField) ∧
    (∀ h cask addr img, s.taken h Op.saveCask 1 → cask < 2 ^ 8 → addr < 2 ^ 64 → caskAddrBad cask addr = none → s.caskOk cask = true →
      s.rackPending cask = false → s.calTargets cask = false → (s.cask cask).img = some img →
      Yields (.saveCask h cask addr) s fun t => t.casks =
        { s.casks with save := some { cask, addr, cid := s.hif.nextCid, img, stage := 0 } }) ∧
    (∀ x c, s.casks.save = some x → s.hif.outstanding.find? (·.cid = x.cid) = some c →
      let bad := s.hostBad x.addr 102048256
      Yields .saveCaskDone s fun t => t.casks.save = none ∧ Sent s t (.hostCask x.addr x.img) ∧
        Completed s t c.tag c.opcode (if bad then St.badParam else St.ok) (if bad then Why.hostMemory else Why.none))

/-- CALIBRATE starts the one calibration there is, at once where the shutter stands as it needs it (CALIBRATE that closes it, and CAL_AUTO,
are with the coil's commands); CAL_ABORT ends it before its copy; the decision of a trim kind ends it with its report. That of
SHUTTER_OFFSET, TAU_MAP or the second capture of BLACKBODY_2P accepts the result, which is then copied to the target cask under the next
generation, or ends the calibration with the reason's report and status; a first capture is held. The copies valid, a result is racked
next or the calibration is over (R156, R157, R160, R161, R164 to R166, R172, R174 to R176, R179). -/
def Obligations.CalibrationsStartDecideAndEnd : Prop :=
  ∀ s : State, s.powered →
    (∀ h kind flags capture, s.taken h Op.calibrate 1 → kind < 2 ^ 8 → flags < 2 ^ 8 → capture < 2 ^ 8 →
      s.calBad kind flags capture = none → s.calState kind = true → s.casks.cal = none →
      s.sen.settleEnd = none → s.targetBusy kind = false → (kind = 6 → s.coil.a.runsOrHolds = false ∧ s.coil.b.runsOrHolds = false) →
      (kind = 2 → s.casks.shut = .one) →
      (kind = 1 → ¬s.tol.allowOut ∧ s.bandDies ≠ [] ∧
        let p := bandPeriod s.bandDies.length s.tol.level
        fitsPower s.budget (s.bandPlan p) p = true) →
      (calNeedsShut kind = false ∨ s.casks.shut = .two) →
      Yields (.calibrate h kind flags capture) s fun t =>
        ∃ k, t.casks.cal = some k ∧ k.kind = kind ∧ k.flags = flags ∧ k.capture = capture ∧ k.cid = some s.hif.nextCid) ∧
    (∀ h k, s.taken h Op.calAbort 64 → s.casks.cal = some k → s.decisionMade = false →
      Yields (.calAbort h) s fun t => t.casks.cal = none ∧ t.flag Fld.CAL_STATUS_REJECTED = true) ∧
    (∀ k meas, s.casks.cal = some k → k.stage ≤ 3 → s.calDataIn k = true → 3 ≤ k.kind →
      Yields (.calibrationDecision meas) s fun t => t.casks.cal = none ∧ t.flag Fld.CAL_STATUS_REPORT = true) ∧
    (∀ k meas, s.casks.cal = some k → k.stage ≤ 3 → s.calDataIn k = true → k.kind < 3 →
      let i := Instr.calibrationDecision meas
      let ends := fun (t : State) (status why : Nat) => ∀ cid c, k.cid = some cid → s.hif.outstanding.find? (·.cid = cid) = some c →
        s.busOk = true → s.hif.after = [] → s.chanOn 2 = false → (s.chan 2).holds 5 k.lastFrame = false →
        Completed s t c.tag c.opcode status why
      let accepted := fun (v : Verdict) => Yields i s fun t =>
        let img := s.finishImage k v.image s.nextGen
        t.casks.cal = some { k with stage := 4, result := some img, rep := { v.rep with gen := s.nextGen } } ∧
          (t.cask k.target).img = some img ∧ (t.cask k.target).copying = true
      let rejected := fun (why : Nat) => Yields i s fun t => t.casks.cal = none ∧ t.flag Fld.CAL_STATUS_REJECTED = true ∧
        t.flag Fld.CAL_STATUS_REPORT = true ∧
        t.reg Reg.CAL_LAST = BitVec.ofNat 32 (k.kind + 2 ^ 8 * rejResult why + 2 ^ 16 * why) ∧ ends t (rejStatus why) why
      let decides := fun (v : Verdict) => (v.why = 0 → accepted v) ∧ (v.why ≠ 0 → rejected v.why)
      let held := fun (v : Verdict) (fail : Plane) => Yields i s fun t => t.casks.cal = none ∧
        t.casks.held = some { cal := { k with rep := v.rep }, failed := fail } ∧ ends t St.ok Why.none
      let one := s.judgeCapture k
      (k.kind = 0 → decides (s.judgeOffset k)) ∧ (k.kind = 1 → decides (s.judgeTau k)) ∧
      (k.kind = 2 → one.1.why ≠ 0 → rejected one.1.why) ∧
      (k.kind = 2 → one.1.why = 0 → (∀ h, s.casks.held = some h → h.cal.capture = k.capture) → held one.1 one.2) ∧
      (∀ h, k.kind = 2 → one.1.why = 0 → s.casks.held = some h → h.cal.capture ≠ k.capture →
        decides (if k.capture = 1 then s.judgeTwo k k h.cal one.2 h.failed one.1.rep.spread
          else s.judgeTwo k h.cal k h.failed one.2 one.1.rep.spread))) ∧
    (∀ k img, s.casks.cal = some k → k.stage = 4 → k.result = some img → img.digest = imgDigest img →
      Yields .calibrationCopyValid s fun t =>
        if k.auto || bitN k.flags 0 then t.casks.cal = some { k with stage := 5 } else t.casks.cal = none)

/-! ## Coil drive (chapter 7) -/

/-- A sequencer engine at a legal word executes it: PHASE takes its supply, decay, target and duration into force and ends after it;
WAIT_KINK waits until its kink or its timeout; JUMP_IF goes to its word where its condition holds; SET_FLAG writes its flag; END
ends the profile with its result code. A word that is not legal, and the 256th untimed instruction in a row, stop the engine with its
switches off (R189 to R195; that an END in the place of the 256th still ends its profile is log 116, the model's choice). No calibration
runs, whose hand on the coils has statements of its own. -/
def Obligations.SequencerExecutesItsWords : Prop :=
  ∀ (s : State) (g : Group), s.powered → s.casks.cal = none →
    let e := s.eng g
    let w := s.ucWord e
    (s.atWord e 0 = true →
      Yields (.phase g) s fun t =>
        (t.eng g).phase = some (bitN w 28, w / 2 ^ 26 % 4, 10 * (w / 2 ^ 18 % 256), s.mono + w % 4096 * unitTicks (w / 2 ^ 16 % 4), bitN w 15) ∧
        (t.eng g).pc = e.pc ∧ (t.eng g).fetch = false) ∧
    (∀ off code target stop reach, e.phase = some (off, code, target, stop, reach) → e.st = .running → e.fetch = false →
      e.wait = none → stop ≤ s.mono →
      Yields (.phaseDurationEnd g) s fun t => (t.eng g).pc = e.pc + 1 ∧ (t.eng g).fetch = true ∧
        (reach = true → (t.eng g).reached = some false)) ∧
    (s.atWord e 1 = true →
      Yields (.waitKink g) s fun t => (t.eng g).wait = some (s.mono, bitN w 28, w / 2 ^ 13 % 128, s.mono + 250000 * (w % 4096)) ∧
        t.reg (grpDmax g) = 0x8000) ∧
    (∀ t0 pol miss stop, e.wait = some (t0, pol, miss, stop) → e.st = .running → stop ≤ s.mono →
      Yields (.waitKinkTimeout g) s fun t => (t.eng g).pc = miss ∧ (t.eng g).wait = none ∧ (t.eng g).fetch = true) ∧
    (s.atWord e 2 = true →
      Yields (.jumpIf g) s fun t => (t.eng g).pc = (if s.jumpCond e (w / 2 ^ 25 % 16) then w / 2 ^ 18 % 128 else e.pc + 1) ∧
        (t.eng g).untimed = e.untimed + 1) ∧
    (s.atWord e 3 = true →
      Yields (.setFlag g) s fun t => (t.eng g).flags / 2 ^ (w / 2 ^ 27 % 4) % 2 = w / 2 ^ 26 % 2 ∧ (t.eng g).pc = e.pc + 1 ∧
        (t.eng g).untimed = e.untimed + 1) ∧
    (s.atWord e 4 = true →
      Yields (.endProfile g) s fun t => (t.eng g).st = .gap ∧ (t.eng g).result = w / 2 ^ 27 % 4 ∧ (t.eng g).reason = CoilEnd.done ∧
        (t.eng g).hs = false ∧ (t.eng g).ls = false ∧ (t.eng g).gapAfterEnd = true) ∧
    (s.atIllegal e = true →
      Yields (.illegalWord g) s fun t => (t.eng g).st = .gap ∧ (t.eng g).reason = CoilEnd.illegal ∧ (t.eng g).hs = false ∧
        (t.eng g).ls = false ∧ t.flag Fld.COIL_STATUS_ILLEGAL = true) ∧
    (e.st = .running → 256 ≤ e.untimed →
      Yields (.untimedLimit g) s fun t => (t.eng g).st = .gap ∧ (t.eng g).reason = CoilEnd.illegal ∧ (t.eng g).hs = false ∧
        (t.eng g).ls = false ∧ t.flag Fld.COIL_STATUS_ILLEGAL = true)

/-- Current regulation: a grid point under SUPPLY turns both switches on and blanks the comparator for 1 µs; at the end of blanking
and after it, a current at its target turns the high side off, and ends a PHASE that waits for it; the fast part of MIXED decay ends with the low side on; a waiting
restart takes place at a grid point (R187, R188, R192, R201). -/
def Obligations.ChopperRegulatesTheCurrent : Prop :=
  ∀ (s : State) (g : Group), s.powered → s.casks.cal = none → (s.eng g).st = .running →
    let e := s.eng g
    (∀ code target stop reach, e.phase = some (false, code, target, stop, reach) →
      ((s.mono - e.gridStart) % 6250 = 0 → e.restart = none →
        Yields (.chopGridPoint g) s fun t => (t.eng g).hs = true ∧ (t.eng g).ls = true ∧ (t.eng g).blankEnd = some (s.mono + 250)) ∧
      (∀ b at_, e.blankEnd = some b → b ≤ s.mono →
        Yields (.coilBlankingEnd g at_) s fun t => (t.eng g).blankEnd = none ∧
          (t.eng g).hs = (e.hs && !(decide (target = 0) || at_))) ∧
      (e.hs = true → e.blankEnd = none →
        Yields (.coilCurrentAtTarget g) s fun t => (t.eng g).hs = false ∧ (t.eng g).offSince = some s.mono) ∧
      (e.blankEnd = none → reach = true → e.fetch = false → e.wait = none →
        Yields (.coilCurrentAtTarget g) s fun t => (t.eng g).pc = e.pc + 1 ∧ (t.eng g).reached = some true ∧ (t.eng g).hs = false)) ∧
    (∀ off target stop reach t0, e.phase = some (off, 2, target, stop, reach) → e.offSince = some t0 →
      Yields (.mixedDecayFastEnd g) s fun t => (t.eng g).hs = false ∧
        (t.eng g).ls = decide (t0 + 250 * fldOf e.cfg Fld.COIL_CFG_MIX_US ≤ s.mono)) ∧
    (∀ r, e.restart = some r → (s.mono - e.gridStart) % 6250 = 0 → e.gridStart < s.mono →
      Yields (.chopGridPoint g) s fun t => (t.eng g).req = some r ∧ (t.eng g).pc = r.entry ∧ (t.eng g).restart = none ∧
        (t.eng g).reason = CoilEnd.restarted ∧ (t.eng g).st = .running)

/-- Kink detection: a sampling tick starts the group's conversion, at once, in place of a self-calibration that begins in this tick or of a
trigger of this tick that ranks below it, or right after the group that is complete in this tick; where the converter turns it away it
counts as a gap. A window that has ended is decided once, and a second difference beyond the threshold confirms the kink, sends the
engine on and records its time (R196 to R200, R339, R345, R352). -/
def Obligations.KinksAreDetected : Prop :=
  ∀ (s : State) (g : Group) (t0 : Nat) (pol : Bool) (miss stop : Nat), s.powered → s.casks.cal = none →
    (s.eng g).st = .running → (s.eng g).wait = some (t0, pol, miss, stop) →
    let e := s.eng g
    let m := e.decided
    (s.now % (1250 * 2 ^ kinkSamp e.kinkCfg) = 625 * grpIdx g →
      let u := s.doSelfcalDone
      let lower := ∃ src i chs n, u.hkc.group = some (src, i, chs, n) ∧ u.hkc.groupAt = s.mono ∧ injRank src < injRank Inj.coil
      let sampled := fun (t : State) => (t.eng g).sampling = some ((s.mono - t0) / max 1 e.winTicks)
      (u.selfcalRuns = false → (u.hkc.calRun ≠ none ∨ u.hkc.group = none ∨ u.groupEnding = false ∧ lower) →
        Yields (.kinkSampleTrigger g) s fun t => t.hkc.group = some (Inj.coil, 0, [6 + grpIdx g], grpIdx g) ∧ sampled t) ∧
      (u.hkc.calRun = none → u.groupEnding = true → u.hkc.next = none →
        Yields (.kinkSampleTrigger g) s fun t => t.hkc.next = some (Inj.coil, [6 + grpIdx g], grpIdx g) ∧ t.hkc.group = u.hkc.group ∧
          sampled t) ∧
      (u.selfcalRuns = true ∨ (u.hkc.calRun = none ∧ u.hkc.group ≠ none ∧ u.groupEnding = false ∧ ¬lower) →
        Yields (.kinkSampleTrigger g) s fun t => t.hkc.group = u.hkc.group ∧ (t.eng g).sampling = none ∧ (t.eng g).gapRec = true ∧
          t.flag Fld.COIL_STATUS_GAP_SEEN = true ∧ t.flag Fld.HKC_STATUS_INJ_LOST = true)) ∧
    (t0 + (m + 1) * e.winTicks ≤ s.mono → e.sampling ≠ some m →
      Yields (.kinkWindowDecision g) s fun t => (t.eng g).decided = m + 1 ∧
        (m < kinkBlank e.kinkCfg + 2 → (t.eng g).kinked = e.kinked ∧ (t.eng g).pc = e.pc) ∧
        (∀ num den, kinkBlank e.kinkCfg + 2 ≤ m → secondDiff e.samples m = some (num, den) →
          (if pol then (kinkThr e.kinkCfg * den : Int) ≤ num else num ≤ -(kinkThr e.kinkCfg * den : Int)) →
          (t.eng g).kinked = true ∧ (t.eng g).tKink = s.now ∧ (t.eng g).pc = e.pc + 1 ∧ (t.eng g).wait = none))

/-- Over-current turns a group's switches off, latches its bit and drops what it holds; at the end of its gap a group is IDLE or starts
the request it holds; a current that does not fall makes it STUCK (R202, R205). -/
def Obligations.GroupsStopAndPause : Prop :=
  ∀ (s : State) (g : Group), s.powered → s.casks.cal = none →
    (s.coilEnabled = true →
      Yields (.coilOc g) s fun t => (t.eng g).st = .gap ∧ (t.eng g).hs = false ∧ (t.eng g).ls = false ∧ (t.eng g).hold = none ∧
        t.flag (grpOc g) = true ∧ ((s.eng g).st = .running → (t.eng g).reason = CoilEnd.oc)) ∧
    ((s.eng g).st = .gap → (s.eng g).gapStart + (s.eng g).gapTicks ≤ s.mono →
      ((s.eng g).hold = none → Yields (.gapEnd g) s fun t => (t.eng g).st = .idle) ∧
      (∀ r, (s.eng g).hold = some r → s.coilEnabled = true →
        Yields (.gapEnd g) s fun t => (t.eng g).st = .running ∧ (t.eng g).req = some r ∧ (t.eng g).pc = r.entry ∧
          (t.eng g).hold = none ∧ (t.eng g).tStart = s.now)) ∧
    ((s.eng g).st = .gap → (s.eng g).stuck = false → (s.eng g).gapStart + (s.eng g).gapTicks + 125000000 ≤ s.mono →
      Yields (.gapStuck g) s fun t => (t.eng g).stuck = true ∧ (t.eng g).hold = none ∧ t.flag Fld.COIL_STATUS_GAP_STUCK = true)

/-- COIL_RUN starts an idle group's profile, restarts the coil that runs, and is held behind the group's other coil or a gap; its STOP
form ends the group's profile and drops what is held; a microcode word is stored while both groups are at rest, and else rejected. A
CALIBRATE that needs the shutter closed, and finds it otherwise, asks group A for the close profile, which starts or is held, or is
rejected where that is refused; a standing request under CAL_AUTO starts a SHUTTER_OFFSET, here with the shutter closed (R156, R163, R179,
R181, R189, R201, R204, R206, R207, R209; that the STOP form is never refused is log 116, the model's choice). -/
def Obligations.CoilCommandsReachTheirGroup : Prop :=
  ∀ (s : State) (h : Hdr) (coil entry : Nat), s.powered → s.casks.cal = none → coil < 4 → (entry < 128 ∨ entry = 0xFF) →
    let g := groupOf coil
    let e := s.eng g
    let r : CoilReq := { coil, entry := s.entryOf coil entry, cid := some s.hif.nextCid }
    (s.taken h Op.coilRun 4 → s.coilEnabled = true → s.flag (grpOc g) = false → e.stuck = false →
      (e.st = .idle →
        Yields (.coilRun h coil entry) s fun t => (t.eng g).st = .running ∧ (t.eng g).req = some r ∧ (t.eng g).pc = r.entry ∧
          (t.eng g).coil = coil) ∧
      (e.st = .running → e.coil = coil →
        Yields (.coilRun h coil entry) s fun t => (t.eng g).restart = some r ∧ (t.eng g).req = e.req) ∧
      ((e.st = .running ∧ e.coil ≠ coil ∨ e.st = .gap) → e.hold = none →
        Yields (.coilRun h coil entry) s fun t => (t.eng g).hold = some r ∧ (t.eng g).req = e.req)) ∧
    (s.taken h Op.coilRun 4 →
      Yields (.coilStop h coil entry) s fun t => (t.eng g).hold = none ∧
        (e.st = .running → (t.eng g).st = .gap ∧ (t.eng g).reason = CoilEnd.stopped ∧ (t.eng g).hs = false ∧ (t.eng g).ls = false)) ∧
    (∀ w v, w < 128 →
      Yields (.coilUcodeWrite w v) s fun t =>
        if s.coil.a.active || s.coil.b.active then
          t.reg (Reg.COIL_UCODE w) = s.reg (Reg.COIL_UCODE w) ∧ t.flag Fld.COIL_STATUS_CFG_REJ = true
        else t.reg (Reg.COIL_UCODE w) = v) ∧
    (∀ kind flags capture, s.taken h Op.calibrate 1 → kind < 2 ^ 8 → flags < 2 ^ 8 → capture < 2 ^ 8 →
      s.calBad kind flags capture = none → s.calState kind = true → s.sen.settleEnd = none → s.targetBusy kind = false →
      (kind = 1 → ¬s.tol.allowOut ∧ s.bandDies ≠ [] ∧
        let p := bandPeriod s.bandDies.length s.tol.level
        fitsPower s.budget (s.bandPlan p) p = true) →
      calNeedsShut kind = true → s.casks.shut ≠ .two →
      let a := s.eng .a
      let close : CoilReq := { coil := 0, entry := s.fld Fld.CAL_SHUT_CFG_CLOSE_ENTRY, cid := none }
      let serves := s.coilEnabled = true ∧ s.flag (grpOc .a) = false ∧ a.stuck = false
      let i := Instr.calibrate h kind flags capture
      let begun := fun (t : State) =>
        ∃ k, t.casks.cal = some k ∧ k.kind = kind ∧ k.stage = 0 ∧ k.closing = 1 ∧ k.cid = some s.hif.nextCid
      (serves → a.st = .idle → Yields i s fun t => begun t ∧ (t.eng .a).st = .running ∧ (t.eng .a).req = some close) ∧
      (serves → a.st ≠ .idle → a.hold = none →
        Yields i s fun t => begun t ∧ (t.eng .a).st = a.st ∧ (t.eng .a).hold = some close) ∧
      (¬serves ∨ (a.st ≠ .idle ∧ a.hold ≠ none) →
        Yields i s fun t => t.casks.cal = none ∧ t.flag Fld.CAL_STATUS_REJECTED = true ∧ t.flag Fld.CAL_STATUS_REPORT = true ∧
          t.reg Reg.CAL_LAST = BitVec.ofNat 32 (kind + 2 ^ 8 * rejResult Rej.kinkMissing + 2 ^ 16 * Rej.kinkMissing))) ∧
    (s.autoReady = true → s.casks.shut = .two →
      Yields .calAutoStart s fun t => ∃ k, t.casks.cal = some k ∧ k.kind = 0 ∧ k.auto = true ∧ k.cid = none)

/-! ## Housekeeping converter (chapter 13) -/

/-- A regular trigger, by REG_GO or by the timer, starts a run; during a run it waits once under the RETRIG that the run started with, or in the tick in which the run
is complete, and is else counted as an overrun; with EN = 0 it does nothing. A self-calibration whose time is over in this tick is
complete before it (R340, R341). -/
def Obligations.RegularTriggersStartRuns : Prop :=
  ∀ (s : State) (i : Instr), s.powered →
    (i = .regGo ∨ (i = .hkcRegTimer ∧ s.flag Fld.HKC_REG_CFG_TIMER_EN = true ∧ s.now % (250000 * max 1 (s.fld Fld.HKC_REG_CFG_DIV)) = 0)) →
    let u := s.doSelfcalDone
    let waits := (s.hkc.retrig = true ∨ u.runEnding = true) ∧ s.hkc.pend = false
    (s.flag Fld.HKC_REG_CFG_EN = false → Yields i s fun t => t.hkc = u.hkc) ∧
    (s.flag Fld.HKC_REG_CFG_EN = true → s.hkc.run = none →
      Yields i s fun t => t.hkc.run = some (0, s.fld Fld.HKC_REG_CFG_LEN, s.regChannels, s.mono) ∧
        t.hkc.retrig = s.flag Fld.HKC_REG_CFG_RETRIG ∧
        t.reg Reg.HKC_SEQ_COUNT = s.reg Reg.HKC_SEQ_COUNT + 1) ∧
    (s.flag Fld.HKC_REG_CFG_EN = true → s.hkc.run ≠ none → waits → Yields i s fun t => t.hkc = { u.hkc with pend := true }) ∧
    (s.flag Fld.HKC_REG_CFG_EN = true → s.hkc.run ≠ none → ¬waits →
      Yields i s fun t => t.hkc = u.hkc ∧ t.reg Reg.HKC_OVERRUN = s.reg Reg.HKC_OVERRUN + 1 ∧ t.flag Fld.HKC_STATUS_OVERRUN = true)

/-- INJ_GO starts the HOST group where the converter has no group and no self-calibration but one that begins in this tick, which gives
way, and right after a group that is complete in its tick; under GUARD it is held, one deep, while a coil is active or self-calibration runs, INJ_GO reading 1, and starts once both
have ended; during self-calibration without GUARD, during a group, and while another is held, it is counted and ignored. A
self-calibration whose time is over in this tick is complete before it (R339, R343 to R347, R352, R356). -/
def Obligations.HostTriggersInjectTheirGroup : Prop :=
  ∀ s : State, s.powered →
    let u := s.doSelfcalDone
    let group := some (Inj.host, 0, s.hostChannels, 0)
    let guard := s.flag Fld.HKC_INJ_CFG_GUARD = true
    let blocked := s.coilQuiet = false ∨ u.selfcalRuns = true
    let passes := ¬guard ∨ s.hkc.heldHost = false ∧ ¬blocked
    let counted := fun (t : State) (off : Nat) => t.hkc = u.hkc ∧ t.reg off = s.reg off + 1 ∧ t.flag Fld.HKC_STATUS_INJ_LOST = true
    (passes → u.selfcalRuns = false → (u.hkc.calRun ≠ none ∨ u.hkc.group = none) →
      Yields .injGo s fun t => t.hkc.group = group ∧ t.hkc.groupAt = s.mono ∧ t.hkc.hostGroups = s.hkc.hostGroups + 1 ∧
        t.hkc.calRun = none) ∧
    (passes → u.hkc.calRun = none → u.groupEnding = true → u.hkc.next = none →
      Yields .injGo s fun t => t.hkc = { u.hkc with next := some (Inj.host, s.hostChannels, 0) }) ∧
    (passes → u.hkc.calRun = none → u.hkc.group ≠ none → (u.groupEnding = false ∨ u.hkc.next ≠ none) →
      Yields .injGo s fun t => counted t Reg.HKC_INJ_BUSY) ∧
    (¬guard → u.selfcalRuns = true → Yields .injGo s fun t => counted t Reg.HKC_INJ_BLOCKED) ∧
    (guard → s.hkc.heldHost = false → blocked →
      Yields .injGo s fun t => t.hkc = { u.hkc with heldHost := true } ∧ t.flag Fld.HKC_CTRL_INJ_GO = true) ∧
    (guard → s.hkc.heldHost = true → Yields .injGo s fun t => counted t Reg.HKC_INJ_BUSY) ∧
    (s.hkc.heldHost = true → s.coilQuiet = true → s.hkc.calRun = none → s.hkc.group = none →
      Yields .hkcHeldTriggerStart s fun t => t.hkc.heldHost = false ∧ t.hkc.group = group ∧ t.hkc.groupAt = s.mono ∧
        t.hkc.hostGroups = s.hkc.hostGroups + 1 ∧ t.flag Fld.HKC_CTRL_INJ_GO = false)

/-- A conversion that has run its 125 ticks puts its result word into its channel's register and, for a regular one, into its
entry's, and for one of a HOST group into its entry's HOST register; a channel found gated at its end of acquisition reads 0 and is marked
so; outside RECALL the queue gives its oldest entry, the LO half now and the HI half captured, and it is emptied by Q_FLUSH (R337 to
R339, R342, R348, R350, R356). -/
def Obligations.ConversionsDeliverAndAreRead : Prop :=
  ∀ s : State, s.powered →
    (∀ raw c, s.hkc.conv = some c → c.start + convTicks ≤ s.mono → c.src < 4 → c.ch < 24 → c.idx < 16 →
      (16 ≤ c.ch → c.ch ≤ 20 → s.present (c.ch - 16) = true) →
      let value := if c.gated then 0 else s.hkcValue raw
      Yields (.hkcConversionComplete raw) s fun t =>
        t.reg (Reg.HKC_CH c.ch) = resultWord value c.gated c.src (s.hkcSeq c) ∧
        (c.src = 0 → t.reg (Reg.HKC_RES c.idx) = resultWord value c.gated 0 (s.hkcSeq c)) ∧
        (c.src = Inj.host → c.idx < 4 → t.reg (Reg.HKC_INJ_RES c.idx) = resultWord value c.gated 1 (s.hkcSeq c))) ∧
    (∀ e q, s.pow.st ≠ .recall → s.hkc.queue = e :: q →
      Yields .hkcQLoRead s fun t => t.hkc.queue = q ∧ Sent s t (.readData Reg.HKC_Q_LO e.lo) ∧
        tabGet (fun _ => 0) t.cap Reg.HKC_Q_HI = e.hi) ∧
    (s.pow.st ≠ .recall → s.hkc.queue = [] → Yields .hkcQLoRead s fun t => t.hkc.queue = [] ∧ Sent s t (.readData Reg.HKC_Q_LO 0)) ∧
    (Yields .qFlush s fun t => t.hkc.queue = [])

/-- Self-calibration becomes due by SELFCAL and by its period, starts when converter, groups and coils leave it room, and ends after
its 6,000 ticks with CAL_DONE; a trigger group of HKC_TRIM is issued at its 1,250 ticks (R351, R354). -/
def Obligations.SelfCalibrationRuns : Prop :=
  ∀ s : State, s.powered →
    (Yields .selfcal s fun t => t.hkc.calDue = true ∧ t.flag Fld.HKC_CTRL_SELFCAL = true) ∧
    (∀ t0, s.hkc.calAt = some t0 → 0 < s.fld Fld.HKC_CAL_CFG_PERIOD_S → t0 + 250000000 * s.fld Fld.HKC_CAL_CFG_PERIOD_S ≤ s.mono →
      Yields .hkcSelfcalPeriod s fun t => t.hkc.calDue = true) ∧
    (s.hkcFree = true → s.selfcalClear = true → Yields .hkcSelfcalStart s fun t => t.hkc.calRun = some s.mono) ∧
    (∀ t0, s.hkc.calRun = some t0 → t0 + selfcalTicks ≤ s.mono →
      Yields .hkcSelfcalDone s fun t => t.hkc.calAt = some s.mono ∧ t.flag Fld.HKC_STATUS_CAL_DONE = true ∧
        t.flag Fld.HKC_CTRL_SELFCAL = false) ∧
    (∀ k t0, s.casks.cal = some k → k.kind = 6 → k.stage ≤ 2 → k.groupBase = some t0 → k.groupsDone < 32 →
      t0 + 1250 * k.tries ≤ s.mono →
      Yields .hkcTrimGroupTrigger s fun t => ∃ k', t.casks.cal = some k' ∧ k'.stage = 2 ∧ k'.tries = k.tries + 1)

/-! ## The non-volatile store (chapter 14) -/

/-- NV_READ and NV_WRITE of an area in range wait for their access; the access of a readable area other than counters and USER
writes its bytes, as far as the firmware's rows on their way have begun (log 114: the model's choice), to the host and ends with OK. While
writes are barred, NV_WRITE and NV_STORE_TRIMS end with NV_BUSY and change nothing
of the store (R365, R374 to R376). -/
def Obligations.NvAccessesWaitAndRead : Prop :=
  ∀ s : State, s.powered →
    (∀ h area offset length addr password, Instr.wf (.nvRead h area offset length addr password) = true → s.taken h Op.nvRead 8 →
      (s.nvShut area = true ∨ nvReadBad area offset length = none) → s.outOf Op.nvRead + s.outOf Op.nvWrite < 8 → s.pow.st ≠ .recall →
      Yields (.nvRead h area offset length addr password) s fun t =>
        ∃ c ∈ t.hif.outstanding, c.cid = s.hif.nextCid ∧ c.tag = h.tag ∧ c.job = .nvRead area offset length addr password) ∧
    (∀ h area offset length addr password d, Instr.wf (.nvWrite h area offset length addr password d) = true → s.taken h Op.nvWrite 8 →
      (s.nvShut area = true ∨ nvWriteBad area offset length = none) → s.outOf Op.nvRead + s.outOf Op.nvWrite < 8 → s.nvOpen = true →
      Yields (.nvWrite h area offset length addr password d) s fun t => t.nv.mem = nvApply s.nv.mem s.nv.writes ∧
        ∃ c ∈ t.hif.outstanding, c.cid = s.hif.nextCid ∧ c.tag = h.tag ∧ c.job = .nvWrite area offset length password d) ∧
    (∀ h area offset length addr password d, Instr.wf (.nvWrite h area offset length addr password d) = true → s.taken h Op.nvWrite 8 →
      s.cidsOk → s.busOk = true → (s.nvShut area = true ∨ nvWriteBad area offset length = none) →
      s.outOf Op.nvRead + s.outOf Op.nvWrite < 8 → s.nvOpen = false →
      Yields (.nvWrite h area offset length addr password d) s fun t => Completed s t h.tag Op.nvWrite St.nvBusy Why.none ∧
        (s.nv.writes = [] → t.nv = s.nv)) ∧
    (∀ h, s.taken h Op.nvStoreTrims 1 → s.cidsOk → s.busOk = true → s.nvOpen = false →
      Yields (.nvStoreTrims h) s fun t => Completed s t h.tag Op.nvStoreTrims St.nvBusy Why.none ∧ (s.nv.writes = [] → t.nv = s.nv)) ∧
    (∀ c rest area base size offset length addr password, s.hif.outstanding = c :: rest → c.job = .nvRead area offset length addr password →
      nvArea area = some (base, size) → area ≠ 2 → area ≠ 6 → s.pow.st ≠ .recall → s.busOk = true → s.hostBad addr length = false →
      Yields .nvAccessDone s fun t =>
        Sent s t (.hostWrite addr ((List.range length).flatMap fun i => s.nvBegun.nvBytes (pageAddr base offset i) 1)) ∧
        Completed s t c.tag c.opcode St.ok Why.none)

/-- An NV_WRITE of USER, its password right, writes exactly the bytes it names, in its 256-byte page, and every other byte of the
store reads as before (R358, R375). -/
def Obligations.NvWriteOfUserChangesItsBytesOnly : Prop :=
  ∀ (s : State) (c : OutCmd) (rest : List OutCmd) (offset length password : Nat) (b : List Byte), s.powered → s.nv.writes = [] →
    s.hif.outstanding = c :: rest → c.job = .nvWrite 6 offset length password (.bytes b) → nvWriteBad 6 offset length = none →
    s.nvOpen = true → s.userLocked = false → (s.nv.passwordWrite = 0 ∨ s.nv.passwordWrite = password) →
    Yields .nvAccessDone s fun t =>
      (∀ i, i < length → tabGet nvDflt t.nv.mem (pageAddr 0x40000 offset i) = (padTo length b).getD i 0) ∧
      (∀ a, (∀ i, i < length → a ≠ pageAddr 0x40000 offset i) → tabGet nvDflt t.nv.mem a = tabGet nvDflt s.nv.mem a)

/-- NV_STORE_TRIMS writes the trim registers in force as a new TRIMS record: it goes into the copy that was not in force, every byte
outside that copy reading as before, and is the record in force afterwards, under the next sequence number, which NVS_TRIMS_SEQ shows.
The command ends with OK and that number as its VALUE; SEC_LOCK plays no part. Five row writes are counted, and the array is busy with
them for five times 50 ticks, 1.0 µs, once it is free (R365). That OK is given and the record is in force at once, its rows following, is
log 114, the model's choice. -/
def Obligations.StoredTrimsAreInForce : Prop :=
  ∀ (s : State) (h : Hdr), s.taken h Op.nvStoreTrims 1 → s.cidsOk → s.busOk = true → s.nvOpen = true → s.nv.writes = [] →
    let at_ := abTrims.addr (match (resolveAb (s.abCopy abTrims 0) (s.abCopy abTrims 1)).1 with | some (0, _, _) => 1 | _ => 0)
    Yields (.nvStoreTrims h) s fun t => ∃ q,
      (∃ e : CmpEntry, Sent s t (.completion e) ∧ e.tag = h.tag ∧ e.opcode = Op.nvStoreTrims ∧ e.status = St.ok ∧ e.value = q) ∧
      (∀ a, (a < at_ ∨ at_ + 320 ≤ a) → tabGet nvDflt t.nv.mem a = tabGet nvDflt s.nv.mem a) ∧
      t.pair Reg.NVS_ROW_WRITES_LO = (s.pair Reg.NVS_ROW_WRITES_LO + 5) % 2 ^ 64 ∧ t.nv.rowEnd = max s.mono s.nv.rowEnd + 5 * 50 ∧
      t.abNow abTrims = some (q, trimRegs.flatMap fun o => leBytes 4 (s.regN o)) ∧
      q = (match s.abNow abTrims with | some (p, _) => (p + 1) % 2 ^ 32 | none => 1) ∧
      t.regN Reg.NVS_TRIMS_SEQ = q ∧ t.nv.trimsSeq = q

/-! ## Firmware, attestation and debug (chapter 15) -/

/-- ATTEST, FW_STAGE and FW_COMMIT go to the accelerator, which has their job or keeps it waiting (R382, R389, R390, R392). -/
def Obligations.SigningCommandsGoToTheAccelerator : Prop :=
  ∀ s : State, s.cidsOk → s.nv.barred = false →
    let waits := fun (t : State) (tag cls : Nat) (j : Job) =>
      (∃ c ∈ t.hif.outstanding, c.cid = s.hif.nextCid ∧ c.tag = tag ∧ c.job = j) ∧
        ∃ g : SignJob, g.cls = cls ∧ g.cid = some s.hif.nextCid ∧ (t.sec.job = some g ∨ g ∈ t.sec.queue)
    (∀ h nonce addr, s.taken h Op.attest 1 → nonce.length = 32 → addr < 2 ^ 64 → addr % 8 = 0 → s.sec.debugUnlocked = false →
      Yields (.attest h nonce addr) s fun t => waits t h.tag 1 (.attest nonce addr)) ∧
    (∀ h image length addr d, s.taken h Op.fwStage 1 → image < 3 → length < 2 ^ 32 → addr < 2 ^ 64 → d ≠ .error →
      length = 8192 + (imageOf d).bodyLen → (imageOf d).svn ≤ s.rollback + 64 → s.outOf Op.fwCommit = 0 →
      (s.fwEnt image).trial = false →
      Yields (.fwStage h image length addr d) s fun t => waits t h.tag 2 (.fwStage image (imageOf d) none)) ∧
    (∀ h image, s.taken h Op.fwCommit 1 → image < 3 →
      Yields (.fwCommit h image) s fun t => waits t h.tag 2 (.fwCommit image))

/-- A finished attestation is written to the host and ends with OK; a finished milestone leaves the queue signed, and a signed one goes to
channel 6, where one that finds no room is dropped and counted, and into its frame's record of the take, dropped or not; a programmed
image that reads back right completes FW_STAGE, and another leaves its slot erased (R389, R392, R400 to R403). -/
def Obligations.SigningJobsEnd : Prop :=
  ∀ s : State, s.powered →
    (∀ j cid c nonce addr, s.sec.job = some j → j.cls = 1 → j.cid = some cid → s.hif.outstanding.find? (·.cid = cid) = some c →
      c.job = .attest nonce addr → s.sec.debugUnlocked = false → s.busOk = true → s.hostBad addr 8960 = false →
      Yields .signJobDone s fun t => Completed s t c.tag c.opcode St.ok Why.none ∧
        ∃ b, b.length = (s.reportBody nonce).length + 3312 ∧ b.take (s.reportBody nonce).length = s.reportBody nonce ∧
          Sent s t (.hostWrite addr b)) ∧
    (∀ j m rest, s.sec.job = some j → j.cls = 0 → s.sec.signed = none → s.sec.msQueue = m :: rest →
      Yields .signJobDone s fun t => t.sec.msQueue = rest ∧ ∃ r, t.sec.signed = some r ∧ r.frame = m.frame ∧ r.link = m.link ∧
        t.sec.msPrev = shake256 r.record) ∧
    (∀ m, s.chansOk → s.sec.signed = some m →
      let x := plainRec 3 m.frame m.record
      let room := s.chanOn 6 = true ∧ (s.chan 6).discard = false ∧ s.mayTake 6 x.poolNeed = true
      Yields .milestoneSigned s fun t => t.sec.signed = none ∧
        (room → (∀ b ∈ (s.chan 6).bufs, BufDesc.ok b = true) → (t.chan 6).holds 3 m.frame = true) ∧
        (¬room → t.reg (Reg.HIF_CH_DROP_COUNT 6) = s.reg (Reg.HIF_CH_DROP_COUNT 6) + 1) ∧
        ∀ r, s.cel.run = some r → ∃ r', t.cel.run = some r' ∧ r'.t.frames.map (·.k) = r.t.frames.map (·.k) ∧
          ∀ f ∈ r'.t.frames, f.k = m.frame → f.milestone = some m.record) ∧
    (∀ c image f slot ok, s.hif.outstanding.find? (·.opcode = Op.fwStage) = some c → s.hif.outstanding.find? (·.cid = c.cid) = some c →
      c.job = .fwStage image f (some slot) → image < s.sec.slots.length → slot < 2 → s.slotImg image slot = none → s.busOk = true →
      Yields (.fwStageDone ok) s fun t =>
        if ok && fwBodyOk f then Completed s t c.tag Op.fwStage St.ok Why.none ∧ t.slotImg image slot = some f
        else Completed s t c.tag Op.fwStage St.authFail Why.none ∧ t.slotImg image slot = none)

/-- DEBUG_UNLOCK: phase 0 hands out a challenge; phase 1 consumes it and sends challenge and response to verification; a challenge
lasts 60 s. LOCK sets SEC_LOCK; a trim register takes what is written until SEC_LOCK is 1, and nothing after it; a failed TRNG stays failed; the mailbox answers codes 1 to 3 and marks every other one unknown (R9,
R381, R394, R405). -/
def Obligations.SecurityCommandsAndRegistersAnswer : Prop :=
  ∀ s : State, s.powered → s.cidsOk →
    (∀ h addr, s.taken h Op.debugUnlock 1 → addr < 2 ^ 64 → s.sec.debugLockout = false → s.busOk = true → s.hostBad addr 64 = false →
      Yields (.debugUnlockChallenge h addr) s fun t => ∃ c, t.sec.challenge = some (c, s.mono) ∧ Sent s t (.hostWrite addr c) ∧
        Completed s t h.tag Op.debugUnlock St.ok Why.none) ∧
    (∀ h addr b c t0, s.taken h Op.debugUnlock 1 → addr < 2 ^ 64 → BitVec.ofNat 32 (fieldLe (padTo 3313 b) 0 4) &&& ~~~Config.scopeBits = 0 →
      s.pow.st ≠ .stream → s.pow.st ≠ .take → s.sec.debugLockout = false → s.sec.challenge = some (c, t0) → s.mono < t0 + 15000000000 →
      Yields (.debugUnlockResponse h 3313 addr (.bytes b)) s fun t => t.sec.challenge = none ∧
        ∃ o ∈ t.hif.outstanding, o.cid = s.hif.nextCid ∧ o.tag = h.tag ∧ o.job = .debugResponse (c ++ padTo 3313 b)) ∧
    (∀ c t0, s.sec.challenge = some (c, t0) →
      Yields .debugChallengeExpire s fun t => t.sec.challenge = if t0 + 15000000000 ≤ s.mono then none else some (c, t0)) ∧
    (Yields .lock s fun t => t.flag Fld.SEC_STATUS_SEC_LOCK = true) ∧
    (∀ off v, Instr.wf (.calTrimWrite off v) = true →
      Yields (.calTrimWrite off v) s fun t =>
        t.reg off = if s.flag Fld.SEC_STATUS_SEC_LOCK then s.reg off else trimWord off v) ∧
    (Yields .trngHealthFail s fun t => t.sec.trngFail = true) ∧
    (∀ v : Word, Yields (.secMboxReqWrite v) s fun t =>
      let code := fldOf v Fld.SEC_MBOX_REQ_CODE
      t.regN Reg.SEC_MBOX_RSP = code + (if 1 ≤ code ∧ code ≤ 3 then 2 ^ 8 else 2 ^ 9))
/-! ## Registers (chapter 0 and each block's own table) -/

/-- A 32-bit aligned write of a register that no rule of its block holds back, rejects or acts on sets its writable bits, clears the
W1C bits written 1 that the device has not set in this tick, and keeps every other bit and register; another size or alignment changes
no register but CEL_STATUS, whose CFG_REJ shows that such a write of a CEL_ register was discarded (R253; that it counts as such a write
is log 115, the model's reading), and a read of another size or alignment answers zero and captures nothing (R6, R9, R11). A read of a
_LO register outside RECALL answers its value and captures the registers that go with it; those of the result queue and of the grid's
frame number do what their own commands do (R7, R56, R350). An aligned write of four or eight bytes into the MSI-X table stores its
words, of the mask word bit 0 alone, and signals every vector that waits and may be signalled then, while another one changes no word
(R285, R443). -/
def Obligations.RegisterAccessesFollowTheirCodes : Prop :=
  ∀ (s : State) (off : Nat), s.powered → off < 0x10000 →
    (∀ v, off % 4 = 0 → s.plainWrite off (v.extractLsb' 0 32) = true → (regRow off).isSome = true →
      s.absentReg off = false →
      Yields (.registerWrite off 4 v) s fun t =>
        (∀ j, j < 32 → (t.reg off).getLsbD j =
          if (rwMask off).getLsbD j then v.getLsbD j
          else (s.reg off).getLsbD j &&
            !(v.getLsbD j && (w1cMask off).getLsbD j && !(tabGet (fun _ => (0 : Word)) s.fresh off).getLsbD j)) ∧
        ∀ o, o ≠ off → o ≠ Reg.GLB_INT_SUMMARY → t.reg o = s.reg o) ∧
    (∀ size v, (size ≠ 4 ∨ off % 4 ≠ 0) →
      Yields (.registerWrite off size v) s fun t =>
        (∀ o, o ≠ Reg.GLB_INT_SUMMARY → o ≠ Reg.CEL_STATUS → t.reg o = s.reg o) ∧
        (touchesCel off size = false → t.reg Reg.CEL_STATUS = s.reg Reg.CEL_STATUS) ∧
        (touchesCel off size = true → t.flag Fld.CEL_STATUS_CFG_REJ = true)) ∧
    (∀ size, (size ≠ 4 ∨ off % 4 ≠ 0) → off < 0xE000 →
      Yields (.loRegisterRead ⟨off, size⟩) s fun t => Sent s t (.readData off 0) ∧ t.cap = s.cap) ∧
    (s.pow.st ≠ .recall → off % 4 = 0 → off < 0xE000 → off ∉ [Reg.HKC_Q_LO, Reg.SEN_GRID_FRAME_LO, Reg.SEN_GRID_FRAME_HI] →
      Yields (.loRegisterRead ⟨off, 4⟩) s fun t => Sent s t (.readData off (s.readReg off)) ∧
        ∀ o ∈ captures off, tabGet (fun _ => (0 : Word)) t.cap o = s.regNow o) ∧
    (exec (.loRegisterRead ⟨Reg.HKC_Q_LO, 4⟩) s = exec .hkcQLoRead s ∧
      exec (.loRegisterRead ⟨Reg.SEN_GRID_FRAME_LO, 4⟩) s = exec .senGridFrameLoRead s ∧
      exec (.loRegisterRead ⟨Reg.SEN_GRID_FRAME_HI, 4⟩) s = exec .senGridFrameHiRead s) ∧
    (∀ size v, 0xE000 ≤ off → off < 0xE200 →
      let k := (off - 0xE000) / 4
      let word := fun (t : State) (k : Nat) => tabGet msixDflt t.msix k
      let kept := fun (k : Nat) (w : Word) => if k % 4 = 3 then w &&& 1 else if k % 4 = 0 then w &&& 0xFFFFFFFC else w
      let aligned := (size = 4 ∨ size = 8) ∧ off % size = 0
      (aligned → Yields (.registerWrite off size v) s fun t =>
        word t k = kept k (v.extractLsb' 0 32) ∧ (size = 8 → word t (k + 1) = kept (k + 1) (v.extractLsb' 32 32)) ∧
        (∀ j, j ≠ k → (size = 8 → j ≠ k + 1) → word t j = word s j) ∧
        ∀ n ∈ s.hif.pendingVectors, s.hif.msixEnabled = true →
          if s.busOk = true ∧ t.vecMasked n = false then Sent s t (.msix n) ∧ n ∉ t.hif.pendingVectors
          else n ∈ t.hif.pendingVectors) ∧
      (¬aligned → Yields (.registerWrite off size v) s fun t => t.msix = s.msix))

/-- Writes of the settings that other rules hold back: a reference setting is stored outside a stream, in force from the next frame
snapshot on, and rejected in it, a trigger
setting is stored and in force from the next tick on, a radiometric entry goes to the bank that is not active, a swap and a flush are
remembered, and a target constant is stored outside a take and in range, one that governs and changes being remembered for its flush; what
is discarded in a take, or out of range, sets CFG_REJ of its block (R63, R83, R112, R116, R118, R119, R136, R148). -/
def Obligations.SettingsAreStoredOrRejected : Prop :=
  ∀ (s : State) (off : Nat) (v : Word), s.powered →
    (Instr.wf (.tmgSyncConfigWrite off v) = true →
      Yields (.tmgSyncConfigWrite off v) s fun t =>
        if s.inStream || !syncValueOk off v then t.reg off = s.reg off ∧ t.flag Fld.TMG_STATUS_CFG_REJ = true ∧ t.tmg = s.tmg
        else t.reg off = s.merged off v ∧ t.tmg = s.tmg) ∧
    (Instr.wf (.tmgTrigConfigWrite off v) = true →
      Yields (.tmgTrigConfigWrite off v) s fun t => t.reg off = s.merged off v ∧ t.tmg = s.tmg) ∧
    (Yields (.pplRadDataWrite v) s fun t =>
        if s.pow.st = .take ∨ s.flag Fld.PPL_RAD_CTRL_SWAP = true then t.rad = s.rad ∧ t.flag Fld.PPL_STATUS_CFG_REJ = true
        else tabGet (fun _ => 0) t.radIdle (s.regN Reg.PPL_RAD_ADDR) = v.toNat % 2 ^ 16 ∧
          t.regN Reg.PPL_RAD_ADDR = (s.regN Reg.PPL_RAD_ADDR + 1) % 4096 ∧ t.rad.active = s.rad.active) ∧
    (s.pow.st ≠ .take → pplValueOk Reg.PPL_RAD_CTRL v = true → fldOf v Fld.PPL_RAD_CTRL_SWAP = 1 →
      Yields (.swap v) s fun t => t.flag Fld.PPL_RAD_CTRL_SWAP = true ∧ t.rad = s.rad) ∧
    (v.getLsbD 0 = true → Yields (.flush v) s fun t => t.flag Fld.TRS_CTRL_FLUSH = true) ∧
    (Instr.wf (.trsTauWrite off v) = true →
      Yields (.trsTauWrite off v) s fun t =>
        if s.pow.st = .take ∨ trsValueOk off v = false then t.reg off = s.reg off ∧ t.flag Fld.TRS_STATUS_CFG_REJ = true
        else t.reg off = s.merged off v ∧
          ((off = Reg.TRS_TAU_EVEN ∧ s.tol.prof.mode = Mode.even ∨ off = Reg.TRS_TAU_FAST ∧ s.tol.prof.mode = Mode.fast) →
            s.merged off v ≠ s.reg off → t.trs.tauWrites = s.trs.tauWrites ++ [s.mono]))

/-- A descriptor that the device may fetch is read from its slot of the ring, which moves the fetch index, and carried out as the
command that it spells. An unknown opcode, the first reserved field that is not zero and a field that selects no form end it with
BAD_PARAM, the profile fields being judged before them; in recovery mode it ends with BUSY unless recovery serves its opcode. A
descriptor that the device may not fetch yet changes nothing. That BUSY in recovery comes before BAD_PARAM is log 9, the model's reading
(R8, R257, R258, R262 to R264, R268, R271, R388). -/
def Obligations.FetchedCommandsAreCarriedOut : Prop :=
  ∀ (s : State) (desc : List Byte) (d : HostData), s.powered → desc.length = 64 →
    let op := fieldLe desc 0 1
    let h := descHdr desc
    let i := Instr.commandFetch desc d
    let rejected := fun (off : Nat) => Yields i s fun t =>
      t.hif.cmdFetch = (s.hif.cmdFetch + 1) % 65536 ∧ Sent s t (.hostRead (s.cmdAddr s.hif.cmdFetch) 64) ∧
        if s.sec.boot = .recovery ∧ op ∉ recoveryOps then Completed s t h.tag op St.busy Why.none
        else Completed s t h.tag op St.badParam ((descProfileBad desc).getD off)
    (s.mayFetch h.fence = true →
      (∀ fields c, descFields op = some fields → descBad desc fields = none → descInstr desc d = .ok c →
        Yields i s fun t => exec c s.fetched = .next t) ∧
      (s.cidsOk →
        (descFields op = none → rejected 0x00) ∧
        (∀ fields off, descFields op = some fields → descBad desc fields = some off → rejected off) ∧
        (∀ fields off, descFields op = some fields → descBad desc fields = none → descInstr desc d = .error off →
          rejected (if hdrBad h then 0x08 else off)))) ∧
    (s.mayFetch h.fence = false → Yields i s fun t => t.hif.cmdFetch = s.hif.cmdFetch ∧ t.hif.outstanding = s.hif.outstanding)

/-! ## Resets, start-up and power states (chapters 1, 12, 15 and 17) -/

/-- Every cold reset puts every register at its reset value, forgets the commands accepted and starts device time at 0, keeps the NV
store, writes in progress apart (R378), and records its cause; the watchdog's is over at once, the others last until RST_N is released and the supplies are in range
(R437, R440, R441; that POWER_ON leaves RST_N asserted is the model's reading, log 60). -/
def Obligations.ColdResetsStartAnew : Prop :=
  ∀ s : State,
    let fresh := fun (t : State) (cause : Nat) => (∀ o, t.reg o = resetVal o) ∧ t.now = 0 ∧ t.mono = 0 ∧ t.hif.outstanding = [] ∧
      t.pow.cause = cause ∧ (s.hif.outstanding = [] → s.nv.writes = [] → s.nv.rows = [] → t.nv.mem = s.nv.mem)
    (Yields .powerOn s fun t => fresh t 0 ∧ t.pow.st = .off) ∧
    (s.pow.rstN = true → Yields .rstNAssert s fun t => fresh t 1 ∧ t.pow.st = .off ∧ t.pow.rstN = false) ∧
    (s.pow.vioLow = false → Yields .vioLow s fun t => fresh t 2 ∧ t.pow.st = .off ∧ t.pow.vioLow = true) ∧
    (s.pow.vddHLow = false → Yields .vddHLow s fun t => fresh t 3 ∧ t.pow.st = .off ∧ t.pow.vddHLow = true) ∧
    (s.powered → s.pow.rstN = true → s.pow.vioLow = false → s.pow.vddHLow = false →
      Yields .mgmtWatchdogExpire s fun t => fresh t 4 ∧ t.pow.st = .recall) ∧
    (s.pow.st = .off → s.pow.vioLow = false → s.pow.vddHLow = false →
      Yields .rstNRelease s fun t => t.pow.st = .recall ∧ t.pow.rstN = true) ∧
    (s.pow.st = .off → (s.pow.vioLow = true ∨ s.pow.vddHLow = true) →
      Yields .supplyResetRelease s fun t => t.pow.vioLow = false ∧ t.pow.vddHLow = false ∧
        t.pow.st = if s.pow.rstN then .recall else .off)

/-- A warm reset, by PERST_N or as a function-level reset, disables every ring and channel, forgets the commands accepted, clears Bus
Master Enable and the captured halves, and counts itself; PERST_N brings the link down as well, and its release leaves the machine
alone (R273, R437, R441, R446; that Bus Master Enable is cleared is log 8, taken from PCI Express). -/
def Obligations.WarmResetsForgetCommands : Prop :=
  ∀ s : State, s.powered → s.pow.perstN = true →
    let warm := fun (t : State) (cause : Nat) => t.hif.outstanding = [] ∧ t.hif.held = [] ∧ t.cmdRun = false ∧
      (∀ ch, ch < 8 → t.chanOn ch = false) ∧ t.hif.busMaster = false ∧ t.cap = [] ∧ t.pow.cause = cause ∧
      t.pow.warmCount = min 255 (s.pow.warmCount + 1)
    (Yields .perstNAssert s fun t => warm t 8 ∧ t.pow.perstN = false ∧ t.hif.linkSpeed = 0) ∧
    (Yields .functionLevelReset s fun t => warm t 9 ∧ t.pow.perstN = true ∧ t.hif.linkSpeed = s.hif.linkSpeed) ∧
    ∀ u : State, Yields .perstNRelease u fun t => t.pow = { u.pow with perstN := true }

/-- RECALL ends in STANDBY; the boot ends in the normal mode or in recovery, the latter where the SPI NOR device does not answer;
boot BIST ends with its outcome; the link's speed and width are those it trained to; D3hot bars memory requests until its exit
(R255, R256, R310, R377, R387, R388, R418, R438). -/
def Obligations.StartUpEndsInService : Prop :=
  ∀ s : State, s.powered →
    (∀ us, us < 2 ^ 32 → s.pow.st = .recall →
      Yields (.recallComplete us) s fun t => t.pow.st = .standby ∧ t.regN Reg.NVS_RECALL_US = us) ∧
    (∀ slots, s.sec.boot = .booting → s.pow.st = .standby →
      Yields (.bootComplete slots) s fun t => t.sec.boot ≠ .booting ∧ (slots.answers = false → t.sec.boot = .recovery)) ∧
    (s.pow.st = .standby → s.fullOver = true →
      Yields .bootBistEnd s fun t => t.bst.full = none ∧ t.flag Fld.BST_BOOT_PASSED = !s.bst.fullBad) ∧
    (∀ speed width, 3 ≤ speed → speed ≤ 5 → width ∈ [1, 2, 4, 8] → s.pow.perstN = true → s.pow.st ≠ .recall →
      Yields (.linkUp speed width) s fun t => t.hif.linkSpeed = speed ∧ t.hif.linkWidth = width) ∧
    (Yields .linkDown s fun t => t.hif.linkSpeed = 0) ∧
    (Yields .d3hotEntry s fun t => t.busOk = false) ∧
    (Yields .d3hotExit s fun t => t.busOk = s.hif.busMaster)

/-- A power-state request that no rule discards becomes the target once start-up is over, and is kept until then; the transition is
complete when its map, its dies and the sensor stand as the target asks (R310, R311, R417). CRIT_HOLD is cleared once every die is
NORMAL and the NV store is open again (R331). -/
def Obligations.PowerStatesFollowTheirTarget : Prop :=
  ∀ s : State, s.powered →
    (∀ v p, v.getLsbD 12 = false → pstateOf (fldOf v Fld.TOL_PSTATE_REQ) = some p → s.requestBad p = false →
      Yields (.pstateRequest v) s fun t =>
        if s.startedUp || s.sec.boot = .recovery then
          (if s.pow.st = p then t.pow.target = s.pow.target else t.pow.target = some p) ∧ t.pow.st = s.pow.st
        else t.pow.stored = some p ∧ t.pow.st = s.pow.st) ∧
    (∀ v p, v.getLsbD 12 = false → pstateOf (fldOf v Fld.TOL_PSTATE_REQ) = some p → s.requestBad p = true →
      Yields (.pstateRequest v) s fun t => t.pow = s.pow ∧ t.flag Fld.TOL_STATUS_CFG_REJ = true) ∧
    (s.rol.pend = none → (∀ d ∈ s.rol.dies, d.draining = none) →
      (s.pow.st = .standby → s.pow.target = some .keepWarm → s.sen.biased = true → sameMap s.rol.map s.warmMap = true →
        (∀ n ∈ stripeDies s.rol.map, (s.die n).ready = true ∧ (s.die n).withdrawn = false) →
        Yields .pstateReached s fun t => t.pow.st = .keepWarm ∧ t.pow.target = none) ∧
      (s.pow.st = .keepWarm → s.pow.target = some .ready → s.rol.before = none →
        Yields .pstateReached s fun t => t.pow.st = .ready ∧ t.pow.target = none) ∧
      (s.pow.st = .keepWarm → s.pow.target = some .standby → s.bst.full = none → s.flag Fld.BST_CFG_SHUT_EN = false →
        Yields .pstateReached s fun t => t.pow.st = .standby ∧ t.pow.target = none)) ∧
    (s.flag Fld.TOL_PSTATE_CRIT_HOLD = true →
      ((s.tol.crit ≠ [] ∨ ∃ d ∈ s.tol.thm, 0 < d.st) →
        Yields .critHoldClear s fun t => t.flag Fld.TOL_PSTATE_CRIT_HOLD = true ∧ t.flag Fld.TOL_STATUS_CFG_REJ = true) ∧
      (s.tol.crit = [] → (∀ d ∈ s.tol.thm, d.st = 0) → (tabGet (fun _ => (0 : Word)) s.fresh Reg.TOL_PSTATE).getLsbD 12 = false →
        Yields .critHoldClear s fun t => t.flag Fld.TOL_PSTATE_CRIT_HOLD = false))

/-! ## Reference, timecode and triggers (chapter 3) -/

/-- The eighth reference interval in tolerance makes the reference present and formed, and the last eight intervals are p_ref; holdover
ends with the lock (log 103: the model's reading); an
interval out of tolerance and a late edge lose the reference, with the lock. A forward LTC frame at an accepted bit rate gives the
timecode, any other one nothing; two frame times without one lose LTC, and the timecode freewheels for as many frames as FREEWHEEL
says (R64, R66, R68 to R73). The nominal interval is that of the profile in force apart from a band phase, and of two bit rates the
nearer is taken (log 105: the model's readings). -/
def Obligations.ReferenceAndTimecodeAreTakenAndLost : Prop :=
  ∀ s : State, s.powered →
    (∀ t0 t, t < 2 ^ 64 → tickLe t s.now = true → s.tmg.refLast = some t0 →
      let d := tickSpan t0 t
      let good := refInTol (s.ownProf.period * s.refMult) s.tolPpm d
      (7 ≤ s.tmg.refIntervals.length →
        Yields (.refInEdge t) s fun u => u.tmg.refLast = some t ∧ u.tmg.pRef = d + sumN (s.tmg.refIntervals.take 7)) ∧
      (s.src = 1 → good = true → s.tmg.refRun < 7 →
        Yields (.refInEdge t) s fun u => u.tmg.refLast = some t ∧ u.tmg.refRun = s.tmg.refRun + 1 ∧
          u.tmg.refPresent = s.tmg.refPresent) ∧
      (s.src = 1 → good = true → 7 ≤ s.tmg.refRun →
        Yields (.refInEdge t) s fun u => u.tmg.refLast = some t ∧ u.tmg.refPresent = true ∧ u.tmg.refFormed = true ∧
          (u.tmg.locked = true → u.tmg.holdover = false) ∧ (s.tmg.holdover = false → u.tmg.holdover = false)) ∧
      (s.src = 1 → good = false →
        Yields (.refInEdge t) s fun u => u.tmg.refLast = some t ∧ u.tmg.refPresent = false ∧ u.tmg.locked = false ∧ u.tmg.refRun = 0 ∧
          u.flag Fld.TMG_STATUS_REF_LOST = true)) ∧
    (s.refLate = true →
      Yields .refLossTimeout s fun u => u.tmg.refPresent = false ∧ u.tmg.locked = false ∧ u.tmg.holdover = s.tmg.refFormed ∧
        u.tmg.refTimedOut = true ∧ u.flag Fld.TMG_STATUS_REF_LOST = true) ∧
    (∀ start stop code user, start < 2 ^ 64 → stop < 2 ^ 64 → tickLe start stop = true → tickLe stop s.now = true → s.ltcEn = true →
      (∀ r, ltcRateCode (tickSpan start stop) (code.getLsbD 22) = some r →
        Yields (.ltcFrame ⟨start, stop⟩ code user false) s fun t =>
          t.tmg.ltcCode = BitVec.ofNat 32 (code.toNat % 2 ^ 23 + 2 ^ 23 * r) ∧
          t.tmg.ltcUser = user ∧ t.tmg.ltcBoundary = stop ∧ t.tmg.ltcStart = start ∧ t.tmg.ltcLastSync = s.mono - tickSpan stop s.now ∧
          (s.tmg.ltcPresent = true → t.tmg.ltcPresent = true ∧ t.tmg.ltcValid = true)) ∧
      (∀ reverse, (reverse = true ∨ ltcRateCode (tickSpan start stop) (code.getLsbD 22) = none) →
        Yields (.ltcFrame ⟨start, stop⟩ code user reverse) s fun t => t.tmg = s.tmg)) ∧
    (let d3 := ltcTicks3 (ltcRate s.tmg.ltcCode.toNat)
     let n := s.fld Fld.TMG_LTC_CFG_FREEWHEEL
     s.tmg.ltcPresent = true → 2 * d3 ≤ 3 * (s.mono - s.tmg.ltcLastSync) →
      Yields .ltcLossTimeout s fun t => t.tmg.ltcPresent = false ∧ t.flag Fld.TMG_STATUS_LTC_LOST = true ∧
        (n = 0 → t.tmg.ltcValid = false ∧ t.tmg.ltcFreewheel = false) ∧
        (0 < n → t.tmg.ltcValid = true ∧ t.tmg.ltcFreewheel = true ∧ t.tmg.ltcFreeEnd = s.mono + n * d3 / 3)) ∧
    (s.tmg.ltcFreewheel = true → s.tmg.ltcFreeEnd ≤ s.mono →
      Yields .ltcFreewheelEnd s fun t => t.tmg.ltcFreewheel = false ∧ t.tmg.ltcValid = s.tmg.ltcPresent)

/-- A write of the trigger settings is stored in every power state and comes into force with the next tick, which remembers the ones
that it replaces, so that an edge before that tick is judged under those; an edge of the selected polarity starts the width filter with the settings of its own tick, another edge ends it; the
oldest waiting trigger is judged by the settings it carries: it is accepted and counted unless it is one that was accepted before, or
lies in the holdoff of one, which is counted too (R74 to R76, R83; that every accepted trigger before it, and none after it, may hold it
off is log 58, the model's reading). -/
def Obligations.TriggersAreFilteredAndJudged : Prop :=
  ∀ s : State, s.powered →
    (∀ off v, Instr.wf (.tmgTrigConfigWrite off v) = true →
      Yields (.tmgTrigConfigWrite off v) s fun u => u.reg off = s.merged off v ∧ u.tmg = s.tmg) ∧
    (s.pending = [] → ∃ u, step s = .next u ∧ u.tmg.trigCfg = s.reg Reg.TMG_TRIG_CFG ∧ u.tmg.trigHoldoff = s.reg Reg.TMG_TRIG_HOLDOFF ∧
      u.tmg.trigEdge = s.tmg.trigEdge ∧ u.tmg.trigPending = s.tmg.trigPending ∧
      u.tmg.trigOld = if s.reg Reg.TMG_TRIG_CFG = s.tmg.trigCfg ∧ s.reg Reg.TMG_TRIG_HOLDOFF = s.tmg.trigHoldoff then s.tmg.trigOld
        else (u.mono, s.tmg.trigCfg, s.tmg.trigHoldoff) :: s.tmg.trigOld) ∧
    (∀ u, s.pending = [] → step s = .next u →
      (∀ t, tickSpan t s.now < 2 ^ 62 → u.trigSet t = s.trigSet t) ∧
      ((∀ e ∈ s.tmg.trigOld, e.1 ≤ s.mono) → u.trigSet u.now = (s.reg Reg.TMG_TRIG_CFG, s.reg Reg.TMG_TRIG_HOLDOFF))) ∧
    (∀ t level, t < 2 ^ 64 → tickLe t s.now = true →
      let set := s.trigSet t
      let sel := fldOf set.1 Fld.TMG_TRIG_CFG_PIN_EN = 1 ∧ (level = true ↔ fldOf set.1 Fld.TMG_TRIG_CFG_TRIG_EDGE = 0)
      Yields (.trigInEdge t level) s fun u =>
        (sel → u.tmg.trigEdge = some { t, src := 0, recv := s.now, cfg := set.1, holdoff := set.2 }) ∧
        (¬sel → u.tmg.trigEdge = none) ∧ u.tmg.trigs = s.tmg.trigs) ∧
    (∀ p rest, s.tmg.trigEdge = none → s.tmg.trigPending = p :: rest →
      let held := ∃ a ∈ s.tmg.trigs, a < p.t ∧ p.t ≤ a + p.holdoff.toNat
      Yields .triggerAccept s fun u => u.tmg.trigPending = rest ∧
        (p.t ∈ s.tmg.trigs → u.tmg.trigs = s.tmg.trigs ∧ u.reg Reg.TMG_TRIG_COUNT = s.reg Reg.TMG_TRIG_COUNT) ∧
        (p.t ∉ s.tmg.trigs → held → u.tmg.trigs = s.tmg.trigs ∧
          u.reg Reg.TMG_TRIG_HELD = s.reg Reg.TMG_TRIG_HELD + 1) ∧
        (p.t ∉ s.tmg.trigs → ¬held → u.tmg.trigs = p.t :: s.tmg.trigs ∧
          u.reg Reg.TMG_TRIG_COUNT = s.reg Reg.TMG_TRIG_COUNT + 1))
/-! ## The Waymark ring (chapter 11) -/

/-- Messages of other nodes that this node may act on pass it: a TRIGGER waits for acceptance under the settings of its tick, a CENSUS_REQ
freezes a follower's steering and makes a master run a census; TIME_SYNC and FRAME_EPOCH are forwarded by every node but the master, a
TIME_SYNC that meets another message at the output as DELAYED, and a CENSUS met before unchanged. The census of a CENSUS_REQ waits for the
output, which the request holds. By a usable TIME_SYNC a follower steps its device time or steers its rate,
the errors in 1/16 ns and the rates in 1/1024 ppm, and becomes SLEWING, ALIGNED or UNALIGNED; that the one which makes it SLEWING steers
nothing is log 45, the model's reading (R290 to R292, R294, R297, R299 to R301, R303). -/
def Obligations.BroadcastsAreActedOnAndForwarded : Prop :=
  ∀ (s : State) (m : RingMsg), s.powered → s.way.joined = true → msgOk m = true →
    let leaves := fun (t : State) (m : RingMsg) => Sent s t (.ring m (msgCrc m))
    (m.origin ≠ s.nodeId → s.actedOn m = false → (s.isMaster = true → m.flags &&& Msg.mseen = 0) →
      let fwd : RingMsg := if s.isMaster then { m with flags := m.flags ||| Msg.mseen } else m
      (m.typ = Msg.trigger → (s.wayRole = 1 → s.way.align = Align.aligned) → s.ringTrigOk = true →
        let at_ := s.nearTick 56 (bodyLe m 0 7)
        fldOf (s.trigSet at_).1 Fld.TMG_TRIG_CFG_RING_EN = 1 →
        Yields (.ringTrigger m) s fun t => leaves t fwd ∧ t.tmg.trigPending = s.tmg.trigPending ++
          [{ t := at_, src := 1, recv := s.now, cfg := (s.trigSet at_).1, holdoff := (s.trigSet at_).2 }]) ∧
      (m.typ = Msg.censusReq → s.wayRole = 1 → Yields (.censusReq m) s fun t => leaves t fwd ∧ t.way.frozen = true) ∧
      (m.typ = Msg.censusReq → s.isMaster = true → s.way.census = none →
        Yields (.censusReq m) s fun t => leaves t fwd ∧ (∃ c, t.way.census = some c ∧ c.start = s.mono) ∧
          ∃ n : RingMsg, t.way.waiting = s.way.waiting ++ [⟨n, false⟩] ∧ n.typ = Msg.census ∧ n.origin = s.nodeId)) ∧
    (s.wayRole = 1 → ∀ arrival field, arrival < 2 ^ 70 → field < 2 ^ 68 →
      let i := Instr.timeSync arrival field
      let e : Int := arrival - (16 * (field % 2 ^ 66) + s.fld Fld.WAY_DELAY_VALUE : Nat)
      ((bitN field 66 = true ∨ s.way.frozen = true ∨ (s.way.align = Align.unaligned ∧ s.way.delayValid = false)) →
        Yields i s fun t => t.now = s.now ∧ t.way.align = s.way.align ∧ t.way.rate = s.way.rate) ∧
      (bitN field 66 = false → s.way.frozen = false →
        (s.way.align = Align.unaligned → s.way.delayValid = true →
          let n := rndDiv e 3200
          Yields i s fun t => t.way.align = Align.slewing ∧
            t.now = if n ≠ 0 ∧ s.inStream = false then tickAdd s.now (-50 * n) else s.now) ∧
        ((s.way.align = Align.slewing ∨ (s.way.align = Align.aligned ∧ -128 ≤ e ∧ e ≤ 128)) →
          let f := clampI (-51200) 51200 (s.way.fTerm - 8 * e)
          Yields i s fun t => t.way.fTerm = f ∧ t.way.rate = clampI (-51200) 51200 (f - 32 * e) ∧ t.way.lastUsable = s.mono ∧
            t.way.align = (if s.way.align = Align.slewing ∧ -32 ≤ e ∧ e ≤ 32 ∧ 7 ≤ s.way.goodRun then Align.aligned else s.way.align) ∧
            t.now = s.now) ∧
        (s.way.align = Align.aligned → (e < -128 ∨ 128 < e) →
          Yields i s fun t => t.reg Reg.WAY_SYNC_REJ = s.reg Reg.WAY_SYNC_REJ + 1 ∧ t.way.rate = s.way.rate ∧
            t.way.align = if 3 ≤ s.way.badRun then Align.unaligned else Align.aligned))) ∧
    (s.isMaster = false →
      (∀ arrival field, arrival < 2 ^ 70 → field < 2 ^ 68 →
        let out := if s.mono < s.way.sendEnd ∧ bitN field 66 = false then field + 2 ^ 66 else field
        Yields (.timeSync arrival field) s fun t => Sent s t (.timeSync out (syncCrc out))) ∧
      (m.typ = Msg.frameEpoch →
        Yields (.frameEpoch m) s fun t => leaves t m ∧
          (s.ringPlacing = true → s.tmg.scheduled = true → s.way.epochTick = none → s.tmg.realign = false → s.inBand = false →
            let e := s.nearTick 48 (bodyLe m 0 6)
            tickLe e s.tmg.lastSnap = false →
            tickLe (tickAdd s.now 2500) (tickAdd s.tmg.lastSnap (tickSpan s.tmg.prevSnap s.tmg.lastSnap)) = true →
            tickLe (tickAdd s.tmg.lastSnap (pMin s.rol.map s.tol.prof s.tol.level)) e = true →
            t.tmg.nextSnap = e ∧ t.way.epochTick = some e)) ∧
      (m.typ = Msg.census → s.actedOn m = true →
        Yields (.census m) s fun t => leaves t m ∧ t.way = { s.way with sendEnd := s.sendStart + 65 }) ∧
      (m.typ = Msg.census → s.actedOn m = false →
        Yields (.census m) s fun t => t.way.epoch = bodyLe m 0 1 ∧ t.way.position = bodyLe m 1 1 + 1 ∧ t.way.delayValid = false ∧
          leaves t { m with body := modAt m.body 1 fun _ => bodyLe m 1 1 + 1 }))

/-- An addressed message under the epoch in force is taken by its destination and sent on as DELIVERED: a reply joins its census, a
DELAY gives a follower its delay and, once a CENSUS has come since it was frozen, unfreezes it, a USER message is published, a NACK is
seen; under another epoch, or while the node holds none, it is sent on as NACKED, and a NACK waits for the output behind it (R290, R293, R295, R297, R298, R300; that a NACK is refused
so too is log 43, the model's reading). -/
def Obligations.AddressedMessagesAreDelivered : Prop :=
  ∀ (s : State) (m : RingMsg), s.powered → s.way.joined = true → msgOk m = true → m.origin ≠ s.nodeId → bodyLe m 0 1 = s.nodeId →
    (s.isMaster = true → m.flags &&& Msg.mseen = 0) →
    let passed := fun (t : State) (bit : Nat) => ∃ f, f &&& bit ≠ 0 ∧
      let out : RingMsg := { m with flags := f }
      Sent s t (.ring out (msgCrc out))
    (s.way.epoch ≠ 0 → bodyLe m 1 1 = s.way.epoch → s.actedOn m = false →
      (∀ c, m.typ = Msg.censusReply → s.way.census = some c → c.loop = none →
        Yields (.censusReply m) s fun t => passed t Msg.delivered ∧ ∃ c', t.way.census = some c' ∧ c'.replies = c.replies ++
          [{ id := m.origin, position := bodyLe m 2 1, role := bodyLe m 3 1, latency := bodyLe m 4 2 }]) ∧
      (m.typ = Msg.delay → s.wayRole = 1 →
        Yields (.delay m) s fun t => passed t Msg.delivered ∧ t.way.delayValid = true ∧
          t.way.frozen = (s.way.frozen && !s.way.censused) ∧
          t.regN Reg.WAY_DELAY = bodyLe m 2 4 % 2 ^ 24) ∧
      (m.typ = Msg.user → Yields (.user m) s fun t => passed t Msg.delivered ∧ t.actedOn m = true) ∧
      (m.typ = Msg.nack →
        Yields (.nack m) s fun t => passed t Msg.delivered ∧ t.flag Fld.WAY_STATUS_NACK_RX = true)) ∧
    ((s.way.epoch = 0 ∨ bodyLe m 1 1 ≠ s.way.epoch) → ∀ i,
      (i = .censusReply m ∧ m.typ = Msg.censusReply ∨ i = .delay m ∧ m.typ = Msg.delay ∨ i = .user m ∧ m.typ = Msg.user ∨
        i = .nack m ∧ m.typ = Msg.nack) →
      Yields i s fun t => passed t Msg.nacked ∧
        ∃ n : RingMsg, t.way.waiting = s.way.waiting ++ [⟨n, false⟩] ∧ n.typ = Msg.nack ∧ n.origin = s.nodeId ∧ bodyLe n 0 1 = m.origin)

/-- This node's own messages: the master's TIME_SYNC goes out at multiples of 1 ms; a returned message is removed; one that does not
return is sent once more, once the output is free, and then given up; a census ends after 1 ms. A message with a code violation or a bad CRC passes on unchanged
and is counted, and one of a reserved type is only forwarded, either holding the output for 65 ticks (R288, R289, R290, R291, R292, R294, R298; what the loop timeout counts from, and
that a message marked as seen is counted, are logs 70 and 110, the model's readings, as are the 65 ticks). -/
def Obligations.OwnMessagesReturnOrAreLost : Prop :=
  ∀ s : State, s.powered →
    (s.way.joined = true → s.isMaster = true → s.now % 250000 = 0 →
      Yields .timeSyncSend s fun t => Sent s t (.timeSync (4 * s.now) (syncCrc (4 * s.now))) ∧ t.way.lastSync = some (4 * s.now)) ∧
    (∀ m x, msgOk m = true → s.way.joined = true → m.origin = s.nodeId → m.typ ≠ Msg.census →
      s.way.sent.find? (fun x => x.msg.typ = m.typ ∧ x.msg.seq = m.seq) = some x →
      Yields (.ringMessageReturn m) s fun t => t.way.sent = s.way.sent.erase x ∧
        (m.typ = Msg.user → t.flag Fld.WAY_CTRL_USER_SEND = false)) ∧
    (∀ seq typ x, seq < 16 → typ < 16 → s.way.sent.find? (fun x => x.msg.typ = typ ∧ x.msg.seq = seq) = some x → x.deadline ≤ s.mono →
      (x.again = false →
        let m : RingMsg := { x.msg with flags := x.msg.flags ||| Msg.retx }
        Yields (.ringLoopTimeout seq typ) s fun t => OwnMessage s t m true ∧
          t.reg Reg.WAY_RETX_COUNT = s.reg Reg.WAY_RETX_COUNT + 1) ∧
      (x.again = true →
        Yields (.ringLoopTimeout seq typ) s fun t => t.way.sent = s.way.sent.erase x ∧ t.flag Fld.WAY_STATUS_MSG_LOST = true)) ∧
    (∀ c, s.way.census = some c → c.start + 250000 ≤ s.mono → s.way.censusDue = false →
      Yields .censusTimeout s fun t => t.way.census = none ∧ t.fld Fld.WAY_CENSUS_RESULT = CensusRes.timeout ∧
        t.flag Fld.WAY_STATUS_CENSUS_FAIL = true) ∧
    (∀ chars violation, chars.length = 10 → s.way.joined = true →
      let bad := violation || decide (crc8 (chars.take 9) ≠ fieldLe chars 9 1)
      let m := msgOfChars chars
      (bad = true → Yields (.ringBadMessage chars violation) s fun t => Sent s t (.ringRaw chars) ∧
        t.reg Reg.WAY_BAD_COUNT = s.reg Reg.WAY_BAD_COUNT + 1) ∧
      (bad = false → s.seenBefore m = true →
        Yields (.ringBadMessage chars violation) s fun t => (∀ n crc, ¬Sent s t (.ring n crc)) ∧
          t.reg Reg.WAY_BAD_COUNT = s.reg Reg.WAY_BAD_COUNT + 1) ∧
      (bad = false → s.seenBefore m = false → m.origin ≠ s.nodeId →
        let out : RingMsg := if s.isMaster then { m with flags := m.flags ||| Msg.mseen } else m
        Yields (.ringBadMessage chars violation) s fun t => Sent s t (.ring out (msgCrc out)) ∧
          t.way = { s.way with sendEnd := s.sendStart + 65 }))

/-- A node joins at retimer lock and loses the lock again; the host asks for a census and sends a USER message, each of which leaves at
once or waits for the output; a write of WAY_CFG
outside a stream gives the node its new role, UNALIGNED; two masters decide after 10 ms; a follower without TIME_SYNC for 10 ms is
in HOLDOVER (R290, R294, R296, R297, R300, R304, R305, R307; that every accepted write of WAY_CFG counts as one of ROLE, and that CENSUS reads 1 while
a master's census runs, are logs 70 and 110, the model's readings). -/
def Obligations.NodesTakeTheirPlace : Prop :=
  ∀ s : State, s.powered →
    (s.mayJoin = true → s.way.lock = false → Yields .ringLock s fun t => t.way.lock = true ∧ t.way.joined = true) ∧
    (Yields .ringLockLoss s fun t => t.way.lock = false ∧ t.way.joined = s.way.joined) ∧
    (s.way.joined = true → s.isMaster = true → s.way.census = none →
      Yields .censusRequest s fun t => t.way.epoch = (if s.way.epoch = 255 then 1 else s.way.epoch + 1) ∧
        t.flag Fld.WAY_CTRL_CENSUS = true ∧ (∃ c, t.way.census = some c ∧ c.start = s.mono ∧ c.replies = []) ∧
        ∃ n : RingMsg, OwnMessage s t n false ∧ n.typ = Msg.census ∧ n.origin = s.nodeId) ∧
    (s.way.joined = true → s.isMaster = false →
      Yields .censusRequest s fun t => ∃ n : RingMsg, OwnMessage s t n false ∧ n.typ = Msg.censusReq ∧ n.origin = s.nodeId) ∧
    (s.way.joined = true → s.wayRole ≤ 1 → s.flag Fld.WAY_CTRL_USER_SEND = false →
      Yields .userSend s fun t => t.flag Fld.WAY_CTRL_USER_SEND = true ∧
        ∃ n : RingMsg, OwnMessage s t n false ∧ n.typ = Msg.user ∧ n.origin = s.nodeId ∧ bodyLe n 0 1 = s.fld Fld.WAY_USER_DST_DST) ∧
    (∀ v, fldOf v Fld.WAY_CFG_ROLE ≠ 3 → s.inStream = false →
      Yields (.wayCfgWrite v) s fun t => t.fld Fld.WAY_CFG_ROLE = fldOf v Fld.WAY_CFG_ROLE ∧
        t.fld Fld.WAY_CFG_NODE_ID = fldOf v Fld.WAY_CFG_NODE_ID ∧ t.way.align = Align.unaligned ∧ t.way.steppedDown = false) ∧
    (∀ v, (fldOf v Fld.WAY_CFG_ROLE = 3 ∨ (s.inStream = true ∧ wayIdent v ≠ wayIdent (s.reg Reg.WAY_CFG))) →
      Yields (.wayCfgWrite v) s fun t => wayIdent (t.reg Reg.WAY_CFG) = wayIdent (s.reg Reg.WAY_CFG) ∧
        t.flag Fld.WAY_STATUS_CFG_REJ = true) ∧
    (∀ a b other, s.isMaster = true → s.way.foreign = some (a, b, other) → a + 2500000 ≤ s.mono →
      Yields .masterConflictDecision s fun t => t.way.foreign = none ∧
        (t.way.steppedDown = true ↔ (s.mono ≤ b + 500000 ∧ other = false))) ∧
    (s.wayRole = 1 → (s.way.align = Align.slewing ∨ s.way.align = Align.aligned) → s.way.lastUsable + 2500000 ≤ s.mono →
      Yields .alignHoldoverTimeout s fun t => t.way.align = Align.holdover)

/-! ## Ledger, thermal control and the NV store's own timers (chapters 12 and 14) -/

/-- A ledger interval ends at a multiple of 1 ms: its total joins the average and the energy; the cross-check's second ends with its
ratio and its sums cleared; throttle levels step with their timer; after a CRIT the NV store opens again once H is fresh and below WARN; held log
entries and increments are then written (R314, R316, R328, R330, R371; that the cross-check's second ends at a multiple of 1 s, what the
step time counts from, and that increments wait, are logs 54, 51 and 28, the model's readings). -/
def Obligations.TollgateTimersDoTheirWork : Prop :=
  ∀ s : State, s.powered →
    (∀ act, act.dies.length = 5 → s.now % 250000 = 0 →
      let e := State.entries ((s.meter .a).meter .b) act
      Yields (.ledgerInterval act) s fun t => t.tol.energy = s.tol.energy + e.total ∧
        t.tol.hist = (e.total :: s.tol.hist).take 60000 ∧ t.tol.coilUj = s.tol.coilUj + e.coil ∧ t.tol.devices = e.devices) ∧
    (s.now % 250000000 = 0 →
      Yields .xchkInterval s fun t => t.tol.xMeas = 0 ∧ t.tol.xDies = 0 ∧ t.tol.xSeen = false ∧
        (s.flag Fld.TOL_XCHK_CFG_EN = true → s.tol.xSeen = true → s.tol.xSeen10 = true → s.tol.xDies ≠ 0 →
          t.regN Reg.TOL_XCHK_RATIO = min 0xFFFF (rndDiv (2 * s.tol.xMeas * 4096) (s.tol.xDies * 10 ^ 9)).toNat)) ∧
    (s.tol.levelAt + 250000 * s.fld Fld.THM_CFG_STEP_MS ≤ s.mono →
      Yields .throttleStepTimer s fun t => t.tol.levelAt = s.mono ∧
        ((∀ d ∈ s.tol.thm, d.st ≠ 2) → t.tol.levelDue = s.tol.levelDue - 1) ∧
        (∀ n, n < 7 → (s.thmAt n).st = 2 → (s.thresholds n).getD 1 0 ≤ (s.thmAt n).reading →
          t.tol.levelDue = min 5 (s.tol.levelDue + 1))) ∧
    (s.tol.crit ≠ [] → (s.thmAt 5).fresh = true → (s.thmAt 5).reading < (s.thresholds 5).getD 0 0 →
      Yields .critNvResume s fun t => t.tol.crit = [] ∧ t.nv.barred = false) ∧
    (s.nvOpen = true → Yields .logDeferredWrite s fun t => t.nv.deferred = [] ∧ t.nv.heldIncs = [])

/-- Every hour of device time raises the power-on counter by exactly one, where no stale marker follows its run and its base does not
overflow: by one more tally word, or by a new base once all 64 are used (R367, R370). -/
def Obligations.PowerOnHourCountsOne : Prop :=
  ∀ s : State, s.powered → s.nvOpen = true → s.nv.writes = [] → s.now % 900000000000 = 0 → s.now ≠ 0 →
    (s.ctrRun 3 + 1 < 64 → s.tally 3 (s.ctrRun 3 + 1) ≠ tallyMark ((s.ctrNow 3).2.1 % 256)) → s.ctrValue 3 + 1 < 2 ^ 64 →
    Yields .powerOnHour s fun t => t.ctrValue 3 = s.ctrValue 3 + 1

/-! ## Self-test (chapter 16) -/

/-- A CONTROL item that reaches a die without the role that its command needs, BIST for BIST_RUN and REPLAY for REPLAY_TAKE, ends the
command with MISDELIVERED, and no run, replay, map or die is altered (R221). One that reaches a die in BIST, which no pending change takes
out of it, begins the run of its BIST_RUN; that of H or S2 begins at once (R416, of which this states a part, as of R231 where
MISDELIVER_SEEN shows the item). -/
def Obligations.SelfTestRunsBegin : Prop :=
  ∀ s : State, s.powered → s.cidsOk →
    (∀ h die unit slices, s.taken h Op.bistRun 1 → die < 2 ^ 8 → unit < 2 ^ 8 → slices < 2 ^ 32 → s.bistBad die unit slices = none →
      s.bistBusy (bistDie die unit) unit = false →
      (bistDie die unit < 5 →
        Yields (.bistRun h die unit slices) s fun t => ∃ c ∈ t.hif.outstanding, c.cid = s.hif.nextCid ∧ c.tag = h.tag ∧
          c.job = .bist (bistDie die unit) unit slices) ∧
      (5 ≤ bistDie die unit → (∀ r ∈ s.bst.runs, r.die = bistDie die unit → r.kind ≠ Owner.bistRun) →
        Yields (.bistRun h die unit slices) s fun t => ∃ r ∈ t.bst.runs, r.die = bistDie die unit ∧ r.unit = unit ∧
          r.requested = slices ∧ r.cid = some s.hif.nextCid)) ∧
    (∀ die cid unit slices, die < 5 → s.jobOf cid = .bist die unit slices →
      (s.holds die .bist = true → s.rotRunOn die = false → (∀ r ∈ s.bst.runs, r.die = die → r.kind ≠ Owner.bistRun) →
        (∀ m, s.rol.pend = some m → (mapAt m.map die).role ≠ .stripe ∧ (mapAt m.map die).role ≠ .spare) → (unitSlices die unit).any (fun t => bitN slices t.2) = true →
        Yields (.control die cid) s fun t => ∃ r ∈ t.bst.runs, r.die = die ∧ r.unit = unit ∧ r.requested = slices ∧ r.cid = some cid)) ∧
    (∀ die cid c role, die < 5 → s.hif.outstanding.find? (·.cid = cid) = some c →
      ((∃ unit slices, s.jobOf cid = .bist die unit slices ∧ role = Role.bist) ∨
        (∃ take mode first count interval, s.jobOf cid = .replay die take mode first count interval ∧ role = Role.replay)) →
      s.holds die role = false → s.busOk = true →
      Yields (.control die cid) s fun t => Completed s t c.tag c.opcode St.misdelivered Why.none ∧
        t.flag Fld.ROL_STATUS_MISDELIVER_SEEN = true ∧ t.bst = s.bst ∧ t.cel = s.cel ∧ t.rol = s.rol)

/-- A slice whose patterns have all run and whose signature is its reference passes; a waiting one starts once its unit is free; an
EGRESS slice that waits 100 ms for its buffers is INCOMPLETE, which is counted and the first time means that it runs once more; the
background timer's turn is taken when it is due (R407, R410, R413 to R415, R420; that a first INCOMPLETE is a result of its own is log 78,
the model's reading). -/
def Obligations.SlicesRunAndReport : Prop :=
  ∀ s : State, s.powered →
    (∀ id x n ref count misr failed, sliceOk id = true → count < 2 ^ 64 → misr < 2 ^ 64 → failed < 2 ^ 32 →
      s.bst.running.find? (fun x => x.id = id) = some x → s.sliceRef id = some (n, ref) → n ≤ count → misr = ref →
      (id.die = 5 → id.unit = 0 → failed = 0 ∧ s.bst.egressLeft = 0) →
      Yields (.sliceEnd id count misr failed) s fun t => t.reg Reg.BST_PASS_COUNT = s.reg Reg.BST_PASS_COUNT + 1) ∧
    (∀ id x, sliceOk id = true → s.bst.retry.find? (fun x => x.id = id ∧ (x.owner ≠ Owner.background ∨ s.bgLive)) = some x →
      s.unitFree id = true →
      Yields (.sliceRetry id) s fun t => ∃ y ∈ t.bst.running, y.id = id ∧ y.start = s.mono ∧ y.owner = x.owner) ∧
    (∀ x, s.bst.running.find? (fun x => x.id.die = 5 ∧ x.id.unit = 0 ∧ x.start + 25000000 ≤ s.mono ∧ s.bst.egressLeft ≠ 0) = some x →
      (s.sliceRef x.id).isSome = true →
      Yields .egressSliceBufferTimeout s fun t => t.reg Reg.BST_INCOMPLETE_COUNT = s.reg Reg.BST_INCOMPLETE_COUNT + 1 ∧
        t.flag Fld.BST_STATUS_INCOMPLETE_SEEN = true ∧
        (x.again = false → (∀ y ∈ s.bst.running, y.id.die = 5 → y.id.unit = 0 → y.id = x.id) →
          ∃ y ∈ t.bst.running, y.id = x.id ∧ y.again = true ∧ y.start = s.mono)) ∧
    ((s.pow.st = .ready ∨ s.pow.st = .stream ∨ s.pow.st = .take) → s.bst.bgLast + 250000 * s.fld Fld.BST_BG_PERIOD_VALUE ≤ s.mono →
      Yields .bgSliceTimer s fun t => t.bst.bgLast = s.mono)

/-! ## Frames: what commands leave alone -/

/-- The rings' and channels' own rows touch the host interface and its registers alone; those that let records go on may also end a
replay, whose last record has then left channel 4, and note its tick. -/
def Obligations.HostRowsTouchTheHostInterfaceOnly : Prop :=
  ∀ s : State,
    let hifReg := fun (o : Nat) => (0x400 ≤ o ∧ o < 0x800) ∨ o = Reg.GLB_INT_EN
    let ends := fun (i : Instr) => Touches i s [.hif, .cel] hifReg ∧
      ∀ t, exec i s = .next t → t.cel = { s.cel with replayEnd := t.cel.replayEnd }
    (∀ v, Touches (.cmdProd v) s [.hif] hifReg ∧ Touches (.cmpCons v) s [.hif] hifReg) ∧
    (∀ ch v d, ends (.chBufProd ch v d)) ∧
    (∀ ch v, ends (.chScmpCons ch v)) ∧
    (∀ v, Touches (.cmdEn v) s [.hif] hifReg ∧ Touches (.glbIntSummaryWrite v) s [] hifReg ∧ Touches (.glbIntEnWrite v) s [] hifReg) ∧
    (∀ ch v, ends (.channelEnable ch v) ∧ ends (.channelDisable ch v)) ∧
    (∀ n, Touches (.interruptModerationTimeout n) s [.hif] hifReg ∧ ends (.egressBufferAvailable n)) ∧
    (∀ ch e, ends (.recordTransferDone ch e)) ∧
    (∀ on, ends (.busMasterEnableChange on)) ∧
    Touches .d3hotEntry s [.hif] hifReg ∧ ends .d3hotExit ∧ Touches .linkDown s [.hif] hifReg ∧
    (∀ speed width, Touches (.linkUp speed width) s [.hif] hifReg)

/-- Events of one coil engine touch that engine alone, and a WAIT_KINK its peak register; writes of settings touch the register they
name, or the reject bit of its block, and beside them at most what the sensor, the radiometric table or the restoration keeps of them;
the rows of the housekeeping converter touch that converter, and those that may end a self-calibration the calibration that waits for it
(HKC_TRIM); the timers and edges of one other part touch that part alone. -/
def Obligations.EventsTouchTheirPartOnly : Prop :=
  ∀ s : State,
    (s.casks.cal = none → ∀ g,
      let none_ := fun (_ : Nat) => False
      let other := fun (i : Instr) => ∀ t, exec i s = .next t → ∀ g', g' ≠ g → t.eng g' = s.eng g'
      (∀ i ∈ [Instr.coilCurrentAtTarget g, .phase g, .phaseDurationEnd g, .waitKinkTimeout g, .jumpIf g, .mixedDecayFastEnd g,
          .coilBlankingEnd g true, .coilBlankingEnd g false],
        Touches i s [.coil] none_ ∧ other i) ∧
      Touches (.waitKink g) s [.coil] (fun o => o = grpDmax g) ∧ other (.waitKink g)) ∧
    (∀ v, Touches (.senBiasWrite v) s [.sen] (fun o => o = Reg.SEN_BIAS ∨ o = Reg.SEN_STATUS) ∧
      Touches (.senQrefWrite v) s [.sen] (fun o => o = Reg.SEN_QREF ∨ o = Reg.SEN_STATUS) ∧
      Touches (.swap v) s [] (fun o => o = Reg.PPL_RAD_CTRL ∨ o = Reg.PPL_STATUS) ∧
      Touches (.flush v) s [] (fun o => o = Reg.TRS_CTRL) ∧
      Touches (.pplRadDataWrite v) s [.rad] (fun o => o = Reg.PPL_RAD_ADDR ∨ o = Reg.PPL_STATUS) ∧
      Touches .lock s [] (fun o => o = Reg.SEC_STATUS)) ∧
    (∀ off v, Touches (.tmgTrigConfigWrite off v) s [] (fun o => o = off) ∧
      Touches (.tmgSyncConfigWrite off v) s [] (fun o => o = off ∨ o = Reg.TMG_STATUS) ∧
      Touches (.trsTauWrite off v) s [.trs] (fun o => o = off ∨ o = Reg.TRS_STATUS) ∧
      Touches (.calTrimWrite off v) s [] (fun o => o = off) ∧
      Touches (.coilUcodeWrite off v) s [] (fun o => o = Reg.COIL_UCODE off ∨ o = Reg.COIL_STATUS)) ∧
    (let hkcReg := fun (o : Nat) => 0x3400 ≤ o ∧ o < 0x3800
     (∀ i ∈ [Instr.selfcal, .hkcSelfcalStart, .hkcSelfcalPeriod, .qFlush], Touches i s [.hkc] hkcReg) ∧
     ∀ i ∈ [Instr.regGo, .hkcRegTimer, .hkcSelfcalDone], Touches i s [.hkc, .casks] hkcReg) ∧
    (let none_ := fun (_ : Nat) => False
     Touches .throttleStepTimer s [.tol] none_ ∧ Touches .debugChallengeExpire s [.sec] none_ ∧ Touches .ltcFreewheelEnd s [.tmg] none_ ∧
     Touches .masterConflictDecision s [.way] (fun o => o = Reg.WAY_CTRL) ∧ Touches .ringLockLoss s [.way] none_ ∧
     (∀ t l, Touches (.trigInEdge t l) s [.tmg] none_) ∧ Touches .ltcLossTimeout s [.tmg] (fun o => o = Reg.TMG_STATUS))

/-- The parts of the state, and the register blocks of 1 KiB, that a command can alter at most: for the host's commands at their
acceptance, the ring's messages and timers, the items between dies, and the smaller events of each part. Every other part, and every
register of another block, is as before; so is every byte of the NV store, for each command not named with it. -/
def Obligations.CommandsTouchTheirPartsOnly : Prop :=
  ∀ s : State,
    let only := fun (i : Instr) (ps : List Part) (blocks : List Nat) => Touches i s ps fun o => o / 0x400 ∈ blocks
    (∀ h, only (.startStream h) [.hif, .sec, .tol] [1] ∧ only (.stopStream h) [.hif, .tol] [1] ∧
      only (.abortReplay h) [.hif, .cel] [1] ∧ only (.nvStoreTrims h) [.hif, .nv] [1, 0xF] ∧
      (∀ p n, only (.setProfile h p n) [.hif, .tol] [1] ∧ ∀ m, only (.energyPlan h p n m) [.hif] [1]) ∧
      (∀ q, only (.armTake h q) [.hif, .cel, .tmg] [1]) ∧
      (∀ a, only (.debugUnlockChallenge h a) [.hif, .sec, .bst, .hkc] [1, 0x10]) ∧
      (∀ a b, only (.rackCask h a b) [.hif, .casks] [1] ∧ only (.saveCask h a b) [.hif, .casks] [1]) ∧
      (∀ a b c d e, only (.setBudget h a b c d e) [.hif, .tol] [1] ∧ only (.nvRead h a b c d e) [.hif] [1] ∧
        (∀ x, only (.nvWrite h a b c d e x) [.hif] [1]) ∧ ∀ f, only (.replayTake h a b c d e f) [.hif] [1])) ∧
    (only .timeSyncSend [.way] [] ∧ only .censusRequest [.way] [0x12] ∧ only .ringLock [.way] [] ∧ only .userSend [.way] [0x12] ∧
      (∀ c v, only (.ringBadMessage c v) [.way] [0x12]) ∧ only .alignHoldoverTimeout [.way, .hif] [1] ∧ only .censusTimeout [.way, .hif] [1, 0x12] ∧
      (∀ a b, only (.ringLoopTimeout a b) [.way] [0x12]) ∧ (∀ v, only (.wayCfgWrite v) [.way, .hif] [1, 0x12]) ∧
      ∀ m, only (.censusReq m) [.way] [0x12] ∧ only (.delay m) [.way] [0x12] ∧ only (.nack m) [.way] [0x12] ∧
        only (.user m) [.way, .hif] [1, 0x12] ∧ only (.census m) [.way, .hif] [1, 0x12] ∧
        only (.censusReply m) [.way, .hif] [1, 0x12] ∧ only (.ringMessageReturn m) [.way, .hif] [1, 0x12] ∧
        only (.frameEpoch m) [.way, .tmg] [0x12] ∧ only (.ringTrigger m) [.way, .tmg] [0x12]) ∧
    (∀ n i, only (.history n i) [.rol] [0xA] ∧ only (.backfeed n i) [.rol] [0xA] ∧
      only (.misdeliveredItemReturn n i) [.rol, .frames] [0xA] ∧ ∀ p, only (.halo n i p) [.rol, .frames] [0xA]) ∧
    (∀ n m, only (.diePrepared n m) [.rol, .cel] [9] ∧ only (.patrolScrub n m) [] [9] ∧ only (.replicaRestore n m) [.casks] [8] ∧
      ∀ a b, only (.replicaCheckDone n a b) [.casks, .hif] [1, 8]) ∧
    (only .roleSetReadyTimeout [.rol, .hif] [1] ∧ only .loadCaskCopyDone [.casks, .hif] [1, 3, 8] ∧ only .saveCaskDone [.casks, .hif] [1]) ∧
    ((∀ sc, only (.intermediateSnapshot sc) [.sen, .tmg] []) ∧ only .settlingEnd [.sen] [] ∧ only .gridFreezeTimeout [.sen] [3] ∧
      only .senGridFrameLoRead [.sen, .captures] [3] ∧ only .senGridFrameHiRead [.sen] [3] ∧ only .hkcQLoRead [.hkc, .captures] [] ∧
      (∀ t, only (.refInEdge t) [.tmg, .hif] [1, 2]) ∧ only .refLossTimeout [.tmg, .hif] [1, 2] ∧
      (∀ a b c d, only (.ltcFrame a b c d) [.tmg, .hif] [1, 2]) ∧ only .triggerAccept [.cel, .way, .hif, .tmg] [1, 2, 9]) ∧
    (only .takeTriggerFinal [.cel] [] ∧ only .takeInterruptedClose [.cel, .hif, .nv] [1, 9, 0xF] ∧
      only .critHoldClear [] [0xB] ∧ only .xchkInterval [.tol, .hif] [1, 0xB] ∧ only .critNvResume [.tol, .hif, .nv] [1, 0xF] ∧
      only .logDeferredWrite [.hif, .nv] [1, 0xF] ∧ only .powerOnHour [.nv] [0xF] ∧ only .nvAccessDone [.hif, .nv] [1, 0xF]) ∧
    (only .milestoneSigned [.sec, .cel, .hif] [1] ∧ only .trngHealthFail [.sec, .hif] [1] ∧ (∀ v, only (.secMboxReqWrite v) [] [0x11]) ∧
      (∀ id, only (.sliceRetry id) [.bst, .hkc, .hif, .tmg, .sec, .rol] [1]) ∧
      only .bgSliceTimer [.bst, .hkc, .hif, .tmg, .sec, .rol] [1])

/-! ## The machine as a whole -/

/-- One step carries out the command at the front of the queue with the queue's rest; with an empty queue one tick passes, which is
the model's own choice (log 1): device time goes on by one, wrapping at 64 bits, and the registers stand as they were, but for the
interrupt summary and, while a self-test slice of EGRESS moves pool buffers, their free count. -/
def Obligations.StepTakesTheFrontCommand : Prop :=
  ∀ s : State,
    (∀ c rest, s.pending = c :: rest → step s = exec c { s with pending := rest }) ∧
    (s.pending = [] → s.powered → ∃ t, step s = .next t ∧ t.now = (s.now + 1) % 2 ^ 64 ∧ t.mono = s.mono + 1 ∧ t.fresh = [] ∧
      t.pending = [] ∧ (∀ o, o ≠ Reg.HIF_POOL_FREE → tabGet resetVal t.held o = s.reg o) ∧
      (∀ o, o ≠ Reg.GLB_INT_SUMMARY → o ≠ Reg.HIF_POOL_FREE → t.reg o = s.reg o) ∧
      (s.egressTested = false → t.held = s.regs ∧ t.reg Reg.HIF_POOL_FREE = s.reg Reg.HIF_POOL_FREE)) ∧
    (s.pending = [] → s.pow.st = .off → step s = .next s)

/-- Every command whose operands are things the hardware has answers a next state, in every state; another one is a fault that names
it (log 3). In OFF nothing but the supplies and the reset pins acts (R309). -/
def Obligations.WellFormedCommandsComplete : Prop :=
  ∀ (i : Instr) (s : State),
    (i.wf = true → Completes (exec i s)) ∧
    (i.wf = false → ∃ m, exec i s = .fault (.illFormed m)) ∧
    (i.wf = true → isSupply i = false → s.pow.st = .off → exec i s = .next s)

/-- No command alters the queue or the variant, and none but those of the supplies and the reset pins alters elapsed time: the first
two are how the model is built, not rules of the spec. -/
def Obligations.CommandsKeepQueueAndTime : Prop :=
  ∀ (i : Instr) (s t : State), exec i s = .next t →
    t.pending = s.pending ∧ t.variant = s.variant ∧ (isSupply i = false → t.mono = s.mono)

/-- Every step keeps the NV store in its canonical form, with nothing written in FACTORY or past the end of its 512 KiB and no write
left uncommitted: FACTORY never changes (R357, R359). -/
def Obligations.StepsKeepTheStore : Prop :=
  ∀ s t : State, s.memoryOk = true → step s = .next t → t.memoryOk = true

/-- Right after reset device time is 0 and RECALL runs; every register reads its reset value, every ring and channel is disabled, no
command is outstanding, the default map is in force as version 1, the store lists nothing, the chip has its five dies and eight
channels (the variant being a BM4030-5 is the model's choice, log 4; that reset stands where RECALL begins is log 5, and that unwritten
NV bytes read 0 is log 19), none of them powered or enabled, Bus Master Enable is 0, and no command waits (R10, R57, R213, R256, R310,
R437). -/
def Obligations.ResetLeavesTheMachineAtRest : Prop :=
  State.reset.now = 0 ∧ State.reset.pow.st = .recall ∧ State.reset.variant = .bm5 ∧ State.reset.hif.busMaster = false ∧
    (∀ c ∈ State.reset.hif.chans, c.enabled = false) ∧ (∀ o, State.reset.reg o = resetVal o) ∧ State.reset.cmdRun = false ∧
    (∀ ch, ch < 8 → State.reset.chanOn ch = false) ∧ State.reset.hif.outstanding = [] ∧ State.reset.rol.version = 1 ∧
    State.reset.rol.map = defaultMap .bm5 ∧ State.reset.memoryOk = true ∧ State.reset.diesOk ∧ State.reset.chansOk ∧
    (∀ d ∈ State.reset.rol.dies, d.powered = false) ∧ State.reset.casks.active = 0xFF ∧ State.reset.pending = []
end

