-- ==== Sys2Proof/Laws/Table.lean ====
section
/-! SUPPORT. Laws of tables: what a table reads after a write, and that writing keeps the canonical form, for tables and for the
NV store's memory. -/

set_option Elab.async false

namespace Sys2Proof.Machine

open Sys2Proof

variable {α : Type}

/-- A key that has been taken out reads as unlisted. -/
theorem tabGet_tabDel_self (d : Nat → α) (t : Tab α) (k : Nat) : tabGet d (tabDel t k) k = d k := by
  induction t with
  | nil => rfl
  | cons e t ih =>
    obtain ⟨k', v⟩ := e
    by_cases h : k' = k <;> simp [tabDel, tabGet, h, ih]

/-- Taking a key out leaves every other key's value. -/
theorem tabGet_tabDel_ne (d : Nat → α) (t : Tab α) {k j : Nat} (h : j ≠ k) : tabGet d (tabDel t k) j = tabGet d t j := by
  induction t with
  | nil => rfl
  | cons e t ih =>
    obtain ⟨k', v⟩ := e
    by_cases h' : k' = k
    · subst h'
      simp [tabDel, tabGet, ih, Ne.symm h]
    · simp [tabDel, tabGet, h', ih]

/-- A key put into a table that does not list it reads as its value. -/
theorem tabGet_tabIns_self (d : Nat → α) (t : Tab α) (k : Nat) (v : α) (h : ∀ e ∈ t, e.1 ≠ k) :
    tabGet d (tabIns t k v) k = v := by
  induction t with
  | nil => simp [tabIns, tabGet]
  | cons e t ih =>
    obtain ⟨k', v'⟩ := e
    have hk : k' ≠ k := h (k', v') (by simp)
    by_cases h' : k < k'
    · simp [tabIns, tabGet, h']
    · simp [tabIns, tabGet, h', hk, ih fun e he => h e (by simp [he])]

/-- Putting a key in leaves every other key's value. -/
theorem tabGet_tabIns_ne (d : Nat → α) (t : Tab α) {k j : Nat} (v : α) (h : j ≠ k) :
    tabGet d (tabIns t k v) j = tabGet d t j := by
  induction t with
  | nil => simp [tabIns, tabGet, Ne.symm h]
  | cons e t ih =>
    obtain ⟨k', v'⟩ := e
    by_cases h' : k < k'
    · simp [tabIns, tabGet, h', Ne.symm h]
    · simp [tabIns, tabGet, h', ih]

/-- No entry of a key is left once it has been taken out. -/
theorem tabDel_ne (t : Tab α) (k : Nat) : ∀ e ∈ tabDel t k, e.1 ≠ k := by
  induction t with
  | nil => simp [tabDel]
  | cons e t ih =>
    obtain ⟨k', v⟩ := e
    by_cases h : k' = k
    · simp only [tabDel, h, if_true]; exact ih
    · simp only [tabDel, h, if_false, List.mem_cons]
      rintro e (rfl | he)
      · exact h
      · exact ih e he

variable [DecidableEq α]

/-- A written key reads as what was written. -/
@[simp] theorem tabGet_tabSet_self (d : Nat → α) (t : Tab α) (k : Nat) (v : α) : tabGet d (tabSet d t k v) k = v := by
  by_cases h : v = d k
  · simp [tabSet, h, tabGet_tabDel_self]
  · simp [tabSet, h, tabGet_tabIns_self d _ k v (tabDel_ne t k)]

/-- A write leaves every other key's value. -/
theorem tabGet_tabSet_ne (d : Nat → α) (t : Tab α) {k j : Nat} (v : α) (h : j ≠ k) :
    tabGet d (tabSet d t k v) j = tabGet d t j := by
  by_cases h' : v = d k
  · simp [tabSet, h', tabGet_tabDel_ne d t h]
  · simp [tabSet, h', tabGet_tabIns_ne d _ v h, tabGet_tabDel_ne d t h]

/-- A read after a write, at any key. -/
theorem tabGet_tabSet (d : Nat → α) (t : Tab α) (k j : Nat) (v : α) :
    tabGet d (tabSet d t k v) j = if j = k then v else tabGet d t j := by
  by_cases h : j = k
  · subst h; simp
  · simp [h, tabGet_tabSet_ne d t v h]

/-! ## The canonical form -/

theorem tabWfFrom_mono (d : Nat → α) {lo lo' : Nat} (t : Tab α) (hl : lo' ≤ lo) (h : tabWfFrom d lo t = true) :
    tabWfFrom d lo' t = true := by
  cases t with
  | nil => rfl
  | cons e t =>
    obtain ⟨k, v⟩ := e
    simp only [tabWfFrom, Bool.and_eq_true, decide_eq_true_eq] at h ⊢
    exact ⟨⟨by omega, h.1.2⟩, h.2⟩

theorem tabWfFrom_tabDel (d : Nat → α) (k : Nat) (t : Tab α) :
    ∀ lo, tabWfFrom d lo t = true → tabWfFrom d lo (tabDel t k) = true := by
  induction t with
  | nil => intro lo h; exact h
  | cons e t ih =>
    intro lo h
    obtain ⟨k', v⟩ := e
    simp only [tabWfFrom, Bool.and_eq_true, decide_eq_true_eq] at h
    by_cases h' : k' = k
    · simp only [tabDel, h', if_true]
      exact tabWfFrom_mono d _ (by omega) (ih _ h.2)
    · simp only [tabDel, h', if_false, tabWfFrom, Bool.and_eq_true, decide_eq_true_eq]
      exact ⟨h.1, ih _ h.2⟩

theorem tabWfFrom_tabIns (d : Nat → α) (k : Nat) (v : α) (hv : v ≠ d k) (t : Tab α) :
    ∀ lo, lo ≤ k → (∀ e ∈ t, e.1 ≠ k) → tabWfFrom d lo t = true → tabWfFrom d lo (tabIns t k v) = true := by
  induction t with
  | nil => intro lo hl _ _; simp [tabIns, tabWfFrom, hl, hv]
  | cons e t ih =>
    intro lo hl hn h
    obtain ⟨k', v'⟩ := e
    have hk : k' ≠ k := hn (k', v') (by simp)
    simp only [tabWfFrom, Bool.and_eq_true, decide_eq_true_eq] at h
    by_cases h' : k < k'
    · simp only [tabIns, h', if_true, tabWfFrom, Bool.and_eq_true, decide_eq_true_eq]
      exact ⟨⟨hl, hv⟩, ⟨by omega, h.1.2⟩, h.2⟩
    · simp only [tabIns, h', if_false, tabWfFrom, Bool.and_eq_true, decide_eq_true_eq]
      exact ⟨h.1, ih _ (by omega) (fun e he => hn e (by simp [he])) h.2⟩

/-- Writing a key keeps a table's canonical form. -/
theorem tabWf_tabSet (d : Nat → α) (t : Tab α) (k : Nat) (v : α) (h : tabWf d t = true) : tabWf d (tabSet d t k v) = true := by
  by_cases h' : v = d k
  · simpa [tabSet, h', tabWf] using tabWfFrom_tabDel d k t 0 h
  · simpa [tabSet, h', tabWf] using
      tabWfFrom_tabIns d k v h' _ 0 (by omega) (tabDel_ne t k) (tabWfFrom_tabDel d k t 0 h)

/-- Writing bytes keeps a table's canonical form. -/
theorem tabWf_tabPutBytes (d : Nat → Byte) (b : List Byte) :
    ∀ (t : Tab Byte) (a : Nat), tabWf d t = true → tabWf d (tabPutBytes d t a b) = true := by
  induction b with
  | nil => intro t a h; exact h
  | cons x b ih => intro t a h; exact ih _ _ (tabWf_tabSet d t a x h)

/-- What a byte table reads after bytes were written from `a` on. -/
theorem tabGet_tabPutBytes (d : Nat → Byte) (b : List Byte) :
    ∀ (t : Tab Byte) (a j : Nat),
      tabGet d (tabPutBytes d t a b) j = if a ≤ j ∧ j < a + b.length then b.getD (j - a) 0 else tabGet d t j := by
  induction b with
  | nil => intro t a j; simp [tabPutBytes]
  | cons x b ih =>
    intro t a j
    simp only [tabPutBytes, ih, List.length_cons, tabGet_tabSet]
    by_cases h1 : j = a
    · subst h1
      have h2 : ¬ j + 1 ≤ j := by omega
      simp [h2]
    · by_cases h2 : a + 1 ≤ j ∧ j < a + 1 + b.length
      · have h3 : a ≤ j ∧ j < a + (b.length + 1) := by omega
        obtain ⟨n, hn⟩ : ∃ n, j - a = n + 1 := ⟨j - a - 1, by omega⟩
        have h4 : j - (a + 1) = n := by omega
        simp [h2, h3, hn, h4]
      · have h3 : ¬(a ≤ j ∧ j < a + (b.length + 1)) := by omega
        rw [if_neg h2, if_neg h3, if_neg h1]

/-! ## The NV store's memory -/

/-- A key that a write lists is the written one or was listed before. -/
theorem mem_tabSet (d : Nat → α) (t : Tab α) (k : Nat) (v : α) : ∀ e ∈ tabSet d t k v, e.1 = k ∨ e ∈ t := by
  have hdel : ∀ (t : Tab α), ∀ e ∈ tabDel t k, e ∈ t := by
    intro t
    induction t with
    | nil => simp [tabDel]
    | cons e t ih =>
      obtain ⟨k', v'⟩ := e
      by_cases h : k' = k
      · simp only [tabDel, h, if_true]
        intro e he; exact List.mem_cons_of_mem _ (ih e he)
      · simp only [tabDel, h, if_false, List.mem_cons]
        rintro e (rfl | he)
        · exact .inl rfl
        · exact .inr (ih e he)
  have hins : ∀ (t : Tab α), ∀ e ∈ tabIns t k v, e.1 = k ∨ e ∈ t := by
    intro t
    induction t with
    | nil => simp [tabIns]
    | cons e t ih =>
      obtain ⟨k', v'⟩ := e
      by_cases h : k < k'
      · simp only [tabIns, h, if_true, List.mem_cons]
        rintro e (rfl | he)
        · exact .inl rfl
        · exact .inr he
      · simp only [tabIns, h, if_false, List.mem_cons]
        rintro e (rfl | he)
        · exact .inr (.inl rfl)
        · exact (ih e he).imp_right .inr
  intro e he
  by_cases h : v = d k
  · exact .inr (hdel t e (by simpa [tabSet, h] using he))
  · exact (hins _ e (by simpa [tabSet, h] using he)).imp_right (hdel t e)

/-- Every entry after bytes were written lies in the bytes' range or was there before. -/
theorem mem_tabPutBytes (d : Nat → Byte) (b : List Byte) :
    ∀ (t : Tab Byte) (a : Nat), ∀ e ∈ tabPutBytes d t a b, (a ≤ e.1 ∧ e.1 < a + b.length) ∨ e ∈ t := by
  induction b with
  | nil => intro t a e he; exact .inr he
  | cons x b ih =>
    intro t a e he
    simp only [List.length_cons]
    rcases ih _ _ e he with h | h
    · exact .inl (by omega)
    · rcases mem_tabSet d t a x e h with h | h
      · exact .inl (by omega)
      · exact .inr h

/-- One committed write keeps the canonical form of the NV store's memory. -/
theorem Memory.wf_tabPutBytes (m : Tab Byte) (a : Nat) (b : List Byte) (h : Memory.wf m = true) (ha : 0x4000 ≤ a)
    (hb : a + b.length ≤ 0x80000) : Memory.wf (tabPutBytes nvDflt m a b) = true := by
  simp only [Memory.wf, Bool.and_eq_true, List.all_eq_true, decide_eq_true_eq] at h ⊢
  refine ⟨tabWf_tabPutBytes nvDflt b m a h.1, fun e he => ?_⟩
  rcases mem_tabPutBytes nvDflt b m a e he with h' | h'
  · omega
  · exact h.2 e h'

/-- Committing writes keeps the canonical form of the NV store's memory. -/
theorem Memory.wf_nvApply (ws : List (Nat × List Byte)) :
    ∀ m : Tab Byte, Memory.wf m = true → Memory.wf (nvApply m ws) = true := by
  induction ws with
  | nil => intro m h; exact h
  | cons w ws ih =>
    intro m h
    obtain ⟨a, b⟩ := w
    simp only [nvApply]
    split
    · next hr => exact ih _ (Memory.wf_tabPutBytes m a b h hr.1 hr.2)
    · exact ih _ h

/-- Committing nothing changes nothing. -/
@[simp] theorem nvApply_nil (m : Tab Byte) : nvApply m [] = m := rfl

end Sys2Proof.Machine
end

