-- ==== Sys2Proof/Laws/State.lean ====
section
/-! SUPPORT. What each update of the state leaves alone: one law per field and update. -/

set_option Elab.async false

namespace Sys2Proof.Machine

open Sys2Proof

variable (s : State)

/-! ## `State.setReg` -/

@[simp] theorem State.setReg_variant (off : Nat) (v : Word) : (s.setReg off v).variant = s.variant := rfl
@[simp] theorem State.setReg_linkL12 (off : Nat) (v : Word) : (s.setReg off v).linkL12 = s.linkL12 := rfl
@[simp] theorem State.setReg_pending (off : Nat) (v : Word) : (s.setReg off v).pending = s.pending := rfl
@[simp] theorem State.setReg_now (off : Nat) (v : Word) : (s.setReg off v).now = s.now := rfl
@[simp] theorem State.setReg_mono (off : Nat) (v : Word) : (s.setReg off v).mono = s.mono := rfl
@[simp] theorem State.setReg_free (off : Nat) (v : Word) : (s.setReg off v).free = s.free := rfl
@[simp] theorem State.setReg_fresh (off : Nat) (v : Word) : (s.setReg off v).fresh = s.fresh := rfl
@[simp] theorem State.setReg_held (off : Nat) (v : Word) : (s.setReg off v).held = s.held := rfl
@[simp] theorem State.setReg_msix (off : Nat) (v : Word) : (s.setReg off v).msix = s.msix := rfl
@[simp] theorem State.setReg_cap (off : Nat) (v : Word) : (s.setReg off v).cap = s.cap := rfl
@[simp] theorem State.setReg_rested (off : Nat) (v : Word) : (s.setReg off v).rested = s.rested := rfl
@[simp] theorem State.setReg_outs (off : Nat) (v : Word) : (s.setReg off v).outs = s.outs := rfl
@[simp] theorem State.setReg_pow (off : Nat) (v : Word) : (s.setReg off v).pow = s.pow := rfl
@[simp] theorem State.setReg_hif (off : Nat) (v : Word) : (s.setReg off v).hif = s.hif := rfl
@[simp] theorem State.setReg_tmg (off : Nat) (v : Word) : (s.setReg off v).tmg = s.tmg := rfl
@[simp] theorem State.setReg_sen (off : Nat) (v : Word) : (s.setReg off v).sen = s.sen := rfl
@[simp] theorem State.setReg_frames (off : Nat) (v : Word) : (s.setReg off v).frames = s.frames := rfl
@[simp] theorem State.setReg_trs (off : Nat) (v : Word) : (s.setReg off v).trs = s.trs := rfl
@[simp] theorem State.setReg_rad (off : Nat) (v : Word) : (s.setReg off v).rad = s.rad := rfl
@[simp] theorem State.setReg_casks (off : Nat) (v : Word) : (s.setReg off v).casks = s.casks := rfl
@[simp] theorem State.setReg_coil (off : Nat) (v : Word) : (s.setReg off v).coil = s.coil := rfl
@[simp] theorem State.setReg_rol (off : Nat) (v : Word) : (s.setReg off v).rol = s.rol := rfl
@[simp] theorem State.setReg_cel (off : Nat) (v : Word) : (s.setReg off v).cel = s.cel := rfl
@[simp] theorem State.setReg_way (off : Nat) (v : Word) : (s.setReg off v).way = s.way := rfl
@[simp] theorem State.setReg_tol (off : Nat) (v : Word) : (s.setReg off v).tol = s.tol := rfl
@[simp] theorem State.setReg_hkc (off : Nat) (v : Word) : (s.setReg off v).hkc = s.hkc := rfl
@[simp] theorem State.setReg_nv (off : Nat) (v : Word) : (s.setReg off v).nv = s.nv := rfl
@[simp] theorem State.setReg_sec (off : Nat) (v : Word) : (s.setReg off v).sec = s.sec := rfl
@[simp] theorem State.setReg_bst (off : Nat) (v : Word) : (s.setReg off v).bst = s.bst := rfl

/-! ## `State.setRegN` -/

@[simp] theorem State.setRegN_variant (off n : Nat) : (s.setRegN off n).variant = s.variant := rfl
@[simp] theorem State.setRegN_linkL12 (off n : Nat) : (s.setRegN off n).linkL12 = s.linkL12 := rfl
@[simp] theorem State.setRegN_pending (off n : Nat) : (s.setRegN off n).pending = s.pending := rfl
@[simp] theorem State.setRegN_now (off n : Nat) : (s.setRegN off n).now = s.now := rfl
@[simp] theorem State.setRegN_mono (off n : Nat) : (s.setRegN off n).mono = s.mono := rfl
@[simp] theorem State.setRegN_free (off n : Nat) : (s.setRegN off n).free = s.free := rfl
@[simp] theorem State.setRegN_fresh (off n : Nat) : (s.setRegN off n).fresh = s.fresh := rfl
@[simp] theorem State.setRegN_held (off n : Nat) : (s.setRegN off n).held = s.held := rfl
@[simp] theorem State.setRegN_msix (off n : Nat) : (s.setRegN off n).msix = s.msix := rfl
@[simp] theorem State.setRegN_cap (off n : Nat) : (s.setRegN off n).cap = s.cap := rfl
@[simp] theorem State.setRegN_rested (off n : Nat) : (s.setRegN off n).rested = s.rested := rfl
@[simp] theorem State.setRegN_outs (off n : Nat) : (s.setRegN off n).outs = s.outs := rfl
@[simp] theorem State.setRegN_pow (off n : Nat) : (s.setRegN off n).pow = s.pow := rfl
@[simp] theorem State.setRegN_hif (off n : Nat) : (s.setRegN off n).hif = s.hif := rfl
@[simp] theorem State.setRegN_tmg (off n : Nat) : (s.setRegN off n).tmg = s.tmg := rfl
@[simp] theorem State.setRegN_sen (off n : Nat) : (s.setRegN off n).sen = s.sen := rfl
@[simp] theorem State.setRegN_frames (off n : Nat) : (s.setRegN off n).frames = s.frames := rfl
@[simp] theorem State.setRegN_trs (off n : Nat) : (s.setRegN off n).trs = s.trs := rfl
@[simp] theorem State.setRegN_rad (off n : Nat) : (s.setRegN off n).rad = s.rad := rfl
@[simp] theorem State.setRegN_casks (off n : Nat) : (s.setRegN off n).casks = s.casks := rfl
@[simp] theorem State.setRegN_coil (off n : Nat) : (s.setRegN off n).coil = s.coil := rfl
@[simp] theorem State.setRegN_rol (off n : Nat) : (s.setRegN off n).rol = s.rol := rfl
@[simp] theorem State.setRegN_cel (off n : Nat) : (s.setRegN off n).cel = s.cel := rfl
@[simp] theorem State.setRegN_way (off n : Nat) : (s.setRegN off n).way = s.way := rfl
@[simp] theorem State.setRegN_tol (off n : Nat) : (s.setRegN off n).tol = s.tol := rfl
@[simp] theorem State.setRegN_hkc (off n : Nat) : (s.setRegN off n).hkc = s.hkc := rfl
@[simp] theorem State.setRegN_nv (off n : Nat) : (s.setRegN off n).nv = s.nv := rfl
@[simp] theorem State.setRegN_sec (off n : Nat) : (s.setRegN off n).sec = s.sec := rfl
@[simp] theorem State.setRegN_bst (off n : Nat) : (s.setRegN off n).bst = s.bst := rfl

/-! ## `State.setFld` -/

@[simp] theorem State.setFld_variant (f : Fld) (x : Nat) : (s.setFld f x).variant = s.variant := rfl
@[simp] theorem State.setFld_linkL12 (f : Fld) (x : Nat) : (s.setFld f x).linkL12 = s.linkL12 := rfl
@[simp] theorem State.setFld_pending (f : Fld) (x : Nat) : (s.setFld f x).pending = s.pending := rfl
@[simp] theorem State.setFld_now (f : Fld) (x : Nat) : (s.setFld f x).now = s.now := rfl
@[simp] theorem State.setFld_mono (f : Fld) (x : Nat) : (s.setFld f x).mono = s.mono := rfl
@[simp] theorem State.setFld_free (f : Fld) (x : Nat) : (s.setFld f x).free = s.free := rfl
@[simp] theorem State.setFld_fresh (f : Fld) (x : Nat) : (s.setFld f x).fresh = s.fresh := rfl
@[simp] theorem State.setFld_held (f : Fld) (x : Nat) : (s.setFld f x).held = s.held := rfl
@[simp] theorem State.setFld_msix (f : Fld) (x : Nat) : (s.setFld f x).msix = s.msix := rfl
@[simp] theorem State.setFld_cap (f : Fld) (x : Nat) : (s.setFld f x).cap = s.cap := rfl
@[simp] theorem State.setFld_rested (f : Fld) (x : Nat) : (s.setFld f x).rested = s.rested := rfl
@[simp] theorem State.setFld_outs (f : Fld) (x : Nat) : (s.setFld f x).outs = s.outs := rfl
@[simp] theorem State.setFld_pow (f : Fld) (x : Nat) : (s.setFld f x).pow = s.pow := rfl
@[simp] theorem State.setFld_hif (f : Fld) (x : Nat) : (s.setFld f x).hif = s.hif := rfl
@[simp] theorem State.setFld_tmg (f : Fld) (x : Nat) : (s.setFld f x).tmg = s.tmg := rfl
@[simp] theorem State.setFld_sen (f : Fld) (x : Nat) : (s.setFld f x).sen = s.sen := rfl
@[simp] theorem State.setFld_frames (f : Fld) (x : Nat) : (s.setFld f x).frames = s.frames := rfl
@[simp] theorem State.setFld_trs (f : Fld) (x : Nat) : (s.setFld f x).trs = s.trs := rfl
@[simp] theorem State.setFld_rad (f : Fld) (x : Nat) : (s.setFld f x).rad = s.rad := rfl
@[simp] theorem State.setFld_casks (f : Fld) (x : Nat) : (s.setFld f x).casks = s.casks := rfl
@[simp] theorem State.setFld_coil (f : Fld) (x : Nat) : (s.setFld f x).coil = s.coil := rfl
@[simp] theorem State.setFld_rol (f : Fld) (x : Nat) : (s.setFld f x).rol = s.rol := rfl
@[simp] theorem State.setFld_cel (f : Fld) (x : Nat) : (s.setFld f x).cel = s.cel := rfl
@[simp] theorem State.setFld_way (f : Fld) (x : Nat) : (s.setFld f x).way = s.way := rfl
@[simp] theorem State.setFld_tol (f : Fld) (x : Nat) : (s.setFld f x).tol = s.tol := rfl
@[simp] theorem State.setFld_hkc (f : Fld) (x : Nat) : (s.setFld f x).hkc = s.hkc := rfl
@[simp] theorem State.setFld_nv (f : Fld) (x : Nat) : (s.setFld f x).nv = s.nv := rfl
@[simp] theorem State.setFld_sec (f : Fld) (x : Nat) : (s.setFld f x).sec = s.sec := rfl
@[simp] theorem State.setFld_bst (f : Fld) (x : Nat) : (s.setFld f x).bst = s.bst := rfl

/-! ## `State.setPair` -/

@[simp] theorem State.setPair_variant (lo v : Nat) : (s.setPair lo v).variant = s.variant := rfl
@[simp] theorem State.setPair_linkL12 (lo v : Nat) : (s.setPair lo v).linkL12 = s.linkL12 := rfl
@[simp] theorem State.setPair_pending (lo v : Nat) : (s.setPair lo v).pending = s.pending := rfl
@[simp] theorem State.setPair_now (lo v : Nat) : (s.setPair lo v).now = s.now := rfl
@[simp] theorem State.setPair_mono (lo v : Nat) : (s.setPair lo v).mono = s.mono := rfl
@[simp] theorem State.setPair_free (lo v : Nat) : (s.setPair lo v).free = s.free := rfl
@[simp] theorem State.setPair_fresh (lo v : Nat) : (s.setPair lo v).fresh = s.fresh := rfl
@[simp] theorem State.setPair_held (lo v : Nat) : (s.setPair lo v).held = s.held := rfl
@[simp] theorem State.setPair_msix (lo v : Nat) : (s.setPair lo v).msix = s.msix := rfl
@[simp] theorem State.setPair_cap (lo v : Nat) : (s.setPair lo v).cap = s.cap := rfl
@[simp] theorem State.setPair_rested (lo v : Nat) : (s.setPair lo v).rested = s.rested := rfl
@[simp] theorem State.setPair_outs (lo v : Nat) : (s.setPair lo v).outs = s.outs := rfl
@[simp] theorem State.setPair_pow (lo v : Nat) : (s.setPair lo v).pow = s.pow := rfl
@[simp] theorem State.setPair_hif (lo v : Nat) : (s.setPair lo v).hif = s.hif := rfl
@[simp] theorem State.setPair_tmg (lo v : Nat) : (s.setPair lo v).tmg = s.tmg := rfl
@[simp] theorem State.setPair_sen (lo v : Nat) : (s.setPair lo v).sen = s.sen := rfl
@[simp] theorem State.setPair_frames (lo v : Nat) : (s.setPair lo v).frames = s.frames := rfl
@[simp] theorem State.setPair_trs (lo v : Nat) : (s.setPair lo v).trs = s.trs := rfl
@[simp] theorem State.setPair_rad (lo v : Nat) : (s.setPair lo v).rad = s.rad := rfl
@[simp] theorem State.setPair_casks (lo v : Nat) : (s.setPair lo v).casks = s.casks := rfl
@[simp] theorem State.setPair_coil (lo v : Nat) : (s.setPair lo v).coil = s.coil := rfl
@[simp] theorem State.setPair_rol (lo v : Nat) : (s.setPair lo v).rol = s.rol := rfl
@[simp] theorem State.setPair_cel (lo v : Nat) : (s.setPair lo v).cel = s.cel := rfl
@[simp] theorem State.setPair_way (lo v : Nat) : (s.setPair lo v).way = s.way := rfl
@[simp] theorem State.setPair_tol (lo v : Nat) : (s.setPair lo v).tol = s.tol := rfl
@[simp] theorem State.setPair_hkc (lo v : Nat) : (s.setPair lo v).hkc = s.hkc := rfl
@[simp] theorem State.setPair_nv (lo v : Nat) : (s.setPair lo v).nv = s.nv := rfl
@[simp] theorem State.setPair_sec (lo v : Nat) : (s.setPair lo v).sec = s.sec := rfl
@[simp] theorem State.setPair_bst (lo v : Nat) : (s.setPair lo v).bst = s.bst := rfl

/-! ## `State.bump` -/

@[simp] theorem State.bump_variant (off n : Nat) : (s.bump off n).variant = s.variant := rfl
@[simp] theorem State.bump_linkL12 (off n : Nat) : (s.bump off n).linkL12 = s.linkL12 := rfl
@[simp] theorem State.bump_pending (off n : Nat) : (s.bump off n).pending = s.pending := rfl
@[simp] theorem State.bump_now (off n : Nat) : (s.bump off n).now = s.now := rfl
@[simp] theorem State.bump_mono (off n : Nat) : (s.bump off n).mono = s.mono := rfl
@[simp] theorem State.bump_free (off n : Nat) : (s.bump off n).free = s.free := rfl
@[simp] theorem State.bump_fresh (off n : Nat) : (s.bump off n).fresh = s.fresh := rfl
@[simp] theorem State.bump_held (off n : Nat) : (s.bump off n).held = s.held := rfl
@[simp] theorem State.bump_msix (off n : Nat) : (s.bump off n).msix = s.msix := rfl
@[simp] theorem State.bump_cap (off n : Nat) : (s.bump off n).cap = s.cap := rfl
@[simp] theorem State.bump_rested (off n : Nat) : (s.bump off n).rested = s.rested := rfl
@[simp] theorem State.bump_outs (off n : Nat) : (s.bump off n).outs = s.outs := rfl
@[simp] theorem State.bump_pow (off n : Nat) : (s.bump off n).pow = s.pow := rfl
@[simp] theorem State.bump_hif (off n : Nat) : (s.bump off n).hif = s.hif := rfl
@[simp] theorem State.bump_tmg (off n : Nat) : (s.bump off n).tmg = s.tmg := rfl
@[simp] theorem State.bump_sen (off n : Nat) : (s.bump off n).sen = s.sen := rfl
@[simp] theorem State.bump_frames (off n : Nat) : (s.bump off n).frames = s.frames := rfl
@[simp] theorem State.bump_trs (off n : Nat) : (s.bump off n).trs = s.trs := rfl
@[simp] theorem State.bump_rad (off n : Nat) : (s.bump off n).rad = s.rad := rfl
@[simp] theorem State.bump_casks (off n : Nat) : (s.bump off n).casks = s.casks := rfl
@[simp] theorem State.bump_coil (off n : Nat) : (s.bump off n).coil = s.coil := rfl
@[simp] theorem State.bump_rol (off n : Nat) : (s.bump off n).rol = s.rol := rfl
@[simp] theorem State.bump_cel (off n : Nat) : (s.bump off n).cel = s.cel := rfl
@[simp] theorem State.bump_way (off n : Nat) : (s.bump off n).way = s.way := rfl
@[simp] theorem State.bump_tol (off n : Nat) : (s.bump off n).tol = s.tol := rfl
@[simp] theorem State.bump_hkc (off n : Nat) : (s.bump off n).hkc = s.hkc := rfl
@[simp] theorem State.bump_nv (off n : Nat) : (s.bump off n).nv = s.nv := rfl
@[simp] theorem State.bump_sec (off n : Nat) : (s.bump off n).sec = s.sec := rfl
@[simp] theorem State.bump_bst (off n : Nat) : (s.bump off n).bst = s.bst := rfl

/-! ## `State.bumpFld` -/

@[simp] theorem State.bumpFld_variant (f : Fld) (n : Nat) : (s.bumpFld f n).variant = s.variant := rfl
@[simp] theorem State.bumpFld_linkL12 (f : Fld) (n : Nat) : (s.bumpFld f n).linkL12 = s.linkL12 := rfl
@[simp] theorem State.bumpFld_pending (f : Fld) (n : Nat) : (s.bumpFld f n).pending = s.pending := rfl
@[simp] theorem State.bumpFld_now (f : Fld) (n : Nat) : (s.bumpFld f n).now = s.now := rfl
@[simp] theorem State.bumpFld_mono (f : Fld) (n : Nat) : (s.bumpFld f n).mono = s.mono := rfl
@[simp] theorem State.bumpFld_free (f : Fld) (n : Nat) : (s.bumpFld f n).free = s.free := rfl
@[simp] theorem State.bumpFld_fresh (f : Fld) (n : Nat) : (s.bumpFld f n).fresh = s.fresh := rfl
@[simp] theorem State.bumpFld_held (f : Fld) (n : Nat) : (s.bumpFld f n).held = s.held := rfl
@[simp] theorem State.bumpFld_msix (f : Fld) (n : Nat) : (s.bumpFld f n).msix = s.msix := rfl
@[simp] theorem State.bumpFld_cap (f : Fld) (n : Nat) : (s.bumpFld f n).cap = s.cap := rfl
@[simp] theorem State.bumpFld_rested (f : Fld) (n : Nat) : (s.bumpFld f n).rested = s.rested := rfl
@[simp] theorem State.bumpFld_outs (f : Fld) (n : Nat) : (s.bumpFld f n).outs = s.outs := rfl
@[simp] theorem State.bumpFld_pow (f : Fld) (n : Nat) : (s.bumpFld f n).pow = s.pow := rfl
@[simp] theorem State.bumpFld_hif (f : Fld) (n : Nat) : (s.bumpFld f n).hif = s.hif := rfl
@[simp] theorem State.bumpFld_tmg (f : Fld) (n : Nat) : (s.bumpFld f n).tmg = s.tmg := rfl
@[simp] theorem State.bumpFld_sen (f : Fld) (n : Nat) : (s.bumpFld f n).sen = s.sen := rfl
@[simp] theorem State.bumpFld_frames (f : Fld) (n : Nat) : (s.bumpFld f n).frames = s.frames := rfl
@[simp] theorem State.bumpFld_trs (f : Fld) (n : Nat) : (s.bumpFld f n).trs = s.trs := rfl
@[simp] theorem State.bumpFld_rad (f : Fld) (n : Nat) : (s.bumpFld f n).rad = s.rad := rfl
@[simp] theorem State.bumpFld_casks (f : Fld) (n : Nat) : (s.bumpFld f n).casks = s.casks := rfl
@[simp] theorem State.bumpFld_coil (f : Fld) (n : Nat) : (s.bumpFld f n).coil = s.coil := rfl
@[simp] theorem State.bumpFld_rol (f : Fld) (n : Nat) : (s.bumpFld f n).rol = s.rol := rfl
@[simp] theorem State.bumpFld_cel (f : Fld) (n : Nat) : (s.bumpFld f n).cel = s.cel := rfl
@[simp] theorem State.bumpFld_way (f : Fld) (n : Nat) : (s.bumpFld f n).way = s.way := rfl
@[simp] theorem State.bumpFld_tol (f : Fld) (n : Nat) : (s.bumpFld f n).tol = s.tol := rfl
@[simp] theorem State.bumpFld_hkc (f : Fld) (n : Nat) : (s.bumpFld f n).hkc = s.hkc := rfl
@[simp] theorem State.bumpFld_nv (f : Fld) (n : Nat) : (s.bumpFld f n).nv = s.nv := rfl
@[simp] theorem State.bumpFld_sec (f : Fld) (n : Nat) : (s.bumpFld f n).sec = s.sec := rfl
@[simp] theorem State.bumpFld_bst (f : Fld) (n : Nat) : (s.bumpFld f n).bst = s.bst := rfl

/-! ## `State.hostSet` -/

@[simp] theorem State.hostSet_variant (off : Nat) (v : Word) : (s.hostSet off v).variant = s.variant := rfl
@[simp] theorem State.hostSet_linkL12 (off : Nat) (v : Word) : (s.hostSet off v).linkL12 = s.linkL12 := rfl
@[simp] theorem State.hostSet_pending (off : Nat) (v : Word) : (s.hostSet off v).pending = s.pending := rfl
@[simp] theorem State.hostSet_now (off : Nat) (v : Word) : (s.hostSet off v).now = s.now := rfl
@[simp] theorem State.hostSet_mono (off : Nat) (v : Word) : (s.hostSet off v).mono = s.mono := rfl
@[simp] theorem State.hostSet_free (off : Nat) (v : Word) : (s.hostSet off v).free = s.free := rfl
@[simp] theorem State.hostSet_fresh (off : Nat) (v : Word) : (s.hostSet off v).fresh = s.fresh := rfl
@[simp] theorem State.hostSet_held (off : Nat) (v : Word) : (s.hostSet off v).held = s.held := rfl
@[simp] theorem State.hostSet_msix (off : Nat) (v : Word) : (s.hostSet off v).msix = s.msix := rfl
@[simp] theorem State.hostSet_cap (off : Nat) (v : Word) : (s.hostSet off v).cap = s.cap := rfl
@[simp] theorem State.hostSet_rested (off : Nat) (v : Word) : (s.hostSet off v).rested = s.rested := rfl
@[simp] theorem State.hostSet_outs (off : Nat) (v : Word) : (s.hostSet off v).outs = s.outs := rfl
@[simp] theorem State.hostSet_pow (off : Nat) (v : Word) : (s.hostSet off v).pow = s.pow := rfl
@[simp] theorem State.hostSet_hif (off : Nat) (v : Word) : (s.hostSet off v).hif = s.hif := rfl
@[simp] theorem State.hostSet_tmg (off : Nat) (v : Word) : (s.hostSet off v).tmg = s.tmg := rfl
@[simp] theorem State.hostSet_sen (off : Nat) (v : Word) : (s.hostSet off v).sen = s.sen := rfl
@[simp] theorem State.hostSet_frames (off : Nat) (v : Word) : (s.hostSet off v).frames = s.frames := rfl
@[simp] theorem State.hostSet_trs (off : Nat) (v : Word) : (s.hostSet off v).trs = s.trs := rfl
@[simp] theorem State.hostSet_rad (off : Nat) (v : Word) : (s.hostSet off v).rad = s.rad := rfl
@[simp] theorem State.hostSet_casks (off : Nat) (v : Word) : (s.hostSet off v).casks = s.casks := rfl
@[simp] theorem State.hostSet_coil (off : Nat) (v : Word) : (s.hostSet off v).coil = s.coil := rfl
@[simp] theorem State.hostSet_rol (off : Nat) (v : Word) : (s.hostSet off v).rol = s.rol := rfl
@[simp] theorem State.hostSet_cel (off : Nat) (v : Word) : (s.hostSet off v).cel = s.cel := rfl
@[simp] theorem State.hostSet_way (off : Nat) (v : Word) : (s.hostSet off v).way = s.way := rfl
@[simp] theorem State.hostSet_tol (off : Nat) (v : Word) : (s.hostSet off v).tol = s.tol := rfl
@[simp] theorem State.hostSet_hkc (off : Nat) (v : Word) : (s.hostSet off v).hkc = s.hkc := rfl
@[simp] theorem State.hostSet_nv (off : Nat) (v : Word) : (s.hostSet off v).nv = s.nv := rfl
@[simp] theorem State.hostSet_sec (off : Nat) (v : Word) : (s.hostSet off v).sec = s.sec := rfl
@[simp] theorem State.hostSet_bst (off : Nat) (v : Word) : (s.hostSet off v).bst = s.bst := rfl

/-! ## `State.sticky` -/

@[simp] theorem State.sticky_variant (f : Fld) : (s.sticky f).variant = s.variant := rfl
@[simp] theorem State.sticky_linkL12 (f : Fld) : (s.sticky f).linkL12 = s.linkL12 := rfl
@[simp] theorem State.sticky_pending (f : Fld) : (s.sticky f).pending = s.pending := rfl
@[simp] theorem State.sticky_now (f : Fld) : (s.sticky f).now = s.now := rfl
@[simp] theorem State.sticky_mono (f : Fld) : (s.sticky f).mono = s.mono := rfl
@[simp] theorem State.sticky_free (f : Fld) : (s.sticky f).free = s.free := rfl
@[simp] theorem State.sticky_held (f : Fld) : (s.sticky f).held = s.held := rfl
@[simp] theorem State.sticky_msix (f : Fld) : (s.sticky f).msix = s.msix := rfl
@[simp] theorem State.sticky_cap (f : Fld) : (s.sticky f).cap = s.cap := rfl
@[simp] theorem State.sticky_rested (f : Fld) : (s.sticky f).rested = s.rested := rfl
@[simp] theorem State.sticky_outs (f : Fld) : (s.sticky f).outs = s.outs := rfl
@[simp] theorem State.sticky_pow (f : Fld) : (s.sticky f).pow = s.pow := rfl
@[simp] theorem State.sticky_hif (f : Fld) : (s.sticky f).hif = s.hif := rfl
@[simp] theorem State.sticky_tmg (f : Fld) : (s.sticky f).tmg = s.tmg := rfl
@[simp] theorem State.sticky_sen (f : Fld) : (s.sticky f).sen = s.sen := rfl
@[simp] theorem State.sticky_frames (f : Fld) : (s.sticky f).frames = s.frames := rfl
@[simp] theorem State.sticky_trs (f : Fld) : (s.sticky f).trs = s.trs := rfl
@[simp] theorem State.sticky_rad (f : Fld) : (s.sticky f).rad = s.rad := rfl
@[simp] theorem State.sticky_casks (f : Fld) : (s.sticky f).casks = s.casks := rfl
@[simp] theorem State.sticky_coil (f : Fld) : (s.sticky f).coil = s.coil := rfl
@[simp] theorem State.sticky_rol (f : Fld) : (s.sticky f).rol = s.rol := rfl
@[simp] theorem State.sticky_cel (f : Fld) : (s.sticky f).cel = s.cel := rfl
@[simp] theorem State.sticky_way (f : Fld) : (s.sticky f).way = s.way := rfl
@[simp] theorem State.sticky_tol (f : Fld) : (s.sticky f).tol = s.tol := rfl
@[simp] theorem State.sticky_hkc (f : Fld) : (s.sticky f).hkc = s.hkc := rfl
@[simp] theorem State.sticky_nv (f : Fld) : (s.sticky f).nv = s.nv := rfl
@[simp] theorem State.sticky_sec (f : Fld) : (s.sticky f).sec = s.sec := rfl
@[simp] theorem State.sticky_bst (f : Fld) : (s.sticky f).bst = s.bst := rfl

/-! ## `State.drew` -/

@[simp] theorem State.drew_variant : (s.drew).variant = s.variant := rfl
@[simp] theorem State.drew_linkL12 : (s.drew).linkL12 = s.linkL12 := rfl
@[simp] theorem State.drew_pending : (s.drew).pending = s.pending := rfl
@[simp] theorem State.drew_now : (s.drew).now = s.now := rfl
@[simp] theorem State.drew_mono : (s.drew).mono = s.mono := rfl
@[simp] theorem State.drew_regs : (s.drew).regs = s.regs := rfl
@[simp] theorem State.drew_fresh : (s.drew).fresh = s.fresh := rfl
@[simp] theorem State.drew_held : (s.drew).held = s.held := rfl
@[simp] theorem State.drew_msix : (s.drew).msix = s.msix := rfl
@[simp] theorem State.drew_cap : (s.drew).cap = s.cap := rfl
@[simp] theorem State.drew_rested : (s.drew).rested = s.rested := rfl
@[simp] theorem State.drew_outs : (s.drew).outs = s.outs := rfl
@[simp] theorem State.drew_pow : (s.drew).pow = s.pow := rfl
@[simp] theorem State.drew_hif : (s.drew).hif = s.hif := rfl
@[simp] theorem State.drew_tmg : (s.drew).tmg = s.tmg := rfl
@[simp] theorem State.drew_sen : (s.drew).sen = s.sen := rfl
@[simp] theorem State.drew_frames : (s.drew).frames = s.frames := rfl
@[simp] theorem State.drew_trs : (s.drew).trs = s.trs := rfl
@[simp] theorem State.drew_rad : (s.drew).rad = s.rad := rfl
@[simp] theorem State.drew_casks : (s.drew).casks = s.casks := rfl
@[simp] theorem State.drew_coil : (s.drew).coil = s.coil := rfl
@[simp] theorem State.drew_rol : (s.drew).rol = s.rol := rfl
@[simp] theorem State.drew_cel : (s.drew).cel = s.cel := rfl
@[simp] theorem State.drew_way : (s.drew).way = s.way := rfl
@[simp] theorem State.drew_tol : (s.drew).tol = s.tol := rfl
@[simp] theorem State.drew_hkc : (s.drew).hkc = s.hkc := rfl
@[simp] theorem State.drew_nv : (s.drew).nv = s.nv := rfl
@[simp] theorem State.drew_sec : (s.drew).sec = s.sec := rfl
@[simp] theorem State.drew_bst : (s.drew).bst = s.bst := rfl

/-! ## `State.woken` -/

@[simp] theorem State.woken_variant : s.woken.variant = s.variant := rfl
@[simp] theorem State.woken_pending : s.woken.pending = s.pending := rfl
@[simp] theorem State.woken_now : s.woken.now = s.now := rfl
@[simp] theorem State.woken_mono : s.woken.mono = s.mono := rfl
@[simp] theorem State.woken_free : s.woken.free = s.free := rfl
@[simp] theorem State.woken_regs : s.woken.regs = s.regs := rfl
@[simp] theorem State.woken_fresh : s.woken.fresh = s.fresh := rfl
@[simp] theorem State.woken_held : s.woken.held = s.held := rfl
@[simp] theorem State.woken_msix : s.woken.msix = s.msix := rfl
@[simp] theorem State.woken_cap : s.woken.cap = s.cap := rfl
@[simp] theorem State.woken_rested : s.woken.rested = s.rested := rfl
@[simp] theorem State.woken_pow : s.woken.pow = s.pow := rfl
@[simp] theorem State.woken_hif : s.woken.hif = s.hif := rfl
@[simp] theorem State.woken_tmg : s.woken.tmg = s.tmg := rfl
@[simp] theorem State.woken_sen : s.woken.sen = s.sen := rfl
@[simp] theorem State.woken_frames : s.woken.frames = s.frames := rfl
@[simp] theorem State.woken_trs : s.woken.trs = s.trs := rfl
@[simp] theorem State.woken_rad : s.woken.rad = s.rad := rfl
@[simp] theorem State.woken_casks : s.woken.casks = s.casks := rfl
@[simp] theorem State.woken_coil : s.woken.coil = s.coil := rfl
@[simp] theorem State.woken_rol : s.woken.rol = s.rol := rfl
@[simp] theorem State.woken_cel : s.woken.cel = s.cel := rfl
@[simp] theorem State.woken_way : s.woken.way = s.way := rfl
@[simp] theorem State.woken_tol : s.woken.tol = s.tol := rfl
@[simp] theorem State.woken_hkc : s.woken.hkc = s.hkc := rfl
@[simp] theorem State.woken_nv : s.woken.nv = s.nv := rfl
@[simp] theorem State.woken_sec : s.woken.sec = s.sec := rfl
@[simp] theorem State.woken_bst : s.woken.bst = s.bst := rfl
@[simp] theorem State.woken_outs : s.woken.outs = s.outs := rfl
@[simp] theorem State.woken_linkL12 : s.woken.linkL12 = false := rfl

/-! ## `State.emit` -/

@[simp] theorem State.emit_linkL12 (o : Out) : (s.emit o).linkL12 = (s.linkL12 && !o.onLink) := rfl
@[simp] theorem State.emit_variant (o : Out) : (s.emit o).variant = s.variant := rfl
@[simp] theorem State.emit_pending (o : Out) : (s.emit o).pending = s.pending := rfl
@[simp] theorem State.emit_now (o : Out) : (s.emit o).now = s.now := rfl
@[simp] theorem State.emit_mono (o : Out) : (s.emit o).mono = s.mono := rfl
@[simp] theorem State.emit_free (o : Out) : (s.emit o).free = s.free := rfl
@[simp] theorem State.emit_regs (o : Out) : (s.emit o).regs = s.regs := rfl
@[simp] theorem State.emit_fresh (o : Out) : (s.emit o).fresh = s.fresh := rfl
@[simp] theorem State.emit_held (o : Out) : (s.emit o).held = s.held := rfl
@[simp] theorem State.emit_msix (o : Out) : (s.emit o).msix = s.msix := rfl
@[simp] theorem State.emit_cap (o : Out) : (s.emit o).cap = s.cap := rfl
@[simp] theorem State.emit_rested (o : Out) : (s.emit o).rested = s.rested := rfl
@[simp] theorem State.emit_pow (o : Out) : (s.emit o).pow = s.pow := rfl
@[simp] theorem State.emit_hif (o : Out) : (s.emit o).hif = s.hif := rfl
@[simp] theorem State.emit_tmg (o : Out) : (s.emit o).tmg = s.tmg := rfl
@[simp] theorem State.emit_sen (o : Out) : (s.emit o).sen = s.sen := rfl
@[simp] theorem State.emit_frames (o : Out) : (s.emit o).frames = s.frames := rfl
@[simp] theorem State.emit_trs (o : Out) : (s.emit o).trs = s.trs := rfl
@[simp] theorem State.emit_rad (o : Out) : (s.emit o).rad = s.rad := rfl
@[simp] theorem State.emit_casks (o : Out) : (s.emit o).casks = s.casks := rfl
@[simp] theorem State.emit_coil (o : Out) : (s.emit o).coil = s.coil := rfl
@[simp] theorem State.emit_rol (o : Out) : (s.emit o).rol = s.rol := rfl
@[simp] theorem State.emit_cel (o : Out) : (s.emit o).cel = s.cel := rfl
@[simp] theorem State.emit_way (o : Out) : (s.emit o).way = s.way := rfl
@[simp] theorem State.emit_tol (o : Out) : (s.emit o).tol = s.tol := rfl
@[simp] theorem State.emit_hkc (o : Out) : (s.emit o).hkc = s.hkc := rfl
@[simp] theorem State.emit_nv (o : Out) : (s.emit o).nv = s.nv := rfl
@[simp] theorem State.emit_sec (o : Out) : (s.emit o).sec = s.sec := rfl
@[simp] theorem State.emit_bst (o : Out) : (s.emit o).bst = s.bst := rfl

/-! ## `State.post` -/

@[simp] theorem State.post_variant (o : Out) : (s.post o).variant = s.variant := by unfold State.post; split <;> rfl
@[simp] theorem State.post_pending (o : Out) : (s.post o).pending = s.pending := by unfold State.post; split <;> rfl
@[simp] theorem State.post_now (o : Out) : (s.post o).now = s.now := by unfold State.post; split <;> rfl
@[simp] theorem State.post_mono (o : Out) : (s.post o).mono = s.mono := by unfold State.post; split <;> rfl
@[simp] theorem State.post_free (o : Out) : (s.post o).free = s.free := by unfold State.post; split <;> rfl
@[simp] theorem State.post_regs (o : Out) : (s.post o).regs = s.regs := by unfold State.post; split <;> rfl
@[simp] theorem State.post_fresh (o : Out) : (s.post o).fresh = s.fresh := by unfold State.post; split <;> rfl
@[simp] theorem State.post_held (o : Out) : (s.post o).held = s.held := by unfold State.post; split <;> rfl
@[simp] theorem State.post_msix (o : Out) : (s.post o).msix = s.msix := by unfold State.post; split <;> rfl
@[simp] theorem State.post_cap (o : Out) : (s.post o).cap = s.cap := by unfold State.post; split <;> rfl
@[simp] theorem State.post_pow (o : Out) : (s.post o).pow = s.pow := by unfold State.post; split <;> rfl
@[simp] theorem State.post_tmg (o : Out) : (s.post o).tmg = s.tmg := by unfold State.post; split <;> rfl
@[simp] theorem State.post_sen (o : Out) : (s.post o).sen = s.sen := by unfold State.post; split <;> rfl
@[simp] theorem State.post_frames (o : Out) : (s.post o).frames = s.frames := by unfold State.post; split <;> rfl
@[simp] theorem State.post_trs (o : Out) : (s.post o).trs = s.trs := by unfold State.post; split <;> rfl
@[simp] theorem State.post_rad (o : Out) : (s.post o).rad = s.rad := by unfold State.post; split <;> rfl
@[simp] theorem State.post_casks (o : Out) : (s.post o).casks = s.casks := by unfold State.post; split <;> rfl
@[simp] theorem State.post_coil (o : Out) : (s.post o).coil = s.coil := by unfold State.post; split <;> rfl
@[simp] theorem State.post_rol (o : Out) : (s.post o).rol = s.rol := by unfold State.post; split <;> rfl
@[simp] theorem State.post_cel (o : Out) : (s.post o).cel = s.cel := by unfold State.post; split <;> rfl
@[simp] theorem State.post_way (o : Out) : (s.post o).way = s.way := by unfold State.post; split <;> rfl
@[simp] theorem State.post_tol (o : Out) : (s.post o).tol = s.tol := by unfold State.post; split <;> rfl
@[simp] theorem State.post_hkc (o : Out) : (s.post o).hkc = s.hkc := by unfold State.post; split <;> rfl
@[simp] theorem State.post_nv (o : Out) : (s.post o).nv = s.nv := by unfold State.post; split <;> rfl
@[simp] theorem State.post_sec (o : Out) : (s.post o).sec = s.sec := by unfold State.post; split <;> rfl
@[simp] theorem State.post_bst (o : Out) : (s.post o).bst = s.bst := by unfold State.post; split <;> rfl

/-- A write to host memory leaves at once where requests may be issued, and waits otherwise (R256). -/
theorem State.post_of_bus {o : Out} (h : s.busOk = true) : s.post o = s.emit o := by simp [State.post, h]

theorem State.post_of_no_bus {o : Out} (h : s.busOk = false) :
    s.post o = { s with hif.heldOuts := s.hif.heldOuts ++ [o] } := by simp [State.post, h]

/-! ## `State.nvPut` -/

@[simp] theorem State.nvPut_variant (a : Nat) (b : List Byte) : (s.nvPut a b).variant = s.variant := rfl
@[simp] theorem State.nvPut_linkL12 (a : Nat) (b : List Byte) : (s.nvPut a b).linkL12 = s.linkL12 := rfl
@[simp] theorem State.nvPut_pending (a : Nat) (b : List Byte) : (s.nvPut a b).pending = s.pending := rfl
@[simp] theorem State.nvPut_now (a : Nat) (b : List Byte) : (s.nvPut a b).now = s.now := rfl
@[simp] theorem State.nvPut_mono (a : Nat) (b : List Byte) : (s.nvPut a b).mono = s.mono := rfl
@[simp] theorem State.nvPut_free (a : Nat) (b : List Byte) : (s.nvPut a b).free = s.free := rfl
@[simp] theorem State.nvPut_regs (a : Nat) (b : List Byte) : (s.nvPut a b).regs = s.regs := rfl
@[simp] theorem State.nvPut_fresh (a : Nat) (b : List Byte) : (s.nvPut a b).fresh = s.fresh := rfl
@[simp] theorem State.nvPut_held (a : Nat) (b : List Byte) : (s.nvPut a b).held = s.held := rfl
@[simp] theorem State.nvPut_msix (a : Nat) (b : List Byte) : (s.nvPut a b).msix = s.msix := rfl
@[simp] theorem State.nvPut_cap (a : Nat) (b : List Byte) : (s.nvPut a b).cap = s.cap := rfl
@[simp] theorem State.nvPut_rested (a : Nat) (b : List Byte) : (s.nvPut a b).rested = s.rested := rfl
@[simp] theorem State.nvPut_outs (a : Nat) (b : List Byte) : (s.nvPut a b).outs = s.outs := rfl
@[simp] theorem State.nvPut_pow (a : Nat) (b : List Byte) : (s.nvPut a b).pow = s.pow := rfl
@[simp] theorem State.nvPut_hif (a : Nat) (b : List Byte) : (s.nvPut a b).hif = s.hif := rfl
@[simp] theorem State.nvPut_tmg (a : Nat) (b : List Byte) : (s.nvPut a b).tmg = s.tmg := rfl
@[simp] theorem State.nvPut_sen (a : Nat) (b : List Byte) : (s.nvPut a b).sen = s.sen := rfl
@[simp] theorem State.nvPut_frames (a : Nat) (b : List Byte) : (s.nvPut a b).frames = s.frames := rfl
@[simp] theorem State.nvPut_trs (a : Nat) (b : List Byte) : (s.nvPut a b).trs = s.trs := rfl
@[simp] theorem State.nvPut_rad (a : Nat) (b : List Byte) : (s.nvPut a b).rad = s.rad := rfl
@[simp] theorem State.nvPut_casks (a : Nat) (b : List Byte) : (s.nvPut a b).casks = s.casks := rfl
@[simp] theorem State.nvPut_coil (a : Nat) (b : List Byte) : (s.nvPut a b).coil = s.coil := rfl
@[simp] theorem State.nvPut_rol (a : Nat) (b : List Byte) : (s.nvPut a b).rol = s.rol := rfl
@[simp] theorem State.nvPut_cel (a : Nat) (b : List Byte) : (s.nvPut a b).cel = s.cel := rfl
@[simp] theorem State.nvPut_way (a : Nat) (b : List Byte) : (s.nvPut a b).way = s.way := rfl
@[simp] theorem State.nvPut_tol (a : Nat) (b : List Byte) : (s.nvPut a b).tol = s.tol := rfl
@[simp] theorem State.nvPut_hkc (a : Nat) (b : List Byte) : (s.nvPut a b).hkc = s.hkc := rfl
@[simp] theorem State.nvPut_sec (a : Nat) (b : List Byte) : (s.nvPut a b).sec = s.sec := rfl
@[simp] theorem State.nvPut_bst (a : Nat) (b : List Byte) : (s.nvPut a b).bst = s.bst := rfl

/-! ## `State.setChan` -/

@[simp] theorem State.setChan_variant (n : Nat) (c : Chan) : (s.setChan n c).variant = s.variant := rfl
@[simp] theorem State.setChan_linkL12 (n : Nat) (c : Chan) : (s.setChan n c).linkL12 = s.linkL12 := rfl
@[simp] theorem State.setChan_pending (n : Nat) (c : Chan) : (s.setChan n c).pending = s.pending := rfl
@[simp] theorem State.setChan_now (n : Nat) (c : Chan) : (s.setChan n c).now = s.now := rfl
@[simp] theorem State.setChan_mono (n : Nat) (c : Chan) : (s.setChan n c).mono = s.mono := rfl
@[simp] theorem State.setChan_free (n : Nat) (c : Chan) : (s.setChan n c).free = s.free := rfl
@[simp] theorem State.setChan_regs (n : Nat) (c : Chan) : (s.setChan n c).regs = s.regs := rfl
@[simp] theorem State.setChan_fresh (n : Nat) (c : Chan) : (s.setChan n c).fresh = s.fresh := rfl
@[simp] theorem State.setChan_held (n : Nat) (c : Chan) : (s.setChan n c).held = s.held := rfl
@[simp] theorem State.setChan_msix (n : Nat) (c : Chan) : (s.setChan n c).msix = s.msix := rfl
@[simp] theorem State.setChan_cap (n : Nat) (c : Chan) : (s.setChan n c).cap = s.cap := rfl
@[simp] theorem State.setChan_rested (n : Nat) (c : Chan) : (s.setChan n c).rested = s.rested := rfl
@[simp] theorem State.setChan_outs (n : Nat) (c : Chan) : (s.setChan n c).outs = s.outs := rfl
@[simp] theorem State.setChan_pow (n : Nat) (c : Chan) : (s.setChan n c).pow = s.pow := rfl
@[simp] theorem State.setChan_tmg (n : Nat) (c : Chan) : (s.setChan n c).tmg = s.tmg := rfl
@[simp] theorem State.setChan_sen (n : Nat) (c : Chan) : (s.setChan n c).sen = s.sen := rfl
@[simp] theorem State.setChan_frames (n : Nat) (c : Chan) : (s.setChan n c).frames = s.frames := rfl
@[simp] theorem State.setChan_trs (n : Nat) (c : Chan) : (s.setChan n c).trs = s.trs := rfl
@[simp] theorem State.setChan_rad (n : Nat) (c : Chan) : (s.setChan n c).rad = s.rad := rfl
@[simp] theorem State.setChan_casks (n : Nat) (c : Chan) : (s.setChan n c).casks = s.casks := rfl
@[simp] theorem State.setChan_coil (n : Nat) (c : Chan) : (s.setChan n c).coil = s.coil := rfl
@[simp] theorem State.setChan_rol (n : Nat) (c : Chan) : (s.setChan n c).rol = s.rol := rfl
@[simp] theorem State.setChan_cel (n : Nat) (c : Chan) : (s.setChan n c).cel = s.cel := rfl
@[simp] theorem State.setChan_way (n : Nat) (c : Chan) : (s.setChan n c).way = s.way := rfl
@[simp] theorem State.setChan_tol (n : Nat) (c : Chan) : (s.setChan n c).tol = s.tol := rfl
@[simp] theorem State.setChan_hkc (n : Nat) (c : Chan) : (s.setChan n c).hkc = s.hkc := rfl
@[simp] theorem State.setChan_nv (n : Nat) (c : Chan) : (s.setChan n c).nv = s.nv := rfl
@[simp] theorem State.setChan_sec (n : Nat) (c : Chan) : (s.setChan n c).sec = s.sec := rfl
@[simp] theorem State.setChan_bst (n : Nat) (c : Chan) : (s.setChan n c).bst = s.bst := rfl

/-! ## `State.setJob` -/

@[simp] theorem State.setJob_variant (cid : Nat) (j : Job) : (s.setJob cid j).variant = s.variant := rfl
@[simp] theorem State.setJob_linkL12 (cid : Nat) (j : Job) : (s.setJob cid j).linkL12 = s.linkL12 := rfl
@[simp] theorem State.setJob_pending (cid : Nat) (j : Job) : (s.setJob cid j).pending = s.pending := rfl
@[simp] theorem State.setJob_now (cid : Nat) (j : Job) : (s.setJob cid j).now = s.now := rfl
@[simp] theorem State.setJob_mono (cid : Nat) (j : Job) : (s.setJob cid j).mono = s.mono := rfl
@[simp] theorem State.setJob_free (cid : Nat) (j : Job) : (s.setJob cid j).free = s.free := rfl
@[simp] theorem State.setJob_regs (cid : Nat) (j : Job) : (s.setJob cid j).regs = s.regs := rfl
@[simp] theorem State.setJob_fresh (cid : Nat) (j : Job) : (s.setJob cid j).fresh = s.fresh := rfl
@[simp] theorem State.setJob_held (cid : Nat) (j : Job) : (s.setJob cid j).held = s.held := rfl
@[simp] theorem State.setJob_msix (cid : Nat) (j : Job) : (s.setJob cid j).msix = s.msix := rfl
@[simp] theorem State.setJob_cap (cid : Nat) (j : Job) : (s.setJob cid j).cap = s.cap := rfl
@[simp] theorem State.setJob_rested (cid : Nat) (j : Job) : (s.setJob cid j).rested = s.rested := rfl
@[simp] theorem State.setJob_outs (cid : Nat) (j : Job) : (s.setJob cid j).outs = s.outs := rfl
@[simp] theorem State.setJob_pow (cid : Nat) (j : Job) : (s.setJob cid j).pow = s.pow := rfl
@[simp] theorem State.setJob_tmg (cid : Nat) (j : Job) : (s.setJob cid j).tmg = s.tmg := rfl
@[simp] theorem State.setJob_sen (cid : Nat) (j : Job) : (s.setJob cid j).sen = s.sen := rfl
@[simp] theorem State.setJob_frames (cid : Nat) (j : Job) : (s.setJob cid j).frames = s.frames := rfl
@[simp] theorem State.setJob_trs (cid : Nat) (j : Job) : (s.setJob cid j).trs = s.trs := rfl
@[simp] theorem State.setJob_rad (cid : Nat) (j : Job) : (s.setJob cid j).rad = s.rad := rfl
@[simp] theorem State.setJob_casks (cid : Nat) (j : Job) : (s.setJob cid j).casks = s.casks := rfl
@[simp] theorem State.setJob_coil (cid : Nat) (j : Job) : (s.setJob cid j).coil = s.coil := rfl
@[simp] theorem State.setJob_rol (cid : Nat) (j : Job) : (s.setJob cid j).rol = s.rol := rfl
@[simp] theorem State.setJob_cel (cid : Nat) (j : Job) : (s.setJob cid j).cel = s.cel := rfl
@[simp] theorem State.setJob_way (cid : Nat) (j : Job) : (s.setJob cid j).way = s.way := rfl
@[simp] theorem State.setJob_tol (cid : Nat) (j : Job) : (s.setJob cid j).tol = s.tol := rfl
@[simp] theorem State.setJob_hkc (cid : Nat) (j : Job) : (s.setJob cid j).hkc = s.hkc := rfl
@[simp] theorem State.setJob_nv (cid : Nat) (j : Job) : (s.setJob cid j).nv = s.nv := rfl
@[simp] theorem State.setJob_sec (cid : Nat) (j : Job) : (s.setJob cid j).sec = s.sec := rfl
@[simp] theorem State.setJob_bst (cid : Nat) (j : Job) : (s.setJob cid j).bst = s.bst := rfl

/-! ## `State.setDie` -/

@[simp] theorem State.setDie_variant (n : Nat) (d : Die) : (s.setDie n d).variant = s.variant := rfl
@[simp] theorem State.setDie_linkL12 (n : Nat) (d : Die) : (s.setDie n d).linkL12 = s.linkL12 := rfl
@[simp] theorem State.setDie_pending (n : Nat) (d : Die) : (s.setDie n d).pending = s.pending := rfl
@[simp] theorem State.setDie_now (n : Nat) (d : Die) : (s.setDie n d).now = s.now := rfl
@[simp] theorem State.setDie_mono (n : Nat) (d : Die) : (s.setDie n d).mono = s.mono := rfl
@[simp] theorem State.setDie_free (n : Nat) (d : Die) : (s.setDie n d).free = s.free := rfl
@[simp] theorem State.setDie_regs (n : Nat) (d : Die) : (s.setDie n d).regs = s.regs := rfl
@[simp] theorem State.setDie_fresh (n : Nat) (d : Die) : (s.setDie n d).fresh = s.fresh := rfl
@[simp] theorem State.setDie_held (n : Nat) (d : Die) : (s.setDie n d).held = s.held := rfl
@[simp] theorem State.setDie_msix (n : Nat) (d : Die) : (s.setDie n d).msix = s.msix := rfl
@[simp] theorem State.setDie_cap (n : Nat) (d : Die) : (s.setDie n d).cap = s.cap := rfl
@[simp] theorem State.setDie_rested (n : Nat) (d : Die) : (s.setDie n d).rested = s.rested := rfl
@[simp] theorem State.setDie_outs (n : Nat) (d : Die) : (s.setDie n d).outs = s.outs := rfl
@[simp] theorem State.setDie_pow (n : Nat) (d : Die) : (s.setDie n d).pow = s.pow := rfl
@[simp] theorem State.setDie_hif (n : Nat) (d : Die) : (s.setDie n d).hif = s.hif := rfl
@[simp] theorem State.setDie_tmg (n : Nat) (d : Die) : (s.setDie n d).tmg = s.tmg := rfl
@[simp] theorem State.setDie_sen (n : Nat) (d : Die) : (s.setDie n d).sen = s.sen := rfl
@[simp] theorem State.setDie_frames (n : Nat) (d : Die) : (s.setDie n d).frames = s.frames := rfl
@[simp] theorem State.setDie_trs (n : Nat) (d : Die) : (s.setDie n d).trs = s.trs := rfl
@[simp] theorem State.setDie_rad (n : Nat) (d : Die) : (s.setDie n d).rad = s.rad := rfl
@[simp] theorem State.setDie_casks (n : Nat) (d : Die) : (s.setDie n d).casks = s.casks := rfl
@[simp] theorem State.setDie_coil (n : Nat) (d : Die) : (s.setDie n d).coil = s.coil := rfl
@[simp] theorem State.setDie_cel (n : Nat) (d : Die) : (s.setDie n d).cel = s.cel := rfl
@[simp] theorem State.setDie_way (n : Nat) (d : Die) : (s.setDie n d).way = s.way := rfl
@[simp] theorem State.setDie_tol (n : Nat) (d : Die) : (s.setDie n d).tol = s.tol := rfl
@[simp] theorem State.setDie_hkc (n : Nat) (d : Die) : (s.setDie n d).hkc = s.hkc := rfl
@[simp] theorem State.setDie_nv (n : Nat) (d : Die) : (s.setDie n d).nv = s.nv := rfl
@[simp] theorem State.setDie_sec (n : Nat) (d : Die) : (s.setDie n d).sec = s.sec := rfl
@[simp] theorem State.setDie_bst (n : Nat) (d : Die) : (s.setDie n d).bst = s.bst := rfl

/-! ## `State.mapFrames` -/

@[simp] theorem State.mapFrames_variant (g : FrameW → FrameW) : (s.mapFrames g).variant = s.variant := rfl
@[simp] theorem State.mapFrames_linkL12 (g : FrameW → FrameW) : (s.mapFrames g).linkL12 = s.linkL12 := rfl
@[simp] theorem State.mapFrames_pending (g : FrameW → FrameW) : (s.mapFrames g).pending = s.pending := rfl
@[simp] theorem State.mapFrames_now (g : FrameW → FrameW) : (s.mapFrames g).now = s.now := rfl
@[simp] theorem State.mapFrames_mono (g : FrameW → FrameW) : (s.mapFrames g).mono = s.mono := rfl
@[simp] theorem State.mapFrames_free (g : FrameW → FrameW) : (s.mapFrames g).free = s.free := rfl
@[simp] theorem State.mapFrames_regs (g : FrameW → FrameW) : (s.mapFrames g).regs = s.regs := rfl
@[simp] theorem State.mapFrames_fresh (g : FrameW → FrameW) : (s.mapFrames g).fresh = s.fresh := rfl
@[simp] theorem State.mapFrames_held (g : FrameW → FrameW) : (s.mapFrames g).held = s.held := rfl
@[simp] theorem State.mapFrames_msix (g : FrameW → FrameW) : (s.mapFrames g).msix = s.msix := rfl
@[simp] theorem State.mapFrames_cap (g : FrameW → FrameW) : (s.mapFrames g).cap = s.cap := rfl
@[simp] theorem State.mapFrames_rested (g : FrameW → FrameW) : (s.mapFrames g).rested = s.rested := rfl
@[simp] theorem State.mapFrames_outs (g : FrameW → FrameW) : (s.mapFrames g).outs = s.outs := rfl
@[simp] theorem State.mapFrames_pow (g : FrameW → FrameW) : (s.mapFrames g).pow = s.pow := rfl
@[simp] theorem State.mapFrames_hif (g : FrameW → FrameW) : (s.mapFrames g).hif = s.hif := rfl
@[simp] theorem State.mapFrames_tmg (g : FrameW → FrameW) : (s.mapFrames g).tmg = s.tmg := rfl
@[simp] theorem State.mapFrames_sen (g : FrameW → FrameW) : (s.mapFrames g).sen = s.sen := rfl
@[simp] theorem State.mapFrames_trs (g : FrameW → FrameW) : (s.mapFrames g).trs = s.trs := rfl
@[simp] theorem State.mapFrames_rad (g : FrameW → FrameW) : (s.mapFrames g).rad = s.rad := rfl
@[simp] theorem State.mapFrames_casks (g : FrameW → FrameW) : (s.mapFrames g).casks = s.casks := rfl
@[simp] theorem State.mapFrames_coil (g : FrameW → FrameW) : (s.mapFrames g).coil = s.coil := rfl
@[simp] theorem State.mapFrames_rol (g : FrameW → FrameW) : (s.mapFrames g).rol = s.rol := rfl
@[simp] theorem State.mapFrames_cel (g : FrameW → FrameW) : (s.mapFrames g).cel = s.cel := rfl
@[simp] theorem State.mapFrames_way (g : FrameW → FrameW) : (s.mapFrames g).way = s.way := rfl
@[simp] theorem State.mapFrames_tol (g : FrameW → FrameW) : (s.mapFrames g).tol = s.tol := rfl
@[simp] theorem State.mapFrames_hkc (g : FrameW → FrameW) : (s.mapFrames g).hkc = s.hkc := rfl
@[simp] theorem State.mapFrames_nv (g : FrameW → FrameW) : (s.mapFrames g).nv = s.nv := rfl
@[simp] theorem State.mapFrames_sec (g : FrameW → FrameW) : (s.mapFrames g).sec = s.sec := rfl
@[simp] theorem State.mapFrames_bst (g : FrameW → FrameW) : (s.mapFrames g).bst = s.bst := rfl

/-! ## `State.setFrame` -/

@[simp] theorem State.setFrame_variant (f : FrameW) : (s.setFrame f).variant = s.variant := rfl
@[simp] theorem State.setFrame_linkL12 (f : FrameW) : (s.setFrame f).linkL12 = s.linkL12 := rfl
@[simp] theorem State.setFrame_pending (f : FrameW) : (s.setFrame f).pending = s.pending := rfl
@[simp] theorem State.setFrame_now (f : FrameW) : (s.setFrame f).now = s.now := rfl
@[simp] theorem State.setFrame_mono (f : FrameW) : (s.setFrame f).mono = s.mono := rfl
@[simp] theorem State.setFrame_free (f : FrameW) : (s.setFrame f).free = s.free := rfl
@[simp] theorem State.setFrame_regs (f : FrameW) : (s.setFrame f).regs = s.regs := rfl
@[simp] theorem State.setFrame_fresh (f : FrameW) : (s.setFrame f).fresh = s.fresh := rfl
@[simp] theorem State.setFrame_held (f : FrameW) : (s.setFrame f).held = s.held := rfl
@[simp] theorem State.setFrame_msix (f : FrameW) : (s.setFrame f).msix = s.msix := rfl
@[simp] theorem State.setFrame_cap (f : FrameW) : (s.setFrame f).cap = s.cap := rfl
@[simp] theorem State.setFrame_rested (f : FrameW) : (s.setFrame f).rested = s.rested := rfl
@[simp] theorem State.setFrame_outs (f : FrameW) : (s.setFrame f).outs = s.outs := rfl
@[simp] theorem State.setFrame_pow (f : FrameW) : (s.setFrame f).pow = s.pow := rfl
@[simp] theorem State.setFrame_hif (f : FrameW) : (s.setFrame f).hif = s.hif := rfl
@[simp] theorem State.setFrame_tmg (f : FrameW) : (s.setFrame f).tmg = s.tmg := rfl
@[simp] theorem State.setFrame_sen (f : FrameW) : (s.setFrame f).sen = s.sen := rfl
@[simp] theorem State.setFrame_trs (f : FrameW) : (s.setFrame f).trs = s.trs := rfl
@[simp] theorem State.setFrame_rad (f : FrameW) : (s.setFrame f).rad = s.rad := rfl
@[simp] theorem State.setFrame_casks (f : FrameW) : (s.setFrame f).casks = s.casks := rfl
@[simp] theorem State.setFrame_coil (f : FrameW) : (s.setFrame f).coil = s.coil := rfl
@[simp] theorem State.setFrame_rol (f : FrameW) : (s.setFrame f).rol = s.rol := rfl
@[simp] theorem State.setFrame_cel (f : FrameW) : (s.setFrame f).cel = s.cel := rfl
@[simp] theorem State.setFrame_way (f : FrameW) : (s.setFrame f).way = s.way := rfl
@[simp] theorem State.setFrame_tol (f : FrameW) : (s.setFrame f).tol = s.tol := rfl
@[simp] theorem State.setFrame_hkc (f : FrameW) : (s.setFrame f).hkc = s.hkc := rfl
@[simp] theorem State.setFrame_nv (f : FrameW) : (s.setFrame f).nv = s.nv := rfl
@[simp] theorem State.setFrame_sec (f : FrameW) : (s.setFrame f).sec = s.sec := rfl
@[simp] theorem State.setFrame_bst (f : FrameW) : (s.setFrame f).bst = s.bst := rfl

/-! ## Reading what was written -/

@[simp] theorem State.drew_free : s.drew.free = s.free + 1 := rfl
@[simp] theorem State.emit_outs (o : Out) : (s.emit o).outs = o :: s.outs := rfl
@[simp] theorem State.nvPut_writes (a : Nat) (b : List Byte) : (s.nvPut a b).nv.writes = s.nv.writes ++ [(a, b)] := rfl
@[simp] theorem State.nvPut_mem (a : Nat) (b : List Byte) : (s.nvPut a b).nv.mem = s.nv.mem := rfl
@[simp] theorem State.mapFrames_frames (g : FrameW → FrameW) : (s.mapFrames g).frames = s.frames.map g := rfl
@[simp] theorem State.setDie_dies (n : Nat) (d : Die) : (s.setDie n d).rol.dies = modAt s.rol.dies n fun _ => d := rfl
@[simp] theorem State.setChan_chans (n : Nat) (c : Chan) : (s.setChan n c).hif.chans = modAt s.hif.chans n fun _ => c := rfl

/-- A register that was written reads as what was written. -/
@[simp] theorem State.reg_setReg_self (off : Nat) (v : Word) : (s.setReg off v).reg off = v := tabGet_tabSet_self _ _ _ _

/-- Writing a register leaves every other one. -/
theorem State.reg_setReg_ne {off o : Nat} (v : Word) (h : o ≠ off) : (s.setReg off v).reg o = s.reg o :=
  tabGet_tabSet_ne _ _ _ h

/-- A register after a write, whichever it is. -/
theorem State.reg_setReg (off o : Nat) (v : Word) : (s.setReg off v).reg o = if o = off then v else s.reg o :=
  tabGet_tabSet _ _ _ _ _

@[simp] theorem State.reg_drew (o : Nat) : s.drew.reg o = s.reg o := rfl
@[simp] theorem State.reg_emit (x : Out) (o : Nat) : (s.emit x).reg o = s.reg o := rfl
@[simp] theorem State.reg_nvPut (a : Nat) (b : List Byte) (o : Nat) : (s.nvPut a b).reg o = s.reg o := rfl
@[simp] theorem State.reg_setChan (n : Nat) (c : Chan) (o : Nat) : (s.setChan n c).reg o = s.reg o := rfl
@[simp] theorem State.reg_setJob (cid : Nat) (j : Job) (o : Nat) : (s.setJob cid j).reg o = s.reg o := rfl
@[simp] theorem State.reg_setDie (n : Nat) (d : Die) (o : Nat) : (s.setDie n d).reg o = s.reg o := rfl
@[simp] theorem State.reg_mapFrames (g : FrameW → FrameW) (o : Nat) : (s.mapFrames g).reg o = s.reg o := rfl
@[simp] theorem State.reg_setFrame (f : FrameW) (o : Nat) : (s.setFrame f).reg o = s.reg o := rfl

/-- A field of a register leaves every other register. -/
theorem State.reg_setFld_ne {f : Fld} {o : Nat} (x : Nat) (h : o ≠ f.off) : (s.setFld f x).reg o = s.reg o :=
  s.reg_setReg_ne _ h

/-- A sticky bit leaves every other register. -/
theorem State.reg_sticky_ne {f : Fld} {o : Nat} (h : o ≠ f.off) : (s.sticky f).reg o = s.reg o :=
  s.reg_setReg_ne _ h

/-- A count leaves every other register. -/
theorem State.reg_bump_ne {off o : Nat} (n : Nat) (h : o ≠ off) : (s.bump off n).reg o = s.reg o :=
  s.reg_setReg_ne _ h

/-- A count goes up. -/
@[simp] theorem State.reg_bump_self (off n : Nat) : (s.bump off n).reg off = s.reg off + BitVec.ofNat 32 n :=
  s.reg_setReg_self _ _

end Sys2Proof.Machine
end

