-- ==== Sys2Proof/Laws/Ops.lean ====
section
/-! SUPPORT. Laws of the shared operations: how every command ends, what the interrupt summary, a vector, a completion and an
acceptance can do, and one tick. -/

set_option Elab.async false

namespace Sys2Proof.Machine

open Sys2Proof

variable (s : State)

/-! ## A vector and the interrupt summary -/

/-- Signalling a vector sends it, makes it pending, or does nothing. -/
theorem State.signal_cases (v : Nat) :
    s.signal v = s ∨ s.signal v = s.emit (.msix v) ∨
      s.signal v = { s with hif.pendingVectors := s.hif.pendingVectors ++ [v] } := by
  unfold State.signal
  split
  · exact .inl rfl
  · split
    · exact .inr (.inl rfl)
    · split
      · exact .inl rfl
      · exact .inr (.inr rfl)

@[simp] theorem State.signal_variant (v : Nat) : (s.signal v).variant = s.variant := by
  rcases s.signal_cases v with h | h | h <;> exact (congrArg State.variant h).trans rfl
@[simp] theorem State.signal_pending (v : Nat) : (s.signal v).pending = s.pending := by
  rcases s.signal_cases v with h | h | h <;> exact (congrArg State.pending h).trans rfl
@[simp] theorem State.signal_now (v : Nat) : (s.signal v).now = s.now := by
  rcases s.signal_cases v with h | h | h <;> exact (congrArg State.now h).trans rfl
@[simp] theorem State.signal_mono (v : Nat) : (s.signal v).mono = s.mono := by
  rcases s.signal_cases v with h | h | h <;> exact (congrArg State.mono h).trans rfl
@[simp] theorem State.signal_free (v : Nat) : (s.signal v).free = s.free := by
  rcases s.signal_cases v with h | h | h <;> exact (congrArg State.free h).trans rfl
@[simp] theorem State.signal_regs (v : Nat) : (s.signal v).regs = s.regs := by
  rcases s.signal_cases v with h | h | h <;> exact (congrArg State.regs h).trans rfl
@[simp] theorem State.signal_fresh (v : Nat) : (s.signal v).fresh = s.fresh := by
  rcases s.signal_cases v with h | h | h <;> exact (congrArg State.fresh h).trans rfl
@[simp] theorem State.signal_held (v : Nat) : (s.signal v).held = s.held := by
  rcases s.signal_cases v with h | h | h <;> exact (congrArg State.held h).trans rfl
@[simp] theorem State.signal_msix (v : Nat) : (s.signal v).msix = s.msix := by
  rcases s.signal_cases v with h | h | h <;> exact (congrArg State.msix h).trans rfl
@[simp] theorem State.signal_cap (v : Nat) : (s.signal v).cap = s.cap := by
  rcases s.signal_cases v with h | h | h <;> exact (congrArg State.cap h).trans rfl
@[simp] theorem State.signal_pow (v : Nat) : (s.signal v).pow = s.pow := by
  rcases s.signal_cases v with h | h | h <;> exact (congrArg State.pow h).trans rfl
@[simp] theorem State.signal_tmg (v : Nat) : (s.signal v).tmg = s.tmg := by
  rcases s.signal_cases v with h | h | h <;> exact (congrArg State.tmg h).trans rfl
@[simp] theorem State.signal_sen (v : Nat) : (s.signal v).sen = s.sen := by
  rcases s.signal_cases v with h | h | h <;> exact (congrArg State.sen h).trans rfl
@[simp] theorem State.signal_frames (v : Nat) : (s.signal v).frames = s.frames := by
  rcases s.signal_cases v with h | h | h <;> exact (congrArg State.frames h).trans rfl
@[simp] theorem State.signal_trs (v : Nat) : (s.signal v).trs = s.trs := by
  rcases s.signal_cases v with h | h | h <;> exact (congrArg State.trs h).trans rfl
@[simp] theorem State.signal_rad (v : Nat) : (s.signal v).rad = s.rad := by
  rcases s.signal_cases v with h | h | h <;> exact (congrArg State.rad h).trans rfl
@[simp] theorem State.signal_casks (v : Nat) : (s.signal v).casks = s.casks := by
  rcases s.signal_cases v with h | h | h <;> exact (congrArg State.casks h).trans rfl
@[simp] theorem State.signal_coil (v : Nat) : (s.signal v).coil = s.coil := by
  rcases s.signal_cases v with h | h | h <;> exact (congrArg State.coil h).trans rfl
@[simp] theorem State.signal_rol (v : Nat) : (s.signal v).rol = s.rol := by
  rcases s.signal_cases v with h | h | h <;> exact (congrArg State.rol h).trans rfl
@[simp] theorem State.signal_cel (v : Nat) : (s.signal v).cel = s.cel := by
  rcases s.signal_cases v with h | h | h <;> exact (congrArg State.cel h).trans rfl
@[simp] theorem State.signal_way (v : Nat) : (s.signal v).way = s.way := by
  rcases s.signal_cases v with h | h | h <;> exact (congrArg State.way h).trans rfl
@[simp] theorem State.signal_tol (v : Nat) : (s.signal v).tol = s.tol := by
  rcases s.signal_cases v with h | h | h <;> exact (congrArg State.tol h).trans rfl
@[simp] theorem State.signal_hkc (v : Nat) : (s.signal v).hkc = s.hkc := by
  rcases s.signal_cases v with h | h | h <;> exact (congrArg State.hkc h).trans rfl
@[simp] theorem State.signal_nv (v : Nat) : (s.signal v).nv = s.nv := by
  rcases s.signal_cases v with h | h | h <;> exact (congrArg State.nv h).trans rfl
@[simp] theorem State.signal_sec (v : Nat) : (s.signal v).sec = s.sec := by
  rcases s.signal_cases v with h | h | h <;> exact (congrArg State.sec h).trans rfl
@[simp] theorem State.signal_bst (v : Nat) : (s.signal v).bst = s.bst := by
  rcases s.signal_cases v with h | h | h <;> exact (congrArg State.bst h).trans rfl

/-- Of the host interface a vector touches the pending ones alone. -/
theorem State.signal_hif (v : Nat) : (s.signal v).hif = { s.hif with pendingVectors := (s.signal v).hif.pendingVectors } := by
  rcases s.signal_cases v with h | h | h
  · rw [h]
  · rw [h]; rfl
  · rw [h]

/-- What has left the block stays so, and a vector adds at most itself. -/
theorem State.signal_outs (v : Nat) : (s.signal v).outs = s.outs ∨ (s.signal v).outs = .msix v :: s.outs := by
  rcases s.signal_cases v with h | h | h <;> rw [h]
  · exact .inl rfl
  · exact .inr rfl
  · exact .inl rfl

@[simp] theorem State.reg_signal (v o : Nat) : (s.signal v).reg o = s.reg o := by
  simp [State.reg]

@[simp] theorem State.refreshSummary_variant : s.refreshSummary.variant = s.variant := by
  unfold State.refreshSummary; dsimp only; split <;> simp
@[simp] theorem State.refreshSummary_pending : s.refreshSummary.pending = s.pending := by
  unfold State.refreshSummary; dsimp only; split <;> simp
@[simp] theorem State.refreshSummary_now : s.refreshSummary.now = s.now := by
  unfold State.refreshSummary; dsimp only; split <;> simp
@[simp] theorem State.refreshSummary_mono : s.refreshSummary.mono = s.mono := by
  unfold State.refreshSummary; dsimp only; split <;> simp
@[simp] theorem State.refreshSummary_free : s.refreshSummary.free = s.free := by
  unfold State.refreshSummary; dsimp only; split <;> simp
@[simp] theorem State.refreshSummary_fresh : s.refreshSummary.fresh = s.fresh := by
  unfold State.refreshSummary; dsimp only; split <;> simp
@[simp] theorem State.refreshSummary_held : s.refreshSummary.held = s.held := by
  unfold State.refreshSummary; dsimp only; split <;> simp
@[simp] theorem State.refreshSummary_msix : s.refreshSummary.msix = s.msix := by
  unfold State.refreshSummary; dsimp only; split <;> simp
@[simp] theorem State.refreshSummary_cap : s.refreshSummary.cap = s.cap := by
  unfold State.refreshSummary; dsimp only; split <;> simp
@[simp] theorem State.refreshSummary_pow : s.refreshSummary.pow = s.pow := by
  unfold State.refreshSummary; dsimp only; split <;> simp
@[simp] theorem State.refreshSummary_tmg : s.refreshSummary.tmg = s.tmg := by
  unfold State.refreshSummary; dsimp only; split <;> simp
@[simp] theorem State.refreshSummary_sen : s.refreshSummary.sen = s.sen := by
  unfold State.refreshSummary; dsimp only; split <;> simp
@[simp] theorem State.refreshSummary_frames : s.refreshSummary.frames = s.frames := by
  unfold State.refreshSummary; dsimp only; split <;> simp
@[simp] theorem State.refreshSummary_trs : s.refreshSummary.trs = s.trs := by
  unfold State.refreshSummary; dsimp only; split <;> simp
@[simp] theorem State.refreshSummary_rad : s.refreshSummary.rad = s.rad := by
  unfold State.refreshSummary; dsimp only; split <;> simp
@[simp] theorem State.refreshSummary_casks : s.refreshSummary.casks = s.casks := by
  unfold State.refreshSummary; dsimp only; split <;> simp
@[simp] theorem State.refreshSummary_coil : s.refreshSummary.coil = s.coil := by
  unfold State.refreshSummary; dsimp only; split <;> simp
@[simp] theorem State.refreshSummary_rol : s.refreshSummary.rol = s.rol := by
  unfold State.refreshSummary; dsimp only; split <;> simp
@[simp] theorem State.refreshSummary_cel : s.refreshSummary.cel = s.cel := by
  unfold State.refreshSummary; dsimp only; split <;> simp
@[simp] theorem State.refreshSummary_way : s.refreshSummary.way = s.way := by
  unfold State.refreshSummary; dsimp only; split <;> simp
@[simp] theorem State.refreshSummary_tol : s.refreshSummary.tol = s.tol := by
  unfold State.refreshSummary; dsimp only; split <;> simp
@[simp] theorem State.refreshSummary_hkc : s.refreshSummary.hkc = s.hkc := by
  unfold State.refreshSummary; dsimp only; split <;> simp
@[simp] theorem State.refreshSummary_nv : s.refreshSummary.nv = s.nv := by
  unfold State.refreshSummary; dsimp only; split <;> simp
@[simp] theorem State.refreshSummary_sec : s.refreshSummary.sec = s.sec := by
  unfold State.refreshSummary; dsimp only; split <;> simp
@[simp] theorem State.refreshSummary_bst : s.refreshSummary.bst = s.bst := by
  unfold State.refreshSummary; dsimp only; split <;> simp

/-- The summary collects what is raw and enabled (R445). -/
theorem State.reg_refreshSummary_self :
    s.refreshSummary.reg Reg.GLB_INT_SUMMARY = s.reg Reg.GLB_INT_SUMMARY ||| (s.intRaw &&& s.reg Reg.GLB_INT_EN) := by
  unfold State.refreshSummary; dsimp only; split <;> simp

/-- Every other register stands as it was. -/
theorem State.reg_refreshSummary_ne {o : Nat} (h : o ≠ Reg.GLB_INT_SUMMARY) : s.refreshSummary.reg o = s.reg o := by
  unfold State.refreshSummary; dsimp only; split <;> simp [State.reg_setReg_ne _ _ h]

theorem State.refreshSummary_hif :
    s.refreshSummary.hif = { s.hif with pendingVectors := s.refreshSummary.hif.pendingVectors } := by
  unfold State.refreshSummary; dsimp only; split
  · rw [State.signal_hif]; rfl
  · rfl

/-- What has left the block stays so: the summary adds at most vector 9. -/
theorem State.refreshSummary_outs : s.refreshSummary.outs = s.outs ∨ s.refreshSummary.outs = .msix 9 :: s.outs := by
  unfold State.refreshSummary; dsimp only; split
  · exact State.signal_outs _ 9
  · exact .inl rfl

/-! ## How a command ends -/

variable (t : State)

@[simp] theorem commit_variant : (commit s t).variant = s.variant := by simp [commit]
@[simp] theorem commit_pending : (commit s t).pending = s.pending := by simp [commit]
@[simp] theorem commit_mono : (commit s t).mono = s.mono := by simp [commit]
@[simp] theorem commit_nv : (commit s t).nv = { t.nv with mem := nvApply s.nv.mem t.nv.writes, writes := [] } := by simp [commit]
@[simp] theorem commit_now : (commit s t).now = t.now := by simp [commit]
@[simp] theorem commit_free : (commit s t).free = t.free := by simp [commit]
@[simp] theorem commit_fresh : (commit s t).fresh = t.fresh := by simp [commit]
@[simp] theorem commit_held : (commit s t).held = t.held := by simp [commit]
@[simp] theorem commit_msix : (commit s t).msix = t.msix := by simp [commit]
@[simp] theorem commit_cap : (commit s t).cap = t.cap := by simp [commit]
@[simp] theorem commit_pow : (commit s t).pow = t.pow := by simp [commit]
@[simp] theorem commit_tmg : (commit s t).tmg = t.tmg := by simp [commit]
@[simp] theorem commit_sen : (commit s t).sen = t.sen := by simp [commit]
@[simp] theorem commit_frames : (commit s t).frames = t.frames := by simp [commit]
@[simp] theorem commit_trs : (commit s t).trs = t.trs := by simp [commit]
@[simp] theorem commit_rad : (commit s t).rad = t.rad := by simp [commit]
@[simp] theorem commit_casks : (commit s t).casks = t.casks := by simp [commit]
@[simp] theorem commit_coil : (commit s t).coil = t.coil := by simp [commit]
@[simp] theorem commit_rol : (commit s t).rol = t.rol := by simp [commit]
@[simp] theorem commit_cel : (commit s t).cel = t.cel := by simp [commit]
@[simp] theorem commit_way : (commit s t).way = t.way := by simp [commit]
@[simp] theorem commit_tol : (commit s t).tol = t.tol := by simp [commit]
@[simp] theorem commit_hkc : (commit s t).hkc = t.hkc := by simp [commit]
@[simp] theorem commit_sec : (commit s t).sec = t.sec := by simp [commit]
@[simp] theorem commit_bst : (commit s t).bst = t.bst := by simp [commit]

/-- Of the host interface, the end of a command touches the pending vectors alone. -/
theorem commit_hif : (commit s t).hif = { t.hif with pendingVectors := (commit s t).hif.pendingVectors } := by
  unfold commit; rw [State.refreshSummary_hif]

/-- Of the registers, the end of a command touches the interrupt summary alone. -/
theorem reg_commit_ne {o : Nat} (h : o ≠ Reg.GLB_INT_SUMMARY) : (commit s t).reg o = t.reg o := by
  unfold commit; rw [State.reg_refreshSummary_ne _ h]; rfl

/-- What the command sent has been sent; vector 9 may follow it. -/
theorem commit_outs : (commit s t).outs = t.outs ∨ (commit s t).outs = .msix 9 :: t.outs :=
  State.refreshSummary_outs _

variable (f : State → State)

/-- With the supplies there, a command answers its effect, committed. -/
theorem run_of_powered (h : s.pow.st ≠ .off) : run f s = .next (commit s (f s)) := by simp [run, h]

/-- In OFF a command changes nothing (R309). -/
theorem run_of_off (h : s.pow.st = .off) : run f s = .next s := by simp [run, h]

/-- Everything that `run` can answer. -/
theorem run_next {u : State} (h : run f s = .next u) :
    (s.pow.st = .off ∧ u = s) ∨ (s.pow.st ≠ .off ∧ u = commit s (f s)) := by
  by_cases h' : s.pow.st = .off
  · rw [run_of_off s f h'] at h; cases h; exact .inl ⟨h', rfl⟩
  · rw [run_of_powered s f h'] at h; cases h; exact .inr ⟨h', rfl⟩

/-- Everything that `runIf` can answer with a next state. -/
theorem runIf_next {m : String} {ok : Bool} {u : State} (h : runIf m ok f s = .next u) :
    ok = true ∧ ((s.pow.st = .off ∧ u = s) ∨ (s.pow.st ≠ .off ∧ u = commit s (f s))) := by
  unfold runIf at h
  split at h
  · next h' => exact ⟨h', run_next s f h⟩
  · cases h

/-- Operands in order, and the supplies there: the command answers its effect, committed. -/
theorem runIf_of_ok {m : String} {ok : Bool} (h : ok = true) (hp : s.pow.st ≠ .off) :
    runIf m ok f s = .next (commit s (f s)) := by simp [runIf, h, run_of_powered s f hp]

/-- A command with an operand that is not in order is a fault (log 3). -/
theorem runIf_of_not_ok {m : String} {ok : Bool} (h : ok = false) : runIf m ok f s = .fault (.illFormed m) := by simp [runIf, h]

/-- Everything that a command of the supplies can answer. -/
theorem runPower_next {u : State} (h : runPower f s = .next u) : u = { commit s (f s) with mono := (f s).mono } := by
  unfold runPower at h; cases h; rfl

/-! ## Completion -/

@[simp] theorem State.stickyIf_linkL12 (c : Bool) (x : Fld) : (s.stickyIf c x).linkL12 = s.linkL12 := by
  unfold State.stickyIf; split <;> rfl
@[simp] theorem State.stickyIf_variant (c : Bool) (x : Fld) : (s.stickyIf c x).variant = s.variant := by
  unfold State.stickyIf; split <;> rfl
@[simp] theorem State.stickyIf_pending (c : Bool) (x : Fld) : (s.stickyIf c x).pending = s.pending := by
  unfold State.stickyIf; split <;> rfl
@[simp] theorem State.stickyIf_now (c : Bool) (x : Fld) : (s.stickyIf c x).now = s.now := by
  unfold State.stickyIf; split <;> rfl
@[simp] theorem State.stickyIf_mono (c : Bool) (x : Fld) : (s.stickyIf c x).mono = s.mono := by
  unfold State.stickyIf; split <;> rfl
@[simp] theorem State.stickyIf_free (c : Bool) (x : Fld) : (s.stickyIf c x).free = s.free := by
  unfold State.stickyIf; split <;> rfl
@[simp] theorem State.stickyIf_held (c : Bool) (x : Fld) : (s.stickyIf c x).held = s.held := by
  unfold State.stickyIf; split <;> rfl
@[simp] theorem State.stickyIf_msix (c : Bool) (x : Fld) : (s.stickyIf c x).msix = s.msix := by
  unfold State.stickyIf; split <;> rfl
@[simp] theorem State.stickyIf_cap (c : Bool) (x : Fld) : (s.stickyIf c x).cap = s.cap := by
  unfold State.stickyIf; split <;> rfl
@[simp] theorem State.stickyIf_outs (c : Bool) (x : Fld) : (s.stickyIf c x).outs = s.outs := by
  unfold State.stickyIf; split <;> rfl
@[simp] theorem State.stickyIf_pow (c : Bool) (x : Fld) : (s.stickyIf c x).pow = s.pow := by
  unfold State.stickyIf; split <;> rfl
@[simp] theorem State.stickyIf_hif (c : Bool) (x : Fld) : (s.stickyIf c x).hif = s.hif := by
  unfold State.stickyIf; split <;> rfl
@[simp] theorem State.stickyIf_tmg (c : Bool) (x : Fld) : (s.stickyIf c x).tmg = s.tmg := by
  unfold State.stickyIf; split <;> rfl
@[simp] theorem State.stickyIf_sen (c : Bool) (x : Fld) : (s.stickyIf c x).sen = s.sen := by
  unfold State.stickyIf; split <;> rfl
@[simp] theorem State.stickyIf_frames (c : Bool) (x : Fld) : (s.stickyIf c x).frames = s.frames := by
  unfold State.stickyIf; split <;> rfl
@[simp] theorem State.stickyIf_trs (c : Bool) (x : Fld) : (s.stickyIf c x).trs = s.trs := by
  unfold State.stickyIf; split <;> rfl
@[simp] theorem State.stickyIf_rad (c : Bool) (x : Fld) : (s.stickyIf c x).rad = s.rad := by
  unfold State.stickyIf; split <;> rfl
@[simp] theorem State.stickyIf_casks (c : Bool) (x : Fld) : (s.stickyIf c x).casks = s.casks := by
  unfold State.stickyIf; split <;> rfl
@[simp] theorem State.stickyIf_coil (c : Bool) (x : Fld) : (s.stickyIf c x).coil = s.coil := by
  unfold State.stickyIf; split <;> rfl
@[simp] theorem State.stickyIf_rol (c : Bool) (x : Fld) : (s.stickyIf c x).rol = s.rol := by
  unfold State.stickyIf; split <;> rfl
@[simp] theorem State.stickyIf_cel (c : Bool) (x : Fld) : (s.stickyIf c x).cel = s.cel := by
  unfold State.stickyIf; split <;> rfl
@[simp] theorem State.stickyIf_way (c : Bool) (x : Fld) : (s.stickyIf c x).way = s.way := by
  unfold State.stickyIf; split <;> rfl
@[simp] theorem State.stickyIf_tol (c : Bool) (x : Fld) : (s.stickyIf c x).tol = s.tol := by
  unfold State.stickyIf; split <;> rfl
@[simp] theorem State.stickyIf_hkc (c : Bool) (x : Fld) : (s.stickyIf c x).hkc = s.hkc := by
  unfold State.stickyIf; split <;> rfl
@[simp] theorem State.stickyIf_nv (c : Bool) (x : Fld) : (s.stickyIf c x).nv = s.nv := by
  unfold State.stickyIf; split <;> rfl
@[simp] theorem State.stickyIf_sec (c : Bool) (x : Fld) : (s.stickyIf c x).sec = s.sec := by
  unfold State.stickyIf; split <;> rfl
@[simp] theorem State.stickyIf_bst (c : Bool) (x : Fld) : (s.stickyIf c x).bst = s.bst := by
  unfold State.stickyIf; split <;> rfl
@[simp] theorem State.modCmp_variant : (s.modCmp).variant = s.variant := by
  unfold State.modCmp; split <;> simp
@[simp] theorem State.modCmp_pending : (s.modCmp).pending = s.pending := by
  unfold State.modCmp; split <;> simp
@[simp] theorem State.modCmp_now : (s.modCmp).now = s.now := by
  unfold State.modCmp; split <;> simp
@[simp] theorem State.modCmp_mono : (s.modCmp).mono = s.mono := by
  unfold State.modCmp; split <;> simp
@[simp] theorem State.modCmp_free : (s.modCmp).free = s.free := by
  unfold State.modCmp; split <;> simp
@[simp] theorem State.modCmp_regs : (s.modCmp).regs = s.regs := by
  unfold State.modCmp; split <;> simp
@[simp] theorem State.modCmp_fresh : (s.modCmp).fresh = s.fresh := by
  unfold State.modCmp; split <;> simp
@[simp] theorem State.modCmp_held : (s.modCmp).held = s.held := by
  unfold State.modCmp; split <;> simp
@[simp] theorem State.modCmp_msix : (s.modCmp).msix = s.msix := by
  unfold State.modCmp; split <;> simp
@[simp] theorem State.modCmp_cap : (s.modCmp).cap = s.cap := by
  unfold State.modCmp; split <;> simp
@[simp] theorem State.modCmp_pow : (s.modCmp).pow = s.pow := by
  unfold State.modCmp; split <;> simp
@[simp] theorem State.modCmp_tmg : (s.modCmp).tmg = s.tmg := by
  unfold State.modCmp; split <;> simp
@[simp] theorem State.modCmp_sen : (s.modCmp).sen = s.sen := by
  unfold State.modCmp; split <;> simp
@[simp] theorem State.modCmp_frames : (s.modCmp).frames = s.frames := by
  unfold State.modCmp; split <;> simp
@[simp] theorem State.modCmp_trs : (s.modCmp).trs = s.trs := by
  unfold State.modCmp; split <;> simp
@[simp] theorem State.modCmp_rad : (s.modCmp).rad = s.rad := by
  unfold State.modCmp; split <;> simp
@[simp] theorem State.modCmp_casks : (s.modCmp).casks = s.casks := by
  unfold State.modCmp; split <;> simp
@[simp] theorem State.modCmp_coil : (s.modCmp).coil = s.coil := by
  unfold State.modCmp; split <;> simp
@[simp] theorem State.modCmp_rol : (s.modCmp).rol = s.rol := by
  unfold State.modCmp; split <;> simp
@[simp] theorem State.modCmp_cel : (s.modCmp).cel = s.cel := by
  unfold State.modCmp; split <;> simp
@[simp] theorem State.modCmp_way : (s.modCmp).way = s.way := by
  unfold State.modCmp; split <;> simp
@[simp] theorem State.modCmp_tol : (s.modCmp).tol = s.tol := by
  unfold State.modCmp; split <;> simp
@[simp] theorem State.modCmp_hkc : (s.modCmp).hkc = s.hkc := by
  unfold State.modCmp; split <;> simp
@[simp] theorem State.modCmp_nv : (s.modCmp).nv = s.nv := by
  unfold State.modCmp; split <;> simp
@[simp] theorem State.modCmp_sec : (s.modCmp).sec = s.sec := by
  unfold State.modCmp; split <;> simp
@[simp] theorem State.modCmp_bst : (s.modCmp).bst = s.bst := by
  unfold State.modCmp; split <;> simp
@[simp] theorem State.putCompletion_variant (e : CmpEntry) (a : Nat) (b : Option (List Byte)) : (s.putCompletion e a b).variant = s.variant := by
  unfold State.putCompletion; cases b <;> simp
@[simp] theorem State.putCompletion_pending (e : CmpEntry) (a : Nat) (b : Option (List Byte)) : (s.putCompletion e a b).pending = s.pending := by
  unfold State.putCompletion; cases b <;> simp
@[simp] theorem State.putCompletion_now (e : CmpEntry) (a : Nat) (b : Option (List Byte)) : (s.putCompletion e a b).now = s.now := by
  unfold State.putCompletion; cases b <;> simp
@[simp] theorem State.putCompletion_mono (e : CmpEntry) (a : Nat) (b : Option (List Byte)) : (s.putCompletion e a b).mono = s.mono := by
  unfold State.putCompletion; cases b <;> simp
@[simp] theorem State.putCompletion_free (e : CmpEntry) (a : Nat) (b : Option (List Byte)) : (s.putCompletion e a b).free = s.free := by
  unfold State.putCompletion; cases b <;> simp
@[simp] theorem State.putCompletion_held (e : CmpEntry) (a : Nat) (b : Option (List Byte)) : (s.putCompletion e a b).held = s.held := by
  unfold State.putCompletion; cases b <;> simp
@[simp] theorem State.putCompletion_msix (e : CmpEntry) (a : Nat) (b : Option (List Byte)) : (s.putCompletion e a b).msix = s.msix := by
  unfold State.putCompletion; cases b <;> simp
@[simp] theorem State.putCompletion_cap (e : CmpEntry) (a : Nat) (b : Option (List Byte)) : (s.putCompletion e a b).cap = s.cap := by
  unfold State.putCompletion; cases b <;> simp
@[simp] theorem State.putCompletion_pow (e : CmpEntry) (a : Nat) (b : Option (List Byte)) : (s.putCompletion e a b).pow = s.pow := by
  unfold State.putCompletion; cases b <;> simp
@[simp] theorem State.putCompletion_tmg (e : CmpEntry) (a : Nat) (b : Option (List Byte)) : (s.putCompletion e a b).tmg = s.tmg := by
  unfold State.putCompletion; cases b <;> simp
@[simp] theorem State.putCompletion_sen (e : CmpEntry) (a : Nat) (b : Option (List Byte)) : (s.putCompletion e a b).sen = s.sen := by
  unfold State.putCompletion; cases b <;> simp
@[simp] theorem State.putCompletion_frames (e : CmpEntry) (a : Nat) (b : Option (List Byte)) : (s.putCompletion e a b).frames = s.frames := by
  unfold State.putCompletion; cases b <;> simp
@[simp] theorem State.putCompletion_trs (e : CmpEntry) (a : Nat) (b : Option (List Byte)) : (s.putCompletion e a b).trs = s.trs := by
  unfold State.putCompletion; cases b <;> simp
@[simp] theorem State.putCompletion_rad (e : CmpEntry) (a : Nat) (b : Option (List Byte)) : (s.putCompletion e a b).rad = s.rad := by
  unfold State.putCompletion; cases b <;> simp
@[simp] theorem State.putCompletion_casks (e : CmpEntry) (a : Nat) (b : Option (List Byte)) : (s.putCompletion e a b).casks = s.casks := by
  unfold State.putCompletion; cases b <;> simp
@[simp] theorem State.putCompletion_coil (e : CmpEntry) (a : Nat) (b : Option (List Byte)) : (s.putCompletion e a b).coil = s.coil := by
  unfold State.putCompletion; cases b <;> simp
@[simp] theorem State.putCompletion_rol (e : CmpEntry) (a : Nat) (b : Option (List Byte)) : (s.putCompletion e a b).rol = s.rol := by
  unfold State.putCompletion; cases b <;> simp
@[simp] theorem State.putCompletion_cel (e : CmpEntry) (a : Nat) (b : Option (List Byte)) : (s.putCompletion e a b).cel = s.cel := by
  unfold State.putCompletion; cases b <;> simp
@[simp] theorem State.putCompletion_way (e : CmpEntry) (a : Nat) (b : Option (List Byte)) : (s.putCompletion e a b).way = s.way := by
  unfold State.putCompletion; cases b <;> simp
@[simp] theorem State.putCompletion_tol (e : CmpEntry) (a : Nat) (b : Option (List Byte)) : (s.putCompletion e a b).tol = s.tol := by
  unfold State.putCompletion; cases b <;> simp
@[simp] theorem State.putCompletion_hkc (e : CmpEntry) (a : Nat) (b : Option (List Byte)) : (s.putCompletion e a b).hkc = s.hkc := by
  unfold State.putCompletion; cases b <;> simp
@[simp] theorem State.putCompletion_nv (e : CmpEntry) (a : Nat) (b : Option (List Byte)) : (s.putCompletion e a b).nv = s.nv := by
  unfold State.putCompletion; cases b <;> simp
@[simp] theorem State.putCompletion_sec (e : CmpEntry) (a : Nat) (b : Option (List Byte)) : (s.putCompletion e a b).sec = s.sec := by
  unfold State.putCompletion; cases b <;> simp
@[simp] theorem State.putCompletion_bst (e : CmpEntry) (a : Nat) (b : Option (List Byte)) : (s.putCompletion e a b).bst = s.bst := by
  unfold State.putCompletion; cases b <;> simp
@[simp] theorem State.complete_variant (cid st why : Nat) (v : Option Nat) (b : Option (List Byte)) : (s.complete cid st why v b).variant = s.variant := by
  unfold State.complete; split
  · rfl
  · cases v <;> dsimp only <;> split <;> simp
@[simp] theorem State.complete_pending (cid st why : Nat) (v : Option Nat) (b : Option (List Byte)) : (s.complete cid st why v b).pending = s.pending := by
  unfold State.complete; split
  · rfl
  · cases v <;> dsimp only <;> split <;> simp
@[simp] theorem State.complete_now (cid st why : Nat) (v : Option Nat) (b : Option (List Byte)) : (s.complete cid st why v b).now = s.now := by
  unfold State.complete; split
  · rfl
  · cases v <;> dsimp only <;> split <;> simp
@[simp] theorem State.complete_mono (cid st why : Nat) (v : Option Nat) (b : Option (List Byte)) : (s.complete cid st why v b).mono = s.mono := by
  unfold State.complete; split
  · rfl
  · cases v <;> dsimp only <;> split <;> simp
@[simp] theorem State.complete_held (cid st why : Nat) (v : Option Nat) (b : Option (List Byte)) : (s.complete cid st why v b).held = s.held := by
  unfold State.complete; split
  · rfl
  · cases v <;> dsimp only <;> split <;> simp
@[simp] theorem State.complete_msix (cid st why : Nat) (v : Option Nat) (b : Option (List Byte)) : (s.complete cid st why v b).msix = s.msix := by
  unfold State.complete; split
  · rfl
  · cases v <;> dsimp only <;> split <;> simp
@[simp] theorem State.complete_cap (cid st why : Nat) (v : Option Nat) (b : Option (List Byte)) : (s.complete cid st why v b).cap = s.cap := by
  unfold State.complete; split
  · rfl
  · cases v <;> dsimp only <;> split <;> simp
@[simp] theorem State.complete_pow (cid st why : Nat) (v : Option Nat) (b : Option (List Byte)) : (s.complete cid st why v b).pow = s.pow := by
  unfold State.complete; split
  · rfl
  · cases v <;> dsimp only <;> split <;> simp
@[simp] theorem State.complete_tmg (cid st why : Nat) (v : Option Nat) (b : Option (List Byte)) : (s.complete cid st why v b).tmg = s.tmg := by
  unfold State.complete; split
  · rfl
  · cases v <;> dsimp only <;> split <;> simp
@[simp] theorem State.complete_sen (cid st why : Nat) (v : Option Nat) (b : Option (List Byte)) : (s.complete cid st why v b).sen = s.sen := by
  unfold State.complete; split
  · rfl
  · cases v <;> dsimp only <;> split <;> simp
@[simp] theorem State.complete_frames (cid st why : Nat) (v : Option Nat) (b : Option (List Byte)) : (s.complete cid st why v b).frames = s.frames := by
  unfold State.complete; split
  · rfl
  · cases v <;> dsimp only <;> split <;> simp
@[simp] theorem State.complete_trs (cid st why : Nat) (v : Option Nat) (b : Option (List Byte)) : (s.complete cid st why v b).trs = s.trs := by
  unfold State.complete; split
  · rfl
  · cases v <;> dsimp only <;> split <;> simp
@[simp] theorem State.complete_rad (cid st why : Nat) (v : Option Nat) (b : Option (List Byte)) : (s.complete cid st why v b).rad = s.rad := by
  unfold State.complete; split
  · rfl
  · cases v <;> dsimp only <;> split <;> simp
@[simp] theorem State.complete_casks (cid st why : Nat) (v : Option Nat) (b : Option (List Byte)) : (s.complete cid st why v b).casks = s.casks := by
  unfold State.complete; split
  · rfl
  · cases v <;> dsimp only <;> split <;> simp
@[simp] theorem State.complete_coil (cid st why : Nat) (v : Option Nat) (b : Option (List Byte)) : (s.complete cid st why v b).coil = s.coil := by
  unfold State.complete; split
  · rfl
  · cases v <;> dsimp only <;> split <;> simp
@[simp] theorem State.complete_rol (cid st why : Nat) (v : Option Nat) (b : Option (List Byte)) : (s.complete cid st why v b).rol = s.rol := by
  unfold State.complete; split
  · rfl
  · cases v <;> dsimp only <;> split <;> simp
@[simp] theorem State.complete_cel (cid st why : Nat) (v : Option Nat) (b : Option (List Byte)) : (s.complete cid st why v b).cel = s.cel := by
  unfold State.complete; split
  · rfl
  · cases v <;> dsimp only <;> split <;> simp
@[simp] theorem State.complete_way (cid st why : Nat) (v : Option Nat) (b : Option (List Byte)) : (s.complete cid st why v b).way = s.way := by
  unfold State.complete; split
  · rfl
  · cases v <;> dsimp only <;> split <;> simp
@[simp] theorem State.complete_tol (cid st why : Nat) (v : Option Nat) (b : Option (List Byte)) : (s.complete cid st why v b).tol = s.tol := by
  unfold State.complete; split
  · rfl
  · cases v <;> dsimp only <;> split <;> simp
@[simp] theorem State.complete_hkc (cid st why : Nat) (v : Option Nat) (b : Option (List Byte)) : (s.complete cid st why v b).hkc = s.hkc := by
  unfold State.complete; split
  · rfl
  · cases v <;> dsimp only <;> split <;> simp
@[simp] theorem State.complete_nv (cid st why : Nat) (v : Option Nat) (b : Option (List Byte)) : (s.complete cid st why v b).nv = s.nv := by
  unfold State.complete; split
  · rfl
  · cases v <;> dsimp only <;> split <;> simp
@[simp] theorem State.complete_sec (cid st why : Nat) (v : Option Nat) (b : Option (List Byte)) : (s.complete cid st why v b).sec = s.sec := by
  unfold State.complete; split
  · rfl
  · cases v <;> dsimp only <;> split <;> simp
@[simp] theorem State.complete_bst (cid st why : Nat) (v : Option Nat) (b : Option (List Byte)) : (s.complete cid st why v b).bst = s.bst := by
  unfold State.complete; split
  · rfl
  · cases v <;> dsimp only <;> split <;> simp
@[simp] theorem State.fail_variant (cid st why : Nat) : (s.fail cid st why).variant = s.variant := by
  unfold State.fail; split <;> simp
@[simp] theorem State.fail_pending (cid st why : Nat) : (s.fail cid st why).pending = s.pending := by
  unfold State.fail; split <;> simp
@[simp] theorem State.fail_now (cid st why : Nat) : (s.fail cid st why).now = s.now := by
  unfold State.fail; split <;> simp
@[simp] theorem State.fail_mono (cid st why : Nat) : (s.fail cid st why).mono = s.mono := by
  unfold State.fail; split <;> simp
@[simp] theorem State.fail_held (cid st why : Nat) : (s.fail cid st why).held = s.held := by
  unfold State.fail; split <;> simp
@[simp] theorem State.fail_msix (cid st why : Nat) : (s.fail cid st why).msix = s.msix := by
  unfold State.fail; split <;> simp
@[simp] theorem State.fail_cap (cid st why : Nat) : (s.fail cid st why).cap = s.cap := by
  unfold State.fail; split <;> simp
@[simp] theorem State.fail_pow (cid st why : Nat) : (s.fail cid st why).pow = s.pow := by
  unfold State.fail; split <;> simp
@[simp] theorem State.fail_tmg (cid st why : Nat) : (s.fail cid st why).tmg = s.tmg := by
  unfold State.fail; split <;> simp
@[simp] theorem State.fail_sen (cid st why : Nat) : (s.fail cid st why).sen = s.sen := by
  unfold State.fail; split <;> simp
@[simp] theorem State.fail_frames (cid st why : Nat) : (s.fail cid st why).frames = s.frames := by
  unfold State.fail; split <;> simp
@[simp] theorem State.fail_trs (cid st why : Nat) : (s.fail cid st why).trs = s.trs := by
  unfold State.fail; split <;> simp
@[simp] theorem State.fail_rad (cid st why : Nat) : (s.fail cid st why).rad = s.rad := by
  unfold State.fail; split <;> simp
@[simp] theorem State.fail_casks (cid st why : Nat) : (s.fail cid st why).casks = s.casks := by
  unfold State.fail; split <;> simp
@[simp] theorem State.fail_coil (cid st why : Nat) : (s.fail cid st why).coil = s.coil := by
  unfold State.fail; split <;> simp
@[simp] theorem State.fail_rol (cid st why : Nat) : (s.fail cid st why).rol = s.rol := by
  unfold State.fail; split <;> simp
@[simp] theorem State.fail_cel (cid st why : Nat) : (s.fail cid st why).cel = s.cel := by
  unfold State.fail; split <;> simp
@[simp] theorem State.fail_way (cid st why : Nat) : (s.fail cid st why).way = s.way := by
  unfold State.fail; split <;> simp
@[simp] theorem State.fail_tol (cid st why : Nat) : (s.fail cid st why).tol = s.tol := by
  unfold State.fail; split <;> simp
@[simp] theorem State.fail_hkc (cid st why : Nat) : (s.fail cid st why).hkc = s.hkc := by
  unfold State.fail; split <;> simp
@[simp] theorem State.fail_nv (cid st why : Nat) : (s.fail cid st why).nv = s.nv := by
  unfold State.fail; split <;> simp
@[simp] theorem State.fail_sec (cid st why : Nat) : (s.fail cid st why).sec = s.sec := by
  unfold State.fail; split <;> simp
@[simp] theorem State.fail_bst (cid st why : Nat) : (s.fail cid st why).bst = s.bst := by
  unfold State.fail; split <;> simp

/-- A completion entry that goes to host memory: its index moves on, and the entry has left the block for its slot (R265). -/
theorem State.putCompletion_outs (e : CmpEntry) (a : Nat) (b : Option (List Byte)) :
    ∃ l, (s.putCompletion e a b).outs = l ++ s.outs ∧
      .completion { e with
        phase := decide (s.hif.cmpProd / s.cmpSize % 2 = 0), resultWritten := b.isSome
        addr := s.cmpAddr s.hif.cmpProd } ∈ l := by
  have key : ∀ u : State, u.modCmp.outs = u.outs ∨ u.modCmp.outs = .msix 0 :: u.outs := by
    intro u
    unfold State.modCmp
    split
    · exact State.signal_outs _ 0
    · exact .inl rfl
  have size : ∀ o : Out, (s.emit o).cmpSize = s.cmpSize := fun _ => rfl
  have slot : ∀ (o : Out) (n : Nat), (s.emit o).cmpAddr n = s.cmpAddr n := fun _ _ => rfl
  unfold State.putCompletion
  cases b with
  | none =>
    dsimp only
    rcases key _ with h | h <;> rw [h]
    · exact ⟨[_], by simp, .head _⟩
    · exact ⟨[.msix 0, _], by simp, .tail _ (.head _)⟩
  | some b =>
    dsimp only
    rcases key _ with h | h <;> rw [h]
    · exact ⟨[_, .result a (padTo 64 b)], by simp [size, slot], .head _⟩
    · exact ⟨[.msix 0, _, .result a (padTo 64 b)], by simp [size, slot], .tail _ (.head _)⟩

/-- A command that is not outstanding cannot complete. -/
theorem State.complete_of_none {cid st why : Nat} {v : Option Nat} {b : Option (List Byte)}
    (h : s.hif.outstanding.find? (·.cid = cid) = none) : s.complete cid st why v b = s := by
  unfold State.complete; rw [h]

/-! ## Acceptance -/

/-- A command that the limits of R263 keep waiting changes nothing. -/
theorem State.accept_of_full {h : Hdr} {op : Nat} {body : State → Nat → State} (hf : s.canAccept h.fence = false) :
    s.accept h op body = s := by simp [State.accept, hf]

/-- An accepted command is outstanding under the next serial number, and its body does the rest. -/
theorem State.accept_of_room {h : Hdr} {op : Nat} {body : State → Nat → State} (hf : s.canAccept h.fence = true) :
    s.accept h op body =
      body { s with
        hif.nextCid := s.hif.nextCid + 1, hif.lastAccept := some s.nextAccept
        hif.outstanding := s.hif.outstanding ++
          [{ cid := s.hif.nextCid, tag := h.tag, opcode := op, resultAddr := h.resultAddr, accept := s.nextAccept, job := .none }] }
        s.hif.nextCid := by simp [State.accept, hf]

/-! ## Steps -/

/-- A step takes the command at the front. -/
theorem step_cons {c : Instr} {rest : List Instr} (h : s.pending = c :: rest) : step s = exec c { s with pending := rest } := by
  simp [step, h]

/-- With nothing waiting, one tick passes. -/
theorem step_nil (h : s.pending = []) : step s = .next s.tick := by simp [step, h]

/-- No tick passes in OFF (R309). -/
theorem State.tick_of_off (h : s.pow.st = .off) : s.tick = s := by simp [State.tick, State.clockRuns, h]

end Sys2Proof.Machine
end

