-- ==== Sys2Proof/Laws/PerInstr.lean ====
section
/-! SUPPORT. A law of every command as syntax: what a well-formed command names is there in the hardware. -/

set_option Elab.async false

namespace Sys2Proof.Laws.OperandsInRange

open Sys2Proof

/-- The dies that a command names. -/
def dies : Instr → List Nat
  | .readout die _ => [die]
  | .halo die _ _ => [die]
  | .state die _ => [die]
  | .history die _ => [die]
  | .backfeed die _ => [die]
  | .control die _ => [die]
  | .misdeliveredItemReturn sender _ => [sender]
  | .cellarEccError die _ _ => [die]
  | .patrolScrub die _ => [die]
  | .trellisLinkFail die => [die]
  | .dieWatchdogMiss die => [die]
  | .diePrepared die _ => [die]
  | .replicaCheckDone die _ _ => [die]
  | .replicaRestore die _ => [die]
  | .drainEnd die => [die]
  | _ => []

/-- The channels that a command names. -/
def chans : Instr → List Nat
  | .chBufProd ch _ _ => [ch]
  | .chScmpCons ch _ => [ch]
  | .channelEnable ch _ => [ch]
  | .channelDisable ch _ => [ch]
  | .egressBufferAvailable ch => [ch]
  | .recordTransferDone ch _ => [ch]
  | _ => []

/-- The tile rows that a command names. -/
def rows : Instr → List Nat
  | .readout _ i => [i.row]
  | .halo _ i _ => [i.row]
  | .state _ i => [i.row]
  | .history _ i => [i.row]
  | .backfeed _ i => [i.row]
  | .misdeliveredItemReturn _ i => [i.row]
  | _ => []

/-- The nodes of the ring that a command names. -/
def nodes : Instr → List Nat
  | .frameEpoch m => [m.origin]
  | .ringTrigger m => [m.origin]
  | .census m => [m.origin]
  | .censusReply m => [m.origin]
  | .delay m => [m.origin]
  | .user m => [m.origin]
  | .nack m => [m.origin]
  | .censusReq m => [m.origin]
  | .ringMessageReturn m => [m.origin]
  | _ => []

/-- A well-formed command names dies 0 to 4 (R1), channels 0 to 7 (R274), tile rows 0 to 47 (R42) and nodes 0 to 15 (R288). -/
def Statement (i : Instr) : Prop :=
  i.wf = true → (∀ n ∈ dies i, n < 5) ∧ (∀ c ∈ chans i, c < 8) ∧ (∀ r ∈ rows i, r < 48) ∧ ∀ n ∈ nodes i, n < 16

/-- A command that names no die, channel, row or node. -/
theorem of_namesNothing {i : Instr} (hd : dies i = []) (hc : chans i = []) (hr : rows i = []) (hn : nodes i = []) : Statement i := by
  simp [Statement, hd, hc, hr, hn]

theorem startStream (h : Hdr) : Statement (.startStream h) :=
  of_namesNothing rfl rfl rfl rfl
theorem stopStream (h : Hdr) : Statement (.stopStream h) :=
  of_namesNothing rfl rfl rfl rfl
theorem setProfile (h : Hdr) (p : ProfileReq) (frame : Nat) : Statement (.setProfile h p frame) :=
  of_namesNothing rfl rfl rfl rfl
theorem armTake (h : Hdr) (r : ArmReq) : Statement (.armTake h r) :=
  of_namesNothing rfl rfl rfl rfl
theorem abortTake (h : Hdr) : Statement (.abortTake h) :=
  of_namesNothing rfl rfl rfl rfl
theorem abortReplay (h : Hdr) : Statement (.abortReplay h) :=
  of_namesNothing rfl rfl rfl rfl
theorem replayTake (h : Hdr) (die take mode first count interval : Nat) : Statement (.replayTake h die take mode first count interval) :=
  of_namesNothing rfl rfl rfl rfl
theorem calibrate (h : Hdr) (kind flags capture : Nat) : Statement (.calibrate h kind flags capture) :=
  of_namesNothing rfl rfl rfl rfl
theorem rackCask (h : Hdr) (cask frame : Nat) : Statement (.rackCask h cask frame) :=
  of_namesNothing rfl rfl rfl rfl
theorem loadCask (h : Hdr) (cask addr : Nat) (data : HostData) : Statement (.loadCask h cask addr data) :=
  of_namesNothing rfl rfl rfl rfl
theorem saveCask (h : Hdr) (cask addr : Nat) : Statement (.saveCask h cask addr) :=
  of_namesNothing rfl rfl rfl rfl
theorem calAbort (h : Hdr) : Statement (.calAbort h) :=
  of_namesNothing rfl rfl rfl rfl
theorem coilRun (h : Hdr) (coil entry : Nat) : Statement (.coilRun h coil entry) :=
  of_namesNothing rfl rfl rfl rfl
theorem coilStop (h : Hdr) (coil entry : Nat) : Statement (.coilStop h coil entry) :=
  of_namesNothing rfl rfl rfl rfl
theorem roleSet (h : Hdr) (expect handover frame : Nat) (map : List MapReq) : Statement (.roleSet h expect handover frame map) :=
  of_namesNothing rfl rfl rfl rfl
theorem energyPlan (h : Hdr) (p : ProfileReq) (frames store : Nat) : Statement (.energyPlan h p frames store) :=
  of_namesNothing rfl rfl rfl rfl
theorem setBudget (h : Hdr) (cap window allow flat mask : Nat) : Statement (.setBudget h cap window allow flat mask) :=
  of_namesNothing rfl rfl rfl rfl
theorem bistRun (h : Hdr) (die unit slices : Nat) : Statement (.bistRun h die unit slices) :=
  of_namesNothing rfl rfl rfl rfl
theorem nvRead (h : Hdr) (area offset length addr password : Nat) : Statement (.nvRead h area offset length addr password) :=
  of_namesNothing rfl rfl rfl rfl
theorem nvWrite (h : Hdr) (area offset length addr password : Nat) (data : HostData) : Statement (.nvWrite h area offset length addr password data) :=
  of_namesNothing rfl rfl rfl rfl
theorem nvStoreTrims (h : Hdr) : Statement (.nvStoreTrims h) :=
  of_namesNothing rfl rfl rfl rfl
theorem attest (h : Hdr) (nonce : List Byte) (addr : Nat) : Statement (.attest h nonce addr) :=
  of_namesNothing rfl rfl rfl rfl
theorem fwStage (h : Hdr) (image length addr : Nat) (data : HostData) : Statement (.fwStage h image length addr data) :=
  of_namesNothing rfl rfl rfl rfl
theorem fwCommit (h : Hdr) (image : Nat) : Statement (.fwCommit h image) :=
  of_namesNothing rfl rfl rfl rfl
theorem debugUnlockChallenge (h : Hdr) (addr : Nat) : Statement (.debugUnlockChallenge h addr) :=
  of_namesNothing rfl rfl rfl rfl
theorem debugUnlockResponse (h : Hdr) (length addr : Nat) (data : HostData) : Statement (.debugUnlockResponse h length addr data) :=
  of_namesNothing rfl rfl rfl rfl
theorem cmdProd (v : Nat) : Statement (.cmdProd v) :=
  of_namesNothing rfl rfl rfl rfl
theorem chBufProd (ch v : Nat) (descs : List BufDesc) : Statement (.chBufProd ch v descs) := by
  simp +contextual [Statement, dies, chans, rows, nodes, Instr.wf, chOk]
theorem cmpCons (v : Nat) : Statement (.cmpCons v) :=
  of_namesNothing rfl rfl rfl rfl
theorem chScmpCons (ch v : Nat) : Statement (.chScmpCons ch v) := by
  simp +contextual [Statement, dies, chans, rows, nodes, Instr.wf, chOk]
theorem commandFetch (desc : List Byte) (data : HostData) : Statement (.commandFetch desc data) :=
  of_namesNothing rfl rfl rfl rfl
theorem interruptModerationTimeout (vector : Nat) : Statement (.interruptModerationTimeout vector) :=
  of_namesNothing rfl rfl rfl rfl
theorem registerWrite (off size : Nat) (v : BitVec 64) : Statement (.registerWrite off size v) :=
  of_namesNothing rfl rfl rfl rfl
theorem loRegisterRead (a : RegRead) : Statement (.loRegisterRead a) :=
  of_namesNothing rfl rfl rfl rfl
theorem senBiasWrite (v : Word) : Statement (.senBiasWrite v) :=
  of_namesNothing rfl rfl rfl rfl
theorem senQrefWrite (v : Word) : Statement (.senQrefWrite v) :=
  of_namesNothing rfl rfl rfl rfl
theorem senGridFrameLoRead : Statement .senGridFrameLoRead :=
  of_namesNothing rfl rfl rfl rfl
theorem senGridFrameHiRead : Statement .senGridFrameHiRead :=
  of_namesNothing rfl rfl rfl rfl
theorem gridFreezeTimeout : Statement .gridFreezeTimeout :=
  of_namesNothing rfl rfl rfl rfl
theorem settlingEnd : Statement .settlingEnd :=
  of_namesNothing rfl rfl rfl rfl
theorem tmgSyncConfigWrite (off : Nat) (v : Word) : Statement (.tmgSyncConfigWrite off v) :=
  of_namesNothing rfl rfl rfl rfl
theorem tmgTrigConfigWrite (off : Nat) (v : Word) : Statement (.tmgTrigConfigWrite off v) :=
  of_namesNothing rfl rfl rfl rfl
theorem pplRadDataWrite (v : Word) : Statement (.pplRadDataWrite v) :=
  of_namesNothing rfl rfl rfl rfl
theorem swap (v : Word) : Statement (.swap v) :=
  of_namesNothing rfl rfl rfl rfl
theorem flush (v : Word) : Statement (.flush v) :=
  of_namesNothing rfl rfl rfl rfl
theorem trsTauWrite (off : Nat) (v : Word) : Statement (.trsTauWrite off v) :=
  of_namesNothing rfl rfl rfl rfl
theorem calTrimWrite (off : Nat) (v : Word) : Statement (.calTrimWrite off v) :=
  of_namesNothing rfl rfl rfl rfl
theorem coilUcodeWrite (w : Nat) (v : Word) : Statement (.coilUcodeWrite w v) :=
  of_namesNothing rfl rfl rfl rfl
theorem regGo : Statement .regGo :=
  of_namesNothing rfl rfl rfl rfl
theorem injGo : Statement .injGo :=
  of_namesNothing rfl rfl rfl rfl
theorem selfcal : Statement .selfcal :=
  of_namesNothing rfl rfl rfl rfl
theorem qFlush : Statement .qFlush :=
  of_namesNothing rfl rfl rfl rfl
theorem hkcQLoRead : Statement .hkcQLoRead :=
  of_namesNothing rfl rfl rfl rfl
theorem censusRequest : Statement .censusRequest :=
  of_namesNothing rfl rfl rfl rfl
theorem userSend : Statement .userSend :=
  of_namesNothing rfl rfl rfl rfl
theorem wayCfgWrite (v : Word) : Statement (.wayCfgWrite v) :=
  of_namesNothing rfl rfl rfl rfl
theorem pstateRequest (v : Word) : Statement (.pstateRequest v) :=
  of_namesNothing rfl rfl rfl rfl
theorem critHoldClear : Statement .critHoldClear :=
  of_namesNothing rfl rfl rfl rfl
theorem lock : Statement .lock :=
  of_namesNothing rfl rfl rfl rfl
theorem secMboxReqWrite (v : Word) : Statement (.secMboxReqWrite v) :=
  of_namesNothing rfl rfl rfl rfl
theorem cmdEn (v : Word) : Statement (.cmdEn v) :=
  of_namesNothing rfl rfl rfl rfl
theorem channelEnable (ch : Nat) (v : Word) : Statement (.channelEnable ch v) := by
  simp +contextual [Statement, dies, chans, rows, nodes, Instr.wf, chOk]
theorem channelDisable (ch : Nat) (v : Word) : Statement (.channelDisable ch v) := by
  simp +contextual [Statement, dies, chans, rows, nodes, Instr.wf, chOk]
theorem glbIntSummaryWrite (v : Word) : Statement (.glbIntSummaryWrite v) :=
  of_namesNothing rfl rfl rfl rfl
theorem glbIntEnWrite (v : Word) : Statement (.glbIntEnWrite v) :=
  of_namesNothing rfl rfl rfl rfl
theorem busMasterEnableChange (on : Bool) : Statement (.busMasterEnableChange on) :=
  of_namesNothing rfl rfl rfl rfl
theorem d3hotEntry : Statement .d3hotEntry :=
  of_namesNothing rfl rfl rfl rfl
theorem powerOn : Statement .powerOn :=
  of_namesNothing rfl rfl rfl rfl
theorem rstNAssert : Statement .rstNAssert :=
  of_namesNothing rfl rfl rfl rfl
theorem rstNRelease : Statement .rstNRelease :=
  of_namesNothing rfl rfl rfl rfl
theorem vioLow : Statement .vioLow :=
  of_namesNothing rfl rfl rfl rfl
theorem vddHLow : Statement .vddHLow :=
  of_namesNothing rfl rfl rfl rfl
theorem mgmtWatchdogExpire : Statement .mgmtWatchdogExpire :=
  of_namesNothing rfl rfl rfl rfl
theorem perstNAssert : Statement .perstNAssert :=
  of_namesNothing rfl rfl rfl rfl
theorem functionLevelReset : Statement .functionLevelReset :=
  of_namesNothing rfl rfl rfl rfl
theorem linkUp (speed width : Nat) : Statement (.linkUp speed width) :=
  of_namesNothing rfl rfl rfl rfl
theorem recallComplete (us : Nat) : Statement (.recallComplete us) :=
  of_namesNothing rfl rfl rfl rfl
theorem bootComplete (slots : SpiSlots) : Statement (.bootComplete slots) :=
  of_namesNothing rfl rfl rfl rfl
theorem bootBistEnd : Statement .bootBistEnd :=
  of_namesNothing rfl rfl rfl rfl
theorem pstateReached : Statement .pstateReached :=
  of_namesNothing rfl rfl rfl rfl
theorem frameSnapshot (scene : Scene) : Statement (.frameSnapshot scene) :=
  of_namesNothing rfl rfl rfl rfl
theorem intermediateSnapshot (scene : Scene) : Statement (.intermediateSnapshot scene) :=
  of_namesNothing rfl rfl rfl rfl
theorem gridConversionDone (readings : List (Option Int)) : Statement (.gridConversionDone readings) :=
  of_namesNothing rfl rfl rfl rfl
theorem readout (die : Nat) (i : ItemHdr) : Statement (.readout die i) := by
  simp +contextual [Statement, dies, chans, rows, nodes, Instr.wf, dieOk, itemOk, rowOk]
theorem halo (die : Nat) (i : ItemHdr) (part : Nat) : Statement (.halo die i part) := by
  simp +contextual [Statement, dies, chans, rows, nodes, Instr.wf, dieOk, itemOk, rowOk]
theorem state (die : Nat) (i : ItemHdr) : Statement (.state die i) := by
  simp +contextual [Statement, dies, chans, rows, nodes, Instr.wf, dieOk, itemOk, rowOk]
theorem history (die : Nat) (i : ItemHdr) : Statement (.history die i) := by
  simp +contextual [Statement, dies, chans, rows, nodes, Instr.wf, dieOk, itemOk, rowOk]
theorem backfeed (die : Nat) (i : ItemHdr) : Statement (.backfeed die i) := by
  simp +contextual [Statement, dies, chans, rows, nodes, Instr.wf, dieOk, itemOk, rowOk]
theorem control (die : Nat) (cid : Nat) : Statement (.control die cid) := by
  simp +contextual [Statement, dies, chans, rows, nodes, Instr.wf, dieOk]
theorem misdeliveredItemReturn (sender : Nat) (i : ItemHdr) : Statement (.misdeliveredItemReturn sender i) := by
  simp +contextual [Statement, dies, chans, rows, nodes, Instr.wf, dieOk, itemOk, rowOk]
theorem previewFrameComplete (frame : Nat) : Statement (.previewFrameComplete frame) :=
  of_namesNothing rfl rfl rfl rfl
theorem committedFrameComplete (frame : Nat) : Statement (.committedFrameComplete frame) :=
  of_namesNothing rfl rfl rfl rfl
theorem egressBufferAvailable (ch : Nat) : Statement (.egressBufferAvailable ch) := by
  simp +contextual [Statement, dies, chans, rows, nodes, Instr.wf, chOk]
theorem recordTransferDone (ch : Nat) (dmaError : Bool) : Statement (.recordTransferDone ch dmaError) := by
  simp +contextual [Statement, dies, chans, rows, nodes, Instr.wf, chOk]
theorem refInEdge (t : Nat) : Statement (.refInEdge t) :=
  of_namesNothing rfl rfl rfl rfl
theorem refLossTimeout : Statement .refLossTimeout :=
  of_namesNothing rfl rfl rfl rfl
theorem ltcFrame (span : LtcSpan) (code : Word) (user : Word) (reverse : Bool) : Statement (.ltcFrame span code user reverse) :=
  of_namesNothing rfl rfl rfl rfl
theorem ltcLossTimeout : Statement .ltcLossTimeout :=
  of_namesNothing rfl rfl rfl rfl
theorem trigInEdge (t : Nat) (level : Bool) : Statement (.trigInEdge t level) :=
  of_namesNothing rfl rfl rfl rfl
theorem triggerAccept : Statement .triggerAccept :=
  of_namesNothing rfl rfl rfl rfl
theorem takeTriggerFinal : Statement .takeTriggerFinal :=
  of_namesNothing rfl rfl rfl rfl
theorem takeFinalise : Statement .takeFinalise :=
  of_namesNothing rfl rfl rfl rfl
theorem takeInterruptedClose : Statement .takeInterruptedClose :=
  of_namesNothing rfl rfl rfl rfl
theorem replayRecordQueue : Statement .replayRecordQueue :=
  of_namesNothing rfl rfl rfl rfl
theorem cellarEccError (die : Nat) (region : CellarRegion) (corrected : Bool) : Statement (.cellarEccError die region corrected) := by
  simp +contextual [Statement, dies, chans, rows, nodes, Instr.wf, dieOk]
theorem patrolScrub (die : Nat) (corrected : Nat) : Statement (.patrolScrub die corrected) := by
  simp +contextual [Statement, dies, chans, rows, nodes, Instr.wf, dieOk]
theorem trellisLinkFail (die : Nat) : Statement (.trellisLinkFail die) := by
  simp +contextual [Statement, dies, chans, rows, nodes, Instr.wf, dieOk]
theorem dieWatchdogMiss (die : Nat) : Statement (.dieWatchdogMiss die) := by
  simp +contextual [Statement, dies, chans, rows, nodes, Instr.wf, dieOk]
theorem diePrepared (die : Nat) (sizeGb : Nat) : Statement (.diePrepared die sizeGb) := by
  simp +contextual [Statement, dies, chans, rows, nodes, Instr.wf, dieOk]
theorem replicaCheckDone (die : Nat) (okA okB : Bool) : Statement (.replicaCheckDone die okA okB) := by
  simp +contextual [Statement, dies, chans, rows, nodes, Instr.wf, dieOk]
theorem replicaRestore (die : Nat) (cask : Nat) : Statement (.replicaRestore die cask) := by
  simp +contextual [Statement, dies, chans, rows, nodes, Instr.wf, dieOk]
theorem roleSetReadyTimeout : Statement .roleSetReadyTimeout :=
  of_namesNothing rfl rfl rfl rfl
theorem drainEnd (die : Nat) : Statement (.drainEnd die) := by
  simp +contextual [Statement, dies, chans, rows, nodes, Instr.wf, dieOk]
theorem rotationDue : Statement .rotationDue :=
  of_namesNothing rfl rfl rfl rfl
theorem loadCaskCopyDone : Statement .loadCaskCopyDone :=
  of_namesNothing rfl rfl rfl rfl
theorem saveCaskDone : Statement .saveCaskDone :=
  of_namesNothing rfl rfl rfl rfl
theorem calibrationDecision (meas : List Int) : Statement (.calibrationDecision meas) :=
  of_namesNothing rfl rfl rfl rfl
theorem calibrationCopyValid : Statement .calibrationCopyValid :=
  of_namesNothing rfl rfl rfl rfl
theorem calAutoStart : Statement .calAutoStart :=
  of_namesNothing rfl rfl rfl rfl
theorem chopGridPoint (g : Group) : Statement (.chopGridPoint g) :=
  of_namesNothing rfl rfl rfl rfl
theorem coilCurrentAtTarget (g : Group) : Statement (.coilCurrentAtTarget g) :=
  of_namesNothing rfl rfl rfl rfl
theorem phase (g : Group) : Statement (.phase g) :=
  of_namesNothing rfl rfl rfl rfl
theorem phaseDurationEnd (g : Group) : Statement (.phaseDurationEnd g) :=
  of_namesNothing rfl rfl rfl rfl
theorem waitKink (g : Group) : Statement (.waitKink g) :=
  of_namesNothing rfl rfl rfl rfl
theorem waitKinkTimeout (g : Group) : Statement (.waitKinkTimeout g) :=
  of_namesNothing rfl rfl rfl rfl
theorem jumpIf (g : Group) : Statement (.jumpIf g) :=
  of_namesNothing rfl rfl rfl rfl
theorem setFlag (g : Group) : Statement (.setFlag g) :=
  of_namesNothing rfl rfl rfl rfl
theorem endProfile (g : Group) : Statement (.endProfile g) :=
  of_namesNothing rfl rfl rfl rfl
theorem illegalWord (g : Group) : Statement (.illegalWord g) :=
  of_namesNothing rfl rfl rfl rfl
theorem untimedLimit (g : Group) : Statement (.untimedLimit g) :=
  of_namesNothing rfl rfl rfl rfl
theorem kinkSampleTrigger (g : Group) : Statement (.kinkSampleTrigger g) :=
  of_namesNothing rfl rfl rfl rfl
theorem kinkWindowDecision (g : Group) : Statement (.kinkWindowDecision g) :=
  of_namesNothing rfl rfl rfl rfl
theorem coilOc (g : Group) : Statement (.coilOc g) :=
  of_namesNothing rfl rfl rfl rfl
theorem gapEnd (g : Group) : Statement (.gapEnd g) :=
  of_namesNothing rfl rfl rfl rfl
theorem gapStuck (g : Group) : Statement (.gapStuck g) :=
  of_namesNothing rfl rfl rfl rfl
theorem hkcRegTimer : Statement .hkcRegTimer :=
  of_namesNothing rfl rfl rfl rfl
theorem hkcConversionComplete (raw : Int) : Statement (.hkcConversionComplete raw) :=
  of_namesNothing rfl rfl rfl rfl
theorem hkcHeldTriggerStart : Statement .hkcHeldTriggerStart :=
  of_namesNothing rfl rfl rfl rfl
theorem hkcSelfcalStart : Statement .hkcSelfcalStart :=
  of_namesNothing rfl rfl rfl rfl
theorem hkcSelfcalDone : Statement .hkcSelfcalDone :=
  of_namesNothing rfl rfl rfl rfl
theorem hkcSelfcalPeriod : Statement .hkcSelfcalPeriod :=
  of_namesNothing rfl rfl rfl rfl
theorem ledgerInterval (act : Activity) : Statement (.ledgerInterval act) :=
  of_namesNothing rfl rfl rfl rfl
theorem critNvResume : Statement .critNvResume :=
  of_namesNothing rfl rfl rfl rfl
theorem throttleStepTimer : Statement .throttleStepTimer :=
  of_namesNothing rfl rfl rfl rfl
theorem xchkInterval : Statement .xchkInterval :=
  of_namesNothing rfl rfl rfl rfl
theorem powerOnHour : Statement .powerOnHour :=
  of_namesNothing rfl rfl rfl rfl
theorem logDeferredWrite : Statement .logDeferredWrite :=
  of_namesNothing rfl rfl rfl rfl
theorem signJobDone : Statement .signJobDone :=
  of_namesNothing rfl rfl rfl rfl
theorem milestoneSigned : Statement .milestoneSigned :=
  of_namesNothing rfl rfl rfl rfl
theorem debugChallengeExpire : Statement .debugChallengeExpire :=
  of_namesNothing rfl rfl rfl rfl
theorem timeSync (arrival : Nat) (field : Nat) : Statement (.timeSync arrival field) :=
  of_namesNothing rfl rfl rfl rfl
theorem timeSyncSend : Statement .timeSyncSend :=
  of_namesNothing rfl rfl rfl rfl
theorem frameEpoch (m : RingMsg) : Statement (.frameEpoch m) := by
  simp +contextual [Statement, dies, chans, rows, nodes, Instr.wf, msgOk]
theorem ringTrigger (m : RingMsg) : Statement (.ringTrigger m) := by
  simp +contextual [Statement, dies, chans, rows, nodes, Instr.wf, msgOk]
theorem census (m : RingMsg) : Statement (.census m) := by
  simp +contextual [Statement, dies, chans, rows, nodes, Instr.wf, msgOk]
theorem censusReply (m : RingMsg) : Statement (.censusReply m) := by
  simp +contextual [Statement, dies, chans, rows, nodes, Instr.wf, msgOk]
theorem censusTimeout : Statement .censusTimeout :=
  of_namesNothing rfl rfl rfl rfl
theorem delay (m : RingMsg) : Statement (.delay m) := by
  simp +contextual [Statement, dies, chans, rows, nodes, Instr.wf, msgOk]
theorem user (m : RingMsg) : Statement (.user m) := by
  simp +contextual [Statement, dies, chans, rows, nodes, Instr.wf, msgOk]
theorem nack (m : RingMsg) : Statement (.nack m) := by
  simp +contextual [Statement, dies, chans, rows, nodes, Instr.wf, msgOk]
theorem censusReq (m : RingMsg) : Statement (.censusReq m) := by
  simp +contextual [Statement, dies, chans, rows, nodes, Instr.wf, msgOk]
theorem ringBadMessage (chars : List (BitVec 8)) (violation : Bool) : Statement (.ringBadMessage chars violation) :=
  of_namesNothing rfl rfl rfl rfl
theorem ringLoopTimeout (seq typ : Nat) : Statement (.ringLoopTimeout seq typ) :=
  of_namesNothing rfl rfl rfl rfl
theorem ringLock : Statement .ringLock :=
  of_namesNothing rfl rfl rfl rfl
theorem masterConflictDecision : Statement .masterConflictDecision :=
  of_namesNothing rfl rfl rfl rfl
theorem alignHoldoverTimeout : Statement .alignHoldoverTimeout :=
  of_namesNothing rfl rfl rfl rfl
theorem sliceEnd (id : SliceId) (count : Nat) (misr : Nat) (failedBuffers : Nat) : Statement (.sliceEnd id count misr failedBuffers) :=
  of_namesNothing rfl rfl rfl rfl
theorem sliceRetry (id : SliceId) : Statement (.sliceRetry id) :=
  of_namesNothing rfl rfl rfl rfl
theorem bgSliceTimer : Statement .bgSliceTimer :=
  of_namesNothing rfl rfl rfl rfl
theorem egressSliceBufferTimeout : Statement .egressSliceBufferTimeout :=
  of_namesNothing rfl rfl rfl rfl
theorem loadCaskCheckDone : Statement .loadCaskCheckDone :=
  of_namesNothing rfl rfl rfl rfl
theorem fwStageDone (readBackOk : Bool) : Statement (.fwStageDone readBackOk) :=
  of_namesNothing rfl rfl rfl rfl
theorem nvAccessDone : Statement .nvAccessDone :=
  of_namesNothing rfl rfl rfl rfl
theorem ltcFreewheelEnd : Statement .ltcFreewheelEnd :=
  of_namesNothing rfl rfl rfl rfl
theorem mixedDecayFastEnd (g : Group) : Statement (.mixedDecayFastEnd g) :=
  of_namesNothing rfl rfl rfl rfl
theorem coilBlankingEnd (g : Group) (atTarget : Bool) : Statement (.coilBlankingEnd g atTarget) :=
  of_namesNothing rfl rfl rfl rfl
theorem hkcTrimGroupTrigger : Statement .hkcTrimGroupTrigger :=
  of_namesNothing rfl rfl rfl rfl
theorem perstNRelease : Statement .perstNRelease :=
  of_namesNothing rfl rfl rfl rfl
theorem supplyResetRelease : Statement .supplyResetRelease :=
  of_namesNothing rfl rfl rfl rfl
theorem linkDown : Statement .linkDown :=
  of_namesNothing rfl rfl rfl rfl
theorem d3hotExit : Statement .d3hotExit :=
  of_namesNothing rfl rfl rfl rfl
theorem trngHealthFail : Statement .trngHealthFail :=
  of_namesNothing rfl rfl rfl rfl
theorem ringMessageReturn (m : RingMsg) : Statement (.ringMessageReturn m) := by
  simp +contextual [Statement, dies, chans, rows, nodes, Instr.wf, msgOk]
theorem ringLockLoss : Statement .ringLockLoss :=
  of_namesNothing rfl rfl rfl rfl

end Sys2Proof.Laws.OperandsInRange
end

