-- ==== Sys2Proof/Tests/Slice0.lean ====
section
/-! SUPPORT. Tests: ill-formed commands are refused, single steps give what the manual's rules and examples say, and every hypothesis
of every statement is met by some state. -/

set_option Elab.async false

namespace Sys2Proof.Tests

open Sys2Proof Sys2Proof.Machine

/-! ## Small states -/

/-- A command's header. -/
def hd : Hdr := { tag := 7, resultAddr := 0, fence := false }

/-- A die with power, ready for work. -/
def dieUp : Die := { dieCold true with powered := true, ready := true, trained := true }

/-- The part in service: READY, booted, memory requests allowed, every die ready. -/
def up0 : State :=
  { State.reset with
    pow := { powCold with st := .ready }
    hif := { hifCold with busMaster := true }
    rol := { rolCold .bm5 with dies := List.replicate 5 dieUp } }

def up : State :=
  { up0 with
    sec := { secCold with boot := .normal, bootDone := true, images := List.replicate 3 (some (1, 1, 0, [])) }
    mono := 1000000000, now := 1000000000 }

/-- The command ring runs. -/
def ring : State := up.setFld Fld.HIF_CTRL_CMD_EN 1

/-- In STREAM. -/
def streaming : State := { up with pow.st := .stream }

/-- Does a step answer a next state for which a test holds? -/
def gives (o : Host.Outcome State Fault Refusal) (p : State → Bool) : Bool :=
  match o with
  | .next t => p t
  | _ => false

/-- The command and completion of an outstanding command. -/
def outs1 (job : Job) (op : Nat) : List OutCmd := [{ cid := 0, tag := 7, opcode := op, resultAddr := 0, accept := 0, job }]

def frame0 : FrameW :=
  { k := 0, snap := 0, prev := 0, closed := false, edges := [], d := ⟨0, []⟩, marks := ⟨0, []⟩, satCount := 0, starveCount := 0
    prof := resetProfile .bm5, cfg := [], rad := [], cask := 0xFF, gen := 0, img := none, version := 1, map := defaultMap .bm5
    streamed := false, keepWarm := false, captured := false, band := none, shutter := false, thermal := false, tail := false
    cold := false, coldPrev := false, episode := false, seedRows := [], arraySeed := false, timecode := 0, ltcPhase := 0
    trigOffset := none, noiseGain := 0, gridMeas := none, gridPred := none, gridFault := false, ref := none, openRows := []
    gotRows := [], prevRows := [], yRows := [], missPrev := [], missCom := [], halos := [], prevDone := false, prevQueued := false
    comDone := false, comGap := false, prevOut := #[], prevFlags := #[], prepared := false, unread := [] }

/-! ## Witnesses: the host interface -/

def chan0 : State := (ring.setFld (Fld.HIF_CH_CTRL_ENABLE 7) 1).setChan 7 { chanIdle with enabled := true, scmpProd := 3 }

theorem w_doorbells_move :
    (ring.powered ∧ ring.chansOk ∧ ring.cmdRun = true ∧ idxDist ring.hif.cmdFetch ring.cmdSize ≤ ring.cmdSize) ∧
    (∃ s : State, s.powered ∧ s.chansOk ∧ s.cmdRun = true ∧ idxDist s.hif.cmpCons 5 ≤ idxDist s.hif.cmpCons s.hif.cmpProd) ∧
    (chan0.chanOn 7 = true ∧ idxDist (chan0.chan 7).bufCons (chan0.bufSize 7) ≤ chan0.bufSize 7) ∧
    (chan0.chanOn 7 = true ∧ idxDist (chan0.chan 7).scmpCons 3 ≤ idxDist (chan0.chan 7).scmpCons (chan0.chan 7).scmpProd) :=
  ⟨by decide +kernel, ⟨{ ring with hif.cmpProd := 5 }, by decide +kernel⟩, by decide +kernel, by decide +kernel⟩

theorem w_doorbells_rejected :
    (ring.cmdSize < idxDist ring.hif.cmdFetch (ring.cmdSize + 1)) ∧
    (idxDist ring.hif.cmpCons ring.hif.cmpProd < idxDist ring.hif.cmpCons 1) ∧
    (chan0.bufSize 7 < idxDist (chan0.chan 7).bufCons (chan0.bufSize 7 + 1)) ∧ up.chanOn 0 = false ∧
    (idxDist (chan0.chan 7).scmpCons (chan0.chan 7).scmpProd < idxDist (chan0.chan 7).scmpCons 4) ∧ up.powered ∧ up.chansOk :=
  by decide +kernel

theorem w_rings_start :
    (∃ (s : State) (v : Word), s.powered ∧ v.getLsbD 0 = true ∧ s.cmdRun = false) ∧
    (∃ (s : State) (ch : Nat) (v : Word), s.chansOk ∧ ch < 8 ∧ v.getLsbD 0 = true ∧ chCtrlOk v = true ∧ s.chanOn ch = false) ∧
    (∃ (s : State) (ch : Nat) (v : Word), s.chansOk ∧ ch < 8 ∧ v.getLsbD 0 = false ∧ chCtrlOk v = true ∧ s.chanOn ch = true) :=
  ⟨⟨up, 1, by decide +kernel⟩, ⟨up, 7, 0x881, by decide +kernel⟩, ⟨chan0, 7, 0x880, by decide +kernel⟩⟩

def recX : Rec := { typ := 0, frame := 1, subtype := 0, len := 100, payload := [], last := false, missing := false, detail := 0 }

def moving (held : Nat) : State :=
  chan0.setChan 7 { chanIdle with enabled := true, xfer := some { record := recX, first := 0, count := 1, held, bufs := [] }, entryTicks := [0] }

theorem w_records_go :
    ((moving 0).powered ∧ (moving 0).chansOk ∧ ((moving 0).chan 7).xfer = some { record := recX, first := 0, count := 1, held := 0, bufs := [] } ∧
      recX.typ = 0 ∧ (moving 0).mayTake 7 1 = true) ∧
    ((moving 1).xferReady 7 = true) ∧
    (∃ s : State, modDue (s.fld Fld.HIF_CMP_MOD_COUNT) (s.fld Fld.HIF_CMP_MOD_TIME) s.hif.cmpTicks s.hif.cmpLastDoorbell
      s.hif.cmpSignalled s.mono = true) ∧
    (modDue ((moving 0).fld (Fld.HIF_CH_MOD_COUNT 7)) ((moving 0).fld (Fld.HIF_CH_MOD_TIME 7)) ((moving 0).chan 7).entryTicks
        ((moving 0).chan 7).lastDoorbell ((moving 0).chan 7).signalled (moving 0).mono = true) :=
  ⟨by decide +kernel, by decide +kernel, ⟨{ ring with hif.cmpTicks := [0] }, by decide +kernel⟩, by decide +kernel⟩

theorem w_summary : up.powered ∧ tabGet (fun _ => (0 : Word)) up.fresh Reg.GLB_INT_SUMMARY = 0 := by decide +kernel

/-! ## Witnesses: streams, profiles, the sensor -/

def full : ProfileReq := { period := 1041667, x0 := 0, y0 := 0, w := 64, h := 48, fmt := 1, mode := 1, l := 2, preview := 1 }

theorem w_start_stream : up.taken hd Op.startStream 1 ∧ up.pow.st = .ready ∧ up.pow.target = none ∧ up.sen.settleEnd = none ∧
    up.syncBusy = false ∧ up.refPeriodBad up.tol.req.period (pMin up.rol.map up.tol.req 0) = false := by decide +kernel

theorem w_stop_stream : streaming.taken hd Op.stopStream 1 ∧ streaming.inStream = true ∧ streaming.tol.stop = none ∧
    streaming.trs.lastFrame = none := by decide +kernel

theorem w_set_profile : up.taken hd Op.setProfile 1 ∧ profileReqOk full = true ∧ profileBad full = none ∧ up.pow.st ≠ .take ∧
    up.casks.cal = none := by decide +kernel

theorem w_set_budget : up.taken hd Op.setBudget 1 ∧ budgetBad 20000 1000 0 8 = none ∧ up.budgetClash 20000 0 8 = false := by
  decide +kernel

theorem w_fields_first :
    up.powered ∧ up.cidsOk ∧ up.busOk = true ∧ hdrOk hd = true ∧ up.canAccept hd.fence = true ∧ up.sec.boot ≠ .recovery ∧
    profileReqOk { full with fmt := 5, mode := 3, l := 3, preview := 2 } = true ∧ (4 < 5) ∧
    profileReqOk { full with mode := 3 } = true ∧ profileReqOk { full with l := 3 } = true ∧ 3 ∉ [0, 1, 2, 4] ∧
    profileReqOk { full with preview := 2 } = true ∧ profileReqOk { full with fmt := Fmt.raw20, period := 50000001 } = true := by
  decide +kernel

theorem w_no_field_at_fault : ∀ off, ¬((4 < full.fmt ∧ off = 0x18) ∨ (full.fmt ≤ 4 ∧ 2 < full.mode ∧ off = 0x19) ∨
    (full.fmt ≤ 4 ∧ full.mode ≤ 2 ∧ full.l ∉ [0, 1, 2, 4] ∧ off = 0x1A) ∨
    (full.fmt ≤ 4 ∧ full.mode ≤ 2 ∧ full.l ∈ [0, 1, 2, 4] ∧ 1 < full.preview ∧ off = 0x1B)) := by
  intro off; simp [full]

theorem w_energy_plan : up.taken hd Op.energyPlan 4 ∧ up.cidsOk ∧ up.busOk = true ∧ profileReqOk full = true ∧
    up.planBad full 2 = none := by decide +kernel

theorem w_snapshot_due :
    (∃ s : State, s.powered ∧ s.snapDue = true) ∧
    (∃ s : State, s.powered ∧ s.tmg.scheduled = true ∧ 50000000 < s.tol.prof.period ∧ tickLe s.nextSub s.now = true ∧
      tickLe s.tmg.nextSnap s.nextSub = false) ∧
    (∃ (s : State) (rs : List (Option Int)) (g : Nat × Option Nat), s.powered ∧ rs.length = 48 ∧ s.sen.gridDue = [g]) :=
  ⟨⟨{ up with tmg.scheduled := true, tmg.nextSnap := up.now }, by decide +kernel⟩,
   ⟨{ up with tmg.scheduled := true, tmg.lastSnap := 974000000, tmg.nextSnap := 1024000001, tol.prof.period := 50000001 }, by decide +kernel⟩,
   ⟨{ up with sen.gridDue := [(25000000, none)] }, List.replicate 48 none, (25000000, none), by decide +kernel⟩⟩

def fopen : FrameW := { frame0 with streamed := true }

theorem w_snapshot_closes : ∃ s : State, s.powered ∧ s.snapDue = true ∧ s.frames = [fopen] ∧ fopen.k = s.tmg.frame ∧
    fopen.closed = false ∧ fopen.streamed = true ∧ fopen.comDone = false ∧ s.tmg.first = false :=
  ⟨{ streaming with tmg := { tmgCold with scheduled := true, first := false, nextSnap := up.now }, frames := [fopen] }, by decide +kernel⟩

theorem w_sensor :
    (up.pow.st ≠ .stream ∧ up.pow.st ≠ .take ∧ fldOf 80 Fld.SEN_BIAS_BIAS_CODE ≤ 80 ∧ fldOf 120 Fld.SEN_QREF_QREF_CODE ≤ 120) ∧
    (80 < fldOf 81 Fld.SEN_BIAS_BIAS_CODE ∧ 120 < fldOf 121 Fld.SEN_QREF_QREF_CODE ∧ streaming.pow.st = .stream) ∧
    (∃ (s : State) (e : Nat), s.powered ∧ s.sen.settleEnd = some e ∧ e ≤ s.mono) ∧
    (∃ (s : State) (f : Nat), s.powered ∧ s.sen.freeze = some f ∧ f + 2500000 ≤ s.mono) :=
  ⟨by decide +kernel, by decide +kernel, ⟨{ up with sen.settleEnd := some up.mono }, up.mono, by decide +kernel⟩,
   ⟨{ up with sen.freeze := some 997500000 }, 997500000, by decide +kernel⟩⟩

/-! ## Witnesses: takes and replay -/

def arm : ArmReq := { pre := 0, post := 1, extent := 0, retrig := 1, store := 0, immediate := false, freeAll := false }

def tframe (k : Nat) : TakeFrame :=
  { k, metadata := List.replicate 128 0, fmt := 0, version := 1, map := defaultMap .bm5, rows := [], milestone := some [1], lost := []
    recs := [] }

def tk : Take :=
  { id := 3, state := 3, flags := 0, trunc := 0, fmt := 0, diesAt := 31, diesLost := 0, arm := 0, first := 5, last := 6, trig := 5
    trigTick := 0, pre := 0, post := 1, retrig := 0, extent := 4, wBytes := 0, nMax := 10, win := [0, 0, 64, 48], offset := 0
    complete := none, linkBefore := [], linkLast := [], regs := [], trsRegs := [], radDigest := [], closing := [2], changes := []
    retrigTicks := [], frames := [tframe 5, tframe 6] }

def trun (stage : Nat) : TakeRun :=
  { t := tk, req := arm, cid := 0, stage, acceptTick := 0, endSnap := some 0, finalMembers := false, aborted := false, reduced := false
    want := 6, ends := List.replicate 5 0, before := [], atEnd := none }

/-- A take interrupted after the first of its two frames. -/
def broken : TakeRun := { trun 2 with t := { tk with complete := some 5 } }

def inTake (r : TakeRun) : State := { up with pow.st := .take, cel := { celCold with run := some r } }

theorem w_arm_take : streaming.taken hd Op.armTake 1 ∧ streaming.cidsOk ∧ streaming.pow.st = .stream ∧ streaming.cel.run = none ∧
    streaming.cel.interrupted = none ∧ streaming.cel.stored.length < 16 ∧ streaming.cel.replay = none ∧ streaming.casks.cal = none ∧
    streaming.sen.settleEnd = none ∧ streaming.syncBusy = false ∧ 0 < arm.post ∧ arm.retrig < 2 ∧ arm.store < 2 := by decide +kernel

theorem w_take_ends :
    ((inTake (trun 3)).powered ∧ (trun 3).stage = 3 ∧ (trun 3).finalMembers = false ∧ (trun 3).endSnap = some 0 ∧
      tickLe (tickAdd 0 2500) (inTake (trun 3)).now = true ∧
      ∀ p ∈ (inTake (trun 3)).tmg.trigPending ++ (inTake (trun 3)).tmg.trigEdge.toList,
        (tickLe p.t 0 && tickLe p.recv (tickAdd 0 2500)) = false) ∧
    (tk.frames.find? (·.k = tk.last) = some (tframe 6) ∧ (tframe 6).milestone = some [1]) ∧
    (∃ s : State, s.cel.interrupted = some broken ∧ s.cel.repowered = true ∧ s.pow.st = .ready ∧ broken.stage ≠ 1 ∧
      broken.t.complete = some 5 ∧ broken.t.first ≤ 5) ∧
    ((inTake (trun 1)).taken hd Op.abortTake 64 ∧ (trun 1).stage = 1) :=
  ⟨by decide +kernel, by decide +kernel, ⟨{ up with cel := { celCold with interrupted := some broken, repowered := true } }, by decide +kernel⟩,
   by decide +kernel⟩

def stored : State := { streaming with cel := { celCold with stored := [tk] } }

def rp : Replay :=
  { cid := 0, die := 0, take := 3, decoded := false, next := 6, last := 6, interval := 0, lastStart := none, mile := false
    missing := false, queued := 0 }

def replaying : State :=
  { (stored.setFld (Fld.HIF_CH_CTRL_ENABLE 4) 1).setChan 4
      { chanIdle with enabled := true, bufs := [{ addr := 0, len := 2147483648, reserved := 0 }] } with
    cel := { celCold with stored := [tk], replay := some rp } }

theorem w_replay :
    (stored.taken hd Op.replayTake 1 ∧ stored.chansOk ∧ stored.replayBad 0 3 0 5 2 = none ∧ stored.cel.replay = none) ∧
    (replaying.powered ∧ replaying.chansOk ∧ replaying.cel.replay = some rp ∧ replaying.takeOf rp.take = some tk ∧
      tk.frames.find? (·.k = rp.next) = some (tframe 6) ∧ rp.mile = false ∧ rp.lastStart = none ∧ replaying.chanOn 4 = true ∧
      (replaying.chan 4).halted = false ∧ (replaying.chan 4).xfer = none ∧ (replaying.chan 4).queue = [] ∧ replaying.busOk = true ∧
      0 < replaying.scmpFree 4 ∧ replaying.mayTake 4 1 = true ∧
      (bufsFor (replaying.chan 4).bufs (tk.replayRec (tframe 6) rp.decoded
        (!(tk.mileOf (tframe 6)).isSome && decide (rp.next = rp.last))).len).isSome = true ∧
      (∀ b ∈ (replaying.chan 4).bufs, BufDesc.ok b = true) ∧ rp.next ≤ rp.last) ∧
    replaying.taken hd Op.abortTake 64 :=
  by decide +kernel

/-- Die 4 in a role of its own. -/
def inRole (s : State) (r : Role) : State := { s with rol.map := (defaultMap .bm5).set 4 { role := r, first := 0, count := 0 } }

/-- A command waits for its CONTROL item. -/
def carried (s : State) (j : Job) (op : Nat) : State := { s with hif.outstanding := outs1 j op, hif.nextCid := 1 }

def replayJob : Job := .replay 4 3 1 5 0 7

theorem w_replay_control :
    ((carried (inRole stored .replay) replayJob Op.replayTake).jobOf 0 = replayJob ∧
      (carried (inRole stored .replay) replayJob Op.replayTake).holds 4 .replay = true ∧
      (carried (inRole stored .replay) replayJob Op.replayTake).takeOf 3 = some tk) ∧
    ((carried stored replayJob Op.replayTake).jobOf 0 = replayJob ∧ (carried stored replayJob Op.replayTake).holds 4 .replay = false ∧
      (carried stored replayJob Op.replayTake).busOk = true) := by decide +kernel

/-! ## Witnesses: dies, maps and work items -/

def setDies (s : State) (d : Die) : State := { s with rol.dies := List.replicate 5 d }

def img0 : CaskImage :=
  { magic := 0x4B534356, format := 1, gen := 1, e1 := -8, e2 := 7, bias := 0, qref := 0, captureFrame := 0, lastKind := 0
    window := [0, 0, 64, 48], grid := List.replicate 48 0, reservedOk := true, recs := ⟨0, []⟩, digest := [] }

def caskIn (r : Option Bool) (c : Bool) : Cask :=
  { img := some img0, replicas := List.replicate 5 r, checked := List.replicate 5 c, copying := false }

def withCasks (s : State) (k : Cask) : State := { s with casks := { casksCold with a := k, b := k } }

def prep : State := setDies up { dieUp with ready := false, preparing := true }

def mixed : State :=
  withCasks up { caskIn (some true) true with replicas := [some true, some true, some true, some true, some false] }

theorem w_dies_get_ready :
    (prep.powered ∧ prep.diesOk ∧ (prep.die 4).preparing = true ∧ (prep.die 4).powered = true ∧ (prep.die 4).withdrawn = false ∧
      prep.replicasChecked 4 = true) ∧
    ((withCasks up (caskIn none false)).diesOk ∧ ((withCasks up (caskIn none false)).die 4).powered = true ∧
      (withCasks up (caskIn none false)).replicasChecked 4 = false ∧ (withCasks up (caskIn none false)).casks.a.img.isSome = true ∧
      (withCasks up (caskIn none false)).casks.a.replicas.length = 5 ∧ (withCasks up (caskIn none false)).casks.a.checked.length = 5) ∧
    (mixed.powered ∧ mixed.diesOk ∧ (mixed.die 4).powered = true ∧ (mixed.die 4).withdrawn = false ∧
      (mixed.cask 1).replicas.getD 4 none = some false ∧ mixed.counted.any (mixed.replicaSource 1) = true) ∧
    (∃ s : State, s.powered ∧ s.diesOk ∧ (s.die 4).draining.isSome = true ∧ s.inFlight (s.die 4).drainTo = false) :=
  ⟨by decide +kernel, by decide +kernel, by decide +kernel, ⟨setDies up { dieUp with draining := some 1 }, by decide +kernel⟩⟩

def mapReq : List MapReq := [⟨1, 0, 12⟩, ⟨1, 12, 12⟩, ⟨1, 24, 12⟩, ⟨1, 36, 12⟩, ⟨0, 0, 0⟩]

theorem w_role_set : up.taken hd Op.roleSet 1 ∧ up.diesOk ∧ up.rol.map.length = 5 ∧ up.cidsOk ∧ up.busOk = true ∧ mapReq.length = 5 ∧
    (∀ e ∈ mapReq, e.role < 2 ^ 8 ∧ e.first < 2 ^ 8 ∧ e.count < 2 ^ 8) ∧ up.atAccept.roleSetBad 0 0 mapReq = none ∧
    up.rol.pend = none ∧ up.casks.cal = none ∧ up.pow.st = .ready ∧ up.replayHolds (reqMap mapReq) = false ∧ up.changesFull = false ∧
    reqMap mapReq ≠ up.rol.map ∧ up.rol.version < 2 ^ 16 ∧ 0xFFFF ≠ up.rol.version := by decide +kernel

/-- The default map as a request; nothing differs from the map in force. -/
def sameReq : List MapReq := (defaultMap .bm5).map fun e => ⟨roleCode e.role, e.first, e.count⟩

theorem w_role_set_met : up.atAccept.roleSetBad 0 0 sameReq = none ∧ reqMap sameReq = up.rol.map ∧ sameReq.length = 5 := by decide +kernel

theorem w_role_set_bad : up.atAccept.roleSetBad 3 0 mapReq = some 0x12 ∧
    (∃ s : State, s.taken hd Op.roleSet 1 ∧ s.atAccept.roleSetBad 0 0 mapReq = none ∧ s.pow.st = .keepWarm) :=
  ⟨by decide +kernel, { up with pow.st := .keepWarm }, by decide +kernel⟩

/-- The die leaves BIST for the default map, in which it is a SPARE. -/
theorem w_bist_left : ∃ s : State, s.powered ∧ s.diesOk ∧ s.jobOf 0 = .bist 4 0 1 ∧ s.holds 4 .bist = true ∧ s.rotRunOn 4 = false ∧
    ∃ m, s.rol.pend = some m ∧ (mapAt m.map 4).role = .spare :=
  ⟨{ carried (inRole up .bist) (.bist 4 0 1) Op.bistRun with
      rol.pend := some { map := defaultMap .bm5, frame := 0, reseed := false, cid := none, cause := 0, accept := 0 } },
   by decide +kernel, by decide +kernel, by decide +kernel, by decide +kernel, by decide +kernel, _, rfl, by decide +kernel⟩

def mchange : MapChange := { map := defaultMap .bm5, frame := 0, reseed := false, cid := some 0, cause := 0, accept := 975000000 }

theorem w_role_set_timeout : ∃ s : State, s.powered ∧ s.diesOk ∧ s.rol.map.length = 5 ∧ s.rol.pend = some mchange ∧ mchange.cause = 0 ∧
    mchange.accept + 25000000 ≤ s.mono ∧ (enterDies s.rol.map mchange.map).all (fun n => (s.die n).ready) = false ∧
    mchange.cid = some 0 ∧ (s.hif.outstanding.find? (·.cid = 0)).isSome = true ∧ s.busOk = true :=
  ⟨{ up with rol := { rolCold .bm5 with map := reqMap mapReq, pend := some mchange }, hif.outstanding := outs1 .none Op.roleSet },
   by decide +kernel⟩

def rotating : State := ({ up with rol.rotFrom := some 0, rol.rotPeriod := 4 } : State).setFld Fld.ROL_CFG_ROTATE_EN 1

theorem w_rotation_due : (rotating.powered ∧ rotating.diesOk ∧ rotating.rol.map.length = 5 ∧ rotating.rol.rotFrom = some 0 ∧
      rotating.rotates = true ∧ rotating.pow.st = .ready ∧ 0 + 250000000 * rotating.rol.rotPeriod ≤ rotating.mono ∧
      rotating.rotMade = false ∧ rotating.rotBlocked = false ∧ rotating.rotPick = some 0 ∧ rotating.spareReady = some 4) ∧
    ({ rotating with rol.failover := [0] } : State).rotBlocked = true :=
  by decide +kernel

theorem w_die_faults : up.powered ∧ up.diesOk ∧ up.present 4 = true ∧ (up.die 4).powered = true ∧ (up.die 4).withdrawn = false ∧
    (up.setFld Fld.CEL_CFG_SCRUB_EN 1).flag Fld.CEL_CFG_SCRUB_EN = true := by decide +kernel

/-- An item of frame 0 for the row under the edge between the first two dies. -/
def item : ItemHdr := { frame := 0, row := 12, preview := true, version := 1 }

def fr : FrameW := { frame0 with closed := true, streamed := true, openRows := [12], halos := [(11, 2, false, true), (11, 2, true, true)] }

def inFrame (f : FrameW) : State := { streaming with frames := [f] }

theorem w_misdelivered :
    (up.powered ∧ itemOk item = true ∧ up.accepts 4 item.row item.version = false) ∧
    (up.takesRow 4 item = false) ∧
    (∃ s : State, s.powered ∧ s.rol.returned.find? (fun e => e.1 = 4 ∧ e.2.2 = item) = some (4, 0, item) ∧
      ((s.mapOfVersion item.version).bind fun m => ownerOf m item.row) = some 1 ∧ (s.die 1).ready = true ∧
      s.accepts 1 item.row item.version = true) :=
  ⟨by decide +kernel, by decide +kernel, ⟨{ up with rol.returned := [(4, 0, item)] }, by decide +kernel⟩⟩

/-- Returned by its own owner: the item goes on to nobody. -/
def returned (s : State) : State := { s with rol.returned := [(1, 0, item)] }

theorem w_item_stale_or_missing :
    (((returned up).mapOfVersion item.version).bind fun m => ownerOf m item.row) = some 1 ∧
    (returned up).rol.returned.find? (fun e => e.1 = 1 ∧ e.2.2 = item) = some (1, 0, item) ∧ (returned up).frameOf item.frame = none ∧
    (returned (inFrame fr)).rol.returned.find? (fun e => e.1 = 1 ∧ e.2.2 = item) = some (1, 0, item) ∧
    (returned (inFrame fr)).frameOf item.frame = some fr ∧ fr.comDone = false ∧ fr.prevDone = false := by decide +kernel

def mv : Move := { row := 12, src := 0, dst := 1, k0 := 0, stateDone := false, historyDone := false, backfed := [] }

theorem w_items_arrive :
    ((inFrame fr).powered ∧ itemOk item = true ∧ (inFrame fr).takesRow 1 item = true ∧ (inFrame fr).frameOf item.frame = some fr ∧
      (inFrame fr).rowDue fr item = true) ∧
    ((inFrame fr).accepts 1 item.row item.version = true) ∧
    (0 < item.row ∧ fr.streamed = true ∧ fr.version = item.version ∧ fr.prevDone = false ∧ (item.row - 1) ∈ fr.haloEdges ∧
      (item.row - 1, 3, true, true) ∉ fr.halos ∧ (inFrame fr).haloReady fr (item.row - 1) 3 true true = true) ∧
    ((inFrame fr).accepts 0 11 item.version = true ∧ 11 ∈ fr.haloEdges ∧ (11, 3, false, true) ∉ fr.halos ∧
      (inFrame fr).haloReady fr 11 3 false true = true) ∧
    (∃ s : State, s.powered ∧ s.accepts 1 item.row item.version = true ∧
      s.rol.moves.find? (fun m => m.row = item.row && m.dst = 1 && !m.stateDone) = some mv ∧ s.movedFrom mv = true) ∧
    (∃ (s : State) (m : Move), s.powered ∧ s.accepts 1 item.row item.version = true ∧ m ∈ s.rol.moves ∧ m.row = item.row ∧
      m.dst = 1 ∧ m.stateDone = true) ∧
    (∃ (s : State) (m : Move) (f : FrameW) (i : ItemHdr), s.powered ∧ s.accepts 1 i.row i.version = true ∧
      s.rol.moves.find? (fun m => m.row = i.row && m.src = 1 && m.k0 < i.frame) = some m ∧ s.frameOf i.frame = some f ∧
      f.streamed = true ∧ f.rowDone i.row = true ∧ i.frame ∉ m.backfed) :=
  ⟨by decide +kernel, by decide +kernel, by decide +kernel, by decide +kernel,
   ⟨{ up with rol.moves := [mv] }, by decide +kernel⟩,
   ⟨{ up with rol.moves := [{ mv with stateDone := true }] }, { mv with stateDone := true }, by decide +kernel⟩,
   ⟨{ streaming with frames := [{ fr with k := 1, missCom := [12] }], rol.moves := [{ mv with src := 1, dst := 2 }] },
    { mv with src := 1, dst := 2 }, { fr with k := 1, missCom := [12] }, { item with frame := 1 }, by decide +kernel⟩⟩

def allRows : List Nat := List.range 48

def fdone : FrameW :=
  { frame0 with
    closed := true, streamed := true, ref := some #[], missPrev := allRows, missCom := allRows, gridMeas := some [] }

theorem w_frames_complete :
    ((inFrame fdone).powered ∧ (((inFrame fdone).prepUpTo 0).judgeBursts).frameOf 0 = some fdone ∧
      (((inFrame fdone).prepUpTo 0).judgeBursts).prevReady fdone = true) ∧
    ((((inFrame fdone).prepUpTo 0).judgeBursts).comReady fdone = true) ∧
    ((((inFrame { fdone with streamed := false, keepWarm := true }).prepUpTo 0).judgeBursts).warmReady
      { fdone with streamed := false, keepWarm := true } = true) :=
  by decide +kernel

/-- Frame 6 is ready while a take records it and the chain runs. -/
def delivering : State :=
  { inFrame { fdone with k := 6 } with
    trs.burstSeen := 6, sec.chain := some (0, [], [], 5, 5), cel.run := some { trun 2 with t := { tk with frames := [tframe 5] } } }

theorem w_frame_delivered : delivering.powered ∧ delivering.chansOk ∧
    ((delivering.prepUpTo 6).judgeBursts).frameOf 6 = some { fdone with k := 6 } ∧
    ((delivering.prepUpTo 6).judgeBursts).comReady { fdone with k := 6 } = true ∧
    ((delivering.prepUpTo 6).judgeBursts).trs.lastFrame ≠ some 6 ∧
    ((delivering.prepUpTo 6).judgeBursts).sec.chain = some (0, [], [], 5, 5) ∧
    ((delivering.prepUpTo 6).judgeBursts).cel.run = some { trun 2 with t := { tk with frames := [tframe 5] } } ∧
    (trun 2).stage ≠ 0 ∧ tk.arm < 6 ∧ tk.first ≤ 6 ∧ 6 ≤ tk.last := by
  decide +kernel

/-! ## Witnesses: casks and calibration -/

def racked : State := withCasks up (caskIn (some true) true)

def xf (stage : Nat) (img : CaskImage) : Xfer := { cask := 1, addr := 0, cid := 0, img, stage }

/-- A command waits for what a cask command does. -/
def asked (s : State) (op : Nat) : State := { s with hif.outstanding := outs1 .none op, hif.nextCid := 1 }

theorem w_rack_cask :
    (racked.taken hd Op.rackCask 1 ∧ racked.cidsOk ∧ racked.busOk = true ∧ racked.atAccept.rackBad 1 0 = none ∧
      racked.anyRack = false ∧ (racked.cask 1).copying = false ∧ racked.loading 1 = false ∧ racked.changesFull = false ∧
      racked.casks.active ≠ 1) ∧
    (racked.atAccept.rackBad 2 0 = some 0x10) ∧
    (∃ s : State, s.taken hd Op.rackCask 1 ∧ s.atAccept.rackBad 1 0 = none ∧ s.anyRack = true) ∧
    (∃ s : State, s.taken hd Op.rackCask 1 ∧ s.atAccept.rackBad 1 0 = none ∧ s.anyRack = false ∧ (s.cask 1).copying = false ∧
      s.loading 1 = false ∧ s.casks.active = 1) :=
  ⟨by decide +kernel, by decide +kernel, ⟨{ racked with casks.rack := some (0, 0, none) }, by decide +kernel⟩,
   ⟨{ racked with casks.active := 1 }, by decide +kernel⟩⟩

theorem w_cask_commands :
    (up.taken hd Op.loadCask 1 ∧ Instr.wf (.loadCask hd 1 4096 .none) = true ∧ caskAddrBad 1 4096 = none ∧ up.inStream = false ∧
      up.rackPending 1 = false ∧ up.calTargets 1 = false) ∧
    (racked.taken hd Op.saveCask 1 ∧ racked.caskOk 1 = true ∧ racked.rackPending 1 = false ∧ racked.calTargets 1 = false ∧
      (racked.cask 1).img = some img0) ∧
    (∃ s : State, s.powered ∧ s.cidsOk ∧ s.busOk = true ∧ s.casks.save = some (xf 0 img0) ∧
      s.hif.outstanding.find? (·.cid = 0) = (outs1 .none Op.saveCask).head?) :=
  ⟨by decide +kernel, by decide +kernel,
   ⟨asked { racked with casks.save := some (xf 0 img0) } Op.saveCask, by decide +kernel⟩⟩

/-- An image with its own digest. -/
def img1 : CaskImage := { img0 with digest := imgDigest img0 }

theorem img1_digest : img1.digest = imgDigest img1 := by
  simp only [img1, imgDigest, caskHeader]

theorem w_copied : ∃ s : State, (s.powered ∧ s.cidsOk ∧ s.busOk = true ∧
    s.hif.outstanding.find? (·.cid = 0) = (outs1 .none Op.loadCask).head? ∧ (s.cask 1).img.isSome = true ∧ s.counted ≠ [] ∧
    ∀ n ∈ s.counted, n < 5) ∧ s.casks.load = some (xf 1 img1) ∧ img1.digest = imgDigest img1 :=
  ⟨asked { racked with casks.load := some (xf 1 img1) } Op.loadCask, by decide +kernel, rfl, img1_digest⟩

/-- An image whose digest is one byte too long. -/
def img2 : CaskImage := { img0 with digest := imgDigest img0 ++ [0] }

theorem img2_digest : img2.digest ≠ imgDigest img2 := by
  have h : imgDigest img2 = imgDigest img0 := by simp only [img2, imgDigest, caskHeader]
  rw [h]; simp [img2]

theorem w_copy_fails : ∃ s : State, (s.powered ∧ s.cidsOk ∧ s.busOk = true ∧
    s.hif.outstanding.find? (·.cid = 0) = (outs1 .none Op.loadCask).head?) ∧ s.casks.load = some (xf 1 img2) ∧
    img2.digest ≠ imgDigest img2 :=
  ⟨asked { racked with casks.load := some (xf 1 img2) } Op.loadCask, by decide +kernel, rfl, img2_digest⟩

theorem w_good_image : ∃ s : State, s.powered ∧ s.cidsOk ∧ s.busOk = true ∧ s.casks.load = some (xf 0 img1) ∧ imgOk img1 = true :=
  ⟨{ up with casks.load := some (xf 0 img1) }, by decide +kernel, by decide +kernel, by decide +kernel, rfl, by
    unfold imgOk; rw [← img1_digest]; simp [img1, img0]⟩

theorem w_bad_image : ∃ s : State, s.powered ∧ s.cidsOk ∧ s.busOk = true ∧ s.casks.load = some (xf 0 { img0 with magic := 0 }) ∧
    imgOk { img0 with magic := 0 } = false ∧ s.hif.outstanding.find? (·.cid = 0) = (outs1 .none Op.loadCask).head? :=
  ⟨asked { up with casks.load := some (xf 0 { img0 with magic := 0 }) } Op.loadCask, by decide +kernel⟩

def shut2 : State := { up with casks.shut := .two }

theorem w_calibrate :
    (up.taken hd Op.calibrate 1 ∧ up.calBad 6 15 0 = none ∧ up.calState 6 = true ∧ up.casks.cal = none ∧ up.casks.restore = none ∧
      up.sen.settleEnd = none ∧ up.targetBusy 6 = false ∧ up.coil.a.active = false ∧ up.coil.b.active = false ∧
      calNeedsShut 6 = false) ∧
    (shut2.calBad 0 0 0 = none ∧ shut2.calState 0 = true ∧ shut2.targetBusy 0 = false ∧ shut2.casks.shut = .two) ∧
    (∃ s : State, s.taken hd Op.calibrate 1 ∧ s.calBad 2 0 1 = none ∧ s.calState 2 = true ∧ s.targetBusy 2 = false ∧ s.casks.shut = .one) ∧
    (∃ s : State, s.powered ∧ s.autoReady = true ∧ s.casks.cal = none ∧ s.casks.shut = .two) :=
  ⟨by decide +kernel, by decide +kernel, ⟨{ up with casks.shut := .one }, by decide +kernel⟩,
   ⟨({ shut2 with casks.request := true } : State).setFld Fld.CAL_CTRL_CAL_AUTO 1, by decide +kernel⟩⟩

def cal3 : Cal := { up.newCal 3 0 0 false none with stage := 3 }

def calling (k : Cal) : State := { up with casks.cal := some k }

theorem w_calibration_ends :
    ((calling cal3).taken hd Op.calAbort 64 ∧ (calling cal3).casks.cal = some cal3 ∧ cal3.stage ≤ 3 ∧
      (calling cal3).decisionMade = false ∧ (calling cal3).calDataIn cal3 = true ∧ 3 ≤ cal3.kind) ∧
    (∃ (s : State) (k : Cal) (t0 : Nat), s.powered ∧ s.casks.cal = some k ∧ k.kind = 6 ∧ k.stage ≤ 2 ∧ k.groupBase = some t0 ∧
      k.groupsDone < 32 ∧ t0 + 1250 * k.tries ≤ s.mono) :=
  ⟨by decide +kernel,
   ⟨calling { up.newCal 6 0 0 false none with start := 0, groupsDone := 31, groupBase := some 6000 },
    { up.newCal 6 0 0 false none with start := 0, groupsDone := 31, groupBase := some 6000 }, 6000, by decide +kernel⟩⟩

/-- A SHUTTER_OFFSET or a capture of which every frame has come, over a window of one pixel. -/
def seen (kind capture : Nat) : Cal := { up.newCal kind 0 capture false none with stage := 3, total := 0 }

theorem w_decisions :
    ((calling (seen 0 0)).powered ∧ (calling (seen 0 0)).casks.cal = some (seen 0 0) ∧ (seen 0 0).stage ≤ 3 ∧
      (calling (seen 0 0)).calDataIn (seen 0 0) = true ∧ (seen 0 0).kind = 0) ∧
    ((calling (seen 1 0)).calDataIn (seen 1 0) = true ∧ (seen 1 0).kind = 1) ∧
    ((calling (seen 2 1)).calDataIn (seen 2 1) = true ∧ (seen 2 1).kind = 2 ∧ (calling (seen 2 1)).casks.held = none) ∧
    (∃ (s : State) (h : Held), s.powered ∧ s.casks.cal = some (seen 2 1) ∧ s.casks.held = some h ∧ h.cal.capture ≠ (seen 2 1).capture) :=
  ⟨by decide +kernel, by decide +kernel, by decide +kernel,
   ⟨{ up with casks := { casksCold with cal := some (seen 2 1), held := some { cal := seen 2 2, failed := #[] } } },
    { cal := seen 2 2, failed := #[] }, by decide +kernel⟩⟩

theorem w_copies_valid : ∃ (s : State) (k : Cal), s.powered ∧ s.casks.cal = some k ∧ k.stage = 4 ∧ k.result = some img1 ∧
    img1.digest = imgDigest img1 :=
  ⟨calling { cal3 with stage := 4, result := some img1 }, { cal3 with stage := 4, result := some img1 }, by decide +kernel, rfl, rfl, rfl,
   img1_digest⟩

/-! ## Witnesses: coil drive -/

/-- Group B's engine as given. -/
def eng (e : Eng) : State := { up with coil := { coilCold with b := e } }

/-- An engine at word 127. -/
def at127 : Eng := { engCold Reg.COIL_KINK_CFG_B with st := .running, pc := 127, fetch := true, ran := true }

def word (w : Word) : State := (eng at127).setReg (Reg.COIL_UCODE 127) w

theorem w_words :
    ((word 0x00000001).powered ∧ (word 0x00000001).casks.cal = none ∧ (word 0x00000001).atWord ((word 0).eng .b) 0 = true) ∧
    (word 0x20000001).atWord ((word 0).eng .b) 1 = true ∧ (word 0x40000000).atWord ((word 0).eng .b) 2 = true ∧
    (word 0x60000000).atWord ((word 0).eng .b) 3 = true ∧ (word 0x80000000).atWord ((word 0).eng .b) 4 = true ∧
    (word 0).atIllegal ((word 0).eng .b) = true ∧ (word 0xA0000000).atIllegal ((word 0).eng .b) = true := by
  decide +kernel

def running : Eng := { at127 with fetch := false }

theorem w_phase_ends :
    ({ running with phase := some (false, 0, 0, up.mono, true) } : Eng).phase = some (false, 0, 0, up.mono, true) ∧
    running.st = .running ∧ running.fetch = false ∧ running.wait = none ∧ up.mono ≤ (eng running).mono ∧
    ({ running with wait := some (0, true, 3, up.mono) } : Eng).wait = some (0, true, 3, up.mono) ∧
    256 ≤ ({ running with untimed := 256 } : Eng).untimed := by decide +kernel

def chopping : Eng := { running with phase := some (false, 2, 10, up.mono, false), hs := true, blankEnd := some up.mono }

theorem w_chopper :
    ((eng chopping).powered ∧ (eng chopping).casks.cal = none ∧ ((eng chopping).eng .b).st = .running ∧
      chopping.phase = some (false, 2, 10, up.mono, false) ∧ ((eng chopping).mono - chopping.gridStart) % 6250 = 0 ∧
      chopping.restart = none ∧ chopping.blankEnd = some up.mono ∧ up.mono ≤ (eng chopping).mono) ∧
    (∃ e : Eng, e.hs = true ∧ e.blankEnd = none ∧ e.phase = some (false, 2, 10, up.mono, false) ∧ e.st = .running) ∧
    (∃ e : Eng, e.blankEnd = none ∧ e.phase = some (false, 2, 10, up.mono, true) ∧ e.fetch = false ∧ e.wait = none ∧ e.st = .running) ∧
    (∃ e : Eng, e.phase = some (true, 2, 10, up.mono, false) ∧ e.offSince = some 5 ∧ e.st = .running) ∧
    (∃ e : Eng, e.st = .running ∧ e.restart = some { coil := 2, entry := 0, cid := none } ∧ ((eng e).mono - e.gridStart) % 6250 = 0 ∧
      e.gridStart < (eng e).mono) :=
  ⟨by decide +kernel, ⟨{ chopping with blankEnd := none }, by decide +kernel⟩,
   ⟨{ chopping with blankEnd := none, phase := some (false, 2, 10, up.mono, true) }, by decide +kernel⟩,
   ⟨{ chopping with phase := some (true, 2, 10, up.mono, false), offSince := some 5 }, by decide +kernel⟩,
   ⟨{ chopping with restart := some { coil := 2, entry := 0, cid := none } }, by decide +kernel⟩⟩

/-- A detection begun at tick 0 with three windows of samples. -/
def waiting : Eng :=
  { running with wait := some (0, true, 3, up.mono), decided := 2 + kinkBlank running.kinkCfg
                 samples := [(2 + kinkBlank running.kinkCfg, 4000), (1 + kinkBlank running.kinkCfg, 0), (kinkBlank running.kinkCfg, 0)] }

def sampling : State := { eng waiting with now := 625 }

/-- A group of one conversion, triggered and converting since the given ticks. -/
def grouped (s : State) (src at_ start : Nat) : State :=
  { s with
    hkc.group := some (src, 0, [3], 0), hkc.groupAt := at_
    hkc.conv := some { src, ch := 3, idx := 0, start, eng := 0, gated := false } }

theorem w_kinks :
    ((eng waiting).powered ∧ (eng waiting).casks.cal = none ∧ waiting.st = .running ∧
      0 + (waiting.decided + 1) * waiting.winTicks ≤ (eng waiting).mono ∧ waiting.sampling ≠ some waiting.decided) ∧
    (∃ num den, secondDiff waiting.samples waiting.decided = some (num, den) ∧ (kinkThr waiting.kinkCfg * den : Int) ≤ num) ∧
    (sampling.now % (1250 * 2 ^ kinkSamp waiting.kinkCfg) = 625 * grpIdx .b ∧ sampling.doSelfcalDone.hkc.calRun = none ∧
      sampling.doSelfcalDone.hkc.group = none ∧ sampling.eng .b = waiting) ∧
    (∃ (s : State) (src i : Nat) (chs : List Nat) (n : Nat), s.eng .b = waiting ∧ s.doSelfcalDone.groupEnding = false ∧
      s.doSelfcalDone.hkc.calRun = none ∧ s.doSelfcalDone.hkc.group = some (src, i, chs, n) ∧
      s.doSelfcalDone.hkc.groupAt = s.mono ∧ injRank src < injRank Inj.coil) ∧
    (∃ s : State, s.eng .b = waiting ∧ s.doSelfcalDone.hkc.calRun = none ∧ s.doSelfcalDone.groupEnding = true ∧
      s.doSelfcalDone.hkc.next = none) ∧
    (∃ s : State, s.eng .b = waiting ∧ s.doSelfcalDone.selfcalRuns = true) ∧
    (∃ s : State, s.eng .b = waiting ∧ s.doSelfcalDone.selfcalRuns = false ∧ s.doSelfcalDone.hkc.calRun ≠ none) ∧
    (∃ s : State, s.eng .b = waiting ∧ s.doSelfcalDone.hkc.calRun = none ∧ s.doSelfcalDone.hkc.group ≠ none ∧
      s.doSelfcalDone.groupEnding = false ∧ s.doSelfcalDone.hkc.groupAt ≠ s.mono) :=
  ⟨by decide +kernel, ⟨4000, 1, by decide +kernel⟩, by decide +kernel,
   ⟨grouped sampling 1 up.mono up.mono, 1, 0, [3], 0, by decide +kernel⟩, ⟨grouped sampling 1 0 999999875, by decide +kernel⟩,
   ⟨{ sampling with hkc.calRun := some 999999999 }, by decide +kernel⟩, ⟨{ sampling with hkc.calRun := some up.mono }, by decide +kernel⟩,
   ⟨grouped sampling 1 0 up.mono, by decide +kernel⟩⟩

theorem w_kink_negative : ∃ (e : Eng) (num : Int) (den : Nat), e.wait = some (0, false, 3, up.mono) ∧
    kinkBlank e.kinkCfg + 2 ≤ e.decided ∧ secondDiff e.samples e.decided = some (num, den) ∧ num ≤ -(kinkThr e.kinkCfg * den : Int) :=
  ⟨{ waiting with
      wait := some (0, false, 3, up.mono)
      samples := [(2 + kinkBlank running.kinkCfg, 0), (1 + kinkBlank running.kinkCfg, 4000), (kinkBlank running.kinkCfg, 0)] },
   -8000, 1, by decide +kernel⟩


def gap (h : Option CoilReq) : State := eng { engCold Reg.COIL_KINK_CFG_B with st := .gap, hold := h }

theorem w_groups_stop :
    ((gap none).powered ∧ (gap none).coilEnabled = true ∧ ((gap none).eng .b).st = .gap ∧
      ((gap none).eng .b).gapStart + ((gap none).eng .b).gapTicks ≤ (gap none).mono ∧ ((gap none).eng .b).hold = none ∧
      ((gap none).eng .b).stuck = false ∧ ((gap none).eng .b).gapStart + ((gap none).eng .b).gapTicks + 125000000 ≤ (gap none).mono) ∧
    ((gap (some { coil := 3, entry := 0, cid := none })).eng .b).hold = some { coil := 3, entry := 0, cid := none } := by
  decide +kernel

theorem w_coil_commands :
    (up.taken hd Op.coilRun 4 ∧ up.coilEnabled = true ∧ up.flag (grpOc .b) = false ∧ (up.eng .b).stuck = false ∧
      (up.eng .b).st = .idle ∧ groupOf 3 = .b) ∧
    (∃ s : State, s.taken hd Op.coilRun 4 ∧ s.coilEnabled = true ∧ (s.eng .b).st = .running ∧ (s.eng .b).coil = 3) ∧
    (∃ s : State, s.taken hd Op.coilRun 4 ∧ s.coilEnabled = true ∧ (s.eng .b).st = .running ∧ (s.eng .b).coil ≠ 3 ∧
      (s.eng .b).hold = none) ∧
    (∃ s : State, s.taken hd Op.coilRun 4 ∧ s.coilEnabled = true ∧ (s.eng .b).st = .gap ∧ (s.eng .b).hold = none) :=
  ⟨by decide +kernel, ⟨eng { running with coil := 3 }, by decide +kernel⟩, ⟨eng { running with coil := 2 }, by decide +kernel⟩,
   ⟨gap none, by decide +kernel⟩⟩

/-- A SHUTTER_OFFSET finds the shutter open and group A as given. -/
def closing (a : Eng) : State := { up with coil := { coilCold with a } }

def engA (st : GroupState) (h : Option CoilReq) : Eng := { engCold Reg.COIL_KINK_CFG_A with st, hold := h }

theorem w_calibration_closes :
    (up.taken hd Op.calibrate 1 ∧ up.calBad 0 0 0 = none ∧ up.calState 0 = true ∧ up.sen.settleEnd = none ∧ up.targetBusy 0 = false ∧
      calNeedsShut 0 = true ∧ up.casks.shut ≠ .two ∧ up.coilEnabled = true ∧ up.flag (grpOc .a) = false ∧ (up.eng .a).stuck = false ∧
      (up.eng .a).st = .idle) ∧
    ([GroupState.running, .gap].all fun st => let s := closing (engA st none)
      s.calBad 0 0 0 = none ∧ s.targetBusy 0 = false ∧ s.coilEnabled = true ∧ (s.eng .a).st ≠ .idle ∧ (s.eng .a).hold = none) = true ∧
    (let s := closing (engA .gap (some { coil := 1, entry := 0, cid := none }))
     s.calBad 0 0 0 = none ∧ (s.eng .a).st ≠ .idle ∧ (s.eng .a).hold ≠ none) ∧
    ((closing { engA .idle none with stuck := true }).eng .a).stuck = true := by decide +kernel

/-! ## Witnesses: the housekeeping converter -/

def reg (on : Nat) : State := up.setFld Fld.HKC_REG_CFG_EN on

def inRun (s : State) (retrig : Bool) : State := { s with hkc := { hkcCold with run := some (0, 0, [], 0), retrig } }

theorem w_regular :
    ((reg 0).flag Fld.HKC_REG_CFG_EN = false ∧ (reg 0).powered) ∧
    ((reg 1).flag Fld.HKC_REG_CFG_EN = true ∧ (reg 1).hkc.run = none) ∧
    ((inRun (reg 1) true).hkc.retrig = true ∧ (inRun (reg 1) true).hkc.run ≠ none ∧ (inRun (reg 1) true).hkc.pend = false) ∧
    ((inRun (reg 1) false).hkc.retrig = false ∧ (inRun (reg 1) false).doSelfcalDone.runEnding = false) ∧
    ((reg 1).setFld Fld.HKC_REG_CFG_TIMER_EN 1).flag Fld.HKC_REG_CFG_TIMER_EN = true ∧
    (reg 1).now % (250000 * max 1 ((reg 1).fld Fld.HKC_REG_CFG_DIV)) = 0 := by decide +kernel

def guard (on : Nat) : State := up.setFld Fld.HKC_INJ_CFG_GUARD on

/-- The converter as an injected trigger finds it. -/
def found (s : State) : Hkc := s.doSelfcalDone.hkc

theorem w_inj_go :
    ((guard 0).powered ∧ (guard 0).flag Fld.HKC_INJ_CFG_GUARD ≠ true ∧ (found (guard 0)).calRun = none ∧ (found (guard 0)).group = none) ∧
    ((guard 1).flag Fld.HKC_INJ_CFG_GUARD = true ∧ (guard 1).hkc.heldHost = false ∧ (guard 1).coilQuiet = true ∧
      (found (guard 1)).calRun = none) ∧
    (∃ s : State, s.powered ∧ s.flag Fld.HKC_INJ_CFG_GUARD ≠ true ∧ (found s).calRun = none ∧ s.doSelfcalDone.groupEnding = true ∧
      (found s).next = none) ∧
    (∃ s : State, s.powered ∧ s.flag Fld.HKC_INJ_CFG_GUARD ≠ true ∧ (found s).calRun = none ∧ (found s).group ≠ none ∧
      s.doSelfcalDone.groupEnding = false) ∧
    (∃ s : State, s.powered ∧ s.flag Fld.HKC_INJ_CFG_GUARD ≠ true ∧ s.doSelfcalDone.selfcalRuns = true) ∧
    (∃ s : State, s.powered ∧ s.flag Fld.HKC_INJ_CFG_GUARD ≠ true ∧ s.doSelfcalDone.selfcalRuns = false ∧ (found s).calRun ≠ none) ∧
    (∃ s : State, s.powered ∧ s.flag Fld.HKC_INJ_CFG_GUARD = true ∧ s.hkc.heldHost = false ∧ s.doSelfcalDone.selfcalRuns = true) ∧
    (∃ s : State, s.powered ∧ s.flag Fld.HKC_INJ_CFG_GUARD = true ∧ s.hkc.heldHost = true) ∧
    (∃ s : State, s.powered ∧ s.hkc.heldHost = true ∧ s.coilQuiet = true ∧ s.hkc.calRun = none ∧ s.hkc.group = none) :=
  ⟨by decide +kernel, by decide +kernel, ⟨grouped (guard 0) 2 0 999999875, by decide +kernel⟩,
   ⟨grouped (guard 0) 2 0 up.mono, by decide +kernel⟩, ⟨{ guard 0 with hkc.calRun := some 999999999 }, by decide +kernel⟩,
   ⟨{ guard 0 with hkc.calRun := some up.mono }, by decide +kernel⟩,
   ⟨{ guard 1 with hkc.calRun := some 999999999 }, by decide +kernel⟩, ⟨{ guard 1 with hkc.heldHost := true }, by decide +kernel⟩,
   ⟨{ up with hkc.heldHost := true }, by decide +kernel⟩⟩

def cv : Conv := { src := 3, ch := 20, idx := 15, start := 999999875, eng := 0, gated := false }

theorem w_conversion :
    (∃ s : State, s.powered ∧ s.hkc.conv = some cv ∧ cv.start + convTicks ≤ s.mono ∧ cv.src < 4 ∧ cv.ch < 24 ∧ cv.idx < 16 ∧
      s.present (cv.ch - 16) = true) ∧
    (∃ s : State, s.powered ∧ s.hkc.conv = some { cv with src := Inj.host, idx := 3 } ∧ ({ cv with src := Inj.host, idx := 3 } : Conv).idx < 4) ∧
    (∃ s : State, s.powered ∧ s.hkc.queue = [{ lo := 1, hi := 2 }]) ∧ up.hkc.queue = [] :=
  ⟨⟨{ up with hkc.conv := some cv }, by decide +kernel⟩, ⟨{ up with hkc.conv := some { cv with src := Inj.host, idx := 3 } }, by decide +kernel⟩,
   ⟨{ up with hkc.queue := [{ lo := 1, hi := 2 }] }, by decide +kernel⟩,
   by decide +kernel⟩

theorem w_trim_group : ∃ (s : State) (k : Cal), s.powered ∧ s.casks.cal = some k ∧ k.kind = 6 ∧ k.stage ≤ 2 ∧ k.groupBase = some up.mono ∧
    k.groupsDone < 32 ∧ up.mono + 1250 * k.tries ≤ s.mono :=
  ⟨{ up with casks.cal := some { up.newCal 6 0 0 false none with groupBase := some up.mono } },
   { up.newCal 6 0 0 false none with groupBase := some up.mono }, by decide +kernel⟩

theorem w_selfcal :
    (∃ s : State, s.powered ∧ s.hkc.calAt = some 750000000 ∧ 0 < s.fld Fld.HKC_CAL_CFG_PERIOD_S ∧
      750000000 + 250000000 * s.fld Fld.HKC_CAL_CFG_PERIOD_S ≤ s.mono) ∧
    (∃ s : State, s.powered ∧ s.hkcFree = true ∧ s.selfcalClear = true) ∧
    (∃ s : State, s.powered ∧ s.hkc.calRun = some 999994000 ∧ 999994000 + selfcalTicks ≤ s.mono) :=
  ⟨⟨({ up with hkc.calAt := some 750000000 } : State).setFld Fld.HKC_CAL_CFG_PERIOD_S 1, by decide +kernel⟩,
   ⟨{ up with hkc.calDue := true }, by decide +kernel⟩, ⟨{ up with hkc.calRun := some 999994000 }, by decide +kernel⟩⟩

/-! ## Witnesses: the NV store, firmware and security -/

theorem w_nv_accesses :
    (Instr.wf (.nvRead hd 2 120 8 0 0) = true ∧ up.taken hd Op.nvRead 8 ∧ nvReadBad 2 120 8 = none ∧ nvReadBad 6 0x3FFFF 256 = none ∧
      up.outOf Op.nvRead + up.outOf Op.nvWrite < 8 ∧ up.pow.st ≠ .recall) ∧
    (Instr.wf (.nvWrite hd 7 0 16 0 0 .none) = true ∧ up.taken hd Op.nvWrite 8 ∧ nvWriteBad 7 0 16 = none ∧
      nvWriteBad 6 0x3FFF8 256 = none ∧ up.nvOpen = true) ∧
    (∃ s : State, s.powered ∧ s.hif.outstanding = outs1 (.nvRead 4 0x1FFFF 256 0 0) Op.nvRead ∧ nvArea 4 = some (0x20000, 0x20000) ∧
      s.pow.st ≠ .recall ∧ s.busOk = true ∧ s.hostBad 0 256 = false) :=
  ⟨by decide +kernel, by decide +kernel, ⟨{ up with hif.outstanding := outs1 (.nvRead 4 0x1FFFF 256 0 0) Op.nvRead }, by decide +kernel⟩⟩

def writing : State := { up with hif.outstanding := outs1 (.nvWrite 6 0x3FFF8 256 5 (.bytes [1])) Op.nvWrite }

theorem w_nv_write_user : writing.powered ∧ writing.nv.writes = [] ∧
    writing.hif.outstanding = outs1 (.nvWrite 6 0x3FFF8 256 5 (.bytes [1])) Op.nvWrite ∧ nvWriteBad 6 0x3FFF8 256 = none ∧
    writing.nvOpen = true ∧ writing.userLocked = false ∧ writing.nv.passwordWrite = 0 := by decide +kernel

theorem w_store_trims : up.taken hd Op.nvStoreTrims 1 ∧ up.cidsOk ∧ up.busOk = true ∧ up.nvOpen = true ∧ up.nv.writes = [] := by
  decide +kernel

def barred : State := { up with nv.barred := true }

theorem w_nv_barred : barred.taken hd Op.nvWrite 8 ∧ barred.taken hd Op.nvStoreTrims 1 ∧ barred.cidsOk ∧ barred.busOk = true ∧
    barred.outOf Op.nvRead + barred.outOf Op.nvWrite < 8 ∧ barred.nvOpen = false := by decide +kernel

def fw : FwImage :=
  { magic := 0x474D4946, format := 1, typ := 2, version := 1, svn := 0, bodyLen := 0, variantMask := 7, reservedOk := true
    bodyDigest := [], vendorKey := [], sig := [], body := [] }

theorem w_signing_commands :
    (up.taken hd Op.attest 1 ∧ up.cidsOk ∧ up.nv.barred = false ∧ up.sec.debugUnlocked = false) ∧
    (up.taken hd Op.fwStage 1 ∧ HostData.fw fw ≠ .error ∧ 8192 = 8192 + (imageOf (.fw fw)).bodyLen ∧
      (imageOf (.fw fw)).svn ≤ up.rollback + 64 ∧ up.outOf Op.fwCommit = 0 ∧ (up.fwEnt 2).trial = false) ∧
    up.taken hd Op.fwCommit 1 := by decide +kernel

def job (cls : Nat) : SignJob := { cls, cid := some 0, what := 0 }

def milestone : Milestone :=
  { kind := 1, c0 := 0, frame := 5, first := 0, position := 5, snap := 0, before := [], link := [], drops := 0, takeId := 255, due := 0
    record := [] }

theorem w_signing_jobs :
    (∃ (s : State) (c : OutCmd), s.powered ∧ s.sec.job = some (job 1) ∧ s.hif.outstanding.find? (·.cid = 0) = some c ∧
      c.job = .attest [] 8 ∧ s.sec.debugUnlocked = false ∧ s.busOk = true ∧ s.hostBad 8 8960 = false) ∧
    (∃ s : State, s.powered ∧ s.sec.job = some { job 0 with cid := none } ∧ s.sec.signed = none ∧ s.sec.msQueue = [milestone]) ∧
    (∃ s : State, s.powered ∧ s.sec.signed = some milestone) ∧
    (∃ (s : State) (c : OutCmd), s.powered ∧ s.hif.outstanding.find? (·.opcode = Op.fwStage) = some c ∧
      s.hif.outstanding.find? (·.cid = c.cid) = some c ∧ c.job = .fwStage 2 fw (some 1) ∧ 2 < s.sec.slots.length ∧ s.slotImg 2 1 = none ∧
      s.busOk = true) :=
  ⟨⟨{ up with sec.job := some (job 1), hif.outstanding := outs1 (.attest [] 8) Op.attest },
    { cid := 0, tag := 7, opcode := Op.attest, resultAddr := 0, accept := 0, job := .attest [] 8 }, by decide +kernel⟩,
   ⟨{ up with sec.job := some { job 0 with cid := none }, sec.msQueue := [milestone] }, by decide +kernel⟩,
   ⟨{ up with sec.signed := some milestone }, by decide +kernel⟩,
   ⟨{ up with sec.slots := List.replicate 3 (some fw, none), hif.outstanding := outs1 (.fwStage 2 fw (some 1)) Op.fwStage },
    { cid := 0, tag := 7, opcode := Op.fwStage, resultAddr := 0, accept := 0, job := .fwStage 2 fw (some 1) }, by decide +kernel⟩⟩

/-- Channel 6 takes records; its stream completion ring holds 256 entries. -/
def ch6 : State :=
  { (up.setFld (Fld.HIF_CH_CTRL_ENABLE 6) 1).setChan 6 { chanIdle with enabled := true } with
    sec := { up.sec with signed := some milestone }, cel := { celCold with run := some (trun 2) } }

theorem w_milestone :
    (ch6.powered ∧ ch6.chansOk ∧ ch6.sec.signed = some milestone ∧ ch6.chanOn 6 = true ∧ (ch6.chan 6).discard = false ∧
      ch6.mayTake 6 (plainRec 3 5 []).poolNeed = true ∧ ∀ b ∈ (ch6.chan 6).bufs, BufDesc.ok b = true) ∧
    up.chanOn 6 = false ∧ (trun 2).t.frames.any (fun f => decide (f.k = milestone.frame)) = true := by decide +kernel

theorem w_debug :
    (up.taken hd Op.debugUnlock 1 ∧ up.cidsOk ∧ up.sec.debugLockout = false ∧ up.busOk = true ∧ up.hostBad 4096 64 = false) ∧
    (∃ s : State, s.taken hd Op.debugUnlock 1 ∧ s.pow.st ≠ .stream ∧ s.pow.st ≠ .take ∧ s.sec.debugLockout = false ∧
      s.sec.challenge = some ([1], 0) ∧ s.mono < 0 + 15000000000) ∧
    Instr.wf (.calTrimWrite 0x21BC 0) = true :=
  ⟨by decide +kernel, ⟨{ up with sec.challenge := some ([1], 0) }, by decide +kernel⟩, by decide +kernel⟩

theorem w_scope : BitVec.ofNat 32 (fieldLe (padTo 3313 []) 0 4) &&& ~~~Config.scopeBits = 0 := by
  have h : BitVec.ofNat 32 (fieldLe (padTo 3313 []) 0 4) = 0 := by decide +kernel
  rw [h]; simp

/-! ## Witnesses: registers and descriptors -/

theorem w_registers : up.pow.st ≠ .recall ∧ [Reg.GLB_INT_EN, Reg.HIF_STATUS, Reg.HIF_CH_STATUS 7, Reg.TMG_STATUS, Reg.SEN_STATUS,
    Reg.PPL_STATUS, Reg.PPL_MON_CFG, Reg.TRS_STATUS, Reg.TRS_TAU_EVEN, Reg.CAL_STATUS, Reg.CAL_N, Reg.CEL_CFG, Reg.ROL_STATUS,
    Reg.TOL_STATUS, Reg.THM_CFG, Reg.HKC_REG_CFG, Reg.COIL_CFG, Reg.NVS_STATUS, Reg.BST_CFG, Reg.BST_ROTATE, Reg.SEC_STATUS,
    Reg.WAY_STATUS].all (fun o => o % 4 = 0 && (regRow o).isSome && !up.absentReg o) = true := by decide +kernel

/-- Vectors 3 and 31 wait; a write may unmask either. -/
def vectors : State := { up with hif := { up.hif with msixEnabled := true, pendingVectors := [3, 31] } }

theorem w_msix : vectors.powered ∧ vectors.hif.msixEnabled = true ∧ vectors.busOk = true ∧ (0xE03C % 4 = 0 ∧ 0xE03C < 0xE200) ∧
    0xE1F8 % 8 = 0 ∧ (0xE1F8 - 0xE000) / 4 + 1 = 4 * 31 + 3 ∧ 0xE034 % 8 ≠ 0 ∧ vectors.vecMasked 3 = true := by decide +kernel

/-- Vector 3 waits no longer once its mask is written 0; vector 31 does. -/
theorem test_msix : gives (exec (.registerWrite 0xE03C 4 0) vectors) (fun t => t.outs.contains (.msix 3) && t.hif.pendingVectors == [31]) = true := by
  decide +kernel

theorem w_discarded : touchesCel 0x2450 2 = true ∧ touchesCel 0x23FC 8 = true ∧ touchesCel 0x23FC 2 = false ∧ touchesCel 0x2800 0 = false := by
  decide +kernel

/-- One register of each clause, with its reset value. -/
theorem w_plain_writes : [(Reg.GLB_INT_EN, 0), (Reg.HIF_STATUS, 0), (Reg.HIF_CH_STATUS 7, 0), (Reg.TMG_STATUS, 0), (Reg.SEN_STATUS, 0),
    (Reg.PPL_STATUS, 0), (Reg.PPL_MON_CFG, resetVal Reg.PPL_MON_CFG), (Reg.TRS_STATUS, 0), (Reg.TRS_TAU_EVEN, 20000),
    (Reg.CAL_STATUS, 0), (Reg.CAL_N, 128), (Reg.CEL_CFG, 0), (Reg.ROL_STATUS, 0), (Reg.TOL_STATUS, 0),
    (Reg.THM_CFG, resetVal Reg.THM_CFG), (Reg.HKC_REG_CFG, resetVal Reg.HKC_REG_CFG), (Reg.COIL_CFG, resetVal Reg.COIL_CFG),
    (Reg.NVS_STATUS, 0), (Reg.BST_ROTATE, 3600), (Reg.SEC_STATUS, 0), (Reg.WAY_STATUS, 0)].all (fun e => up.plainWrite e.1 e.2) = true := by
  decide +kernel

theorem w_settings :
    (Instr.wf (.tmgSyncConfigWrite 0x0830 0) = true ∧ Instr.wf (.tmgTrigConfigWrite 0x084C 0) = true ∧
      Instr.wf (.trsTauWrite 0x1C0C 0) = true) ∧
    (streaming.inStream || !syncValueOk 0x0830 0) = true ∧ (up.inStream || !syncValueOk 0x0804 (resetVal 0x0804)) = false ∧
    (up.pow.st ≠ .take ∧ pplValueOk Reg.PPL_RAD_CTRL (fldPut 0 Fld.PPL_RAD_CTRL_SWAP 1) = true ∧
      fldOf (fldPut 0 Fld.PPL_RAD_CTRL_SWAP 1) Fld.PPL_RAD_CTRL_SWAP = 1) := by decide +kernel

/-- A descriptor of 64 bytes: opcode, flags, and zeros but for one byte. -/
def desc (op : Byte) (at_ : Nat) (b : Byte) : List Byte := ((List.replicate 64 (0 : Byte)).set 0 op).set at_ b

def fetching : State := { ring with hif.cmdProd := 1 }

theorem w_fetch :
    (fetching.powered ∧ (desc 0x02 1 0).length = 64 ∧ fetching.mayFetch (descHdr (desc 0x02 1 0)).fence = true) ∧
    (∃ fields c, descFields (fieldLe (desc 0x02 1 0) 0 1) = some fields ∧ descBad (desc 0x02 1 0) fields = none ∧
      descInstr (desc 0x02 1 0) .none = .ok c) ∧
    (fetching.cidsOk ∧ fetching.sec.boot ≠ .recovery ∧ descFields (fieldLe (desc 0xFF 1 0) 0 1) = none) ∧
    (∃ fields, descFields (fieldLe (desc 0x02 63 1) 0 1) = some fields ∧ descBad (desc 0x02 63 1) fields = some 63) ∧
    (∃ fields, descFields (fieldLe (desc 0x11 16 2) 0 1) = some fields ∧ descBad (desc 0x11 16 2) fields = none ∧
      descInstr (desc 0x11 16 2) .none = .error 0x10) ∧
    (∃ s : State, s.powered ∧ s.cidsOk ∧ s.mayFetch false = true ∧ s.sec.boot = .recovery ∧ 0x02 ∉ recoveryOps) ∧
    ring.mayFetch false = false :=
  ⟨by decide +kernel, ⟨_, _, rfl, by decide +kernel, rfl⟩, by decide +kernel, ⟨_, rfl, by decide +kernel⟩,
   ⟨_, rfl, by decide +kernel, rfl⟩, ⟨{ fetching with sec.boot := .recovery }, by decide +kernel⟩, by decide +kernel⟩

/-! ## Witnesses: resets, start-up, power -/

def offState : State := { State.reset with pow := { powCold with st := .off, rstN := false } }

theorem w_resets :
    (up.powered ∧ up.pow.rstN = true ∧ up.pow.vioLow = false ∧ up.pow.vddHLow = false ∧ up.pow.perstN = true ∧
      up.hif.outstanding = [] ∧ up.nv.writes = []) ∧
    (offState.pow.st = .off ∧ offState.pow.vioLow = false ∧ offState.pow.vddHLow = false) ∧
    (∃ s : State, s.pow.st = .off ∧ s.pow.vddHLow = true) :=
  ⟨by decide +kernel, by decide +kernel, ⟨{ offState with pow.vddHLow := true }, by decide +kernel⟩⟩

theorem w_start_up :
    (State.reset.powered ∧ State.reset.pow.st = .recall) ∧
    (∃ s : State, s.powered ∧ s.sec.boot = .booting ∧ s.pow.st = .standby) ∧
    (∃ s : State, s.powered ∧ s.pow.st = .standby ∧ s.fullOver = true) ∧ (up.pow.perstN = true ∧ up.pow.st ≠ .recall ∧ 8 ∈ [1, 2, 4, 8]) :=
  ⟨by decide +kernel, ⟨{ State.reset with pow.st := .standby }, by decide +kernel⟩,
   ⟨{ up with pow.st := .standby, bst.full := some 0 }, by decide +kernel⟩, by decide +kernel⟩

def warm : State := { up with pow.st := .keepWarm }

def standby : State :=
  { up with
    pow := { powCold with st := .standby, target := some .keepWarm }, sen.biased := true
    rol := { up.rol with map := up.warmMap } }

theorem w_power_requests :
    (pstateOf (fldOf 4 Fld.TOL_PSTATE_REQ) = some .ready ∧ pstateOf (fldOf 2 Fld.TOL_PSTATE_REQ) = some .standby ∧
      (4 : Word).getLsbD 12 = false ∧ up.requestBad .ready = false ∧ up.requestBad .standby = false ∧ up.startedUp = true) ∧
    streaming.requestBad .standby = true ∧
    (∃ s : State, s.startedUp = false ∧ s.sec.boot ≠ .recovery ∧ s.requestBad .ready = false ∧ s.powered) ∧
    (standby.powered ∧ standby.rol.pend = none ∧ (∀ d ∈ standby.rol.dies, d.draining = none) ∧ standby.pow.st = .standby ∧
      standby.pow.target = some .keepWarm ∧ standby.sen.biased = true ∧ sameMap standby.rol.map standby.warmMap = true ∧
      ∀ n ∈ stripeDies standby.rol.map, (standby.die n).ready = true ∧ (standby.die n).withdrawn = false) ∧
    (∃ s : State, s.powered ∧ s.rol.pend = none ∧ s.pow.st = .keepWarm ∧ s.pow.target = some .ready ∧ s.rol.before = none) ∧
    (∃ s : State, s.powered ∧ s.rol.pend = none ∧ s.pow.st = .keepWarm ∧ s.pow.target = some .standby ∧ s.bst.full = none ∧
      s.flag Fld.BST_CFG_SHUT_EN = false) :=
  ⟨by decide +kernel, by decide +kernel,
   ⟨{ State.reset with pow.st := .standby }, by decide +kernel⟩, by decide +kernel,
   ⟨{ warm with pow := { powCold with st := .keepWarm, target := some .ready } }, by decide +kernel⟩,
   ⟨({ warm with pow := { powCold with st := .keepWarm, target := some .standby } } : State).setFld Fld.BST_CFG_SHUT_EN 0,
    by decide +kernel⟩⟩

def held : State := up.setFld Fld.TOL_PSTATE_CRIT_HOLD 1

theorem w_crit_hold :
    (held.flag Fld.TOL_PSTATE_CRIT_HOLD = true ∧ held.tol.crit = [] ∧ (∀ d ∈ held.tol.thm, d.st = 0) ∧
      (tabGet (fun _ => (0 : Word)) held.fresh Reg.TOL_PSTATE).getLsbD 12 = false) ∧
    (∃ s : State, s.powered ∧ s.flag Fld.TOL_PSTATE_CRIT_HOLD = true ∧ s.tol.crit ≠ []) ∧
    (∃ s : State, s.powered ∧ s.flag Fld.TOL_PSTATE_CRIT_HOLD = true ∧ ∃ d ∈ s.tol.thm, 0 < d.st) :=
  ⟨by decide +kernel, ⟨{ held with tol.crit := [(0, 0, 0)] }, by decide +kernel⟩,
   ⟨{ held with tol.thm := List.replicate 7 { thmCold with st := 1 } }, by decide +kernel⟩⟩

/-! ## Witnesses: reference, timecode, triggers -/

def refd : State :=
  { up with
    tmg := { tmgCold with
      syncCfg := fldPut (resetVal Reg.TMG_SYNC_CFG) Fld.TMG_SYNC_CFG_SRC 1, refLast := some 998958333, refIntervals := List.replicate 7 1041667
      refRun := 7, refPresent := true, pRef := 8333336 } }

theorem w_reference :
    (refd.powered ∧ refd.src = 1 ∧ refd.tmg.refLast = some 998958333 ∧ 7 ≤ refd.tmg.refIntervals.length ∧ 7 ≤ refd.tmg.refRun ∧
      tickLe 1000000000 refd.now = true ∧
      refInTol (refd.ownProf.period * refd.refMult) refd.tolPpm (tickSpan 998958333 1000000000) = true) ∧
    (({ refd with tmg.refRun := 6 } : State).tmg.refRun < 7) ∧
    (tickLe 999000000 refd.now = true ∧
      refInTol (refd.ownProf.period * refd.refMult) refd.tolPpm (tickSpan 998958333 999000000) = false) ∧
    (∃ s : State, s.powered ∧ s.refLate = true) :=
  ⟨by decide +kernel, by decide +kernel, by decide +kernel, ⟨{ refd with tmg.refLast := some 0 }, by decide +kernel⟩⟩

theorem w_timecode :
    (∃ s : State, s.powered ∧ s.ltcEn = true ∧ s.tmg.ltcPresent = true ∧ tickLe 990000000 998333333 = true ∧ tickLe 998333333 s.now = true) ∧
    (ltcRateCode (tickSpan 990000000 998333333) ((0 : Word).getLsbD 22) = some 3 ∧
      ltcRateCode (tickSpan 990000000 990000100) ((0 : Word).getLsbD 22) = none) ∧
    (∃ s : State, s.powered ∧ s.tmg.ltcPresent = true ∧ 0 < s.fld Fld.TMG_LTC_CFG_FREEWHEEL ∧
      2 * ltcTicks3 (ltcRate s.tmg.ltcCode.toNat) ≤ 3 * (s.mono - s.tmg.ltcLastSync)) ∧
    (∃ s : State, s.tmg.ltcPresent = true ∧ s.fld Fld.TMG_LTC_CFG_FREEWHEEL = 0 ∧
      2 * ltcTicks3 (ltcRate s.tmg.ltcCode.toNat) ≤ 3 * (s.mono - s.tmg.ltcLastSync)) ∧
    (∃ s : State, s.powered ∧ s.tmg.ltcFreewheel = true ∧ s.tmg.ltcFreeEnd ≤ s.mono) :=
  ⟨⟨{ up with tmg.ltcPresent := true, tmg.syncCfg := fldPut 0 Fld.TMG_SYNC_CFG_LTC_EN 1 }, by decide +kernel⟩, by decide +kernel,
   ⟨({ up with tmg.ltcPresent := true } : State).setFld Fld.TMG_LTC_CFG_FREEWHEEL 1, by decide +kernel⟩,
   ⟨({ up with tmg.ltcPresent := true } : State).setFld Fld.TMG_LTC_CFG_FREEWHEEL 0, by decide +kernel⟩,
   ⟨{ up with tmg.ltcFreewheel := true, tmg.ltcFreeEnd := up.mono }, by decide +kernel⟩⟩

def pend (t : Nat) (hold : Word) : TrigPend := { t, src := 0, recv := t, cfg := 0, holdoff := hold }

def trigd (p : TrigPend) : State := { up with tmg := { tmgCold with trigPending := [p], trigs := [100] } }

theorem w_triggers :
    (up.powered ∧ up.pending = [] ∧ up.tmg.trigEdge = none ∧ tickLe 1000000000 up.now = true ∧ tickSpan 999999999 up.now < 2 ^ 62 ∧
      up.tmg.trigOld = []) ∧
    ((trigd (pend 100 5)).tmg.trigPending = [pend 100 5] ∧ 100 ∈ (trigd (pend 100 5)).tmg.trigs) ∧
    (∃ a ∈ (trigd (pend 105 5)).tmg.trigs, a < 105 ∧ 105 ≤ a + (pend 105 5).holdoff.toNat) ∧
    (105 ∉ (trigd (pend 105 5)).tmg.trigs) ∧ ¬(∃ a ∈ (trigd (pend 106 5)).tmg.trigs, a < 106 ∧ 106 ≤ a + (pend 106 5).holdoff.toNat) ∧
    (fldOf (({ up with tmg.trigCfg := fldPut 0 Fld.TMG_TRIG_CFG_PIN_EN 1 } : State).trigSet 1000000000).1 Fld.TMG_TRIG_CFG_PIN_EN = 1) := by
  decide +kernel

/-! ## Witnesses: the ring -/

/-- A node on the ring with this identity and role. -/
def node (id role : Nat) : State :=
  { ((up.setFld Fld.WAY_CFG_NODE_ID id).setFld Fld.WAY_CFG_ROLE role).setFld Fld.WAY_CFG_ENABLE 1 with
    way := { wayCold with joined := true, lock := true, epoch := 1 } }

def msg (typ origin flags : Nat) (body : List Nat) : RingMsg := { typ, seq := 15, origin, flags, body }

theorem w_roles : (node 3 0).isMaster = true ∧ (node 3 1).isMaster = false ∧ (node 3 1).wayRole = 1 ∧ (node 3 2).wayRole = 2 ∧
    (node 3 0).nodeId = 3 ∧ (node 3 0).powered := by decide +kernel

def trig5 : RingMsg := msg Msg.trigger 5 0 [0, 0, 0, 0, 0, 0, 0]

theorem w_broadcasts :
    ((node 3 0).way.joined = true ∧ msgOk trig5 = true ∧ (5 : Nat) ≠ (node 3 0).nodeId ∧ (node 3 0).actedOn trig5 = false ∧
      trig5.flags &&& Msg.mseen = 0) ∧
    (∃ s : State, s.powered ∧ s.isMaster = true ∧ s.wayRole ≠ 1 ∧ s.ringTrigOk = true ∧ s.way.joined = true ∧
      fldOf (s.trigSet (s.nearTick 56 (bodyLe trig5 0 7))).1 Fld.TMG_TRIG_CFG_RING_EN = 1) ∧
    (∃ s : State, s.wayRole = 1 ∧ s.way.align = Align.aligned ∧ s.ringTrigOk = true ∧ s.isMaster = false ∧
      fldOf (s.trigSet (s.nearTick 56 (bodyLe trig5 0 7))).1 Fld.TMG_TRIG_CFG_RING_EN = 1) ∧
    ((node 3 0).way.census = none ∧ (node 3 0).isMaster = true ∧ (node 3 1).wayRole = 1 ∧ (node 3 1).isMaster = false ∧
      msgOk (msg Msg.censusReq 5 0 [0, 0, 0, 0, 0, 0, 0]) = true ∧ msgOk (msg Msg.census 5 0 [0, 0, 0, 0, 0, 0, 0]) = true) :=
  ⟨by decide +kernel, ⟨{ node 3 0 with tmg.trigCfg := fldPut 0 Fld.TMG_TRIG_CFG_RING_EN 1 }, by decide +kernel⟩,
   ⟨{ node 3 1 with
      way := { (node 3 1).way with align := Align.aligned }, tmg.trigCfg := fldPut 0 Fld.TMG_TRIG_CFG_RING_EN 1 }, by decide +kernel⟩,
   by decide +kernel⟩

/-- A CENSUS of node 5 passes a second time. -/
theorem w_census_again : ∃ (s : State) (m : RingMsg), s.powered ∧ s.way.joined = true ∧ msgOk m = true ∧ m.typ = Msg.census ∧ s.isMaster = false ∧
    s.actedOn m = true :=
  ⟨{ node 3 1 with way := { (node 3 1).way with acted := [(5, Msg.census, 15)] } }, msg Msg.census 5 0 [1, 0, 0, 0, 0, 0, 0], by decide +kernel⟩

/-- A follower in an alignment state, its delay valid. -/
def following (a : Nat) : State := { node 3 1 with way := { (node 3 1).way with align := a, delayValid := true } }

theorem w_time_sync :
    ((following Align.unaligned).powered ∧ (following Align.unaligned).way.joined = true ∧ (following Align.unaligned).wayRole = 1 ∧
      (following Align.unaligned).way.frozen = false ∧ (following Align.unaligned).way.align = Align.unaligned ∧
      bitN (2 ^ 66) 66 = true ∧ bitN 5 66 = false) ∧
    (following Align.slewing).way.align = Align.slewing ∧ (following Align.aligned).wayRole = 1 ∧
    (16 * 5 + 128 : Int) - (16 * (5 % 2 ^ 66) + (following Align.aligned).fld Fld.WAY_DELAY_VALUE : Nat) = 128 := by decide +kernel

theorem w_frame_epoch : ∃ (s : State) (m : RingMsg), s.powered ∧ s.way.joined = true ∧ msgOk m = true ∧ m.typ = Msg.frameEpoch ∧
    s.isMaster = false ∧ s.ringPlacing = true ∧ s.tmg.scheduled = true ∧ s.way.epochTick = none ∧ s.tmg.realign = false ∧
    s.inBand = false ∧ tickLe (s.nearTick 48 (bodyLe m 0 6)) s.tmg.lastSnap = false ∧
    tickLe (tickAdd s.now 2500) (tickAdd s.tmg.lastSnap (tickSpan s.tmg.prevSnap s.tmg.lastSnap)) = true ∧
    tickLe (tickAdd s.tmg.lastSnap (pMin s.rol.map s.tol.prof s.tol.level)) (s.nearTick 48 (bodyLe m 0 6)) = true :=
  ⟨{ node 3 1 with
      way := { (node 3 1).way with align := Align.aligned }
      now := 20000000
      tmg := { tmgCold with
        syncCfg := fldPut 0 Fld.TMG_SYNC_CFG_SRC 2, scheduled := true, prevSnap := 18958333, lastSnap := 20000000, nextSnap := 21041667 } },
   msg Msg.frameEpoch 5 0 [0xB8, 0x26, 0x41, 0x01, 0, 0, 0], by decide +kernel⟩

def to3 (typ : Nat) (epoch : Nat) : RingMsg := msg typ 5 0 [3, epoch, 0, 0, 0, 0, 0]

theorem w_addressed :
    ((node 3 1).way.joined = true ∧ msgOk (to3 Msg.user 1) = true ∧ bodyLe (to3 Msg.user 1) 0 1 = (node 3 1).nodeId ∧
      (node 3 1).actedOn (to3 Msg.user 1) = false ∧ (node 3 1).way.epoch ≠ 0 ∧ bodyLe (to3 Msg.user 1) 1 1 = (node 3 1).way.epoch ∧
      (to3 Msg.user 1).typ = Msg.user ∧ (to3 Msg.user 1).origin ≠ (node 3 1).nodeId ∧ (node 3 1).wayRole = 1) ∧
    (bodyLe (to3 Msg.user 2) 1 1 ≠ (node 3 1).way.epoch ∧ (node 3 1).isMaster = false) ∧
    (msgOk (to3 Msg.nack 1) = true ∧ (to3 Msg.nack 1).typ = Msg.nack ∧ msgOk (to3 Msg.delay 1) = true ∧ (to3 Msg.delay 1).typ = Msg.delay ∧
      (node 3 1).actedOn (to3 Msg.nack 1) = false ∧ (node 3 1).actedOn (to3 Msg.delay 1) = false) ∧
    (∃ s : State, s.powered ∧ s.way.joined = true ∧ s.isMaster = true ∧ (0 : Nat) &&& Msg.mseen = 0 ∧
      s.way.census = some { start := 0, loop := none, hops := 0, replies := [] } ∧ s.way.epoch = 1) :=
  ⟨by decide +kernel, by decide +kernel, by decide +kernel,
   ⟨{ node 3 0 with way := { (node 3 0).way with census := some { start := 0, loop := none, hops := 0, replies := [] } } },
    by decide +kernel⟩⟩

def own (again : Bool) : RingSent := { msg := msg Msg.user 3 0 [5, 1, 0, 0, 0, 0, 0], sentAt := 0, deadline := 1000000000, again }

def awaiting (again : Bool) : State := { node 3 0 with way := { (node 3 0).way with sent := [own again] } }

theorem w_own :
    ((node 3 0).way.joined = true ∧ (node 3 0).isMaster = true ∧ (node 3 0).now % 250000 = 0) ∧
    ((awaiting false).powered ∧ msgOk (own false).msg = true ∧ (own false).msg.origin = (awaiting false).nodeId ∧
      (own false).msg.typ ≠ Msg.census ∧
      (awaiting false).way.sent.find? (fun x => x.msg.typ = Msg.user ∧ x.msg.seq = 15) = some (own false) ∧
      (own false).deadline ≤ (awaiting false).mono ∧ (own false).again = false) ∧
    ((awaiting true).way.sent.find? (fun x => x.msg.typ = Msg.user ∧ x.msg.seq = 15) = some (own true)) ∧
    (∃ s : State, s.powered ∧ s.way.census = some { start := 999750000, loop := none, hops := 0, replies := [] } ∧
      999750000 + 250000 ≤ s.mono ∧ s.way.censusDue = false) :=
  ⟨by decide +kernel, by decide +kernel, by decide +kernel,
   ⟨{ node 3 0 with way := { (node 3 0).way with census := some { start := 999750000, loop := none, hops := 0, replies := [] } } },
    by decide +kernel⟩⟩

/-- The output holds another message; what this node sends waits behind it. -/
def engaged (s : State) : State := { s with way := { s.way with sendEnd := 1000000001 } }

theorem w_output : (node 3 0).way.sendEnd ≤ (node 3 0).mono ∧ (node 3 0).way.waiting = [] ∧ ¬(engaged (node 3 0)).way.sendEnd ≤ (node 3 0).mono ∧
    (engaged (awaiting false)).way.sent.find? (fun x => x.msg.typ = Msg.user ∧ x.msg.seq = 15) = some (own false) := by decide +kernel

theorem test_waits : gives (exec .userSend (engaged (node 3 1))) (fun t => t.outs == [] && t.way.waiting.length == 1) = true := by decide +kernel

theorem test_waiting_leaves : gives (step { engaged (node 3 1) with mono := 1000000001, way.waiting := [⟨(own false).msg, false⟩] })
    (fun t => t.outs == [.ring (own false).msg (msgCrc (own false).msg)] && t.way.waiting == []) = true := by decide +kernel

/-- The first nine characters of a message of node 5 with these flags, of a reserved TYPE, and its tenth, the CRC (R288, R289). -/
def head9 (flags : Byte) : List Byte := [0xFF, 16 * flags + 5, 0, 0, 0, 0, 0, 0, 0]

def chars (flags : Byte) (off : Nat) : List Byte := head9 flags ++ [BitVec.ofNat 8 (crc8 (head9 flags) + off)]

theorem w_bad_messages :
    ((chars 0 0).length = 10 ∧ (node 3 1).way.joined = true ∧ (node 3 1).powered ∧
      crc8 ((chars 0 0).take 9) = fieldLe (chars 0 0) 9 1 ∧ (node 3 1).seenBefore (msgOfChars (chars 0 0)) = false ∧
      (msgOfChars (chars 0 0)).origin ≠ (node 3 1).nodeId) ∧
    (crc8 ((chars 0 1).take 9) ≠ fieldLe (chars 0 1) 9 1) ∧
    (crc8 ((chars 8 0).take 9) = fieldLe (chars 8 0) 9 1 ∧ (node 3 0).seenBefore (msgOfChars (chars 8 0)) = true) := by decide +kernel

theorem w_places :
    (∃ s : State, s.powered ∧ s.mayJoin = true ∧ s.way.lock = false) ∧
    ((node 3 0).way.joined = true ∧ (node 3 0).isMaster = true ∧ (node 3 0).way.census = none) ∧
    ((node 3 1).isMaster = false ∧ (node 3 1).wayRole ≤ 1 ∧ (node 3 1).flag Fld.WAY_CTRL_USER_SEND = false) ∧
    (fldOf 0 Fld.WAY_CFG_ROLE ≠ 3 ∧ (node 3 1).inStream = false) ∧
    (∃ v : Word, fldOf v Fld.WAY_CFG_ROLE = 3) ∧
    (streaming.inStream = true ∧ wayIdent (fldPut 0 Fld.WAY_CFG_NODE_ID 5) ≠ wayIdent (streaming.reg Reg.WAY_CFG)) ∧
    (∃ s : State, s.powered ∧ s.isMaster = true ∧ s.way.foreign = some (997500000, 999500000, false) ∧ 997500000 + 2500000 ≤ s.mono ∧
      s.mono ≤ 999500000 + 500000) ∧
    (∃ s : State, s.powered ∧ s.wayRole = 1 ∧ s.way.align = Align.slewing ∧ s.way.lastUsable + 2500000 ≤ s.mono) :=
  ⟨⟨{ node 3 1 with way := wayCold }, by decide +kernel⟩, by decide +kernel, by decide +kernel, by decide +kernel,
   ⟨fldPut 0 Fld.WAY_CFG_ROLE 3, by decide +kernel⟩, by decide +kernel,
   ⟨{ node 3 0 with way := { (node 3 0).way with foreign := some (997500000, 999500000, false) } }, by decide +kernel⟩,
   ⟨{ node 3 1 with way := { (node 3 1).way with align := Align.slewing, lastUsable := 997500000 } }, by decide +kernel⟩⟩

/-! ## Witnesses: Tollgate, counters, self-test -/

theorem w_tollgate_timers :
    (up.powered ∧ up.now % 250000 = 0 ∧ up.now % 250000000 = 0 ∧ (up.setFld Fld.TOL_XCHK_CFG_EN 1).flag Fld.TOL_XCHK_CFG_EN = true) ∧
    (up.tol.levelAt + 250000 * up.fld Fld.THM_CFG_STEP_MS ≤ up.mono ∧ ∀ d ∈ up.tol.thm, d.st ≠ 2) ∧
    (∃ s : State, s.powered ∧ s.tol.levelAt + 250000 * s.fld Fld.THM_CFG_STEP_MS ≤ s.mono ∧ (s.thmAt 6).st = 2 ∧
      (s.thresholds 6).getD 1 0 ≤ (s.thmAt 6).reading) ∧
    (∃ s : State, s.powered ∧ s.tol.crit ≠ [] ∧ (s.thmAt 5).fresh = true ∧ (s.thmAt 5).reading < (s.thresholds 5).getD 0 0) ∧
    up.nvOpen = true :=
  ⟨by decide +kernel, by decide +kernel,
   ⟨{ up with tol.thm := List.replicate 7 { thmCold with st := 2, reading := 1000000 } }, by decide +kernel⟩,
   ⟨{ up with tol.crit := [(0, 0, 0)], tol.thm := List.replicate 7 { thmCold with fresh := true, reading := -1000000 } }, by decide +kernel⟩,
   by decide +kernel⟩

theorem w_cross_check : ∃ s : State, s.powered ∧ s.now % 250000000 = 0 ∧ s.flag Fld.TOL_XCHK_CFG_EN = true ∧ s.tol.xSeen = true ∧
    s.tol.xSeen10 = true ∧ s.tol.xDies ≠ 0 :=
  ⟨({ up with tol.xSeen := true, tol.xSeen10 := true, tol.xDies := 1 } : State).setFld Fld.TOL_XCHK_CFG_EN 1, by decide +kernel⟩

theorem w_power_on_hour : ∃ s : State, s.powered ∧ s.nvOpen = true ∧ s.nv.writes = [] ∧ s.now % 900000000000 = 0 ∧ s.now ≠ 0 ∧
    s.ctrRun 3 + 1 < 64 ∧ s.tally 3 (s.ctrRun 3 + 1) ≠ tallyMark ((s.ctrNow 3).2.1 % 256) ∧ s.ctrValue 3 + 1 < 2 ^ 64 :=
  ⟨{ up with now := 900000000000 }, by decide +kernel⟩

/-- The 64 tally words of counter 3, all used. -/
def tallied : State :=
  { up with now := 900000000000, nv.mem := (List.range 64).flatMap fun n => (List.range 8).map fun i => (0x6E00 + 8 * n + i, (leBytes 8 (tallyMark 0)).getD i 0) }

theorem tallied_run : tallied.ctrRun 3 = 64 := by decide +kernel

theorem w_power_on_hour_base : tallied.ctrRun 3 = 64 ∧ tallied.nvOpen = true ∧ tallied.ctrValue 3 + 1 < 2 ^ 64 :=
  ⟨tallied_run, by decide +kernel, by rw [State.ctrValue, tallied_run]; decide +kernel⟩

def sid : SliceId := { die := 5, unit := 0, slice := 3 }

theorem w_bist_run :
    (up.taken hd Op.bistRun 1 ∧ up.cidsOk ∧ up.bistBad 0 0 1 = none ∧ up.bistBusy (bistDie 0 0) 0 = false ∧ bistDie 0 0 < 5) ∧
    (up.bistBad 0xFF 0 1 = none ∧ 5 ≤ bistDie 0xFF 0 ∧ up.bistBusy (bistDie 0xFF 0) 0 = false ∧
      ∀ r ∈ up.bst.runs, r.die = bistDie 0xFF 0 → r.kind ≠ Owner.bistRun) ∧
    (∃ s : State, s.powered ∧ s.cidsOk ∧ s.jobOf 0 = .bist 4 0 1 ∧ s.holds 4 .bist = true ∧ s.rotRunOn 4 = false ∧
      (∀ r ∈ s.bst.runs, r.die = 4 → r.kind ≠ Owner.bistRun) ∧ s.rol.pend = none ∧ (unitSlices 4 0).any (fun t => bitN 1 t.2) = true) ∧
    (∃ (s : State) (c : OutCmd), s.powered ∧ s.cidsOk ∧ s.jobOf 0 = .bist 4 0 1 ∧ s.hif.outstanding.find? (·.cid = 0) = some c ∧
      s.holds 4 .bist = false ∧ s.busOk = true) :=
  ⟨by decide +kernel, by decide +kernel,
   ⟨{ up with
      hif.outstanding := outs1 (.bist 4 0 1) Op.bistRun, hif.nextCid := 1
      rol.map := (defaultMap .bm5).set 4 { role := .bist, first := 0, count := 0 } }, by decide +kernel⟩,
   ⟨{ up with hif.outstanding := outs1 (.bist 4 0 1) Op.bistRun, hif.nextCid := 1 },
    { cid := 0, tag := 7, opcode := Op.bistRun, resultAddr := 0, accept := 0, job := .bist 4 0 1 }, by decide +kernel⟩⟩

/-- A reference record with one entry, for slice 3 of EGRESS; the record's second copy is not valid. -/
def refData : List Byte := leBytes 2 1 ++ leBytes 6 0 ++ leBytes 1 1 ++ leBytes 1 0 ++ leBytes 2 3 ++ leBytes 4 10 ++ leBytes 8 99

def refRow : List Byte :=
  let head := commitHead abBist.magic refData.length 1
  padTo 64 (head ++ leBytes 4 (crc32c (refData ++ head)))

def bytesAt (a : Nat) (b : List Byte) : Tab Byte := b.zipIdx.map fun (x, i) => (a + i, x)

def slx (again : Bool) : SliceRun := { id := sid, start := 0, aborts := 0, again, owner := Owner.background, cid := none }

def testing (again : Bool) : State :=
  { up with
    bst.running := [slx again], bst.egressLeft := if again then 1 else 0
    nv.mem := bytesAt 0x20000 refData ++ bytesAt (0x20000 + 64 * 29) refRow ++ bytesAt (0x30000 + 64 * 29) (List.replicate 64 0) }

theorem w_slices :
    ((testing false).powered ∧ sliceOk sid = true ∧ (testing false).bst.running.find? (fun x => x.id = sid) = some (slx false) ∧
      (testing false).sliceRef sid = some (10, 99) ∧ (testing false).bst.egressLeft = 0) ∧
    (∃ s : State, s.powered ∧ s.bst.retry.find? (fun x => x.id = sid ∧ (x.owner ≠ Owner.background ∨ s.bgLive)) = some (slx false) ∧
      s.unitFree sid = true) ∧
    (∃ s : State, s.powered ∧ s.bst.running.find? (fun x => x.id.die = 5 ∧ x.id.unit = 0 ∧ x.start + 25000000 ≤ s.mono ∧ s.bst.egressLeft ≠ 0) =
      some (slx false) ∧ (slx false).again = false ∧ (s.sliceRef sid).isSome = true ∧
      ∀ y ∈ s.bst.running, y.id.die = 5 → y.id.unit = 0 → y.id = sid) ∧
    ((testing true).bst.running.find? (fun x => x.id.die = 5 ∧ x.id.unit = 0 ∧ x.start + 25000000 ≤ (testing true).mono ∧
      (testing true).bst.egressLeft ≠ 0) = some (slx true) ∧ ((testing true).sliceRef sid).isSome = true) ∧
    (up.pow.st = .ready ∧ up.bst.bgLast + 250000 * up.fld Fld.BST_BG_PERIOD_VALUE ≤ up.mono) :=
  ⟨by decide +kernel, ⟨{ up with bst.retry := [slx false] }, by decide +kernel⟩,
   ⟨{ testing false with bst.egressLeft := 1 }, by decide +kernel⟩, by decide +kernel, by decide +kernel⟩

/-! ## Witnesses: the machine as a whole -/

theorem w_machine :
    (∃ (s : State) (c : Instr), s.pending = [c]) ∧ (up.pending = [] ∧ up.powered) ∧ (offState.pending = [] ∧ offState.pow.st = .off) ∧
    up.memoryOk = true ∧ State.reset.memoryOk = true ∧ up.casks.cal = none ∧ Instr.wf .regGo = true ∧ Instr.wf (.cmdProd (2 ^ 32)) = false ∧
    isSupply .regGo = false :=
  ⟨⟨{ up with pending := [.regGo] }, .regGo, rfl⟩, by decide +kernel⟩

/-! ## Ill-formed commands are refused -/

/-- A well-formed command of each kind of operand, for comparison. -/
theorem smoke_well_formed : [Instr.startStream hd, .setProfile hd full 0, .armTake hd arm, .chBufProd 7 0 [], .diePrepared 4 0,
    .readout 4 item, .census (msg 4 5 0 [0, 0, 0, 0, 0, 0, 0]), .registerWrite 0xFFFC 4 0, .sliceRetry sid].all Instr.wf = true := by
  decide +kernel

theorem smoke_header : [Instr.startStream { hd with tag := 2 ^ 32 }, .startStream { hd with resultAddr := 2 ^ 64 }].all (fun i => !i.wf) = true := by
  decide +kernel

theorem smoke_profile : [{ full with period := 2 ^ 32 }, { full with x0 := 256 }, { full with y0 := 256 }, { full with w := 256 },
    { full with h := 256 }, { full with fmt := 256 }, { full with mode := 256 }, { full with l := 256 }, { full with preview := 256 }].all
      (fun p => !Instr.wf (.setProfile hd p 0)) = true := by decide +kernel

theorem smoke_profile_frame : Instr.wf (.setProfile hd full (2 ^ 64)) = false := by decide +kernel

theorem smoke_arm : [{ arm with pre := 2 ^ 32 }, { arm with post := 2 ^ 32 }, { arm with extent := 2 ^ 32 }, { arm with retrig := 2 },
    { arm with store := 2 }].all (fun q => !Instr.wf (.armTake hd q)) = true := by decide +kernel

theorem smoke_host_commands : [Instr.replayTake hd 256 0 0 0 0 0, .replayTake hd 0 256 0 0 0 0, .replayTake hd 0 0 256 0 0 0,
    .replayTake hd 0 0 0 (2 ^ 64) 0 0, .replayTake hd 0 0 0 0 (2 ^ 32) 0, .replayTake hd 0 0 0 0 0 (2 ^ 32), .calibrate hd 256 0 0,
    .calibrate hd 0 256 0, .calibrate hd 0 0 256, .rackCask hd 256 0, .rackCask hd 0 (2 ^ 64), .loadCask hd 256 0 .none,
    .loadCask hd 0 (2 ^ 64) .none, .saveCask hd 256 0, .coilRun hd 256 0, .coilRun hd 0 256, .coilStop hd 256 0,
    .roleSet hd (2 ^ 16) 0 0 mapReq, .roleSet hd 0 256 0 mapReq, .roleSet hd 0 0 (2 ^ 64) mapReq, .roleSet hd 0 0 0 [],
    .roleSet hd 0 0 0 (mapReq.set 4 ⟨256, 0, 0⟩), .energyPlan hd full (2 ^ 32) 0, .energyPlan hd full 0 256,
    .setBudget hd (2 ^ 32) 0 0 0 0, .setBudget hd 0 (2 ^ 32) 0 0 0, .setBudget hd 0 0 (2 ^ 32) 0 0, .setBudget hd 0 0 0 (2 ^ 32) 0,
    .setBudget hd 0 0 0 0 256, .bistRun hd 256 0 0, .bistRun hd 0 256 0, .bistRun hd 0 0 (2 ^ 32)].all (fun i => !i.wf) = true := by
  decide +kernel

theorem smoke_store_commands : [Instr.nvRead hd 256 0 0 0 0, .nvRead hd 0 (2 ^ 32) 0 0 0, .nvRead hd 0 0 (2 ^ 32) 0 0,
    .nvRead hd 0 0 0 (2 ^ 64) 0, .nvRead hd 0 0 0 0 (2 ^ 64), .nvWrite hd 256 0 0 0 0 .none, .attest hd [] 0,
    .attest hd (List.replicate 32 0) (2 ^ 64), .fwStage hd 256 0 0 .none, .fwStage hd 0 (2 ^ 32) 0 .none, .fwStage hd 0 0 (2 ^ 64) .none,
    .fwCommit hd 256, .debugUnlockChallenge hd (2 ^ 64), .debugUnlockResponse hd (2 ^ 32) 0 .none].all (fun i => !i.wf) = true := by
  decide +kernel

theorem smoke_ranges : [Instr.cmdProd (2 ^ 32), .chBufProd 8 0 [], .cmpCons (2 ^ 32), .chScmpCons 8 0, .commandFetch [] .none,
    .interruptModerationTimeout 9, .registerWrite 0x10000 4 0, .loRegisterRead ⟨0x10000, 4⟩, .tmgSyncConfigWrite 0 0, .tmgTrigConfigWrite 0 0,
    .trsTauWrite 0 0, .calTrimWrite 0x21C0 0, .coilUcodeWrite 128 0, .channelEnable 0 0, .channelDisable 0 1, .linkUp 2 1, .linkUp 3 3,
    .recallComplete (2 ^ 32), .gridConversionDone [], .egressBufferAvailable 8, .recordTransferDone 8 false, .refInEdge (2 ^ 64),
    .ltcFrame ⟨2 ^ 64, 0⟩ 0 0 false, .trigInEdge (2 ^ 64) true, .ringLoopTimeout 16 0, .timeSync 0 (2 ^ 68), .timeSync (2 ^ 70) 0].all
      (fun i => !i.wf) = true := by decide +kernel

theorem smoke_dies_and_items : [Instr.readout 5 item, .readout 0 { item with row := 48 }, .state 0 { item with frame := 2 ^ 64 },
    .history 0 { item with version := 2 ^ 16 }, .halo 0 item 0, .halo 0 item 7, .control 5 0, .cellarEccError 5 .history true,
    .patrolScrub 0 (2 ^ 32), .diePrepared 0 (2 ^ 32), .replicaRestore 0 2, .drainEnd 5, .ledgerInterval
      { mgmt := 0, pool := 0, hub := 0, rows := 0, linkL0 := 0, linkL1 := 0, linkL12 := 0, dies := [] }].all
      (fun i => !i.wf) = true := by decide +kernel

theorem smoke_messages_and_slices : [Instr.census { msg 4 5 0 [0, 0, 0, 0, 0, 0, 0] with typ := 16 },
    .census { msg 4 5 0 [0, 0, 0, 0, 0, 0, 0] with seq := 16 }, .census (msg 4 16 0 [0, 0, 0, 0, 0, 0, 0]),
    .census (msg 4 5 16 [0, 0, 0, 0, 0, 0, 0]), .census (msg 4 5 0 []), .census (msg 4 5 0 [256, 0, 0, 0, 0, 0, 0]),
    .sliceRetry { sid with die := 256 }, .sliceRetry { sid with unit := 256 }, .sliceRetry { sid with slice := 32 },
    .sliceEnd sid (2 ^ 64) 0 0, .sliceEnd sid 0 (2 ^ 64) 0, .sliceEnd sid 0 0 (2 ^ 32)].all (fun i => !i.wf) = true := by decide +kernel

/-- A command with an operand that the hardware does not have is a fault that names it (log 3). -/
theorem test_ill_formed : exec (.diePrepared 5 0) up = .fault (.illFormed "DIE_PREPARED") := rfl

/-! ## Words and the queue -/

/-- The table gives no bits: no word spells a command. -/
theorem test_no_word : decodeTableWord 32 0 = none ∧ up.withFetchWord 32 0 = up := ⟨rfl, rfl⟩

theorem test_step_front : step { up with pending := [.lock, .selfcal] } = exec .lock { up with pending := [.selfcal] } := rfl

/-- The example of R7: _HI gives the captured half. -/
theorem test_lo_read_captures :
    gives (exec (.loRegisterRead ⟨Reg.TMG_TIME_LO, 4⟩) { up with now := 0x1FFFFFFFE }) (fun t =>
      t.outs.head? == some (.readData Reg.TMG_TIME_LO 0xFFFFFFFE) && tabGet (fun _ => (0 : Word)) t.cap Reg.TMG_TIME_HI == 1) = true := by
  decide +kernel

/-! ## The manual's examples -/

/-- R54: 4096 × 1024 on BM4030-3, shared as 6, 5 and 5 rows. -/
theorem test_pmin : pMin (balanced (defaultMap .bm3) [0, 1, 2] { resetProfile .bm3 with h := 16 }) { resetProfile .bm3 with h := 16 } 0 = 517390 := by
  decide +kernel

/-- R35: the wrapped counter's frame value. -/
theorem test_edges : edgesIn 12 (12 + 1041667) = 20833 ∧ edgesIn 12 (12 + 20833 * 50 + 38) = 20834 := by decide

/-- R198: the second differences 1 and -277. -/
theorem test_second_difference :
    secondDiff [(2, 985), (1, 962), (0, 940)] 2 = some (1, 1) ∧ secondDiff [(3, 731), (2, 985), (1, 962)] 3 = some (-277, 1) := by
  decide +kernel

/-- R367: tally words over a base of 1,000 at sequence 0x107, the newer of two; the next increment writes the next tally word. -/
def shuts : State :=
  let head := fun (v q : Nat) => leBytes 4 0x42544E43 ++ leBytes 1 0 ++ leBytes 3 0 ++ leBytes 8 v ++ leBytes 4 q
  let row := fun v q => head v q ++ leBytes 4 (crc32c (head v q))
  { up with
    nv.mem := bytesAt 0x6000 (row 1000 0x107) ++ bytesAt 0x6040 (row 935 0x106) ++ bytesAt 0x6200 (leBytes 8 (tallyMark 7)) }

theorem test_counter_value : shuts.ctrValue 0 = 1001 := by decide +kernel

theorem test_counter_inc : (shuts.ctrInc 0).ctrValue 0 = 1002 := by decide +kernel

/-- R367: the tally word of marker 8. -/
theorem test_tally_word : tallyMark 8 = 0xA5A5A5A5A5A5F708 := by decide

/-- R442: offsets of a die's and a channel's registers. -/
theorem test_offsets : Reg.PPL_P_CLIP_COUNT 3 = 0x1710 ∧ Reg.HIF_CH_DROP_COUNT 5 = 0x538 := by decide

/-- R445: with 0x404 enabled, a WARN sets bit 10 and signals vector 9; a trigger adds bit 2 without a vector. -/
def enabled : State :=
  { (up.setReg Reg.GLB_INT_EN 0x404) with msix := [(4 * 9 + 3, 0)] }

def warned : State := (enabled.sticky Fld.THM_STATUS_WARN_SEEN).refreshSummary

theorem test_summary_sets : warned.reg Reg.GLB_INT_SUMMARY = 0x400 ∧ warned.outs = [.msix 9] := by decide +kernel

theorem test_summary_no_second_vector : ((warned.sticky Fld.TMG_STATUS_TRIG_SEEN).refreshSummary).reg Reg.GLB_INT_SUMMARY = 0x404 ∧
    ((warned.sticky Fld.TMG_STATUS_TRIG_SEEN).refreshSummary).outs = [.msix 9] := by decide +kernel

/-- R445, step 4: bit 10 clears, bit 2 stays, and vector 9 is signalled again. -/
theorem test_summary_write : gives (exec (.glbIntSummaryWrite 0x400)
    ({ ((warned.sticky Fld.TMG_STATUS_TRIG_SEEN).setReg Reg.THM_STATUS 0) with fresh := [] } : State).refreshSummary) (fun t =>
      t.reg Reg.GLB_INT_SUMMARY == 4 && t.outs == [.msix 9, .msix 9]) = true := by decide +kernel

/-! ## Single commands -/

theorem test_start_stream : gives (exec (.startStream hd) up) (fun t => t.tol.start == some (0, 0) && t.outCount == 1) = true := by
  decide +kernel

theorem test_start_stream_busy : gives (exec (.startStream hd) warm) (fun t =>
    t.tol.start.isNone && t.outs.any fun o => match o with | .completion e => e.status == St.busy | _ => false) = true := by decide +kernel

theorem test_profile_field : gives (exec (.setProfile hd { full with mode := 3, preview := 2 } 0) up) (fun t =>
    t.outs.any fun o => match o with | .completion e => e.status == St.badParam && e.reason == 0x19 | _ => false) = true := by decide +kernel

theorem test_doorbell_rejected : gives (exec (.cmdProd 0x10000) ring) (fun t =>
    t.flag Fld.HIF_STATUS_DB_REJ && t.hif.cmdProd == 0) = true := by decide +kernel

theorem test_doorbell_accepted : gives (exec (.cmdProd 3) ring) (fun t => !t.flag Fld.HIF_STATUS_DB_REJ && t.hif.cmdProd == 3) = true := by
  decide +kernel

theorem test_trigger_held : gives (exec .triggerAccept (trigd (pend 105 5))) (fun t =>
    t.regN Reg.TMG_TRIG_HELD == 1 && t.regN Reg.TMG_TRIG_COUNT == 0) = true := by decide +kernel

theorem test_trigger_taken : gives (exec .triggerAccept (trigd (pend 106 5))) (fun t =>
    t.regN Reg.TMG_TRIG_COUNT == 1 && t.pair Reg.TMG_TRIG_TIME_LO == 106 && t.tmg.trigs == [106, 100]) = true := by decide +kernel

theorem test_bias_in_range : gives (exec (.senBiasWrite 80) up) (fun t => t.regN Reg.SEN_BIAS == 80) = true := by decide +kernel

theorem test_bias_rejected : gives (exec (.senBiasWrite 81) up) (fun t =>
    t.reg Reg.SEN_BIAS == up.reg Reg.SEN_BIAS && t.flag Fld.SEN_STATUS_SET_REJ) = true := by decide +kernel

theorem test_coil_run : gives (exec (.coilRun hd 3 0xFF) up) (fun t => (t.eng .b).st == .running && (t.eng .b).coil == 3) = true := by
  decide +kernel

theorem test_phase_word : gives (exec (.phase .b) (word 0x10050002)) (fun t =>
    (t.eng .b).phase == some (true, 0, 10, up.mono + 50000, false)) = true := by decide +kernel

theorem test_end_word : gives (exec (.endProfile .b) (word 0x98000000)) (fun t =>
    (t.eng .b).st == .gap && (t.eng .b).result == 3 && !(t.eng .b).hs && !(t.eng .b).ls) = true := by decide +kernel

theorem test_reg_go : gives (exec .regGo (reg 1)) (fun t => t.hkc.run.isSome && t.regN Reg.HKC_SEQ_COUNT == 1) = true := by decide +kernel

theorem test_lock_closes_trims : gives (exec (.calTrimWrite 0x2080 1) (up.setFld Fld.SEC_STATUS_SEC_LOCK 1)) (fun t =>
    t.reg 0x2080 == up.reg 0x2080) = true := by decide +kernel

theorem test_nv_write_wraps : gives (exec .nvAccessDone { writing with hif.outstanding := outs1 (.nvWrite 6 248 16 0 (.bytes (List.replicate 16 7))) Op.nvWrite })
    (fun t => tabGet nvDflt t.nv.mem 0x400F8 == 7 && tabGet nvDflt t.nv.mem 0x40000 == 7 && tabGet nvDflt t.nv.mem 0x40100 == 0) = true := by
  decide +kernel

theorem test_die_withdrawn : gives (exec (.dieWatchdogMiss 4) up) (fun t => (t.die 4).withdrawn && !(t.die 4).powered) = true := by decide +kernel

theorem test_time_sync_send : gives (exec .timeSyncSend (node 3 0)) (fun t => t.outs.head? == some (.timeSync 4000000000 (syncCrc 4000000000))) = true := by
  decide +kernel

theorem test_cold_reset : gives (exec .rstNAssert up) (fun t => t.now == 0 && t.pow.st == .off && t.pow.cause == 1) = true := by decide +kernel

theorem test_warm_reset : gives (exec .functionLevelReset streaming) (fun t =>
    t.pow.st == .ready && !t.hif.busMaster && t.pow.warmCount == 1) = true := by decide +kernel

theorem test_off_does_nothing : exec .lock offState = .next offState := rfl

theorem test_tick : gives (step up) (fun t => t.now == 1000000001 && t.mono == 1000000001) = true := by decide +kernel

end Sys2Proof.Tests
end

section
/-! How a command ends: what it has to show to yield its effect, what has left the block, and the flags of registers. -/

namespace Sys2Proof.Machine

open Sys2Proof

/-! ## Yielding -/

/-- A command that acts with the supplies there yields what its committed effect has. -/
theorem yields_of_run {i : Instr} {s : State} {f : State → State} {P : State → Prop} (he : exec i s = run f s)
    (hp : s.powered) (h : P (commit s (f s))) : Yields i s P :=
  ⟨_, he.trans (run_of_powered s f hp), h⟩

/-- The same for a command whose operands are in order. -/
theorem yields_of_runIf {i : Instr} {s : State} {m : String} {f : State → State} {P : State → Prop}
    (he : exec i s = runIf m (Instr.wf i) f s) (hw : Instr.wf i = true) (hp : s.powered) (h : P (commit s (f s))) : Yields i s P :=
  ⟨_, he.trans (runIf_of_ok s f hw hp), h⟩

/-! ## What has left the block -/

theorem sent_emit (s : State) (o : Out) : Sent s (s.emit o) o := ⟨[o], rfl, .head _⟩

/-- What has been sent stays so while more leaves the block. -/
theorem Sent.later {s t u : State} {o : Out} (h : Sent s t o) (hu : t.outs <:+ u.outs) : Sent s u o := by
  obtain ⟨l, hl, ho⟩ := h
  obtain ⟨m, hm⟩ := hu
  exact ⟨m ++ l, by rw [← hm, hl, List.append_assoc], List.mem_append_right _ ho⟩

/-- What is sent from a later state on is sent from an earlier one on. -/
theorem Sent.earlier {s t u : State} {o : Out} (h : Sent t u o) (hs : s.outs <:+ t.outs) : Sent s u o := by
  obtain ⟨l, hl, ho⟩ := h
  obtain ⟨m, hm⟩ := hs
  exact ⟨l ++ m, by rw [hl, ← hm, List.append_assoc], List.mem_append_left _ ho⟩

theorem Completed.later {s t u : State} {tag op st why : Nat} (h : Completed s t tag op st why) (hu : t.outs <:+ u.outs) :
    Completed s u tag op st why := by
  obtain ⟨e, he, hf⟩ := h
  exact ⟨e, he.later hu, hf⟩

theorem Completed.earlier {s t u : State} {tag op st why : Nat} (h : Completed t u tag op st why) (hs : s.outs <:+ t.outs) :
    Completed s u tag op st why := by
  obtain ⟨e, he, hf⟩ := h
  exact ⟨e, he.earlier hs, hf⟩

/-- The end of a command takes back nothing that has left the block. -/
theorem outs_suffix_commit (s t : State) : t.outs <:+ (commit s t).outs := by
  rcases commit_outs s t with h | h <;> rw [h]
  exact List.suffix_cons _ _

theorem outs_suffix_signal (s : State) (v : Nat) : s.outs <:+ (s.signal v).outs := by
  rcases s.signal_outs v with h | h <;> rw [h]
  exact List.suffix_cons _ _

/-! ## Flags -/

/-- A field whose lowest bit is set is not zero. -/
theorem fldOf_ne_zero {v : Word} {f : Fld} (hw : 0 < f.wd) (h : v.getLsbD f.lo = true) : fldOf v f ≠ 0 := by
  intro h0
  have hb : (v.toNat / 2 ^ f.lo % 2 ^ f.wd).testBit 0 = true := by
    rw [Nat.testBit_mod_two_pow, Nat.testBit_div_two_pow]
    simpa [hw, BitVec.getLsbD] using h
  unfold fldOf at h0
  simp [h0] at hb

/-- The end of a command leaves the flags of every register but the interrupt summary. -/
theorem flag_commit {s t : State} {f : Fld} (h : f.off ≠ Reg.GLB_INT_SUMMARY) : (commit s t).flag f = t.flag f := by
  simp [State.flag, State.fld, reg_commit_ne s t h]

theorem regN_commit {s t : State} {o : Nat} (h : o ≠ Reg.GLB_INT_SUMMARY) : (commit s t).regN o = t.regN o := by
  simp [State.regN, reg_commit_ne s t h]

/-- A sticky bit that the device has set reads as set. -/
theorem flag_sticky (s : State) {f : Fld} (hl : f.lo < 32) (hw : 0 < f.wd) : (s.sticky f).flag f = true := by
  have hr : (s.sticky f).reg f.off = s.reg f.off ||| BitVec.ofNat 32 (2 ^ f.lo) := s.reg_setReg_self _ _
  have hb : ((s.sticky f).reg f.off).getLsbD f.lo = true := by
    rw [hr, BitVec.getLsbD_or, BitVec.getLsbD_ofNat]
    simp [hl]
  simpa [State.flag, State.fld] using fldOf_ne_zero hw hb

/-- A number that fits a register is read back as it was put. -/
theorem regN_setRegN {s : State} {off n : Nat} (h : n < 2 ^ 32) : (s.setRegN off n).regN off = n := by
  simpa [State.regN, State.setRegN] using h

/-- A number put into a register leaves every other one. -/
theorem reg_setRegN_ne {s : State} {off o n : Nat} (h : o ≠ off) : (s.setRegN off n).reg o = s.reg o := s.reg_setReg_ne _ h

end Sys2Proof.Machine
end

section
/-! The sensor's registers (R48, R49, R56), and the state right after reset. -/

namespace Sys2Proof.Machine

open Sys2Proof

/-- Settles O60: each clause is read off the state that reset leaves. -/
theorem resetLeavesTheMachineAtRest : Obligations.ResetLeavesTheMachineAtRest := by
  unfold Obligations.ResetLeavesTheMachineAtRest
  refine ⟨rfl, rfl, rfl, rfl, ?chans, fun _ => rfl, rfl, ?rings, rfl, rfl, rfl, rfl, rfl, rfl, ?dies, rfl, rfl⟩
  case chans => decide
  case rings => decide
  case dies => decide

/-! ## The grid registers -/

/-- What every update of a sequence keeps, the sequence keeps. -/
theorem foldl_keeps {α β : Type} (g : State → β) {f : State → α → State} (hf : ∀ s a, g (f s a) = g s) (l : List α) :
    ∀ s : State, g (l.foldl f s) = g s := by
  induction l with
  | nil => intro s; rfl
  | cons a l ih => intro s; rw [List.foldl_cons, ih, hf]

/-- Taking the newest grid writes registers only, once no newer one waits (R56): whatever register writes keep, it keeps. -/
theorem State.showGrid_keeps {β : Type} (g : State → β) (hg : ∀ s off v, g (State.setReg s off v) = g s) (s : State) :
    g s.showGrid = g { s with sen.gridWaits := false } := by
  have hp : ∀ s lo v, g (State.setPair s lo v) = g s := fun s lo v => (hg _ _ _).trans (hg _ _ _)
  unfold State.showGrid
  generalize ({ s with sen.gridWaits := false } : State) = u
  dsimp only
  split
  · exact hg _ _ _
  · exact (foldl_keeps g (fun _ _ => hg _ _ _) _ _).trans ((hg _ _ _).trans (hp _ _ _))

@[simp] theorem State.showGrid_mono (s : State) : s.showGrid.mono = s.mono := s.showGrid_keeps State.mono fun _ _ _ => rfl
@[simp] theorem State.showGrid_outs (s : State) : s.showGrid.outs = s.outs := s.showGrid_keeps State.outs fun _ _ _ => rfl
@[simp] theorem State.showGrid_sen (s : State) : s.showGrid.sen = { s.sen with gridWaits := false } :=
  s.showGrid_keeps State.sen fun _ _ _ => rfl

/-- The state whose grid registers a read answers: they follow the newest grid, if one waits. -/
abbrev State.gridShown (s : State) : State := if s.sen.gridWaits then s.showGrid else s

theorem State.gridShown_mono (s : State) : s.gridShown.mono = s.mono := by unfold State.gridShown; split <;> simp
theorem State.gridShown_outs (s : State) : s.gridShown.outs = s.outs := by unfold State.gridShown; split <;> simp

/-- The freeze is over, whether a newer grid waits or not. -/
theorem State.unfreeze_freeze (s : State) : s.unfreeze.sen.freeze = none := by
  unfold State.unfreeze; dsimp only; split <;> simp

theorem State.unfreeze_outs (s : State) : s.unfreeze.outs = s.outs := by
  unfold State.unfreeze; dsimp only; split <;> simp

/-- A read of the low word outside RECALL holds and freezes the newest grid, captures the high word and answers the low one. -/
theorem State.doGridLo_eq {s : State} (h : s.pow.st ≠ .recall) :
    s.doGridLo = (State.capture { s.gridShown with sen.freeze := some s.gridShown.mono } Reg.SEN_GRID_FRAME_HI
      (s.gridShown.reg Reg.SEN_GRID_FRAME_HI)).emit (.readData Reg.SEN_GRID_FRAME_LO (s.gridShown.reg Reg.SEN_GRID_FRAME_LO)) := by
  unfold State.doGridLo; rw [if_neg h]; rfl

/-- A read of the high word outside RECALL answers what was captured and ends the freeze. -/
theorem State.doGridHi_eq {s : State} (h : s.pow.st ≠ .recall) :
    s.doGridHi = (s.emit (.readData Reg.SEN_GRID_FRAME_HI (tabGet (fun _ => 0) s.cap Reg.SEN_GRID_FRAME_HI))).unfreeze := by
  unfold State.doGridHi; rw [if_neg h]

/-! ## The codes -/

theorem exec_senBiasWrite (v : Word) (s : State) :
    exec (.senBiasWrite v) s = run (fun s => s.woken.doBiasWrite (fldOf v Fld.SEN_BIAS_BIAS_CODE)) s := rfl
theorem exec_senQrefWrite (v : Word) (s : State) :
    exec (.senQrefWrite v) s = run (fun s => s.woken.doQrefWrite (fldOf v Fld.SEN_QREF_QREF_CODE)) s := rfl
theorem exec_settlingEnd (s : State) : exec .settlingEnd s = run State.doSettlingEnd s := rfl
theorem exec_senGridFrameLoRead (s : State) : exec .senGridFrameLoRead s = run State.doGridLo s := rfl
theorem exec_senGridFrameHiRead (s : State) : exec .senGridFrameHiRead s = run State.doGridHi s := rfl
theorem exec_gridFreezeTimeout (s : State) :
    exec .gridFreezeTimeout s = run (fun s => match s.sen.freeze with
      | some t => if t + 2500000 ≤ s.mono then s.unfreeze else s
      | none => s) s := rfl

/-- Where a write of a code is discarded (R48). -/
theorem State.codeBad_iff {s : State} {code limit : Nat} :
    s.codeBad code limit = true ↔ s.pow.st = .stream ∨ s.pow.st = .take ∨ limit < code := by
  simp [State.codeBad, or_assoc]

theorem State.codeBad_eq_false {s : State} {code limit : Nat} (h1 : s.pow.st ≠ .stream) (h2 : s.pow.st ≠ .take) (h : code ≤ limit) :
    s.codeBad code limit = false := by
  simp [State.codeBad, h1, h2, h]

/-- A write that is discarded sets SET_REJ and keeps every code (R48). -/
theorem reg_and_flag_of_setRej (s u : State) {o : Nat} (ho : o ≠ Reg.GLB_INT_SUMMARY) (hs : o ≠ Reg.SEN_STATUS) :
    (commit s (u.sticky Fld.SEN_STATUS_SET_REJ)).reg o = u.reg o ∧
      (commit s (u.sticky Fld.SEN_STATUS_SET_REJ)).flag Fld.SEN_STATUS_SET_REJ = true := by
  rw [reg_commit_ne _ _ ho, flag_commit (by decide), flag_sticky _ (by decide) (by decide)]
  exact ⟨u.reg_sticky_ne hs, rfl⟩

/-- Settles O10: the rule of each register access, as the lemmas above give it, at the end of its command. -/
theorem sensorRegisterCommands : Obligations.SensorRegisterCommands := by
  unfold Obligations.SensorRegisterCommands
  intro s hp
  refine ⟨?bias, ?qref, ?biasRej, ?qrefRej, ?settling, ?gridLo, ?gridHi, ?freezeEnd⟩
  case bias =>
    intro v h1 h2 hv
    have hb : s.woken.codeBad (fldOf v Fld.SEN_BIAS_BIAS_CODE) 80 = false := State.codeBad_eq_false h1 h2 hv
    refine yields_of_run (exec_senBiasWrite v s) hp ?_
    rw [regN_commit (by decide)]
    simp only [State.doBiasWrite, hb, Bool.false_eq_true, if_false]
    exact regN_setRegN (by omega)
  case qref =>
    intro v h1 h2 hv
    have hb : s.woken.codeBad (fldOf v Fld.SEN_QREF_QREF_CODE) 120 = false := State.codeBad_eq_false h1 h2 hv
    refine yields_of_run (exec_senQrefWrite v s) hp ?_
    rw [regN_commit (by decide)]
    simp only [State.doQrefWrite, hb, Bool.false_eq_true, if_false]
    exact regN_setRegN (by omega)
  case biasRej =>
    intro v h
    refine yields_of_run (exec_senBiasWrite v s) hp ?_
    simp only [State.doBiasWrite, (State.codeBad_iff (s := s.woken)).2 h, if_true]
    exact reg_and_flag_of_setRej s s.woken (by decide) (by decide)
  case qrefRej =>
    intro v h
    refine yields_of_run (exec_senQrefWrite v s) hp ?_
    simp only [State.doQrefWrite, (State.codeBad_iff (s := s.woken)).2 h, if_true]
    exact reg_and_flag_of_setRej s s.woken (by decide) (by decide)
  case settling =>
    intro e he hm
    refine yields_of_run (exec_settlingEnd s) hp ?_
    simp [State.doSettlingEnd, he, hm]
  case gridLo =>
    intro u hr
    refine yields_of_run (exec_senGridFrameLoRead s) hp ?_
    rw [State.doGridLo_eq hr, commit_sen, commit_cap]
    refine ⟨congrArg some s.gridShown_mono, ?_, tabGet_tabSet_self _ _ _ _⟩
    exact ((sent_emit _ _).earlier (by simp [State.capture, State.gridShown_outs])).later (outs_suffix_commit _ _)
  case gridHi =>
    intro hr
    refine yields_of_run (exec_senGridFrameHiRead s) hp ?_
    rw [State.doGridHi_eq hr, commit_sen]
    refine ⟨State.unfreeze_freeze _, ?_⟩
    exact ((sent_emit _ _).later (by simp [State.unfreeze_outs])).later (outs_suffix_commit _ _)
  case freezeEnd =>
    intro f hf hm
    refine yields_of_run (exec_gridFreezeTimeout s) hp ?_
    simp [hf, hm, State.unfreeze_freeze]

end Sys2Proof.Machine
end

section
/-! Host accesses of registers (R6, R7, R9, R11): writes by access code, discarded writes, and reads with their captures. -/

namespace Sys2Proof.Machine

open Sys2Proof

theorem exec_registerWrite (off size : Nat) (v : BitVec 64) (s : State) :
    exec (.registerWrite off size v) s = runIf "REGISTER_WRITE" (Instr.wf (.registerWrite off size v))
      (fun s => s.woken.doRegWrite off size (v.extractLsb' 0 32) (v.extractLsb' 32 32)) s := rfl

theorem exec_loRegisterRead (a : RegRead) (s : State) :
    exec (.loRegisterRead a) s =
      runIf "LO_REGISTER_READ" (Instr.wf (.loRegisterRead a)) (fun s => s.doLoRead a.off a.size) s := rfl

/-! ## The access codes of a register -/

/-- No bit of a register is both stored and cleared by a host write. -/
theorem regPage_rw_disjoint_w1c (off : Nat) : ∀ r ∈ regPage off, r.rw &&& r.w1c = 0 := by
  unfold regPage
  split <;> decide

theorem rwMask_and_w1cMask (off : Nat) : rwMask off &&& w1cMask off = 0 := by
  unfold rwMask w1cMask
  cases h : regRow off with
  | none => rfl
  | some r =>
    have hr : r.rw &&& r.w1c = 0 := regPage_rw_disjoint_w1c off r (List.mem_of_find?_eq_some h)
    simp only [← BitVec.ofNat_and, hr]
    rfl

/-- No register lies past the blocks (R443). -/
theorem regRow_eq_none {off : Nat} (h : 0x4C00 ≤ off) : regRow off = none := by
  obtain ⟨k, hk⟩ : ∃ k, off / 1024 = k + 19 := ⟨off / 1024 - 19, by omega⟩
  have hp : regPage off = [] := by simp only [regPage, hk]
  simp [regRow, hp]

/-- What a host write by the access codes leaves in each bit: an RW bit takes what is written; another one stays, but for a W1C bit
written 1 that the device has not set in this tick (R9, R11). -/
theorem getLsbD_merged (s : State) (off : Nat) (v : Word) (j : Nat) :
    (s.merged off v).getLsbD j =
      if (rwMask off).getLsbD j then v.getLsbD j
      else (s.reg off).getLsbD j &&
        !(v.getLsbD j && (w1cMask off).getLsbD j && !(tabGet (fun _ => (0 : Word)) s.fresh off).getLsbD j) := by
  have hd : ((rwMask off).getLsbD j && (w1cMask off).getLsbD j) = false := by
    rw [← BitVec.getLsbD_and, rwMask_and_w1cMask]; simp
  by_cases hj : j < 32
  · unfold State.merged
    cases hr : (rwMask off).getLsbD j <;> cases hw : (w1cMask off).getLsbD j <;> simp_all
  · simp [BitVec.getLsbD_of_ge _ _ (Nat.le_of_not_lt hj)]

/-! ## Writes that the access codes decide -/

variable (s : State) {off : Nat} {v : Word}

/-- The event bits of HIF_STATUS and of the channels follow the access codes. -/
theorem State.writeHif_status (h : off = Reg.HIF_STATUS ∨ ∃ n < 8, off = Reg.HIF_CH_STATUS n) : s.writeHif off v = s.hostSet off v := by
  rcases h with rfl | ⟨n, hn, rfl⟩
  · rfl
  · interval_cases n <;> rfl

/-- A TRS_ register in range outside a take follows the access codes; that a time constant has changed is remembered beside. -/
theorem State.writeTrs_regs (hc : off ≠ Reg.TRS_CTRL)
    (h : off = Reg.TRS_STATUS ∨ off = Reg.TRS_TBL_IDX ∨ (rwMask off ≠ 0 ∧ trsValueOk off v = true ∧ s.pow.st ≠ .take)) :
    (s.writeTrs off v).regs = (s.hostSet off v).regs := by
  unfold State.writeTrs
  rw [if_neg hc]
  by_cases hs : off = Reg.TRS_STATUS ∨ off = Reg.TRS_TBL_IDX
  · rw [if_pos hs]
  · obtain ⟨hr, hv, ht⟩ : rwMask off ≠ 0 ∧ trsValueOk off v = true ∧ s.pow.st ≠ .take := by tauto
    rw [if_neg hs, if_neg hr, if_neg (by simp [ht, hv])]
    dsimp only
    split <;> rfl

theorem State.writePpl_eq (h : off = Reg.PPL_STATUS ∨ (rwMask off ≠ 0 ∧ pplValueOk off v = true ∧
      (s.pow.st ≠ .take ∨ off = Reg.PPL_MON_CFG) ∧ off ≠ Reg.PPL_RAD_DATA ∧ off ≠ Reg.PPL_RAD_CTRL)) :
    s.writePpl off v = s.hostSet off v := by
  unfold State.writePpl
  by_cases hs : off = Reg.PPL_STATUS
  · rw [if_pos hs]
  · obtain ⟨hr, hv, ht, hd, hc⟩ := h.resolve_left hs
    rw [if_neg hs, if_neg fun h => hr h.1, if_neg (by rw [hv]; simp; tauto), if_neg hd, if_neg hc]

theorem State.writeCalReg_eq (h : off = Reg.CAL_STATUS ∨ off = Reg.CAL_CTRL ∨
      (off < Reg.CAL_TRIM_CONV ∧ rwMask off ≠ 0 ∧ calValueOk off v = true ∧ s.casks.cal = none)) :
    s.writeCalReg off v = s.hostSet off v := by
  unfold State.writeCalReg State.writeCal
  by_cases hs : off = Reg.CAL_STATUS ∨ off = Reg.CAL_CTRL
  · rw [if_neg (by rcases hs with rfl | rfl <;> decide), if_pos hs]
  · obtain ⟨ht, hr, hv, hc⟩ : off < Reg.CAL_TRIM_CONV ∧ rwMask off ≠ 0 ∧ calValueOk off v = true ∧ s.casks.cal = none := by tauto
    rw [if_neg (by omega), if_neg hs, if_neg hr, if_neg (by simp [hc, hv])]

theorem State.writeThm_eq (hc : off ≠ Reg.THM_CFG ∨ thmCfgOk v = true)
    (ht : (off ≠ Reg.THM_THR_P ∧ off ≠ Reg.THM_THR_H ∧ off ≠ Reg.THM_THR_S2) ∨ thrOk off v = true) :
    s.writeThm off v = s.hostSet off v := by
  unfold State.writeThm
  rw [if_neg (by rintro ⟨h, hv⟩; simp_all), if_neg (by rintro ⟨h, hv⟩; simp_all)]

theorem State.writeBst_eq (hr : off ≠ Reg.BST_ROTATE ∨ (10 ≤ v.toNat % 2 ^ 16 ∧ v.toNat % 2 ^ 16 ≤ 3600))
    (hb : off ≠ Reg.BST_BG_PERIOD ∨ (1 ≤ v.toNat % 2 ^ 16 ∧ v.toNat % 2 ^ 16 ≤ 1000)) : s.writeBst off v = s.hostSet off v := by
  unfold State.writeBst
  dsimp only
  rw [if_neg]
  omega

/-- A write of the interrupt summary is one that its block acts on (R445). -/
theorem State.plainWrite_summary : s.plainWrite Reg.GLB_INT_SUMMARY v = false := rfl

/-- A write that no rule of its block holds back, rejects or acts on leaves the registers as the access codes say. -/
theorem State.writeBlock_regs (h : s.plainWrite off v = true) : (s.writeBlock off v).regs = (s.hostSet off v).regs := by
  unfold State.plainWrite at h
  unfold State.writeBlock
  by_cases hGlb : off < 0x0400
  · rw [if_pos hGlb] at h ⊢
    have hs : off ≠ Reg.GLB_INT_SUMMARY := by simpa using h
    rw [State.writeGlb, if_neg hs]
  rw [if_neg hGlb] at h ⊢
  by_cases hHif : off < 0x0800
  · rw [if_pos hHif] at h ⊢
    rw [State.writeHif_status s (by simpa using h)]
  rw [if_neg hHif] at h ⊢
  by_cases hTmg : off < 0x0C00
  · rw [if_pos hTmg] at h ⊢
    rw [State.writeTmg, if_neg (by simpa using h)]
  rw [if_neg hTmg] at h ⊢
  by_cases hSen : off < 0x1000
  · rw [if_pos hSen] at h ⊢
    obtain ⟨hb, hq⟩ : off ≠ Reg.SEN_BIAS ∧ off ≠ Reg.SEN_QREF := by simpa using h
    rw [State.writeSen, if_neg hb, if_neg hq]
  rw [if_neg hSen] at h ⊢
  by_cases hPpl : off < 0x1C00
  · rw [if_pos hPpl] at h ⊢
    rw [State.writePpl_eq s (by simpa [and_assoc] using h)]
  rw [if_neg hPpl] at h ⊢
  by_cases hTrs : off < 0x2000
  · rw [if_pos hTrs] at h ⊢
    have h' : (off = Reg.TRS_STATUS ∨ off = Reg.TRS_TBL_IDX) ∨
        rwMask off ≠ 0 ∧ trsValueOk off v = true ∧ s.pow.st ≠ .take ∧ off ≠ Reg.TRS_CTRL := by simpa [and_assoc] using h
    refine State.writeTrs_regs s ?_ (by tauto)
    rcases h' with (rfl | rfl) | ⟨-, -, -, hc⟩
    · decide
    · decide
    · exact hc
  rw [if_neg hTrs] at h ⊢
  by_cases hCal : off < 0x2400
  · rw [if_pos hCal] at h ⊢
    rw [State.writeCalReg_eq s (by simpa [and_assoc, or_assoc] using h)]
  rw [if_neg hCal] at h ⊢
  by_cases hCel : off < 0x2800
  · rw [if_pos hCel] at h ⊢
    have h' : rwMask off ≠ 0 ∨ w1cMask off ≠ 0 := by simpa using h
    rw [State.writeCel, if_neg (by tauto)]
  rw [if_neg hCel] at h ⊢
  by_cases hRol : off < 0x2C00
  · rw [if_pos hRol] at h ⊢
    rw [if_neg (by simpa using h)]
  rw [if_neg hRol] at h ⊢
  by_cases hTol : off < 0x3000
  · rw [if_pos hTol] at h
    rw [if_pos (by omega), State.writeTol, if_neg (by simpa using h), if_pos hTol]
  rw [if_neg hTol] at h
  by_cases hThm : off < 0x3400
  · rw [if_pos hThm] at h ⊢
    have h' : (off ≠ Reg.THM_CFG ∨ thmCfgOk v = true) ∧
        ((off ≠ Reg.THM_THR_P ∧ off ≠ Reg.THM_THR_H ∧ off ≠ Reg.THM_THR_S2) ∨ thrOk off v = true) := by simpa using h
    have hp : off ≠ Reg.TOL_PSTATE := fun he => hTol (he ▸ by decide)
    rw [State.writeTol, if_neg hp, if_neg hTol, State.writeThm_eq s h'.1 h'.2]
  rw [if_neg hThm] at h ⊢
  by_cases hHkc : off < 0x3800
  · rw [if_pos hHkc] at h ⊢
    obtain ⟨hv, hc⟩ : hkcValueOk off v = true ∧ off ≠ Reg.HKC_CTRL := by simpa using h
    rw [State.writeHkc, if_neg hc, if_pos hv]
  rw [if_neg hHkc] at h ⊢
  by_cases hCoil : off < 0x3C00
  · rw [if_pos hCoil] at h ⊢
    obtain ⟨hu, hv⟩ : off < Reg.COIL_UCODE 0 ∧ coilValueOk off v = true := by simpa using h
    rw [State.writeCoilReg, if_neg (Nat.not_le_of_lt hu), State.writeCoil, if_pos hv]
  rw [if_neg hCoil] at h ⊢
  by_cases hNvs : off < 0x4000
  · rw [if_pos hNvs]
  rw [if_neg hNvs] at h ⊢
  by_cases hBst : off < 0x4400
  · rw [if_pos hBst] at h ⊢
    have h' : (off ≠ Reg.BST_ROTATE ∨ 10 ≤ v.toNat % 2 ^ 16 ∧ v.toNat % 2 ^ 16 ≤ 3600) ∧
        (off ≠ Reg.BST_BG_PERIOD ∨ 1 ≤ v.toNat % 2 ^ 16 ∧ v.toNat % 2 ^ 16 ≤ 1000) := by simpa using h
    rw [State.writeBst_eq s h'.1 h'.2]
  rw [if_neg hBst] at h ⊢
  by_cases hSec : off < 0x4800
  · rw [if_pos hSec] at h ⊢
    obtain ⟨hc, hm, hi⟩ : off ≠ Reg.SEC_CTRL ∧ off ≠ Reg.SEC_MBOX_REQ ∧ off ≠ Reg.SEC_MS_CFG := by simpa using h
    rw [State.writeSec, if_neg hc, if_neg hm, if_neg hi]
  rw [if_neg hSec] at h ⊢
  obtain ⟨hc, ht⟩ : off ≠ Reg.WAY_CFG ∧ off ≠ Reg.WAY_CTRL := by simpa using h
  rw [State.writeWay, if_neg hc, if_neg ht]

/-- An aligned write of a register that is there goes to its block. -/
theorem State.doRegWrite_of_reg {v hi : Word} (ha : off % 4 = 0) (hr : (regRow off).isSome = true) (hd : s.absentReg off = false) :
    s.doRegWrite off 4 v hi = s.writeBlock off v := by
  have hlt : off < 0x4C00 := by
    by_contra h
    simp [regRow_eq_none (Nat.le_of_not_lt h)] at hr
  unfold State.doRegWrite
  rw [if_neg (by omega), if_neg (by simp [ha, hd, Option.isNone_eq_false_iff.2 hr])]

/-! ## Writes of another size or alignment -/

/-- Such a write outside the MSI-X table is discarded. -/
theorem State.doRegWrite_of_unaligned {size : Nat} {v hi : Word} (h : size ≠ 4 ∨ off % 4 ≠ 0)
    (hm : ¬(0xE000 ≤ off ∧ off < 0xE200)) : s.doRegWrite off size v hi = s.discardWrite off size := by
  unfold State.doRegWrite
  rw [if_neg hm, if_pos (h.imp_right .inl)]

/-- A discarded write touches CEL_STATUS alone. -/
theorem State.reg_discardWrite_ne {o size : Nat} (h : o ≠ Reg.CEL_STATUS) : (s.discardWrite off size).reg o = s.reg o := by
  unfold State.discardWrite State.stickyIf
  split
  · exact s.reg_sticky_ne h
  · rfl

theorem State.discardWrite_of_untouched {size : Nat} (h : touchesCel off size = false) : s.discardWrite off size = s := by
  simp [State.discardWrite, State.stickyIf, h]

theorem State.flag_discardWrite {size : Nat} (h : touchesCel off size = true) :
    (s.discardWrite off size).flag Fld.CEL_STATUS_CFG_REJ = true := by
  simp only [State.discardWrite, State.stickyIf, h, if_true]
  exact flag_sticky s (by decide) (by decide)

/-- The MSI-X table lies past every CEL_ register. -/
theorem touchesCel_of_msix {size : Nat} (h : 0xE000 ≤ off) : touchesCel off size = false := by
  have h1 : ¬off < 0x2800 := by omega
  have h2 : ¬off + (size - 1) < 0x2800 := by omega
  unfold touchesCel
  rw [List.any_eq_false]
  rintro a ha
  rcases List.mem_pair.1 ha with rfl | rfl
  · rw [decide_eq_false h1, Bool.and_false, Bool.false_and]; exact Bool.false_ne_true
  · rw [decide_eq_false h2, Bool.and_false, Bool.false_and]; exact Bool.false_ne_true

/-! ## The MSI-X table -/

/-- A vector that may be signalled now: not masked, and memory requests may be issued (R256, R285). -/
def State.vecOpen (s : State) (n : Nat) : Bool := s.busOk && !s.vecMasked n

@[simp] theorem State.signal_msixEnabled (n : Nat) : (s.signal n).hif.msixEnabled = s.hif.msixEnabled := by rw [s.signal_hif]

@[simp] theorem State.signal_vecOpen (n m : Nat) : (s.signal n).vecOpen m = s.vecOpen m := by
  have hb : (s.signal n).busOk = s.busOk := by unfold State.busOk; rw [s.signal_hif]
  simp only [State.vecOpen, State.vecMasked, hb, s.signal_msix]

variable {s}

/-- What waits after a vector was signalled: what waited before, and the vector where it may not be signalled now. -/
theorem State.mem_pendingVectors_signal (he : s.hif.msixEnabled = true) (n m : Nat) :
    m ∈ (s.signal n).hif.pendingVectors ↔ m ∈ s.hif.pendingVectors ∨ (m = n ∧ s.vecOpen n = false) := by
  unfold State.signal
  rw [if_neg (by simp [he])]
  cases ho : s.vecOpen n with
  | true => rw [if_pos (by simpa [State.vecOpen] using ho)]; simp
  | false =>
    rw [if_neg (by simpa [State.vecOpen] using ho)]
    split
    · next hc =>
      have hn : n ∈ s.hif.pendingVectors := by simpa using hc
      constructor
      · exact .inl
      · rintro (h | ⟨rfl, -⟩)
        · exact h
        · exact hn
    · simp

theorem State.sent_signal (he : s.hif.msixEnabled = true) {n : Nat} (ho : s.vecOpen n = true) : Sent s (s.signal n) (.msix n) := by
  unfold State.signal
  rw [if_neg (by simp [he]), if_pos (by simpa [State.vecOpen] using ho)]
  exact sent_emit s _

theorem State.outs_suffix_signals (l : List Nat) : ∀ s : State, s.outs <:+ (l.foldl (fun s v => s.signal v) s).outs := by
  induction l with
  | nil => intro s; exact List.suffix_rfl
  | cons n l ih => intro s; exact (outs_suffix_signal s n).trans (ih _)

theorem State.signals_vecOpen (l : List Nat) (m : Nat) (s : State) : (l.foldl (fun s v => s.signal v) s).vecOpen m = s.vecOpen m :=
  foldl_keeps (·.vecOpen m) (fun s n => s.signal_vecOpen n m) l s

/-- What waits after vectors were signalled one by one. -/
theorem State.mem_pendingVectors_signals (l : List Nat) (m : Nat) : ∀ s : State, s.hif.msixEnabled = true →
    (m ∈ (l.foldl (fun s v => s.signal v) s).hif.pendingVectors ↔ m ∈ s.hif.pendingVectors ∨ (m ∈ l ∧ s.vecOpen m = false)) := by
  induction l with
  | nil => intro s _; simp
  | cons n l ih =>
    intro s he
    rw [List.foldl_cons, ih _ (by simpa using he), State.mem_pendingVectors_signal he, State.signal_vecOpen, List.mem_cons]
    constructor
    · rintro ((h | ⟨rfl, h⟩) | ⟨h, h'⟩)
      · exact .inl h
      · exact .inr ⟨.inl rfl, h⟩
      · exact .inr ⟨.inr h, h'⟩
    · rintro (h | ⟨rfl | h, h'⟩)
      · exact .inl (.inl h)
      · exact .inl (.inr ⟨rfl, h'⟩)
      · exact .inr ⟨h, h'⟩

theorem State.sent_signals (l : List Nat) {m : Nat} (hm : m ∈ l) : ∀ s : State, s.hif.msixEnabled = true → s.vecOpen m = true →
    Sent s (l.foldl (fun s v => s.signal v) s) (.msix m) := by
  induction l with
  | nil => cases hm
  | cons n l ih =>
    intro s he ho
    rw [List.foldl_cons]
    rcases List.mem_cons.1 hm with rfl | hm
    · exact (State.sent_signal he ho).later (State.outs_suffix_signals l _)
    · exact (ih hm _ (by simpa using he) (by simpa using ho)).earlier (outs_suffix_signal s n)

/-- Of the vectors that wait, those that may be signalled now are, and the others go on waiting (R285). -/
theorem State.flushVectors_spec (he : s.hif.msixEnabled = true) {n : Nat} (hn : n ∈ s.hif.pendingVectors) :
    if s.vecOpen n = true then Sent s s.flushVectors (.msix n) ∧ n ∉ s.flushVectors.hif.pendingVectors
    else n ∈ s.flushVectors.hif.pendingVectors := by
  unfold State.flushVectors
  dsimp only
  have hv : ∀ b, State.vecOpen { s with hif.pendingVectors := [] } n = b ↔ s.vecOpen n = b := fun _ => Iff.rfl
  have hw := State.mem_pendingVectors_signals s.hif.pendingVectors n { s with hif.pendingVectors := [] } he
  split
  · next ho =>
    refine ⟨State.sent_signals _ hn { s with hif.pendingVectors := [] } he ho, ?_⟩
    rw [hw, hv]
    simp [ho]
  · next ho =>
    rw [hw, hv]
    exact .inr ⟨hn, by simpa using ho⟩

@[simp] theorem State.flushVectors_msix (s : State) : s.flushVectors.msix = s.msix :=
  foldl_keeps State.msix (fun s n => s.signal_msix n) _ _

@[simp] theorem State.flushVectors_vecOpen (s : State) (n : Nat) : s.flushVectors.vecOpen n = s.vecOpen n :=
  State.signals_vecOpen _ n _

/-- The summary stores its word, and signals vector 9 or nothing. -/
theorem State.refreshSummary_cases (s : State) : ∃ v,
    s.refreshSummary = s.setReg Reg.GLB_INT_SUMMARY v ∨ s.refreshSummary = (s.setReg Reg.GLB_INT_SUMMARY v).signal 9 := by
  refine ⟨s.reg Reg.GLB_INT_SUMMARY ||| (s.intRaw &&& s.reg Reg.GLB_INT_EN), ?_⟩
  unfold State.refreshSummary
  dsimp only
  split
  · exact .inr rfl
  · exact .inl rfl

/-- A vector that waits goes on waiting when another one is signalled, and one that may be signalled does not begin to wait. -/
theorem State.mem_pendingVectors_signal_of (s : State) (m n : Nat) :
    (n ∈ s.hif.pendingVectors → n ∈ (s.signal m).hif.pendingVectors) ∧
      (s.vecOpen n = true → n ∉ s.hif.pendingVectors → n ∉ (s.signal m).hif.pendingVectors) := by
  cases he : s.hif.msixEnabled with
  | false =>
    have hs : s.signal m = s := by unfold State.signal; rw [if_pos (by simp [he])]
    rw [hs]; exact ⟨id, fun _ => id⟩
  | true =>
    rw [State.mem_pendingVectors_signal he]
    refine ⟨.inl, fun ho hn => ?_⟩
    rintro (h | ⟨rfl, h⟩)
    · exact hn h
    · simp [h] at ho

/-- The same of the end of a command. -/
theorem State.mem_pendingVectors_commit (s t : State) (n : Nat) :
    (n ∈ t.hif.pendingVectors → n ∈ (commit s t).hif.pendingVectors) ∧
      (t.vecOpen n = true → n ∉ t.hif.pendingVectors → n ∉ (commit s t).hif.pendingVectors) := by
  obtain ⟨u, hu, hh, hm⟩ : ∃ u : State, commit s t = u.refreshSummary ∧ u.hif = t.hif ∧ u.msix = t.msix := ⟨_, rfl, rfl, rfl⟩
  have ho : t.vecOpen n = u.vecOpen n := by simp only [State.vecOpen, State.busOk, State.vecMasked, hh, hm]
  obtain ⟨v, hv | hv⟩ := u.refreshSummary_cases
  · rw [hu, hv, State.setReg_hif, hh]
    exact ⟨id, fun _ => id⟩
  · rw [hu, hv, ho, ← hh]
    exact (u.setReg Reg.GLB_INT_SUMMARY v).mem_pendingVectors_signal_of 9 n

/-- An aligned write of the table writes its words and serves the vectors that wait; another one does nothing. -/
theorem State.doRegWrite_of_msix {off size : Nat} {v hi : Word} (h : 0xE000 ≤ off) (h' : off < 0xE200) :
    s.doRegWrite off size v hi = s.writeMsix off size v hi := by
  unfold State.doRegWrite
  rw [if_pos ⟨h, h'⟩]

/-- The table with the words of a write of four or eight bytes. -/
def msixWritten (t : Tab Word) (off size : Nat) (v hi : Word) : Tab Word :=
  if size = 8 then msixPut (msixPut t off v) (off + 4) hi else msixPut t off v

theorem State.writeMsix_of_aligned {off size : Nat} {v hi : Word} (ha : (size = 4 ∨ size = 8) ∧ off % size = 0) :
    s.writeMsix off size v hi = State.flushVectors { s with msix := msixWritten s.msix off size v hi } := by
  unfold State.writeMsix
  rw [if_pos ha]
  rfl

theorem State.writeMsix_of_unaligned {off size : Nat} {v hi : Word} (ha : ¬((size = 4 ∨ size = 8) ∧ off % size = 0)) :
    s.writeMsix off size v hi = s := by
  unfold State.writeMsix
  rw [if_neg ha]

/-- A write of the MSI-X structures touches no register. -/
theorem State.regs_writeMsix (off size : Nat) (v hi : Word) : (s.writeMsix off size v hi).regs = s.regs := by
  by_cases ha : (size = 4 ∨ size = 8) ∧ off % size = 0
  · rw [State.writeMsix_of_aligned ha]
    exact foldl_keeps State.regs (fun s n => s.signal_regs n) _ _
  · rw [State.writeMsix_of_unaligned ha]

/-- What a word of the table keeps of what is written: bit 0 of the mask word, all but bits 1 and 0 of the low address. -/
def msixKept (k : Nat) (w : Word) : Word := if k % 4 = 3 then w &&& 1 else if k % 4 = 0 then w &&& 0xFFFFFFFC else w

/-- A word of the table after one was written. -/
theorem tabGet_msixPut (t : Tab Word) (off j : Nat) (v : Word) :
    tabGet msixDflt (msixPut t off v) j =
      if j = (off - 0xE000) / 4 then msixKept ((off - 0xE000) / 4) v else tabGet msixDflt t j :=
  tabGet_tabSet _ _ _ _ _

/-- The words of the table after an aligned write of four or eight bytes. -/
theorem tabGet_msixWritten {off size : Nat} (h : 0xE000 ≤ off) (ha : (size = 4 ∨ size = 8) ∧ off % size = 0) (t : Tab Word)
    (v hi : Word) (j : Nat) :
    tabGet msixDflt (msixWritten t off size v hi) j =
      if j = (off - 0xE000) / 4 then msixKept j v
      else if size = 8 ∧ j = (off - 0xE000) / 4 + 1 then msixKept j hi else tabGet msixDflt t j := by
  have hk : (off + 4 - 0xE000) / 4 = (off - 0xE000) / 4 + 1 := by omega
  unfold msixWritten
  obtain ⟨rfl | rfl, -⟩ := ha
  · rw [if_neg (by decide), tabGet_msixPut]
    split <;> simp_all
  · rw [if_pos rfl, tabGet_msixPut, tabGet_msixPut, hk]
    split_ifs <;> simp_all

/-! ## Reads -/

/-- A register named by a sequence of captures reads back as what was captured for it. -/
theorem State.tabGet_captures (w : Nat → Word) {o : Nat} (l : List Nat) :
    ∀ s : State, (o ∈ l ∨ tabGet (fun _ => (0 : Word)) s.cap o = w o) →
      tabGet (fun _ => (0 : Word)) (l.foldl (fun t o => t.capture o (w o)) s).cap o = w o := by
  induction l with
  | nil => rintro s (h | h); exacts [absurd h List.not_mem_nil, h]
  | cons a l ih =>
    intro s h
    refine ih _ ?_
    by_cases ha : o = a
    · subst ha; exact .inr (tabGet_tabSet_self _ _ _ _)
    · refine h.imp (fun h => (List.mem_cons.1 h).resolve_left ha) fun h => ?_
      exact (tabGet_tabSet_ne _ _ _ ha).trans h

theorem State.captures_outs (w : Nat → Word) (l : List Nat) (s : State) :
    (l.foldl (fun t o => t.capture o (w o)) s).outs = s.outs :=
  foldl_keeps State.outs (f := fun t o => t.capture o (w o)) (fun _ _ => rfl) l s

theorem State.doLoRead_of_unaligned {off size : Nat} (hm : off < 0xE000) (h : size ≠ 4 ∨ off % 4 ≠ 0) :
    s.doLoRead off size = s.emit (.readData off 0) := by
  unfold State.doLoRead
  rw [if_neg (by omega), if_pos h]

/-- An aligned read outside RECALL, of a register whose reads have no command of their own: it captures, and answers the value. -/
theorem State.doLoRead_of_aligned {off : Nat} (hr : s.pow.st ≠ .recall) (ha : off % 4 = 0) (hm : off < 0xE000)
    (ho : off ∉ [Reg.HKC_Q_LO, Reg.SEN_GRID_FRAME_LO, Reg.SEN_GRID_FRAME_HI]) :
    s.doLoRead off 4 =
      ((captures off).foldl (fun t o => t.capture o (s.regNow o)) s).emit (.readData off (s.readReg off)) := by
  obtain ⟨hq, hl, hh⟩ : off ≠ Reg.HKC_Q_LO ∧ off ≠ Reg.SEN_GRID_FRAME_LO ∧ off ≠ Reg.SEN_GRID_FRAME_HI := by simpa using ho
  unfold State.doLoRead
  rw [if_neg (by omega), if_neg (by omega), if_neg hq, if_neg hl, if_neg hh, if_neg hr]

/-! ## The rules of access together -/

variable (s)

/-- An aligned write that no rule of its block holds back follows the access codes (R6, R9, R11). -/
theorem yields_plainWrite (hp : s.powered) {off : Nat} (hoff : off < 0x10000) {v : BitVec 64} (ha : off % 4 = 0)
    (hpl : s.plainWrite off (v.extractLsb' 0 32) = true) (hr : (regRow off).isSome = true) (hd : s.absentReg off = false) :
    Yields (.registerWrite off 4 v) s fun t =>
      (∀ j, j < 32 → (t.reg off).getLsbD j =
        if (rwMask off).getLsbD j then v.getLsbD j
        else (s.reg off).getLsbD j &&
          !(v.getLsbD j && (w1cMask off).getLsbD j && !(tabGet (fun _ => (0 : Word)) s.fresh off).getLsbD j)) ∧
      ∀ o, o ≠ off → o ≠ Reg.GLB_INT_SUMMARY → t.reg o = s.reg o := by
  have hs : off ≠ Reg.GLB_INT_SUMMARY := by
    rintro rfl
    exact absurd hpl (by rw [State.plainWrite_summary]; exact Bool.false_ne_true)
  have hw : ∀ o, (s.woken.doRegWrite off 4 (v.extractLsb' 0 32) (v.extractLsb' 32 32)).reg o = (s.hostSet off (v.extractLsb' 0 32)).reg o := by
    intro o
    rw [State.doRegWrite_of_reg s.woken ha hr hd]
    exact congrArg (fun r => tabGet resetVal r o) (State.writeBlock_regs s.woken hpl)
  refine yields_of_runIf (exec_registerWrite off 4 v s) (decide_eq_true hoff) hp ⟨fun j hj => ?_, fun o ho hg => ?_⟩
  · have hv : (v.extractLsb' 0 32).getLsbD j = v.getLsbD j := by simp [hj]
    rw [reg_commit_ne _ _ hs, hw, State.hostSet, s.reg_setReg_self, getLsbD_merged, hv]
  · rw [reg_commit_ne _ _ hg, hw, State.hostSet, s.reg_setReg_ne _ ho]

/-- A write of another size or alignment changes CEL_STATUS at most (R6, R253). -/
theorem yields_unalignedWrite (hp : s.powered) {off : Nat} (hoff : off < 0x10000) {size : Nat} {v : BitVec 64}
    (h : size ≠ 4 ∨ off % 4 ≠ 0) :
    Yields (.registerWrite off size v) s fun t =>
      (∀ o, o ≠ Reg.GLB_INT_SUMMARY → o ≠ Reg.CEL_STATUS → t.reg o = s.reg o) ∧
      (touchesCel off size = false → t.reg Reg.CEL_STATUS = s.reg Reg.CEL_STATUS) ∧
      (touchesCel off size = true → t.flag Fld.CEL_STATUS_CFG_REJ = true) := by
  refine yields_of_runIf (exec_registerWrite off size v s) (decide_eq_true hoff) hp ?_
  rw [flag_commit (by decide), reg_commit_ne _ _ (by decide)]
  by_cases hm : 0xE000 ≤ off ∧ off < 0xE200
  · rw [State.doRegWrite_of_msix hm.1 hm.2, touchesCel_of_msix hm.1]
    have hw : ∀ o, (s.woken.writeMsix off size (v.extractLsb' 0 32) (v.extractLsb' 32 32)).reg o = s.reg o := fun o =>
      congrArg (fun r => tabGet resetVal r o) (State.regs_writeMsix (s := s.woken) off size _ _)
    refine ⟨fun o hg _ => ?_, fun _ => hw _, fun h => absurd h Bool.false_ne_true⟩
    rw [reg_commit_ne _ _ hg, hw]
  · rw [State.doRegWrite_of_unaligned s.woken h hm]
    refine ⟨fun o hg ho => ?_, fun ht => ?_, fun ht => State.flag_discardWrite s.woken ht⟩
    · rw [reg_commit_ne _ _ hg]
      exact State.reg_discardWrite_ne s.woken ho
    · rw [State.discardWrite_of_untouched s.woken ht]; rfl

/-- An aligned write of the MSI-X table stores its words and signals what waits and may be signalled then (R285, R443). -/
theorem yields_msixWrite (hp : s.powered) {off : Nat} (hoff : off < 0x10000) {size : Nat} {v : BitVec 64} (h : 0xE000 ≤ off)
    (h' : off < 0xE200) (ha : (size = 4 ∨ size = 8) ∧ off % size = 0) :
    Yields (.registerWrite off size v) s fun t =>
      (∀ j, tabGet msixDflt t.msix j =
        if j = (off - 0xE000) / 4 then msixKept j (v.extractLsb' 0 32)
        else if size = 8 ∧ j = (off - 0xE000) / 4 + 1 then msixKept j (v.extractLsb' 32 32) else tabGet msixDflt s.msix j) ∧
      ∀ n ∈ s.hif.pendingVectors, s.hif.msixEnabled = true →
        if s.busOk = true ∧ t.vecMasked n = false then Sent s t (.msix n) ∧ n ∉ t.hif.pendingVectors
        else n ∈ t.hif.pendingVectors := by
  refine yields_of_runIf (exec_registerWrite off size v s) (decide_eq_true hoff) hp ?_
  rw [State.doRegWrite_of_msix h h', State.writeMsix_of_aligned ha]
  obtain ⟨u, hu, hmsix, hhif, houts⟩ : ∃ u : State,
      u = { s.woken with msix := msixWritten s.msix off size (v.extractLsb' 0 32) (v.extractLsb' 32 32) } ∧
        u.msix = msixWritten s.msix off size (v.extractLsb' 0 32) (v.extractLsb' 32 32) ∧ u.hif = s.hif ∧ u.outs = s.outs :=
    ⟨_, rfl, rfl, rfl, rfl⟩
  rw [State.woken_msix, ← hu]
  have hsent : ∀ o, Sent u (commit s u.flushVectors) o → Sent s (commit s u.flushVectors) o := fun o ho =>
    ho.earlier (by rw [houts])
  refine ⟨fun j => ?_, fun n hn he => ?_⟩
  · rw [commit_msix, State.flushVectors_msix, hmsix, tabGet_msixWritten h ha]
  · have hopen : (s.busOk = true ∧ (commit s u.flushVectors).vecMasked n = false) ↔ u.vecOpen n = true := by
      simp [State.vecOpen, State.vecMasked, State.busOk, hhif]
    have hflush := State.flushVectors_spec (s := u) (n := n) (by rw [hhif]; exact he) (by rw [hhif]; exact hn)
    obtain ⟨hstays, hleaves⟩ := State.mem_pendingVectors_commit s u.flushVectors n
    by_cases ho : u.vecOpen n = true
    · rw [if_pos ho] at hflush
      rw [if_pos (hopen.2 ho)]
      exact ⟨hsent _ (hflush.1.later (outs_suffix_commit _ _)), hleaves (by simpa using ho) hflush.2⟩
    · rw [if_neg ho] at hflush
      rw [if_neg (mt hopen.1 ho)]
      exact hstays hflush

/-- Settles O36: each clause is one of the rules of access above. -/
theorem registerAccessesFollowTheirCodes : Obligations.RegisterAccessesFollowTheirCodes := by
  unfold Obligations.RegisterAccessesFollowTheirCodes
  intro s off hp hoff
  refine ⟨fun v ha hpl hr hd => yields_plainWrite s hp hoff ha hpl hr hd, fun size v h => yields_unalignedWrite s hp hoff h,
    ?oddRead, ?read, ⟨rfl, rfl, rfl⟩, ?msix⟩
  case oddRead =>
    intro size h hm
    refine yields_of_runIf (exec_loRegisterRead ⟨off, size⟩ s) (decide_eq_true hoff) hp ?_
    rw [State.doLoRead_of_unaligned hm h, commit_cap]
    exact ⟨(sent_emit s _).later (outs_suffix_commit _ _), rfl⟩
  case read =>
    intro hr ha hm ho
    refine yields_of_runIf (exec_loRegisterRead ⟨off, 4⟩ s) (decide_eq_true hoff) hp ?_
    rw [State.doLoRead_of_aligned hr ha hm ho, commit_cap, State.emit_cap]
    exact ⟨((sent_emit _ _).earlier (by rw [State.captures_outs])).later (outs_suffix_commit _ _),
      fun o ho => State.tabGet_captures s.regNow (captures off) s (.inl ho)⟩
  case msix =>
    intro size v h h' k word kept aligned
    refine ⟨fun ha => ?_, fun ha => ?_⟩
    · obtain ⟨t, ht, hword, hvec⟩ := yields_msixWrite s hp hoff (v := v) h h' ha
      refine ⟨t, ht, ?_, fun h8 => ?_, fun j hj hj' => ?_, hvec⟩
      · exact (hword k).trans (if_pos rfl)
      · exact (hword (k + 1)).trans ((if_neg (Nat.succ_ne_self k)).trans (if_pos ⟨h8, rfl⟩))
      · exact (hword j).trans ((if_neg hj).trans (if_neg fun hc => hj' hc.1 hc.2))
    · refine yields_of_runIf (exec_registerWrite off size v s) (decide_eq_true hoff) hp ?_
      rw [commit_msix, State.doRegWrite_of_msix h h', State.writeMsix_of_unaligned ha]
      rfl

end Sys2Proof.Machine
end

section
/-! Commands of the ring: acceptance, refusal and completion (R262 to R268), and fetching (R257, R271, R388). -/

namespace Sys2Proof.Machine

open Sys2Proof

/-! ## Completion -/

variable (s : State)

/-- A completion moves no index of the command ring, and ends no command. -/
theorem State.modCmp_hif : s.modCmp.hif = { s.hif with
    pendingVectors := s.modCmp.hif.pendingVectors, cmpSignalled := s.modCmp.hif.cmpSignalled } := by
  unfold State.modCmp
  split
  · rw [State.signal_hif]
  · rfl

@[simp] theorem State.modCmp_cmdFetch : s.modCmp.hif.cmdFetch = s.hif.cmdFetch := by rw [s.modCmp_hif]
@[simp] theorem State.modCmp_outstanding : s.modCmp.hif.outstanding = s.hif.outstanding := by rw [s.modCmp_hif]
@[simp] theorem State.modCmp_busOk : s.modCmp.busOk = s.busOk := by unfold State.busOk; rw [s.modCmp_hif]
@[simp] theorem State.modCmp_badHost : s.modCmp.hif.badHost = s.hif.badHost := by rw [s.modCmp_hif]

theorem State.outs_suffix_modCmp : s.outs <:+ s.modCmp.outs := by
  unfold State.modCmp
  split
  · exact outs_suffix_signal { s with hif.cmpSignalled := true } 0
  · exact List.suffix_rfl

/-- Of the host interface an entry moves the ring's index and its moderation alone. -/
theorem State.putCompletion_eq_modCmp (e : CmpEntry) (a : Nat) (b : Option (List Byte)) :
    ∃ u : State, s.putCompletion e a b = u.modCmp ∧
      u.hif = { s.hif with cmpProd := (s.hif.cmpProd + 1) % 65536, cmpTicks := s.hif.cmpTicks ++ [s.mono] } := by
  unfold State.putCompletion
  cases b with
  | none => exact ⟨_, rfl, by simp⟩
  | some b => exact ⟨_, rfl, by simp⟩

theorem State.putCompletion_hif (e : CmpEntry) (a : Nat) (b : Option (List Byte)) :
    (s.putCompletion e a b).hif = { s.hif with
      cmpProd := (s.hif.cmpProd + 1) % 65536, cmpTicks := s.hif.cmpTicks ++ [s.mono]
      pendingVectors := (s.putCompletion e a b).hif.pendingVectors, cmpSignalled := (s.putCompletion e a b).hif.cmpSignalled } := by
  obtain ⟨u, hu, hh⟩ := s.putCompletion_eq_modCmp e a b
  rw [hu, u.modCmp_hif, hh]

theorem State.outs_suffix_putCompletion (e : CmpEntry) (a : Nat) (b : Option (List Byte)) : s.outs <:+ (s.putCompletion e a b).outs := by
  obtain ⟨l, hl, -⟩ := s.putCompletion_outs e a b
  exact ⟨l, hl.symm⟩

/-- The entry of a completion, as far as it is fixed before it has its slot. -/
def CmpEntry.of (c : OutCmd) (status reason value : Nat) : CmpEntry :=
  { tag := c.tag, opcode := c.opcode, status, reason, phase := false, resultWritten := false, value, addr := 0 }

/-- How an outstanding command completes: it is no longer outstanding, and its entry is written where memory requests may be issued,
or held (R256, R265). Before that a free value may be drawn and DMA_ERR be set. -/
theorem State.complete_of_some {cid st why : Nat} {v : Option Nat} {b : Option (List Byte)} {c : OutCmd}
    (h : s.hif.outstanding.find? (·.cid = cid) = some c) :
    ∃ (u : State) (x : Nat) (blk : Option (List Byte)),
      (s.complete cid st why v b = if u.busOk then u.putCompletion (.of c st why x) c.resultAddr blk
        else { u with hif.held := u.hif.held ++ [(.of c st why x, c.resultAddr, blk)] }) ∧
      u.hif = { s.hif with outstanding := s.hif.outstanding.filter (·.cid ≠ cid) } ∧ u.outs = s.outs := by
  unfold State.complete
  rw [h]
  dsimp only
  generalize (if st = St.badParam ∨ st = St.busy ∨ c.resultAddr = 0 then none else b) = blk
  cases v with
  | none => exact ⟨_, _, blk, rfl, by simp, by simp⟩
  | some v => exact ⟨_, _, blk, rfl, by simp, by simp⟩

/-- The parts of the host interface that no completion alters: the command ring's fetch index, the bus and the host's memory. -/
theorem State.complete_keeps {β : Type} (g : Hif → β)
    (hg : ∀ (h : Hif) (p : Nat) (t v : List Nat) (m : Bool) (o : List OutCmd) (w : List (CmpEntry × Nat × Option (List Byte))),
      g { h with cmpProd := p, cmpTicks := t, pendingVectors := v, cmpSignalled := m, outstanding := o, held := w } = g h)
    (cid st why : Nat) (v : Option Nat) (b : Option (List Byte)) : g (s.complete cid st why v b).hif = g s.hif := by
  cases h : s.hif.outstanding.find? (·.cid = cid) with
  | none => rw [State.complete_of_none s h]
  | some c =>
    obtain ⟨u, x, blk, hc, hh, -⟩ := State.complete_of_some s (st := st) (why := why) (v := v) (b := b) h
    rw [hc]
    split
    · rw [State.putCompletion_hif, hh]; exact hg s.hif _ _ _ _ _ _
    · dsimp only; rw [hh]; exact hg s.hif _ _ _ _ _ _

@[simp] theorem State.complete_cmdFetch (cid st why : Nat) (v : Option Nat) (b : Option (List Byte)) :
    (s.complete cid st why v b).hif.cmdFetch = s.hif.cmdFetch :=
  s.complete_keeps Hif.cmdFetch (fun _ _ _ _ _ _ _ => rfl) cid st why v b

theorem State.complete_outstanding (cid st why : Nat) (v : Option Nat) (b : Option (List Byte)) :
    (s.complete cid st why v b).hif.outstanding = s.hif.outstanding.filter (·.cid ≠ cid) := by
  cases h : s.hif.outstanding.find? (·.cid = cid) with
  | none =>
    rw [State.complete_of_none s h, eq_comm, List.filter_eq_self]
    simpa using h
  | some c =>
    obtain ⟨u, x, blk, hc, hh, -⟩ := State.complete_of_some s (st := st) (why := why) (v := v) (b := b) h
    rw [hc]
    split
    · rw [State.putCompletion_hif, hh]
    · dsimp only; rw [hh]

theorem State.outs_suffix_complete (cid st why : Nat) (v : Option Nat) (b : Option (List Byte)) :
    s.outs <:+ (s.complete cid st why v b).outs := by
  cases h : s.hif.outstanding.find? (·.cid = cid) with
  | none => rw [State.complete_of_none s h]
  | some c =>
    obtain ⟨u, x, blk, hc, -, ho⟩ := State.complete_of_some s (st := st) (why := why) (v := v) (b := b) h
    rw [hc, ← ho]
    split
    · exact u.outs_suffix_putCompletion _ _ _
    · exact List.suffix_rfl

/-- With the bus free, the completion of an outstanding command leaves the block at once (R265). -/
theorem State.completed_complete {cid : Nat} {c : OutCmd} (hc : s.hif.outstanding.find? (·.cid = cid) = some c) (hb : s.busOk = true)
    (st why : Nat) (v : Option Nat) (b : Option (List Byte)) : Completed s (s.complete cid st why v b) c.tag c.opcode st why := by
  obtain ⟨u, x, blk, h, hh, ho⟩ := State.complete_of_some s (st := st) (why := why) (v := v) (b := b) hc
  have hu : u.busOk = true := by rw [← hb]; unfold State.busOk; rw [hh]
  obtain ⟨l, hl, he⟩ := u.putCompletion_outs (.of c st why x) c.resultAddr blk
  rw [h, if_pos hu]
  exact ⟨_, ⟨l, by rw [hl, ho], he⟩, rfl, rfl, rfl, rfl⟩

/-! ## Acceptance -/

/-- The entry of a command accepted now (R263). -/
def State.newCmd (s : State) (h : Hdr) (op : Nat) : OutCmd :=
  { cid := s.hif.nextCid, tag := h.tag, opcode := op, resultAddr := h.resultAddr, accept := s.nextAccept, job := .none }

/-- The state once a command is accepted (R263). -/
def State.accepted (s : State) (h : Hdr) (op : Nat) : State :=
  { s with
    hif.nextCid := s.hif.nextCid + 1, hif.lastAccept := some s.nextAccept
    hif.outstanding := s.hif.outstanding ++ [s.newCmd h op] }

theorem State.accept_eq {h : Hdr} (hf : s.canAccept h.fence = true) (op : Nat) (body : State → Nat → State) :
    s.accept h op body = body (s.accepted h op) s.hif.nextCid := s.accept_of_room hf

/-- The new command is found under its serial number. -/
theorem State.find_accepted (hc : s.cidsOk) (h : Hdr) (op : Nat) :
    (s.accepted h op).hif.outstanding.find? (·.cid = s.hif.nextCid) = some (s.newCmd h op) := by
  have hnone : s.hif.outstanding.find? (·.cid = s.hif.nextCid) = none :=
    List.find?_eq_none.2 fun c hm => by simpa using Nat.ne_of_lt (hc.1 c hm)
  show (s.hif.outstanding ++ [s.newCmd h op]).find? _ = _
  rw [List.find?_append, hnone]
  simp [State.newCmd]

/-- One more command of its opcode is outstanding. -/
theorem State.outOf_accepted (h : Hdr) (op : Nat) : (s.accepted h op).outOf op = s.outOf op + 1 := by
  simp only [State.outOf, State.accepted, List.filter_append, List.length_append]
  simp [State.newCmd]
  omega

/-- A command that is taken, and whose parameters are in order, is carried out by its body. -/
theorem State.acceptCmd_of_taken {h : Hdr} {op limit : Nat} (ht : s.taken h op limit) {bad : State → Option Nat}
    (hbad : bad (s.accepted h op) = none) (body : State → Nat → State) (v : Option Nat) :
    s.acceptCmd h op limit bad body none v = body (s.accepted h op) s.hif.nextCid := by
  obtain ⟨-, -, hf, hboot, hres, hlim⟩ := ht
  have hb : (s.accepted h op).sec.boot ≠ .recovery := hboot
  have hn : ¬limit < (s.accepted h op).outOf op := by rw [s.outOf_accepted]; omega
  unfold State.acceptCmd
  rw [s.accept_eq hf]
  simp [hb, firstBad, hdrBad, hres, hbad, hn]

/-- A command whose profile field is at fault is refused: in recovery with BUSY where recovery does not serve its opcode, else with
BAD_PARAM (R271, R388). -/
theorem State.acceptCmd_of_profile {h : Hdr} {op : Nat} (hf : s.canAccept h.fence = true) (limit : Nat) (bad : State → Option Nat)
    (body : State → Nat → State) (off : Nat) (v : Option Nat) :
    s.acceptCmd h op limit bad body (some off) v =
      if s.sec.boot = .recovery ∧ op ∉ recoveryOps then (s.accepted h op).complete s.hif.nextCid St.busy Why.none v none
      else (s.accepted h op).complete s.hif.nextCid St.badParam off v none := by
  have hb : (s.accepted h op).sec.boot = s.sec.boot := rfl
  unfold State.acceptCmd
  rw [s.accept_eq hf]
  simp [hb, firstBad]

/-! ## Fields of a descriptor -/

theorem ofLe_lt (b : List Byte) : ofLe b < 256 ^ b.length := by
  induction b with
  | nil => exact Nat.one_pos
  | cons x t ih =>
    have hx : x.toNat < 256 := x.isLt
    simp only [ofLe, List.length_cons, Nat.pow_succ]
    omega

/-- A field of `n` bytes is a number of `n` bytes. -/
theorem fieldLe_lt (b : List Byte) (o n : Nat) : fieldLe b o n < 256 ^ n :=
  (ofLe_lt _).trans_le (Nat.pow_le_pow_right (by decide) (by simp))

@[simp] theorem u8_fieldLe (b : List Byte) (o : Nat) : u8 (fieldLe b o 1) = true := decide_eq_true (fieldLe_lt b o 1)
@[simp] theorem u16_fieldLe (b : List Byte) (o : Nat) : u16 (fieldLe b o 2) = true := decide_eq_true (fieldLe_lt b o 2)
@[simp] theorem u32_fieldLe (b : List Byte) (o : Nat) : u32 (fieldLe b o 4) = true := decide_eq_true (fieldLe_lt b o 4)
@[simp] theorem u64_fieldLe (b : List Byte) (o : Nat) : u64 (fieldLe b o 8) = true := decide_eq_true (fieldLe_lt b o 8)

@[simp] theorem hdrOk_descHdr (desc : List Byte) : hdrOk (descHdr desc) = true := by simp [hdrOk, descHdr]

@[simp] theorem profileReqOk_descProfile (desc : List Byte) : profileReqOk (descProfile desc) = true := by
  simp [profileReqOk, descProfile]

/-- A command that a descriptor spells names things that the hardware has (R270). -/
theorem wf_of_descInstr {desc : List Byte} {d : HostData} {c : Instr} (hl : desc.length = 64) (h : descInstr desc d = .ok c) :
    c.wf = true := by
  unfold descInstr at h
  dsimp only at h
  repeat' split at h
  all_goals cases h
  all_goals simp [Instr.wf, hl]
  all_goals omega

/-- It is carried out as the ring's commands are. -/
theorem exec_of_descInstr {desc : List Byte} {d : HostData} {c : Instr} (h : descInstr desc d = .ok c) :
    ∃ m, ∀ s, exec c s = runIf m c.wf (fun s => s.command c) s := by
  unfold descInstr at h
  dsimp only at h
  repeat' split at h
  all_goals cases h
  all_goals exact ⟨_, fun _ => rfl⟩

/-! ## Fetching -/

theorem exec_commandFetch (desc : List Byte) (d : HostData) (s : State) :
    exec (.commandFetch desc d) s = runIf "COMMAND_FETCH" (Instr.wf (.commandFetch desc d)) (fun s => s.doFetch desc d) s := rfl

/-- A fetched descriptor that spells no command is accepted and refused: the profile fields are judged before the field at `off`. -/
def State.rejectDesc (s : State) (desc : List Byte) (off : Nat) : State :=
  s.acceptCmd (descHdr desc) (fieldLe desc 0 1) 64 (fun _ => some off) (fun s _ => s) (some ((descProfileBad desc).getD off))
    (descLost desc)

/-- What becomes of a fetched descriptor (R8, R264, R268): its command, or its refusal. -/
def State.servedDesc (s : State) (desc : List Byte) (d : HostData) : State :=
  match descFields (fieldLe desc 0 1) with
  | none => s.rejectDesc desc 0x00
  | some fields =>
    match descBad desc fields with
    | some off => s.rejectDesc desc off
    | none =>
      match descInstr desc d with
      | .ok c => s.command c
      | .error off => s.rejectDesc desc (if hdrBad (descHdr desc) then 0x08 else off)

theorem State.doFetch_of_mayFetch {desc : List Byte} (d : HostData) (h : s.mayFetch (descHdr desc).fence = true) :
    s.doFetch desc d = s.fetched.servedDesc desc d := by
  unfold State.doFetch State.servedDesc
  dsimp only
  rw [if_neg (by simp [h])]
  rfl

theorem State.doFetch_of_not_mayFetch {desc : List Byte} (d : HostData) (h : s.mayFetch (descHdr desc).fence = false) :
    s.doFetch desc d = s := by
  unfold State.doFetch
  dsimp only
  rw [if_pos (by simp [h])]

/-- What fetching leaves as it was, as far as acceptance and the end of a command ask for it. -/
theorem State.canAccept_fetched (fence : Bool) : s.fetched.canAccept fence = s.canAccept fence := rfl
theorem State.busOk_fetched : s.fetched.busOk = s.busOk := rfl
theorem commit_fetched (t : State) : commit s.fetched t = commit s t := rfl

/-- The descriptor is read from its slot of the ring (R257, R258). -/
theorem State.sent_fetched : Sent s s.fetched (.hostRead (s.cmdAddr s.hif.cmdFetch) 64) := ⟨[_], rfl, .head _⟩

/-- A refused descriptor: it has been read, the fetch index has moved, and its command has completed with BUSY or BAD_PARAM. -/
theorem State.rejectDesc_spec {desc : List Byte} {off : Nat} (hf : s.mayFetch (descHdr desc).fence = true) (hc : s.cidsOk) :
    let t := commit s (s.fetched.rejectDesc desc off)
    t.hif.cmdFetch = (s.hif.cmdFetch + 1) % 65536 ∧ Sent s t (.hostRead (s.cmdAddr s.hif.cmdFetch) 64) ∧
      if s.sec.boot = .recovery ∧ fieldLe desc 0 1 ∉ recoveryOps then
        Completed s t (descHdr desc).tag (fieldLe desc 0 1) St.busy Why.none
      else Completed s t (descHdr desc).tag (fieldLe desc 0 1) St.badParam ((descProfileBad desc).getD off) := by
  obtain ⟨⟨⟨⟨-, hb⟩, -⟩, -⟩, ha⟩ : (((s.cmdRun = true ∧ s.busOk = true) ∧ s.hif.cmdFetch ≠ s.hif.cmdProd) ∧
      (s.sec.bootDone = true ∨ s.sec.boot = .recovery)) ∧ s.canAccept (descHdr desc).fence = true := by
    simpa [State.mayFetch] using hf
  have hfind := s.fetched.find_accepted hc (descHdr desc) (fieldLe desc 0 1)
  have hends : ∀ st why, let u := (s.fetched.accepted (descHdr desc) (fieldLe desc 0 1)).complete s.hif.nextCid st why (descLost desc) none
      (commit s u).hif.cmdFetch = (s.hif.cmdFetch + 1) % 65536 ∧
        Sent s (commit s u) (.hostRead (s.cmdAddr s.hif.cmdFetch) 64) ∧
        Completed s (commit s u) (descHdr desc).tag (fieldLe desc 0 1) st why := by
    intro st why u
    have hlater : (s.fetched.accepted (descHdr desc) (fieldLe desc 0 1)).outs <:+ (commit s u).outs :=
      (State.outs_suffix_complete _ _ _ _ _ _).trans (outs_suffix_commit _ _)
    refine ⟨?_, s.sent_fetched.later hlater, ?_⟩
    · rw [commit_hif]
      exact State.complete_cmdFetch _ _ _ _ _ _
    · exact ((State.completed_complete _ hfind hb st why _ _).later (outs_suffix_commit _ _)).earlier (List.suffix_cons _ _)
  intro t
  have ht : t = commit s (if s.sec.boot = .recovery ∧ fieldLe desc 0 1 ∉ recoveryOps
      then (s.fetched.accepted (descHdr desc) (fieldLe desc 0 1)).complete s.hif.nextCid St.busy Why.none (descLost desc) none
      else (s.fetched.accepted (descHdr desc) (fieldLe desc 0 1)).complete s.hif.nextCid St.badParam ((descProfileBad desc).getD off)
        (descLost desc) none) :=
    congrArg (commit s) (s.fetched.acceptCmd_of_profile ha 64 _ _ _ _)
  split
  · next hr => rw [if_pos hr] at ht; rw [ht]; exact hends _ _
  · next hr => rw [if_neg hr] at ht; rw [ht]; exact hends _ _

/-- Settles O38: a descriptor that may be fetched is served, by the cases of what it spells; another one changes nothing. -/
theorem fetchedCommandsAreCarriedOut : Obligations.FetchedCommandsAreCarriedOut := by
  unfold Obligations.FetchedCommandsAreCarriedOut
  intro s desc d hp hl op h i rejected
  have hw : Instr.wf (.commandFetch desc d) = true := decide_eq_true hl
  have hyields : ∀ {P : State → Prop}, s.mayFetch h.fence = true → P (commit s (s.fetched.servedDesc desc d)) → Yields i s P := by
    intro P hf hP
    refine yields_of_runIf (exec_commandFetch desc d s) hw hp ?_
    rwa [s.doFetch_of_mayFetch d hf]
  have hrejected : s.mayFetch h.fence = true → s.cidsOk → ∀ off, s.fetched.servedDesc desc d = s.fetched.rejectDesc desc off →
      rejected off := by
    intro hf hc off hs
    refine hyields hf ?_
    rw [hs]
    exact s.rejectDesc_spec hf hc
  refine ⟨fun hf => ⟨?carried, fun hc => ⟨?unknown, ?reserved, ?noForm⟩⟩, ?waits⟩
  case carried =>
    intro fields c hd hb hi
    obtain ⟨m, hm⟩ := exec_of_descInstr hi
    refine hyields hf ?_
    rw [hm, runIf_of_ok s.fetched _ (wf_of_descInstr hl hi) hp, commit_fetched, State.servedDesc, hd]
    simp only [hb, hi]
  case unknown =>
    intro hd
    refine hrejected hf hc _ ?_
    rw [State.servedDesc, hd]
  case reserved =>
    intro fields off hd hb
    refine hrejected hf hc _ ?_
    rw [State.servedDesc, hd]
    simp only [hb]
  case noForm =>
    intro fields off hd hb hi
    refine hrejected hf hc _ ?_
    rw [State.servedDesc, hd]
    simp only [hb, hi]
    rfl
  case waits =>
    intro hf
    refine yields_of_runIf (exec_commandFetch desc d s) hw hp ?_
    rw [s.doFetch_of_not_mayFetch d hf, commit_hif]
    exact ⟨rfl, rfl⟩

end Sys2Proof.Machine
end

section
/-! What goes on beside a command: records and log entries, and self-test slices that make way for a service request (R407, R414).
None of it touches a command that no self-test run serves. -/

namespace Sys2Proof.Machine

open Sys2Proof

/-- What stands while other work goes on beside command `cid`: elapsed time, the bus and the host's memory, the debug challenge, the
TRNG's failure, and the command itself. -/
def State.standing (s : State) (cid : Nat) : Nat × Bool × List (Nat × Nat) × Option (List Byte × Nat) × Bool × Option OutCmd :=
  (s.mono, s.busOk, s.hif.badHost, s.sec.challenge, s.sec.trngFail, s.hif.outstanding.find? (·.cid = cid))

/-- Between `s` and `t` work has gone on beside command `cid`. -/
structure State.Beside (cid : Nat) (s t : State) : Prop where
  standing : t.standing cid = s.standing cid
  outs : s.outs <:+ t.outs
  runs : ∀ r ∈ t.bst.runs, ∃ q ∈ s.bst.runs, q.cid = r.cid

/-- No self-test run serves command `cid`. -/
def State.unserved (s : State) (cid : Nat) : Prop := ∀ r ∈ s.bst.runs, r.cid ≠ some cid

namespace State.Beside

variable {cid : Nat} {s t u : State}

theorem of_kept (h : t.standing cid = s.standing cid) (ho : t.outs = s.outs) (hr : t.bst.runs = s.bst.runs) : State.Beside cid s t :=
  ⟨h, by rw [ho], fun r hm => ⟨r, hr ▸ hm, rfl⟩⟩

theorem refl (s : State) : State.Beside cid s s := of_kept rfl rfl rfl

theorem trans (h : State.Beside cid s t) (h' : State.Beside cid t u) : State.Beside cid s u := by
  refine ⟨h'.standing.trans h.standing, h.outs.trans h'.outs, fun r hr => ?_⟩
  obtain ⟨q, hq, hqr⟩ := h'.runs r hr
  obtain ⟨p, hp, hpq⟩ := h.runs q hq
  exact ⟨p, hp, hpq.trans hqr⟩

/-- Work after which more is done; the second piece is named first, since it tells what the first one leads to. -/
theorem after (h' : State.Beside cid t u) (h : State.Beside cid s t) : State.Beside cid s u := h.trans h'

theorem unserved (h : State.Beside cid s t) (hs : s.unserved cid) : t.unserved cid := by
  intro r hr
  obtain ⟨q, hq, hqr⟩ := h.runs r hr
  exact hqr ▸ hs q hq

theorem mono (h : State.Beside cid s t) : t.mono = s.mono := congrArg (·.1) h.standing
theorem busOk (h : State.Beside cid s t) : t.busOk = s.busOk := congrArg (·.2.1) h.standing
theorem badHost (h : State.Beside cid s t) : t.hif.badHost = s.hif.badHost := congrArg (·.2.2.1) h.standing
theorem trngFail (h : State.Beside cid s t) : t.sec.trngFail = s.sec.trngFail := congrArg (·.2.2.2.2.1) h.standing
theorem found (h : State.Beside cid s t) :
    t.hif.outstanding.find? (·.cid = cid) = s.hif.outstanding.find? (·.cid = cid) := congrArg (·.2.2.2.2.2) h.standing

/-- Work that is done in a sequence is done beside the command, if each piece is. -/
theorem foldl {α : Type} {f : State → α → State} (hf : ∀ s a, s.unserved cid → State.Beside cid s (f s a)) (l : List α) :
    ∀ s : State, s.unserved cid → State.Beside cid s (l.foldl f s) := by
  induction l with
  | nil => intro s _; exact .refl s
  | cons a l ih => intro s hs; exact (hf s a hs).trans (ih _ ((hf s a hs).unserved hs))

end State.Beside

/-! ## Records and log entries -/

variable {cid : Nat} (s : State)

theorem State.beside_setReg (off : Nat) (v : Word) : State.Beside cid s (s.setReg off v) := .of_kept rfl rfl rfl
theorem State.beside_setPair (lo v : Nat) : State.Beside cid s (s.setPair lo v) :=
  (s.beside_setReg _ _).trans (State.beside_setReg _ _ _)
theorem State.beside_bump (off : Nat) : State.Beside cid s (s.bump off) := .of_kept rfl rfl rfl
theorem State.beside_sticky (f : Fld) : State.Beside cid s (s.sticky f) := .of_kept rfl rfl rfl
theorem State.beside_setChan (n : Nat) (c : Chan) : State.Beside cid s (s.setChan n c) := .of_kept rfl rfl rfl
theorem State.beside_gap (b : Bool) : State.Beside cid s { s with hif.gap := b } := .of_kept rfl rfl rfl

theorem State.beside_dropRec (n : Nat) (r : Rec) : State.Beside cid s (s.dropRec n r) := by
  have hcounted := fun c off f => ((s.beside_setChan (cid := cid) n c).trans (State.beside_bump _ off)).trans (State.beside_sticky _ f)
  unfold State.dropRec
  dsimp only
  split
  · exact .after (State.beside_gap _ _) (hcounted _ _ _)
  · exact hcounted _ _ _

theorem State.beside_startXfer (n : Nat) (r : Rec) (held : Nat) : State.Beside cid s (s.startXfer n r held) := by
  unfold State.startXfer
  dsimp only
  split
  · exact .refl s
  · split
    · exact .of_kept rfl rfl rfl
    · exact .after (State.beside_dropRec _ n r) (.of_kept rfl rfl rfl)

theorem State.beside_pump (n : Nat) : State.Beside cid s (s.pump n) := by
  unfold State.pump
  dsimp only
  split
  · exact .refl s
  · split
    · exact .after (State.beside_startXfer _ n _ _) (.of_kept rfl rfl rfl)
    · exact .refl s

theorem State.beside_formRec (n : Nat) (r : Rec) : State.Beside cid s (s.formRec n r) := by
  unfold State.formRec
  dsimp only
  split
  · exact s.beside_dropRec n r
  · split
    · exact .after (State.beside_dropRec _ n r) (.of_kept rfl rfl rfl)
    · split
      · exact .after (State.beside_pump _ n) (.of_kept rfl rfl rfl)
      · exact s.beside_dropRec n r

theorem State.beside_event (typ : Nat) (payload : List Byte) : State.Beside cid s (s.event typ payload) := s.beside_formRec 3 _

theorem State.beside_logWrite (typ : Nat) (payload : List Byte) (time : Nat) : State.Beside cid s (s.logWrite typ payload time) :=
  .after (State.beside_formRec _ 7 _) (.of_kept rfl rfl rfl)

theorem State.beside_nvLog (typ : Nat) (payload : List Byte) : State.Beside cid s (s.nvLog typ payload) := by
  unfold State.nvLog
  split
  · exact s.beside_logWrite typ payload _
  · split <;> exact .of_kept rfl rfl rfl

/-! ## Self-test slices -/

/-- The report of a result, once it is counted. -/
theorem State.beside_reported (a b c code : Nat) (p : List Byte) :
    State.Beside cid s (if code = Slice.pass then s else
      let s := ((s.setRegN Reg.BST_LAST_NONPASS a).setPair Reg.BST_SIG_LO b).setPair Reg.BST_REF_LO c
      let s := s.event 0x0500 p
      if code = Slice.failed ∨ code = Slice.noRef then s.nvLog 0x21 p else s) := by
  have hset : State.Beside cid s (((s.setRegN Reg.BST_LAST_NONPASS a).setPair Reg.BST_SIG_LO b).setPair Reg.BST_REF_LO c) :=
    .after (State.beside_setPair _ _ _) (.after (State.beside_setPair _ _ _) (s.beside_setReg _ _))
  dsimp only
  split_ifs
  · exact .refl s
  · exact .after (State.beside_nvLog _ _ _) (.after (State.beside_event _ _ _) hset)
  · exact .after (State.beside_event _ _ _) hset

theorem State.beside_reportSlice (id : SliceId) (code misr ref : Nat) : State.Beside cid s (s.reportSlice id code misr ref) := by
  unfold State.reportSlice
  refine .after (State.beside_reported _ _ _ _ _ _) ?_
  split <;> exact .of_kept rfl rfl rfl

theorem State.beside_releaseUnit (id : SliceId) : State.Beside cid s (s.releaseUnit id) := by
  unfold State.releaseUnit
  split_ifs <;> exact .of_kept rfl rfl rfl

theorem State.beside_takeEgress : State.Beside cid s s.takeEgress := by
  unfold State.takeEgress
  dsimp only
  split <;> exact .of_kept rfl rfl rfl

theorem State.beside_startSlice (r : SliceRun) : State.Beside cid s (s.startSlice r) := by
  have hbegun : State.Beside cid s (let s := { s with bst.running := s.bst.running ++ [{ r with start := s.mono }] }
      if r.id.die < 5 then s.setDie r.id.die { s.die r.id.die with renewed := false } else s) := by
    dsimp only
    split <;> exact .of_kept rfl rfl rfl
  refine hbegun.trans ?_
  unfold State.startSlice
  dsimp only
  generalize (if r.id.die < 5 then _ else _ : State) = u
  split_ifs
  · exact .of_kept rfl rfl rfl
  · exact .after (State.beside_takeEgress _) (.of_kept rfl rfl rfl)
  · exact .of_kept rfl rfl rfl
  · exact .of_kept rfl rfl rfl
  · exact .refl u

theorem State.beside_tryStart (r : SliceRun) : State.Beside cid s (s.tryStart r) := by
  unfold State.tryStart
  split
  · exact s.beside_startSlice r
  · exact .of_kept rfl rfl rfl

end Sys2Proof.Machine
end

section
/-! Self-test slices that make way for a service request, and the jobs of the accelerator (R407, R414, R416). -/

namespace Sys2Proof.Machine

open Sys2Proof

variable {cid : Nat} (s : State)

/-! ## Runs -/

@[simp] theorem BistRun.enter_cid (r : BistRun) (slice code misr ref : Nat) : (r.enter slice code misr ref).cid = r.cid := by
  unfold BistRun.enter
  dsimp only
  split <;> split <;> rfl

theorem State.beside_enterOnly (x : SliceRun) (code misr ref : Nat) : State.Beside cid s (s.enterOnly x code misr ref) := by
  refine ⟨rfl, List.suffix_rfl, fun r hr => ?_⟩
  obtain ⟨q, hq, rfl⟩ := List.mem_map.1 hr
  exact ⟨q, hq, by split <;> simp⟩

/-- The completion of another command. -/
theorem State.beside_complete {other : Nat} (h : other ≠ cid) (st why : Nat) (v : Option Nat) (b : Option (List Byte)) :
    State.Beside cid s (s.complete other st why v b) := by
  have hbus : (s.complete other st why v b).busOk = s.busOk :=
    s.complete_keeps (fun f => f.busMaster && !f.d3hot) (fun _ _ _ _ _ _ _ => rfl) other st why v b
  have hbad := s.complete_keeps Hif.badHost (fun _ _ _ _ _ _ _ => rfl) other st why v b
  have hfind : (s.hif.outstanding.filter (·.cid ≠ other)).find? (·.cid = cid) = s.hif.outstanding.find? (·.cid = cid) := by
    rw [List.find?_filter]
    congr 1
    funext c
    by_cases hc : c.cid = cid
    · simp [hc, h.symm]
    · simp [hc]
  refine ⟨?_, s.outs_suffix_complete other st why v b, fun r hr => ⟨r, by simpa using hr, rfl⟩⟩
  simp [State.standing, hbus, hbad, s.complete_outstanding, ← hfind]

theorem State.beside_endRun (r : BistRun) (hr : r.cid ≠ some cid) : State.Beside cid s (s.endRun r) := by
  have hpost : ∀ u : State, State.Beside cid u (match r.cid with
      | some c => u.complete c St.ok Why.none (some r.notPassed) (some r.block)
      | none => u) := by
    intro u
    split
    · next c hc => exact u.beside_complete (by rintro rfl; exact hr hc) _ _ _ _
    · exact .refl u
  have hrep : ∀ u : State, State.Beside cid u (if r.die < 5 ∧ r.kind ≠ Owner.bistRun then
      let s := u.setFld (Fld.BST_DIE_LAST r.die) (r.outcome + 1)
      if r.outcome = 2 then s else s.setDie r.die { s.die r.die with lastRun := some s.mono }
      else u) := by
    intro u
    dsimp only
    split_ifs <;> exact .of_kept rfl rfl rfl
  have hdone : State.Beside cid s { s with
      bst.fullBad := s.bst.fullBad || (decide (Owner.boot ≤ r.kind) && decide (r.outcome ≠ 0))
      bst.runs := s.bst.runs.filter fun q => q.die ≠ r.die ∨ q.kind ≠ r.kind ∨ q.cid ≠ r.cid } :=
    ⟨rfl, List.suffix_rfl, fun q hq => ⟨q, List.mem_of_mem_filter hq, rfl⟩⟩
  unfold State.endRun
  exact .after (hpost _) (.after (hrep _) (.after (State.beside_event _ _ _) hdone))

theorem State.beside_advanceRun (hs : s.unserved cid) (die kind : Nat) (c : Option Nat) :
    State.Beside cid s (s.advanceRun die kind c) := by
  unfold State.advanceRun
  split
  · exact .refl s
  · next r hr =>
    split
    · exact s.beside_endRun r (hs r (List.mem_of_find?_eq_some hr))
    · exact s.beside_tryStart _

theorem State.beside_advanceBehind (hs : s.unserved cid) (x : SliceRun) : State.Beside cid s (s.advanceBehind x) := by
  unfold State.advanceBehind
  split
  · split
    · exact .of_kept rfl rfl rfl
    · exact s.beside_advanceRun hs _ _ _
  · exact s.beside_advanceRun hs _ _ _

/-! ## Service requests -/

theorem State.beside_abortSlice (hs : s.unserved cid) (x : SliceRun) : State.Beside cid s (s.abortSlice x) := by
  have hrest : ∀ (u : State) (misr ref : Nat), u.unserved cid → State.Beside cid u (
      if x.owner = Owner.spare then u.sticky Fld.BST_STATUS_ABORT_SEEN
      else if x.owner ≠ Owner.background ∧ 3 ≤ x.aborts then
        ((u.sticky Fld.BST_STATUS_ABORT_SEEN).enterOnly x Slice.aborted misr ref).advanceBehind x
      else { u with bst.retry := u.bst.retry ++ [{ x with aborts := x.aborts + 1 }] }) := by
    intro u misr ref hu
    have hseen : State.Beside cid u (u.sticky Fld.BST_STATUS_ABORT_SEEN) := .of_kept rfl rfl rfl
    have hentered := hseen.trans (State.beside_enterOnly _ x Slice.aborted misr ref)
    split_ifs
    · exact hseen
    · exact hentered.trans (State.beside_advanceBehind _ (hentered.unserved hu) x)
    · exact .of_kept rfl rfl rfl
  have hstop : State.Beside cid s { s.drew with bst.running := s.bst.running.filter (·.id ≠ x.id) } := .of_kept rfl rfl rfl
  have hreported := fun misr ref => (hstop.trans (State.beside_releaseUnit _ x.id)).trans (State.beside_reportSlice _ x.id Slice.aborted misr ref)
  unfold State.abortSlice
  exact .after (hrest _ _ _ ((hreported _ _).unserved hs)) (hreported _ _)

theorem State.beside_abortSlices (hs : s.unserved cid) (t : SliceRun → Bool) : State.Beside cid s (s.abortSlices t) :=
  State.Beside.foldl (fun u x hu => u.beside_abortSlice hu x) _ s hs

theorem State.beside_wantCrypto (hs : s.unserved cid) : State.Beside cid s s.wantCrypto := s.beside_abortSlices hs _

theorem State.beside_trngTake : State.Beside cid s s.trngTake.1 := by
  unfold State.trngTake
  dsimp only
  split <;> exact .of_kept rfl rfl rfl

theorem State.beside_wantTrng (hs : s.unserved cid) : State.Beside cid s s.wantTrng.1 :=
  (s.beside_wantCrypto hs).trans (State.beside_trngTake _)

theorem State.beside_pickJob : State.Beside cid s s.pickJob := by
  unfold State.pickJob
  split
  · exact .of_kept rfl rfl rfl
  · split
    · exact .refl s
    · exact .of_kept rfl rfl rfl
  · exact .refl s
  · dsimp only
    split
    · exact .of_kept rfl rfl rfl
    · exact .refl s

theorem State.beside_addJob (hs : s.unserved cid) (j : SignJob) : State.Beside cid s (s.addJob j) := by
  have hqueued : State.Beside cid s { s with sec.queue := s.sec.queue ++ [j] } := .of_kept rfl rfl rfl
  have hpicked := hqueued.trans (State.beside_pickJob _)
  exact hpicked.trans (State.beside_wantCrypto _ (hpicked.unserved hs))

end Sys2Proof.Machine
end

section
/-! Debug challenges, trims, the TRNG and the mailbox (R9, R381, R394, R405). -/

namespace Sys2Proof.Machine

open Sys2Proof

variable (s : State)

theorem exec_debugUnlockChallenge (h : Hdr) (addr : Nat) :
    exec (.debugUnlockChallenge h addr) s =
      runIf "DEBUG_UNLOCK_CHALLENGE" (Instr.wf (.debugUnlockChallenge h addr)) (fun s => s.doChallenge h addr) s := rfl
theorem exec_debugUnlockResponse (h : Hdr) (length addr : Nat) (data : HostData) :
    exec (.debugUnlockResponse h length addr data) s =
      runIf "DEBUG_UNLOCK_RESPONSE" (Instr.wf (.debugUnlockResponse h length addr data)) (fun s => s.doDebugResponse h length data) s := rfl
theorem exec_debugChallengeExpire : exec .debugChallengeExpire s = run State.doChallengeExpire s := rfl
theorem exec_lock : exec .lock s = run (fun s => s.woken.setFld Fld.SEC_STATUS_SEC_LOCK 1) s := rfl
theorem exec_calTrimWrite (off : Nat) (v : Word) :
    exec (.calTrimWrite off v) s = runIf "CAL_TRIM_WRITE" (Instr.wf (.calTrimWrite off v)) (fun s => s.woken.doTrimWrite off v) s := rfl
theorem exec_trngHealthFail : exec .trngHealthFail s = run State.doTrngFail s := rfl
theorem exec_secMboxReqWrite (v : Word) : exec (.secMboxReqWrite v) s = run (fun s => s.woken.doMailbox v) s := rfl

/-! ## DEBUG_UNLOCK -/

/-- A command's data are written where the bus is free and the host's memory takes them (R268). -/
theorem State.writeOut_of_good {cid addr len : Nat} {o : Out} {body : State → State} (hb : s.busOk = true)
    (hh : s.hostBad addr len = false) : s.writeOut cid addr len o body = body (s.emit o) := by
  have hh' : (s.emit o).hostBad addr len = false := hh
  simp [State.writeOut, State.post_of_bus s hb, hh']

/-- No self-test run serves a command that is only now accepted. -/
theorem State.unserved_accepted (hc : s.cidsOk) (h : Hdr) (op : Nat) : (s.accepted h op).unserved s.hif.nextCid :=
  fun r hr e => Nat.lt_irrefl _ (hc.2 r hr _ e)

/-- A command that is accepted, but whose work goes on, is outstanding with the job it was given. -/
theorem State.find_setJob {cid : Nat} {c : OutCmd} (hc : s.hif.outstanding.find? (·.cid = cid) = some c) (j : Job) :
    (s.setJob cid j).hif.outstanding.find? (·.cid = cid) = some { c with job := j } := by
  have hcid : c.cid = cid := by simpa using List.find?_some hc
  have hcomp : ((fun c : OutCmd => decide (c.cid = cid)) ∘ fun c => if c.cid = cid then { c with job := j } else c) =
      fun c => decide (c.cid = cid) := by
    funext c
    by_cases h : c.cid = cid <;> simp [h]
  show (s.hif.outstanding.map _).find? _ = _
  rw [List.find?_map, hcomp, hc]
  simp [hcid]

/-- What phase 0 does once it is accepted: beside it the TRNG makes way, then the challenge is kept and written (R394). -/
theorem State.doChallenge_of_taken {h : Hdr} (ht : s.taken h Op.debugUnlock 1) (hc : s.cidsOk) (hl : s.sec.debugLockout = false)
    (addr : Nat) : ∃ (u : State) (c : List Byte), State.Beside s.hif.nextCid (s.accepted h Op.debugUnlock) u ∧
      s.doChallenge h addr = ({ u with sec.challenge := some (c, u.mono) } : State).writeOut s.hif.nextCid addr 64 (.hostWrite addr c)
        fun s' => s'.complete s.hif.nextCid St.ok Why.none (some 64) none := by
  have hl' : ¬(s.accepted h Op.debugUnlock).sec.debugLockout = true := by rw [Bool.not_eq_true]; exact hl
  unfold State.doChallenge
  rw [s.acceptCmd_of_taken ht rfl, if_neg hl']
  exact ⟨_, _, State.beside_wantTrng _ (s.unserved_accepted hc h Op.debugUnlock), rfl⟩

theorem yields_debugUnlockChallenge {h : Hdr} {addr : Nat} (hc : s.cidsOk) (ht : s.taken h Op.debugUnlock 1) (ha : addr < 2 ^ 64)
    (hl : s.sec.debugLockout = false) (hb : s.busOk = true) (hm : s.hostBad addr 64 = false) :
    Yields (.debugUnlockChallenge h addr) s fun t => ∃ c, t.sec.challenge = some (c, s.mono) ∧ Sent s t (.hostWrite addr c) ∧
      Completed s t h.tag Op.debugUnlock St.ok Why.none := by
  have hwf : Instr.wf (.debugUnlockChallenge h addr) = true := by simpa [Instr.wf, ht.2.1, u64] using ha
  refine yields_of_runIf (exec_debugUnlockChallenge s h addr) hwf ht.1 ?_
  obtain ⟨u, c, hside, he⟩ := s.doChallenge_of_taken ht hc hl addr
  let w : State := { u with sec.challenge := some (c, u.mono) }
  have hwbus : w.busOk = true := hside.busOk.trans hb
  have hwbad : w.hostBad addr 64 = false := by
    show u.hif.badHost.any _ = false
    rw [hside.badHost]; exact hm
  have hfind : (w.emit (.hostWrite addr c)).hif.outstanding.find? (·.cid = s.hif.nextCid) = some (s.newCmd h Op.debugUnlock) :=
    hside.found.trans (s.find_accepted hc h Op.debugUnlock)
  have hout : s.outs <:+ w.outs := hside.outs
  rw [he, State.writeOut_of_good w hwbus hwbad]
  refine ⟨c, ?_, ?_, ?_⟩
  · rw [commit_sec, State.complete_sec]
    exact congrArg (fun n => some (c, n)) hside.mono
  · exact (((sent_emit w _).earlier hout).later (State.outs_suffix_complete _ _ _ _ _ _)).later (outs_suffix_commit _ _)
  · exact ((State.completed_complete _ hfind hwbus _ _ _ _).earlier (hout.trans (List.suffix_cons _ _))).later (outs_suffix_commit _ _)

/-- While a challenge lasts, its expiry changes nothing (R394). -/
theorem State.doChallengeExpire_of_lasting {c : List Byte} {t0 : Nat} (h : s.sec.challenge = some (c, t0))
    (hm : s.mono < t0 + 15000000000) : s.doChallengeExpire = s := by
  have hn : ¬t0 + 15000000000 ≤ s.mono := by omega
  simp [State.doChallengeExpire, h, hn]

/-- What phase 1 does once it is accepted with a challenge that lasts: it hands challenge and response to the accelerator (R394). -/
theorem State.doResponse_of_taken {h : Hdr} {b c : List Byte} {t0 : Nat} (ht : s.taken h Op.debugUnlock 1)
    (hscope : BitVec.ofNat 32 (fieldLe (padTo 3313 b) 0 4) &&& ~~~Config.scopeBits = 0) (h1 : s.pow.st ≠ .stream) (h2 : s.pow.st ≠ .take)
    (hl : s.sec.debugLockout = false) (hch : s.sec.challenge = some (c, t0)) (hm : s.mono < t0 + 15000000000) :
    s.doResponse h 3313 (.bytes b) =
      (State.setJob { s.accepted h Op.debugUnlock with sec.challenge := none } s.hif.nextCid
        (.debugResponse (c ++ padTo 3313 b))).addJob { cls := 2, cid := some s.hif.nextCid, what := 0 } := by
  have hst : ¬((s.accepted h Op.debugUnlock).pow.st = .stream ∨ (s.accepted h Op.debugUnlock).pow.st = .take) := not_or.2 ⟨h1, h2⟩
  have hl' : ¬(s.accepted h Op.debugUnlock).sec.debugLockout = true := by rw [Bool.not_eq_true]; exact hl
  unfold State.doResponse
  rw [s.doChallengeExpire_of_lasting hch hm]
  dsimp only [dataBytes]
  rw [s.acceptCmd_of_taken ht (by simp [hscope]), if_neg hst, if_neg hl', hch]

theorem yields_debugUnlockResponse {h : Hdr} {addr : Nat} {b c : List Byte} {t0 : Nat} (hc : s.cidsOk) (ht : s.taken h Op.debugUnlock 1)
    (ha : addr < 2 ^ 64) (hscope : BitVec.ofNat 32 (fieldLe (padTo 3313 b) 0 4) &&& ~~~Config.scopeBits = 0) (h1 : s.pow.st ≠ .stream)
    (h2 : s.pow.st ≠ .take) (hl : s.sec.debugLockout = false) (hch : s.sec.challenge = some (c, t0)) (hm : s.mono < t0 + 15000000000) :
    Yields (.debugUnlockResponse h 3313 addr (.bytes b)) s fun t => t.sec.challenge = none ∧
      ∃ o ∈ t.hif.outstanding, o.cid = s.hif.nextCid ∧ o.tag = h.tag ∧ o.job = .debugResponse (c ++ padTo 3313 b) := by
  have hwf : Instr.wf (.debugUnlockResponse h 3313 addr (.bytes b)) = true := by simpa [Instr.wf, ht.2.1, u64, u32] using ha
  refine yields_of_runIf (exec_debugUnlockResponse s h 3313 addr (.bytes b)) hwf ht.1 ?_
  let a := s.accepted h Op.debugUnlock
  let w := State.setJob { a with sec.challenge := none } s.hif.nextCid (.debugResponse (c ++ padTo 3313 b))
  have hfree : w.unserved s.hif.nextCid := s.unserved_accepted hc h Op.debugUnlock
  have hfind := (w.beside_addJob hfree { cls := 2, cid := some s.hif.nextCid, what := 0 }).found.trans
    (State.find_setJob { a with sec.challenge := none } (s.find_accepted hc h Op.debugUnlock) (.debugResponse (c ++ padTo 3313 b)))
  simp only [State.doDebugResponse, ht.2.2.1, if_true, s.doResponse_of_taken ht hscope h1 h2 hl hch hm]
  rw [commit_sec, commit_hif]
  exact ⟨rfl, _, List.mem_of_find?_eq_some hfind, rfl, rfl, rfl⟩

/-! ## SEC_LOCK and the trims -/

/-- A flag that is written 1 reads as set. -/
theorem flag_setFld_one {f : Fld} (hl : f.lo < 32) (hw : 0 < f.wd) : (s.setFld f 1).flag f = true := by
  have hr : (s.setFld f 1).reg f.off = fldPut (s.reg f.off) f 1 := s.reg_setReg_self _ _
  have hmask : (2 ^ f.wd - 1).testBit 0 = true := by rw [Nat.testBit_two_pow_sub_one]; simpa using hw
  have hb : ((s.setFld f 1).reg f.off).getLsbD f.lo = true := by
    simp only [hr, fldPut, BitVec.getLsbD_or, BitVec.getLsbD_and, BitVec.getLsbD_ofNat, Nat.testBit_mul_two_pow]
    simp [hl, hmask]
  simpa [State.flag, State.fld] using fldOf_ne_zero hw hb

/-- A trim register holds what is written until SEC_LOCK is 1, and what it held after (R9). -/
theorem State.doTrimWrite_reg (off : Nat) (v : Word) :
    (s.doTrimWrite off v).reg off = if s.flag Fld.SEC_STATUS_SEC_LOCK then s.reg off else trimWord off v := by
  unfold State.doTrimWrite
  dsimp only
  cases hl : s.flag Fld.SEC_STATUS_SEC_LOCK with
  | true => simp
  | false =>
    by_cases hw : trimWord off v = s.reg off
    · simp [hw]
    · simp only [hw, Bool.false_eq_true, or_self, if_false]
      split <;> exact State.reg_setReg_self _ _ _

/-! ## The TRNG -/

theorem State.doTrngFail_fails : s.doTrngFail.sec.trngFail = true := by
  unfold State.doTrngFail
  split
  · assumption
  · exact (State.beside_event (cid := 0) { s with sec.trngFail := true } 0x0405 (leBytes 8 0)).trngFail

/-! ## The mailbox -/

/-- A field of RW bits holds what is written. -/
theorem State.fldOf_merged {f : Fld} (h : ∀ j < f.wd, (rwMask f.off).getLsbD (f.lo + j) = true) (v : Word) :
    fldOf (s.merged f.off v) f = fldOf v f := by
  refine Nat.eq_of_testBit_eq fun j => ?_
  simp only [fldOf, Nat.testBit_mod_two_pow, Nat.testBit_div_two_pow]
  by_cases hj : j < f.wd
  · have hbit := getLsbD_merged s f.off v (f.lo + j)
    rw [if_pos (h j hj)] at hbit
    simpa [hj, BitVec.getLsbD, Nat.add_comm] using hbit
  · simp [hj]

theorem State.mboxWords_isSome (code : Nat) : (s.mboxWords code).isSome = decide (1 ≤ code ∧ code ≤ 3) := by
  unfold State.mboxWords
  split <;> simp_all
  omega

theorem State.doMailbox_rsp (v : Word) :
    let code := fldOf v Fld.SEC_MBOX_REQ_CODE
    (s.doMailbox v).regN Reg.SEC_MBOX_RSP = code + (if 1 ≤ code ∧ code ≤ 3 then 2 ^ 8 else 2 ^ 9) := by
  intro code
  have hlt : code < 2 ^ 8 := Nat.mod_lt _ (by decide)
  have hcode : (s.hostSet Reg.SEC_MBOX_REQ v).fld Fld.SEC_MBOX_REQ_CODE = code := by
    show fldOf ((s.hostSet Reg.SEC_MBOX_REQ v).reg Reg.SEC_MBOX_REQ) Fld.SEC_MBOX_REQ_CODE = code
    rw [State.hostSet, State.reg_setReg_self]
    exact s.fldOf_merged (f := Fld.SEC_MBOX_REQ_CODE) (by decide) v
  unfold State.doMailbox
  dsimp only
  rw [hcode]
  have hsome := (s.hostSet Reg.SEC_MBOX_REQ v).mboxWords_isSome code
  split
  · next hw =>
    have hk : 1 ≤ code ∧ code ≤ 3 := by simpa [hw] using hsome
    rw [if_pos hk]
    exact regN_setRegN (by omega)
  · next hw =>
    have hk : ¬(1 ≤ code ∧ code ≤ 3) := by simpa [hw] using hsome
    rw [if_neg hk]
    exact regN_setRegN (by omega)

/-! ## The obligation -/

/-- Settles O35: the rules above, each at the end of its command. -/
theorem securityCommandsAndRegistersAnswer : Obligations.SecurityCommandsAndRegistersAnswer := by
  unfold Obligations.SecurityCommandsAndRegistersAnswer
  intro s hp hc
  refine ⟨?challenge, ?response, ?expiry, ?lock, ?trim, ?trng, ?mailbox⟩
  case challenge => exact fun h addr ht ha hl hb hm => yields_debugUnlockChallenge s hc ht ha hl hb hm
  case response =>
    exact fun h addr b c t0 ht ha hscope h1 h2 hl hch hm => yields_debugUnlockResponse s hc ht ha hscope h1 h2 hl hch hm
  case expiry =>
    intro c t0 hch
    refine yields_of_run (exec_debugChallengeExpire s) hp ?_
    simp only [commit_sec, State.doChallengeExpire, hch]
    split
    · rfl
    · exact hch
  case lock =>
    refine yields_of_run (exec_lock s) hp ?_
    rw [flag_commit (by decide)]
    exact flag_setFld_one s.woken (by decide) (by decide)
  case trim =>
    intro off v hwf
    have hoff : off ≠ Reg.GLB_INT_SUMMARY := by
      rintro rfl
      exact absurd hwf (by simp [Instr.wf, Reg.GLB_INT_SUMMARY])
    refine yields_of_runIf (exec_calTrimWrite s off v) hwf hp ?_
    rw [reg_commit_ne _ _ hoff, State.doTrimWrite_reg]
    rfl
  case trng =>
    refine yields_of_run (exec_trngHealthFail s) hp ?_
    rw [commit_sec]
    exact s.doTrngFail_fails
  case mailbox =>
    intro v
    refine yields_of_run (exec_secMboxReqWrite s v) hp ?_
    rw [regN_commit (by decide)]
    exact s.woken.doMailbox_rsp v

end Sys2Proof.Machine
end

section
/-! What records of other channels, completions and self-test slices leave alone: the frames in flight, the take and the chain they
enter, the FRAME record of channel 0, the pending map change and the drains of the dies. -/

namespace Sys2Proof.Machine

open Sys2Proof

/-! ## Elements of a list -/

theorem length_modAt {α : Type} (l : List α) (i : Nat) (f : α → α) : (modAt l i f).length = l.length := by
  induction l generalizing i with
  | nil => cases i <;> rfl
  | cons a l ih => cases i with
    | zero => rfl
    | succ i => exact congrArg (· + 1) (ih i)

theorem getD_modAt_self {α : Type} {l : List α} {i : Nat} (h : i < l.length) (f : α → α) (d : α) :
    (modAt l i f).getD i d = f (l.getD i d) := by
  induction l generalizing i with
  | nil => simp at h
  | cons a l ih => cases i with
    | zero => rfl
    | succ i => exact ih (Nat.lt_of_succ_lt_succ h)

theorem getD_modAt_ne {α : Type} (l : List α) {i j : Nat} (h : j ≠ i) (f : α → α) (d : α) : (modAt l i f).getD j d = l.getD j d := by
  induction l generalizing i j with
  | nil => cases i <;> rfl
  | cons a l ih => cases i with
    | zero => cases j with
      | zero => exact absurd rfl h
      | succ j => rfl
    | succ i => cases j with
      | zero => rfl
      | succ j => exact ih (by omega)

/-- Changing an element in what a map does not show leaves the mapped list. -/
theorem map_modAt {α β : Type} (g : α → β) (l : List α) (i : Nat) (f : α → α) (d : α) (h : g (f (l.getD i d)) = g (l.getD i d)) :
    (modAt l i f).map g = l.map g := by
  induction l generalizing i with
  | nil => cases i <;> rfl
  | cons a l ih => cases i with
    | zero => exact congrArg (· :: l.map g) h
    | succ i => exact congrArg (g a :: ·) (ih i h)

/-! ## Records -/

/-- What no record of a channel but channel 0 can alter: it shows no register but the drop count of channel 0, no other channel, and
nothing of the NV store. -/
structure OffRecord {β : Type} (g : State → β) : Prop where
  reg : ∀ s off v, off ≠ Reg.HIF_CH_DROP_COUNT 0 → g (State.setReg s off v) = g s
  fresh : ∀ (s : State) t, g { s with fresh := t } = g s
  chan : ∀ s n c, n ≠ 0 → g (State.setChan s n c) = g s
  nv : ∀ (s : State) x, g { s with nv := x } = g s

namespace OffRecord

variable {β : Type} {g : State → β} (h : OffRecord g) (s : State)

include h

theorem bump {off : Nat} (ho : off ≠ Reg.HIF_CH_DROP_COUNT 0) (n : Nat) : g (s.bump off n) = g s := h.reg s _ _ ho
theorem setRegN {off : Nat} (ho : off ≠ Reg.HIF_CH_DROP_COUNT 0) (n : Nat) : g (s.setRegN off n) = g s := h.reg s _ _ ho
theorem setFld {f : Fld} (ho : f.off ≠ Reg.HIF_CH_DROP_COUNT 0) (x : Nat) : g (s.setFld f x) = g s := h.reg s _ _ ho

theorem setPair {lo : Nat} (hl : lo ≠ Reg.HIF_CH_DROP_COUNT 0) (hh : lo + 4 ≠ Reg.HIF_CH_DROP_COUNT 0) (v : Nat) :
    g (s.setPair lo v) = g s := (h.reg _ _ _ hh).trans (h.reg s _ _ hl)

theorem sticky {f : Fld} (ho : f.off ≠ Reg.HIF_CH_DROP_COUNT 0) : g (s.sticky f) = g s := (h.fresh _ _).trans (h.reg s _ _ ho)

theorem stickyIf {f : Fld} (ho : f.off ≠ Reg.HIF_CH_DROP_COUNT 0) (c : Bool) : g (s.stickyIf c f) = g s := by
  unfold State.stickyIf
  split
  · exact h.sticky s ho
  · rfl

/-- No flag of a channel's status lies in the drop count of channel 0. -/
theorem chStatus (n : Nat) (lo wd : Nat) : g (s.sticky ⟨Reg.HIF_CH_STATUS n, lo, wd⟩) = g s :=
  h.sticky s (show 0x0494 + 32 * n ≠ 0x0498 + 32 * 0 by omega)

theorem dropRec {n : Nat} (hn : n ≠ 0) (r : Rec) : g (s.dropRec n r) = g s := by
  have hcount : Reg.HIF_CH_DROP_COUNT n ≠ Reg.HIF_CH_DROP_COUNT 0 := show 0x0498 + 32 * n ≠ 0x0498 + 32 * 0 by omega
  unfold State.dropRec
  rw [if_neg (fun hc => hn hc.1)]
  exact (h.chStatus _ n _ _).trans ((h.bump _ hcount 1).trans (h.chan s n _ hn))

theorem startXfer {n : Nat} (hn : n ≠ 0) (r : Rec) (held : Nat) : g (s.startXfer n r held) = g s := by
  unfold State.startXfer
  dsimp only
  split
  · rfl
  · split
    · exact h.chan s n _ hn
    · exact (h.dropRec _ hn r).trans ((h.chStatus _ n _ _).trans (h.chan s n _ hn))

theorem pump {n : Nat} (hn : n ≠ 0) : g (s.pump n) = g s := by
  unfold State.pump
  dsimp only
  split
  · rfl
  · split
    · exact (h.startXfer _ hn _ _).trans (h.chan s n _ hn)
    · rfl

theorem take {n : Nat} (hn : n ≠ 0) (k : Nat) : g (s.take n k) = g s :=
  (h.setFld _ (by decide) _).trans (h.chan s n _ hn)

theorem formRec {n : Nat} (hn : n ≠ 0) (r : Rec) : g (s.formRec n r) = g s := by
  unfold State.formRec
  dsimp only
  split
  · exact h.dropRec s hn r
  · split
    · exact (h.dropRec _ hn r).trans ((h.chStatus _ n _ _).trans (h.chan s n _ hn))
    · split
      · exact (h.pump _ hn).trans ((h.chan _ n _ hn).trans (h.take s hn _))
      · exact h.dropRec s hn r

theorem event (typ : Nat) (payload : List Byte) : g (s.event typ payload) = g s := h.formRec s (by decide) _

theorem nvRows (a : Nat) (b : List Byte) : g (s.nvRows a b) = g s := (h.setPair _ (by decide) (by decide) _).trans (h.nv s _)

theorem logWrite (typ : Nat) (payload : List Byte) (time : Nat) : g (s.logWrite typ payload time) = g s :=
  (h.formRec _ (by decide) _).trans ((h.setRegN _ (by decide) _).trans ((h.nv _ _).trans (h.nvRows s _ _)))

theorem nvLog (typ : Nat) (payload : List Byte) : g (s.nvLog typ payload) = g s := by
  unfold State.nvLog
  split
  · exact h.logWrite s _ _ _
  · split
    · exact h.nv s _
    · exact h.sticky s (by decide)

/-- A FRAME record of another channel. -/
theorem issue {n : Nat} (hn : n ≠ 0) (r : Rec) : g (s.issue n r) = g s := by
  unfold State.issue
  split
  · exact h.dropRec s hn r
  · dsimp only
    rw [if_neg (fun hc => hn hc.1)]
    exact (h.startXfer _ hn _ _).trans (h.take s hn _)

theorem reportSlice (id : SliceId) (code misr ref : Nat) : g (s.reportSlice id code misr ref) = g s := by
  have hcounted : g (match code with
      | 0 => s.bump Reg.BST_PASS_COUNT
      | 1 => (s.bump Reg.BST_FAIL_COUNT).sticky Fld.BST_STATUS_FAIL_SEEN
      | 2 => (s.bump Reg.BST_INCOMPLETE_COUNT).sticky Fld.BST_STATUS_INCOMPLETE_SEEN
      | 3 => s.bump Reg.BST_ABORT_COUNT
      | _ => s) = g s := by
    split
    · exact h.bump s (by decide) 1
    · exact (h.sticky _ (by decide)).trans (h.bump s (by decide) 1)
    · exact (h.sticky _ (by decide)).trans (h.bump s (by decide) 1)
    · exact h.bump s (by decide) 1
    · rfl
  have hshown : ∀ (u : State) a b c p, g ((((u.setRegN Reg.BST_LAST_NONPASS a).setPair Reg.BST_SIG_LO b).setPair Reg.BST_REF_LO c).event
      0x0500 p) = g u := fun u a b c p =>
    (h.event _ _ _).trans ((h.setPair _ (by decide) (by decide) _).trans ((h.setPair _ (by decide) (by decide) _).trans
      (h.setRegN u (by decide) _)))
  refine Eq.trans ?_ hcounted
  unfold State.reportSlice
  dsimp only
  split_ifs
  · rfl
  · exact (h.nvLog _ _ _).trans (hshown _ _ _ _ _)
  · exact hshown _ _ _ _ _

end OffRecord

/-! ## What stands apart -/

/-- The frames in flight, the last frame of the stream, the take in progress and the chain; the pending map change and the drains of the
dies; the transfer and the drop count of channel 0. -/
structure Apart where
  frames : List FrameW
  lastFrame : Option Nat
  run : Option TakeRun
  chain : Option (Nat × List Byte × List Byte × Nat × Nat)
  pend : Option MapChange
  drains : List (Option Nat)
  xfer : Option Transfer
  drops : Word

def State.apart (s : State) : Apart :=
  { frames := s.frames, lastFrame := s.trs.lastFrame, run := s.cel.run, chain := s.sec.chain, pend := s.rol.pend
    drains := s.rol.dies.map (·.draining), xfer := (s.chan 0).xfer, drops := s.reg (Reg.HIF_CH_DROP_COUNT 0) }

theorem State.chan_setChan_ne (s : State) {n m : Nat} (h : m ≠ n) (c : Chan) : (s.setChan n c).chan m = s.chan m :=
  getD_modAt_ne s.hif.chans h _ _

theorem apart_offRecord : OffRecord State.apart where
  reg s off v h := by simp [State.apart, State.chan, State.reg_setReg_ne s v h.symm]
  fresh _ _ := rfl
  chan s n c h := by simp [State.apart, s.chan_setChan_ne h.symm c]
  nv _ _ := rfl

theorem bst_offRecord : OffRecord State.bst where
  reg _ _ _ _ := rfl
  fresh _ _ := rfl
  chan _ _ _ _ := rfl
  nv _ _ := rfl

variable (s : State)

/-- A die changed in anything but its drain. -/
theorem State.apart_setDie {n : Nat} {d : Die} (h : d.draining = (s.die n).draining) : (s.setDie n d).apart = s.apart := by
  have hd := map_modAt Die.draining s.rol.dies n (fun _ => d) (dieCold false) h
  simp only [State.apart, State.setDie_dies, hd]
  rfl

/-! ## Completions -/

theorem State.reg_stickyIf_ne {f : Fld} {o : Nat} (h : o ≠ f.off) (c : Bool) : (s.stickyIf c f).reg o = s.reg o := by
  unfold State.stickyIf
  split
  · exact s.reg_sticky_ne h
  · rfl

/-- Of the registers a completion writes the status of the host interface alone (R268). -/
theorem State.reg_putCompletion_ne {o : Nat} (h : o ≠ Reg.HIF_STATUS) (e : CmpEntry) (a : Nat) (b : Option (List Byte)) :
    (s.putCompletion e a b).reg o = s.reg o := by
  have hmod : ∀ u : State, u.modCmp.reg o = u.reg o := fun u => by simp [State.reg]
  unfold State.putCompletion
  dsimp only
  rw [hmod]
  cases b with
  | none => exact State.reg_stickyIf_ne _ h _
  | some b => exact State.reg_stickyIf_ne _ h _

theorem State.reg_complete_ne {o : Nat} (h : o ≠ Reg.HIF_STATUS) (cid st why : Nat) (v : Option Nat) (b : Option (List Byte)) :
    (s.complete cid st why v b).reg o = s.reg o := by
  have hdma : ∀ (u : State) l c, (State.stickyIf { u with hif.outstanding := l } c Fld.HIF_STATUS_DMA_ERR).reg o = u.reg o :=
    fun _ _ c => State.reg_stickyIf_ne _ h c
  have hended : ∀ (u : State) l c e a b, (let t := State.stickyIf { u with hif.outstanding := l } c Fld.HIF_STATUS_DMA_ERR
      if t.busOk then t.putCompletion e a b else { t with hif.held := t.hif.held ++ [(e, a, b)] }).reg o = u.reg o := by
    intro u l c e a b
    dsimp only
    split
    · exact (State.reg_putCompletion_ne _ h _ _ _).trans (hdma _ _ _)
    · exact hdma _ _ _
  unfold State.complete
  split
  · rfl
  · cases v with
    | none => exact hended _ _ _ _ _ _
    | some v => exact hended _ _ _ _ _ _

theorem State.apart_complete (cid st why : Nat) (v : Option Nat) (b : Option (List Byte)) :
    (s.complete cid st why v b).apart = s.apart := by
  have hchans : (s.complete cid st why v b).hif.chans = s.hif.chans :=
    s.complete_keeps Hif.chans (fun _ _ _ _ _ _ _ => rfl) cid st why v b
  simp [State.apart, State.chan, hchans, s.reg_complete_ne (o := Reg.HIF_CH_DROP_COUNT 0) (by decide)]

/-! ## Self-test slices -/

theorem State.apart_releaseUnit (id : SliceId) : (s.releaseUnit id).apart = s.apart := by
  unfold State.releaseUnit
  split_ifs
  · rfl
  · rfl
  · rfl
  · rfl
  · exact s.apart_setDie (by rfl)
  · rfl

theorem State.apart_takeEgress : s.takeEgress.apart = s.apart := by
  unfold State.takeEgress
  dsimp only
  split
  · rfl
  · exact (apart_offRecord.setFld _ (by decide) _).trans rfl

theorem State.apart_startSlice (r : SliceRun) : (s.startSlice r).apart = s.apart := by
  have hbegun : (let s := { s with bst.running := s.bst.running ++ [{ r with start := s.mono }] }
      if r.id.die < 5 then s.setDie r.id.die { s.die r.id.die with renewed := false } else s).apart = s.apart := by
    dsimp only
    split
    · exact (State.apart_setDie _ (by rfl)).trans rfl
    · rfl
  rw [← hbegun]
  unfold State.startSlice
  dsimp only
  generalize (if r.id.die < 5 then _ else _ : State) = u
  split_ifs
  · rfl
  · exact (State.apart_takeEgress _).trans rfl
  · rfl
  · rfl
  · rfl

theorem State.apart_tryStart (r : SliceRun) : (s.tryStart r).apart = s.apart := by
  unfold State.tryStart
  split
  · exact s.apart_startSlice r
  · rfl

theorem State.apart_endRun (r : BistRun) : (s.endRun r).apart = s.apart := by
  have hpost : ∀ u : State, (match r.cid with
      | some c => u.complete c St.ok Why.none (some r.notPassed) (some r.block)
      | none => u).apart = u.apart := by
    intro u
    split
    · exact u.apart_complete _ _ _ _ _
    · rfl
  have hshown : ∀ u : State, (if r.die < 5 ∧ r.kind ≠ Owner.bistRun then
      let s := u.setFld (Fld.BST_DIE_LAST r.die) (r.outcome + 1)
      if r.outcome = 2 then s else s.setDie r.die { s.die r.die with lastRun := some s.mono }
      else u).apart = u.apart := by
    intro u
    have hlast : (u.setFld (Fld.BST_DIE_LAST r.die) (r.outcome + 1)).apart = u.apart :=
      apart_offRecord.setFld u (show 0x4040 + 4 * r.die ≠ 0x0498 + 32 * 0 by omega) _
    dsimp only
    split_ifs
    · exact hlast
    · exact (State.apart_setDie _ (by rfl)).trans hlast
    · rfl
  unfold State.endRun
  exact (hpost _).trans ((hshown _).trans ((apart_offRecord.event _ _ _).trans rfl))

theorem State.apart_advanceRun (die kind : Nat) (c : Option Nat) : (s.advanceRun die kind c).apart = s.apart := by
  unfold State.advanceRun
  split
  · rfl
  · split
    · exact s.apart_endRun _
    · exact s.apart_tryStart _

theorem State.apart_advanceBehind (x : SliceRun) : (s.advanceBehind x).apart = s.apart := by
  unfold State.advanceBehind
  split
  · split
    · rfl
    · exact s.apart_advanceRun _ _ _
  · exact s.apart_advanceRun _ _ _

theorem State.apart_abortSlice (x : SliceRun) : (s.abortSlice x).apart = s.apart := by
  have hreported : ∀ misr ref, ((State.releaseUnit { s.drew with bst.running := s.bst.running.filter (·.id ≠ x.id) } x.id).reportSlice
      x.id Slice.aborted misr ref).apart = s.apart := fun _ _ =>
    (apart_offRecord.reportSlice _ _ _ _ _).trans ((State.apart_releaseUnit _ _).trans rfl)
  have hseen : ∀ u : State, (u.sticky Fld.BST_STATUS_ABORT_SEEN).apart = u.apart := fun u => apart_offRecord.sticky u (by decide)
  unfold State.abortSlice
  dsimp only
  split_ifs
  · exact (hseen _).trans (hreported _ _)
  · exact (State.apart_advanceBehind _ _).trans (((hseen _).trans (hreported _ _) : (State.enterOnly _ _ _ _ _).apart = _))
  · exact hreported _ _

theorem State.apart_wantCrypto : s.wantCrypto.apart = s.apart :=
  foldl_keeps State.apart (fun u x => u.apart_abortSlice x) _ s

theorem State.apart_wantTrng : s.wantTrng.1.apart = s.apart := by
  have htaken : ∀ u : State, u.trngTake.1.apart = u.apart := by
    intro u
    unfold State.trngTake
    dsimp only
    split <;> rfl
  exact (htaken _).trans s.apart_wantCrypto

end Sys2Proof.Machine
end

section
/-! Dies get ready, drain and leave BIST; cask replicas are checked and restored (R25, R211, R223, R412). -/

namespace Sys2Proof.Machine

open Sys2Proof

variable (s : State)

theorem exec_diePrepared (n gb : Nat) :
    exec (.diePrepared n gb) s = runIf "DIE_PREPARED" (Instr.wf (.diePrepared n gb)) (fun s => s.doDiePrepared n gb) s := rfl
theorem exec_replicaCheckDone (n : Nat) (a b : Bool) :
    exec (.replicaCheckDone n a b) s =
      runIf "REPLICA_CHECK_DONE" (Instr.wf (.replicaCheckDone n a b)) (fun s => s.doReplicaCheck n a b) s := rfl
theorem exec_replicaRestore (n c : Nat) :
    exec (.replicaRestore n c) s = runIf "REPLICA_RESTORE" (Instr.wf (.replicaRestore n c)) (fun s => s.doReplicaRestore n c) s := rfl
theorem exec_drainEnd (n : Nat) :
    exec (.drainEnd n) s = runIf "DRAIN_END" (Instr.wf (.drainEnd n)) (fun s => s.doDrainEnd n) s := rfl
theorem exec_control (n cid : Nat) :
    exec (.control n cid) s = runIf "CONTROL" (Instr.wf (.control n cid)) (fun s => s.doControl n cid) s := rfl

/-! ## Dies -/

theorem State.die_setDie_self {n : Nat} (h : n < s.rol.dies.length) (d : Die) : (s.setDie n d).die n = d :=
  getD_modAt_self h _ _

/-- A die is read from the dies alone. -/
theorem State.die_commit (t : State) (n : Nat) : (commit s t).die n = t.die n := by unfold State.die; rw [commit_rol]

theorem State.cask_commit (t : State) (c : Nat) : (commit s t).cask c = t.cask c := by unfold State.cask; rw [commit_casks]

/-- The drain of a die is among the drains of the dies. -/
theorem State.draining_eq (n : Nat) : (s.die n).draining = s.apart.drains.getD n none := by
  show (s.rol.dies.getD n (dieCold false)).draining = (s.rol.dies.map Die.draining).getD n (dieCold false).draining
  rw [List.getD_map]

theorem dies_length_of_apart {s t : State} (h : t.apart = s.apart) : t.rol.dies.length = s.rol.dies.length := by
  simpa [State.apart] using congrArg (fun a => a.drains.length) h

/-! ## Preparation (R211, R232) -/

@[simp] theorem State.trainedNow_rol : s.trainedNow.rol = s.rol := by
  unfold State.trainedNow
  split <;> rfl

/-- A die that is prepared, its replicas checked, is ready (R211). -/
theorem State.doDiePrepared_rol {n : Nat} (hprep : (s.die n).preparing = true) (hpow : (s.die n).powered = true)
    (hwd : (s.die n).withdrawn = false) (hchk : s.replicasChecked n = true) (gb : Nat) :
    ∃ d : Die, (s.doDiePrepared n gb).rol = (s.setDie n d).rol ∧ d.ready = true ∧ d.preparing = false ∧ d.trained = true := by
  have hgo : ((s.die n).preparing && (s.die n).powered && !(s.die n).withdrawn && s.replicasChecked n) = true := by
    simp [hprep, hpow, hwd, hchk]
  unfold State.doDiePrepared
  rw [if_pos hgo]
  exact ⟨_, State.trainedNow_rol _, rfl, rfl, rfl⟩

/-! ## Replicas (R25, R150) -/

@[simp] theorem State.rackCheck_a : s.rackCheck.casks.a = s.casks.a := by
  unfold State.rackCheck
  split
  · split
    · rfl
    · dsimp only
      split <;> simp
  · rfl

@[simp] theorem State.saveCheck_a : s.saveCheck.casks.a = s.casks.a := by
  unfold State.saveCheck
  split
  · split <;> simp
  · rfl

/-- The result of a replica of cask B leaves cask A. -/
theorem State.replicaResult_b (n : Nat) (ok : Bool) : (s.replicaResult n 1 ok).casks.a = s.casks.a := by
  unfold State.replicaResult
  split
  · rfl
  · exact (congrArg Casks.a (State.stickyIf_casks _ _ _)).trans rfl

/-- The result of a replica of cask A is recorded. -/
theorem State.replicaResult_a (h : s.casks.a.img.isSome = true) (n : Nat) (ok : Bool) :
    (s.replicaResult n 0 ok).casks.a = { s.casks.a with
      replicas := modAt s.casks.a.replicas n fun _ => some ok, checked := modAt s.casks.a.checked n fun _ => true } := by
  have hn : ¬(s.cask 0).img.isNone = true := by
    rw [Bool.not_eq_true, Option.isNone_eq_false_iff]
    exact h
  unfold State.replicaResult
  rw [if_neg hn]
  exact (congrArg Casks.a (State.stickyIf_casks _ _ _)).trans rfl

theorem State.cask_modCask {c : Nat} (h : c < 2) (g : Cask → Cask) : (s.modCask c g).cask c = g (s.cask c) := by
  match c, h with
  | 0, _ => rfl
  | 1, _ => rfl

/-! ## The end of a drain (R223) -/

theorem State.apart_startRotRun (n : Nat) : (s.startRotRun n).apart = s.apart := by
  unfold State.startRotRun
  split
  · exact State.apart_advanceRun _ _ _ _
  · rfl

/-- A die that takes up its role drains nothing more. -/
theorem State.draining_takeRole {n : Nat} (hn : n < s.rol.dies.length) (h : (s.die n).draining = none) :
    ((s.takeRole n).die n).draining = none := by
  unfold State.takeRole
  split
  · split
    · exact congrArg Die.draining (s.die_setDie_self hn _)
    · exact h
  · rw [State.draining_eq, s.apart_startRotRun, ← State.draining_eq, h]
  · exact h

theorem State.draining_doDrainEnd {n : Nat} (hn : n < s.rol.dies.length) (h : (s.die n).draining.isSome = true)
    (hf : s.inFlight (s.die n).drainTo = false) : ((s.doDrainEnd n).die n).draining = none := by
  let u := s.setDie n { s.die n with draining := none, nextRole := none }
  let v : State := { u with rol.moves := u.rol.moves.filter fun m => m.src ≠ n ∨ !(m.stateDone && m.historyDone) }
  have hv : (v.die n).draining = none := congrArg Die.draining (s.die_setDie_self hn _)
  have he : s.doDrainEnd n = if v.roleOf n = .stripe then v else v.takeRole n := by
    simp only [State.doDrainEnd, h, hf]
    rfl
  rw [he]
  split
  · exact hv
  · exact v.draining_takeRole ((length_modAt _ _ _).symm ▸ hn) hv

/-! ## Leaving BIST (R211, R407, R412) -/

/-- What stands apart from the self-test, and the slices that run. -/
def State.tested (s : State) : Apart × List SliceRun := (s.apart, s.bst.running)

theorem tested_offRecord : OffRecord State.tested where
  reg s off v h := congrArg (·, s.bst.running) (apart_offRecord.reg s off v h)
  fresh _ _ := rfl
  chan s n c h := congrArg (·, s.bst.running) (apart_offRecord.chan s n c h)
  nv _ _ := rfl

/-- A run that ends is no longer among the runs (R412); no slice starts or stops with it. -/
theorem State.endRun_bst (r : BistRun) : (s.endRun r).bst = { s.bst with
    fullBad := s.bst.fullBad || (decide (Owner.boot ≤ r.kind) && decide (r.outcome ≠ 0))
    runs := s.bst.runs.filter fun q => q.die ≠ r.die ∨ q.kind ≠ r.kind ∨ q.cid ≠ r.cid } := by
  have hpost : ∀ u : State, (match r.cid with
      | some c => u.complete c St.ok Why.none (some r.notPassed) (some r.block)
      | none => u).bst = u.bst := by
    intro u
    split <;> simp
  unfold State.endRun
  refine (hpost _).trans ?_
  dsimp only
  split_ifs <;> exact bst_offRecord.event _ _ _

theorem State.tested_endRun (r : BistRun) : (s.endRun r).tested = s.tested :=
  Prod.ext (s.apart_endRun r) ((congrArg Bst.running (s.endRun_bst r)).trans rfl)

theorem State.tested_releaseUnit (id : SliceId) : (s.releaseUnit id).tested = s.tested := by
  refine Prod.ext (s.apart_releaseUnit id) ?_
  show (s.releaseUnit id).bst.running = s.bst.running
  unfold State.releaseUnit
  split_ifs <;> rfl

theorem State.tested_skipSlice (r : BistRun) (t : Nat × Nat) : (s.skipSlice r t).tested = s.tested :=
  (tested_offRecord.sticky _ (by decide)).trans ((tested_offRecord.reportSlice _ _ _ _ _).trans rfl)

/-- Of runs that end one after the other none is left. -/
theorem State.mem_runs_of_ended {r : BistRun} (l : List BistRun) :
    ∀ s : State, r ∈ (l.foldl (fun s q => s.endRun q) s).bst.runs → r ∈ s.bst.runs ∧ r ∉ l := by
  induction l with
  | nil => exact fun s h => ⟨h, List.not_mem_nil⟩
  | cons q l ih =>
    intro s h
    obtain ⟨hr, hl⟩ := ih _ h
    rw [State.endRun_bst] at hr
    obtain ⟨hs, hq⟩ := List.mem_filter.1 hr
    refine ⟨hs, ?_⟩
    rw [List.mem_cons, not_or]
    exact ⟨by rintro rfl; simp at hq, hl⟩

/-- A die whose runs are abandoned runs no slice and no run more; the rest stands. -/
theorem State.abandonRuns_spec (n : Nat) :
    (s.abandonRuns n).tested = (s.apart, s.bst.running.filter fun x => x.id.die ≠ n) ∧ ∀ r ∈ (s.abandonRuns n).bst.runs, r.die ≠ n := by
  have hstopped : ∀ (u : State) x misr ref, ((((u.drew.releaseUnit (SliceRun.id x)).reportSlice x.id Slice.aborted misr ref).enterOnly x
      Slice.aborted misr ref).sticky Fld.BST_STATUS_ABORT_SEEN).tested = u.tested := fun u x _ _ =>
    (tested_offRecord.sticky _ (by decide)).trans ((tested_offRecord.reportSlice _ _ _ _ _).trans (u.drew.tested_releaseUnit x.id))
  have hskipped : ∀ (u : State) (r : BistRun), (r.todo.foldl (fun s t => s.skipSlice r t) u).tested = u.tested := fun u r =>
    foldl_keeps State.tested (fun u t => u.tested_skipSlice r t) _ u
  unfold State.abandonRuns
  dsimp only
  refine ⟨?_, fun r hr => ?_⟩
  · refine (foldl_keeps State.tested (fun u r => u.tested_endRun r) _ _).trans ((foldl_keeps State.tested hskipped _ _).trans
      ((foldl_keeps State.tested (fun u x => hstopped u x _ _) _ _).trans ?_))
    refine Prod.ext (apart_offRecord.stickyIf s (by decide) _) ?_
    dsimp only [State.tested]
    rw [State.stickyIf_bst]
  · obtain ⟨hmem, hnot⟩ := State.mem_runs_of_ended _ _ hr
    intro he
    exact hnot (List.mem_filter.2 ⟨hmem, decide_eq_true he⟩)

/-- A die in BIST that is initialised anew is preparing, and nothing runs on it (R211). -/
theorem State.renewDie_spec {n : Nat} (hn : n < s.rol.dies.length) :
    (∀ r ∈ (s.renewDie n).bst.runs, r.die ≠ n) ∧ (∀ x ∈ (s.renewDie n).bst.running, x.id.die ≠ n) ∧
      ((s.renewDie n).die n).ready = false ∧ ((s.renewDie n).die n).preparing = true := by
  obtain ⟨htested, hruns⟩ := s.abandonRuns_spec n
  have hrunning : (s.abandonRuns n).bst.running = s.bst.running.filter fun x => x.id.die ≠ n := congrArg Prod.snd htested
  have hlen := dies_length_of_apart (t := s.abandonRuns n) (s := s) (congrArg Prod.fst htested)
  have hdie := (s.abandonRuns n).die_setDie_self (hlen.symm ▸ hn)
    { (s.abandonRuns n).die n with ready := false, preparing := true, renewed := false }
  refine ⟨hruns, fun x hx => ?_, congrArg Die.ready hdie, congrArg Die.preparing hdie⟩
  have hx : x ∈ s.bst.running.filter fun x => x.id.die ≠ n := hrunning ▸ hx
  exact of_decide_eq_true (List.mem_filter.1 hx).2

/-- A BIST_RUN that reaches a die which a pending change takes out of BIST starts, and the die is initialised anew at once (log 114). -/
theorem State.doControl_of_leaving {n cid unit slices : Nat} {m : MapChange} (hj : s.jobOf cid = .bist n unit slices)
    (hh : s.holds n .bist = true) (hr : s.rotRunOn n = false) (hm : s.rol.pend = some m)
    (hrole : (mapAt m.map n).role = .stripe ∨ (mapAt m.map n).role = .spare) :
    ∃ u : State, u.apart = s.apart ∧ s.doControl n cid = u.renewDie n := by
  let u := (s.setJob cid .none).startNamed n unit slices cid
  have hu : u.apart = s.apart := (State.apart_advanceRun _ _ _ _).trans rfl
  have hpend : u.rol.pend = some m := (congrArg Apart.pend hu).trans hm
  refine ⟨u, hu, ?_⟩
  have he : s.doControl n cid = u.releave n := by simp [State.doControl, hj, hh, hr, u]
  rw [he, State.releave, hpend]
  exact if_pos hrole

/-! ## The obligation -/

/-- Settles O13: each command by the rule of its part above. -/
theorem diesGetReadyAndDrain : Obligations.DiesGetReadyAndDrain := by
  unfold Obligations.DiesGetReadyAndDrain
  intro s n hp hd hn
  have hlen : n < s.rol.dies.length := hd.symm ▸ hn
  have hdie : dieOk n = true := decide_eq_true hn
  refine ⟨?prepared, ?checked, ?restored, ?drained, ?left⟩
  case prepared =>
    intro gb hgb hprep hpow hwd hchk
    refine yields_of_runIf (exec_diePrepared s n gb) (by simpa [Instr.wf, hdie, u32] using hgb) hp ?_
    obtain ⟨d, hrol, hready, hdone, htrained⟩ := s.doDiePrepared_rol hprep hpow hwd hchk gb
    have hd' : (s.doDiePrepared n gb).die n = d := by
      unfold State.die
      rw [hrol]
      exact s.die_setDie_self hlen d
    rw [State.die_commit, hd']
    exact ⟨hready, hdone, htrained⟩
  case checked =>
    intro a b hpow hwd hchk himg hrep hck
    refine yields_of_runIf (exec_replicaCheckDone s n a b) hdie hp ?_
    have he : (s.doReplicaCheck n a b).casks.a = (s.replicaResult n 0 a).casks.a := by
      simp only [State.doReplicaCheck, hpow, hwd, hchk]
      exact ((State.saveCheck_a _).trans (State.rackCheck_a _)).trans (State.replicaResult_b _ n b)
    rw [commit_casks, he, s.replicaResult_a himg]
    exact ⟨getD_modAt_self (hrep.symm ▸ hn) _ _, getD_modAt_self (hck.symm ▸ hn) _ _⟩
  case restored =>
    intro c hc hpow hwd hbad hsrc
    refine yields_of_runIf (exec_replicaRestore s n c) (by simp [Instr.wf, hdie, hc]) hp ?_
    have hrep : n < (s.cask c).replicas.length := by
      by_contra hge
      rw [List.getD_eq_default _ _ (Nat.not_lt.1 hge)] at hbad
      cases hbad
    simp only [State.cask_commit, flag_commit (f := Fld.CAL_STATUS_REPLICA_RESTORED) (by decide), State.doReplicaRestore, hpow, hwd, hbad,
      hsrc]
    refine ⟨?_, flag_sticky _ (by decide) (by decide)⟩
    have hcask := s.cask_modCask hc fun k => { k with replicas := modAt k.replicas n fun _ => some true }
    exact (congrArg (fun k => k.replicas.getD n none) hcask).trans (getD_modAt_self hrep _ _)
  case drained =>
    intro hdr hf
    refine yields_of_runIf (exec_drainEnd s n) hdie hp ?_
    rw [State.die_commit]
    exact s.draining_doDrainEnd hlen hdr hf
  case left =>
    intro cid unit slices m hj hh hr hm hrole
    refine yields_of_runIf (exec_control s n cid) hdie hp ?_
    obtain ⟨u, hu, he⟩ := s.doControl_of_leaving hj hh hr hm hrole
    rw [State.die_commit, commit_bst, he]
    exact u.renewDie_spec (dies_length_of_apart hu ▸ hlen)

end Sys2Proof.Machine
end

section
/-! Milestones, takes, records of channel 0 and the other work that a frame's completion sets off: what of it reaches the frames, the
chain, the take and channel 0 (R104, R106, R144, R180, R240, R276, R282, R397, R400). -/

namespace Sys2Proof.Machine

open Sys2Proof

variable (s : State)

/-- What stands on both ways stands. -/
theorem apart_ite {c : Prop} [Decidable c] {t u : State} {a : Apart} (ht : t.apart = a) (hu : u.apart = a) :
    (if c then t else u).apart = a := by
  split
  · exact ht
  · exact hu

/-! ## The chain and its milestones -/

theorem State.apart_pickJob : s.pickJob.apart = s.apart := by
  unfold State.pickJob
  split
  · rfl
  · split <;> rfl
  · rfl
  · dsimp only
    split <;> rfl

theorem State.apart_wantJob : s.wantJob.apart = s.apart := s.pickJob.apart_wantCrypto.trans s.apart_pickJob

theorem State.apart_msMerged (gone into : Nat) : (s.msMerged gone into).apart = s.apart :=
  (apart_offRecord.event _ _ _).trans (apart_offRecord.sticky s (by decide))

theorem State.apart_putClosing (m : Milestone) (early : List Nat) : (s.putClosing m early).apart = s.apart := by
  unfold State.putClosing
  exact (State.apart_wantJob _).trans (Eq.trans rfl (foldl_keeps State.apart (fun u g => u.apart_msMerged g m.frame) _ s))

/-- A milestone that falls due waits for its signature; the chain goes on as it is. -/
theorem State.apart_milestoneDue (k snap closing takeId : Nat) (dropped : Bool) :
    (s.milestoneDue k snap closing takeId dropped).apart = s.apart := by
  have hcounted : (if dropped then { s with sec.msDrops := s.sec.msDrops + 1 } else s : State).apart = s.apart := apart_ite rfl rfl
  unfold State.milestoneDue
  split
  · rfl
  · rw [← hcounted]
    dsimp only
    generalize (if dropped = true then _ else _ : State) = u
    exact apart_ite rfl (apart_ite ((apart_offRecord.sticky _ (by decide)).trans rfl) (apart_ite ((State.apart_putClosing _ _ _).trans rfl)
      ((State.apart_wantJob _).trans (Eq.trans rfl ((foldl_keeps State.apart (fun u g => u.apart_msMerged g k) _ _).trans rfl)))))

/-- A chain that starts leaves the rest. -/
theorem State.apart_startChain (c0 : Nat) : ∃ c, (s.startChain c0).apart = { s.apart with chain := c } := by
  rw [← s.apart_wantTrng]
  exact ⟨_, (apart_offRecord.event _ _ _).trans rfl⟩

/-- A frame in a chain adds one link over its metadata and the digests of its rows (R397). -/
theorem State.chainFrame_of_chain {c0 before pos : Nat} {seed last : List Byte} (hc : s.sec.chain = some (c0, seed, last, before, pos))
    (k : Nat) (md digests : List Byte) :
    (s.chainFrame k md digests).1.apart = { s.apart with chain := some (c0, seed, linkOf last md digests, k, pos + 1) } ∧
      (s.chainFrame k md digests).2 = linkOf last md digests := by
  have hgo : (s.sec.chain.isNone && !s.sec.chainOver) = false := by rw [hc]; rfl
  unfold State.chainFrame
  rw [hgo, if_neg Bool.false_ne_true]
  dsimp only
  rw [hc]
  exact ⟨(apart_offRecord.setPair _ (by decide) (by decide) _).trans rfl, rfl⟩

theorem State.apart_chainFrame (k : Nat) (md digests : List Byte) :
    ∃ c, (s.chainFrame k md digests).1.apart = { s.apart with chain := c } := by
  have hadd : ∀ u : State, ∃ c, (match u.sec.chain with
      | none => (u, List.replicate 32 0)
      | some (c0, seed, last, _, pos) =>
        let h := linkOf last md digests
        let s := { u with sec.chain := some (c0, seed, h, k, pos + 1), sec.msFirst := some (u.sec.msFirst.getD k) }
        (s.setPair Reg.SEC_CHAIN_FRAME_LO k, h)).1.apart = { u.apart with chain := c } := by
    intro u
    split
    · exact ⟨_, rfl⟩
    · exact ⟨_, (apart_offRecord.setPair _ (by decide) (by decide) _).trans rfl⟩
  unfold State.chainFrame
  split
  · obtain ⟨c, hc⟩ := s.apart_startChain k
    obtain ⟨d, hd⟩ := hadd (s.startChain k)
    exact ⟨d, hd.trans (by rw [hc])⟩
  · exact hadd s

theorem State.apart_endChain (cause : Nat) : ∃ c, (s.endChain cause).apart = { s.apart with chain := c } := by
  unfold State.endChain
  split
  · exact ⟨_, rfl⟩
  · exact ⟨none, (apart_offRecord.event _ _ _).trans rfl⟩

/-! ## The take -/

/-- From `s` to `t` the take in progress has changed, and it holds the frames `fs`. -/
def State.Takes (s t : State) (fs : List TakeFrame) : Prop := ∃ r, t.apart = { s.apart with run := some r } ∧ r.t.frames = fs

variable {s} in
theorem State.Takes.after {t u : State} {fs : List TakeFrame} (h : State.Takes t u fs) {r : Option TakeRun}
    (hs : t.apart = { s.apart with run := r }) : State.Takes s u fs := by
  obtain ⟨q, hq, hfs⟩ := h
  exact ⟨q, by rw [hq, hs], hfs⟩

variable {s} in
theorem State.Takes.of_apart {t u : State} {fs : List TakeFrame} (h : State.Takes t u fs) (hs : t.apart = s.apart) :
    State.Takes s u fs := by
  obtain ⟨q, hq, hfs⟩ := h
  exact ⟨q, by rw [hq, hs], hfs⟩

theorem State.apart_showTake (t : Take) (st : Nat) : (s.showTake t st).apart = s.apart := by
  have hoff := apart_offRecord
  exact (hoff.setRegN _ (by decide) _).trans ((hoff.setRegN _ (by decide) _).trans ((hoff.setPair _ (by decide) (by decide) _).trans
    ((hoff.setPair _ (by decide) (by decide) _).trans ((hoff.setPair _ (by decide) (by decide) _).trans (hoff.setRegN s (by decide) _)))))

theorem State.takes_setRun (r : TakeRun) : State.Takes s (s.setRun r) r.t.frames := ⟨r, (State.apart_showTake _ _ _).trans rfl, rfl⟩

theorem State.apart_writeIndex (t : Take) : (s.writeIndex t).apart = s.apart := rfl

theorem State.takes_rewrite (r : TakeRun) : State.Takes s (s.rewrite r) r.t.frames := by
  unfold State.rewrite State.Takes
  dsimp only
  rw [State.apart_writeIndex]
  exact s.takes_setRun { r with t := { r.t with complete := lastComplete r.t.frames } }

theorem State.takes_setStage (r : TakeRun) (stage : Nat) : State.Takes s (s.setStage r stage) r.t.frames := by
  unfold State.setStage
  split
  · exact s.takes_setRun r
  · exact s.takes_rewrite { r with stage }

theorem State.takes_closeAt (r : TakeRun) : State.Takes s (s.closeAt r) r.t.frames := by
  have hmarked : (if r.t.trig + r.t.post ≤ r.t.last then { r with t := r.t.mark TFlag.extended } else r).t.frames = r.t.frames := by
    split <;> rfl
  rw [← hmarked]
  unfold State.closeAt
  dsimp only
  generalize (if r.t.trig + r.t.post ≤ r.t.last then _ else _ : TakeRun) = q
  split
  · next t _ => exact s.takes_setStage { q with endSnap := some t } 3
  · exact s.takes_setStage { q with endSnap := none } 2

/-- A take that gets its last frame closes at it and holds the frames it held. (The definition is opened before it is applied: applied,
the kernel would compute the capacity, a division by MiB in unary.) -/
theorem State.setLast_eq (r : TakeRun) (want : Nat) : ∃ (c : Bool) (t : Take), t.frames = r.t.frames ∧
    s.setLast r want = (s.stickyIf c Fld.CEL_STATUS_TRUNCATED).closeAt { r with t, want } := by
  generalize hF : @State.setLast = F
  delta State.setLast at hF
  subst hF
  beta_reduce
  obtain ⟨e, cut⟩ := r.t.capped want
  dsimp only
  refine ⟨_, _, ?_, rfl⟩
  dsimp only
  split <;> rfl

theorem State.takes_setLast (r : TakeRun) (want : Nat) : State.Takes s (s.setLast r want) r.t.frames := by
  obtain ⟨c, t, ht, he⟩ := s.setLast_eq r want
  rw [he, ← ht]
  exact (State.takes_closeAt _ { r with t, want }).of_apart (apart_offRecord.stickyIf s (by decide) c)

theorem State.takes_extendTake (r : TakeRun) (want : Nat) : State.Takes s (s.extendTake r want) r.t.frames := by
  have hcut : ∀ q : TakeRun, State.Takes s ((s.sticky Fld.CEL_STATUS_TRUNCATED).closeAt q) q.t.frames := fun q =>
    (State.takes_closeAt _ q).of_apart (apart_offRecord.sticky s (by decide))
  unfold State.extendTake
  dsimp only
  split
  · exact hcut _
  · split
    · exact hcut _
    · exact s.takes_setLast _ _
  · split
    · split
      · exact hcut _
      · exact s.takes_setLast _ _
    · exact s.takes_setLast _ _

/-- A committed frame is out of the take in progress: there is none, it is not armed yet, or the frame lies outside it. -/
abbrev TakeRun.leavesOut (r : TakeRun) (k : Nat) : Prop := r.stage = 0 ∨ k ≤ r.t.arm ∨ (2 ≤ r.stage ∧ (k < r.t.first ∨ r.t.last < k))

/-- The take that holds a committed frame records it, with its metadata and rows (R240). -/
theorem State.takes_takeRecord {r : TakeRun} (hr : s.cel.run = some r) {f : FrameW} (hin : ¬r.leavesOut f.k) (md : List Byte)
    (rows : List (Nat × List Byte)) (before : List Byte) :
    ∃ fs, State.Takes s (s.takeRecord f md rows before) fs ∧ ∃ x ∈ fs, x.k = f.k ∧ x.metadata = md ∧ x.rows = rows := by
  have hput : ∀ (c : Prop) [Decidable c] (q : TakeRun), State.Takes s (if c then s.rewrite q else s.setRun q) q.t.frames := by
    intro c _ q
    split
    · exact s.takes_rewrite q
    · exact s.takes_setRun q
  have hext : ∀ (u : State) (fs : List TakeFrame) (c : TakeRun → Prop) [DecidablePred c], State.Takes s u fs → State.Takes s
      (match u.cel.run with | some r => if c r then u.extendTake r r.want else u | none => u) fs := by
    rintro u _ c _ ⟨q, hq, rfl⟩
    have hrun : u.cel.run = some q := congrArg Apart.run hq
    rw [hrun]
    dsimp only
    split
    · exact (u.takes_extendTake q q.want).after hq
    · exact ⟨q, hq, rfl⟩
  unfold State.takeRecord
  rw [hr]
  dsimp only
  rw [if_neg hin]
  refine ⟨_, hext _ _ _ (hput _ _), _, List.mem_append_right _ (List.mem_singleton_self _), rfl, rfl, rfl⟩

/-- Whatever a committed frame does to the take, it does to nothing else. -/
theorem State.apart_takeRecord (f : FrameW) (md : List Byte) (rows : List (Nat × List Byte)) (before : List Byte) :
    ∃ r, (s.takeRecord f md rows before).apart = { s.apart with run := r } := by
  cases hr : s.cel.run with
  | none =>
    refine ⟨s.apart.run, ?_⟩
    unfold State.takeRecord
    rw [hr]
  | some r =>
    by_cases hout : r.leavesOut f.k
    · refine ⟨s.apart.run, ?_⟩
      unfold State.takeRecord
      rw [hr]
      dsimp only
      rw [if_pos hout]
    · obtain ⟨_, ⟨q, hq, -⟩, -⟩ := s.takes_takeRecord hr hout md rows before
      exact ⟨_, hq⟩

/-! ## A FRAME record on channel 0 (R276, R282) -/

/-- A channel changed in anything but its transfer. -/
theorem State.apart_setChan {n : Nat} {c : Chan} (h : c.xfer = (s.chan n).xfer) : (s.setChan n c).apart = s.apart := by
  have hx : ((s.setChan n c).chan 0).xfer = (s.chan 0).xfer := by
    have hmap := congrArg (fun l => l.getD 0 none) (map_modAt Chan.xfer s.hif.chans n (fun _ => c) chanIdle h)
    have hget : ∀ l : List Chan, (l.map Chan.xfer).getD 0 none = (l.getD 0 chanIdle).xfer := fun l =>
      List.getD_map l chanIdle Chan.xfer
    exact (hget _).symm.trans (hmap.trans (hget _))
  simp only [State.apart, hx]
  rfl

/-- A record of channel 0 that is dropped is counted. -/
theorem State.apart_dropRec_zero (r : Rec) : (s.dropRec 0 r).apart = { s.apart with drops := s.apart.drops + 1 } := by
  have hcount : ∀ u : State, (u.bump (Reg.HIF_CH_DROP_COUNT 0)).apart = { u.apart with drops := u.apart.drops + 1 } := fun u => by
    simp [State.apart, State.chan]
  have hdropped : ∀ c : Chan, c.xfer = (s.chan 0).xfer →
      (((s.setChan 0 c).bump (Reg.HIF_CH_DROP_COUNT 0)).sticky (Fld.HIF_CH_STATUS_DROP_SEEN 0)).apart =
        { s.apart with drops := s.apart.drops + 1 } := fun c hc => by
    rw [apart_offRecord.sticky _ (by decide), hcount, s.apart_setChan hc]
  unfold State.dropRec
  dsimp only
  split
  · exact hdropped _ rfl
  · exact hdropped _ rfl

/-- Buffers that are enough for a record are enough for a shorter one. -/
theorem bufsFor_isSome_of_le {l : List BufDesc} {m n : Nat} (hmn : m ≤ n) (h : (bufsFor l n).isSome = true) :
    (bufsFor l m).isSome = true := by
  induction l generalizing m n with
  | nil =>
    cases n with
    | zero => rw [Nat.le_zero.1 hmn]; rfl
    | succ n => simp [bufsFor] at h
  | cons b l ih =>
    cases m with
    | zero => rfl
    | succ m =>
      obtain ⟨n, rfl⟩ : ∃ k, n = k + 1 := ⟨n - 1, by omega⟩
      simp only [bufsFor] at h ⊢
      split
      · rfl
      · next hm =>
        have hn : ¬(decide (n + 1 ≤ b.len) || !BufDesc.ok b) = true := by
          simp only [Bool.or_eq_true, decide_eq_true_eq, not_or] at hm ⊢
          exact ⟨by omega, hm.2⟩
        rw [if_neg hn, Option.isSome_map] at h
        rw [Option.isSome_map]
        exact ih (by omega) h

/-- Buffers that are enough are so with others before them. -/
theorem bufsFor_isSome_of_drop {l : List BufDesc} {k n : Nat} (h : (bufsFor (l.drop k) n).isSome = true) : (bufsFor l n).isSome = true := by
  induction l generalizing k with
  | nil => simpa using h
  | cons b l ih =>
    cases k with
    | zero => exact h
    | succ k =>
      have hl := ih (k := k) h
      cases n with
      | zero => rfl
      | succ n =>
        simp only [bufsFor]
        split
        · rfl
        · rw [Option.isSome_map]
          exact bufsFor_isSome_of_le (by omega) hl

theorem State.chan_setChan_self {n : Nat} (h : n < s.hif.chans.length) (c : Chan) : (s.setChan n c).chan n = c :=
  getD_modAt_self h _ _

/-- A FRAME record with something in it that is issued on channel 0 is in transfer, or dropped whole. -/
theorem State.apart_issue_zero {r : Rec} (hr : 0 < r.len) :
    (∃ x, x.record = r ∧ (s.issue 0 r).apart = { s.apart with xfer := some x }) ∨
      (s.issue 0 r).apart = { s.apart with drops := s.apart.drops + 1 } := by
  cases hd : s.issueDrops 0 r with
  | true =>
    refine .inr ?_
    unfold State.issue
    rw [if_pos hd]
    exact s.apart_dropRec_zero r
  | false =>
    have hsome : (bufsFor (s.chan 0).bufs r.len).isSome = true := by
      simp only [State.issueDrops, Bool.or_eq_false_iff, Option.isNone_eq_false_iff] at hd
      exact bufsFor_isSome_of_drop hd.1.2
    have hlen : 0 < s.hif.chans.length := by
      by_contra h0
      have hnil : s.hif.chans = [] := List.eq_nil_of_length_eq_zero (by omega)
      obtain ⟨n, hn⟩ : ∃ n, r.len = n + 1 := ⟨r.len - 1, by omega⟩
      rw [hn] at hsome
      simp [State.chan, hnil, chanIdle, bufsFor] at hsome
    have htake : ∀ k, (s.take 0 k).apart = s.apart := fun k =>
      (apart_offRecord.setFld _ (by decide) _).trans (s.apart_setChan (by rfl))
    have hbufs : ∀ k, ((s.take 0 k).chan 0).bufs = (s.chan 0).bufs := fun k =>
      (congrArg Chan.bufs (s.chan_setChan_self hlen { s.chan 0 with used := (s.chan 0).used + k })).trans rfl
    have hstart : ∀ u : State, u.apart = s.apart → (u.chan 0).bufs = (s.chan 0).bufs → 0 < u.hif.chans.length → ∀ held,
        (∃ x, x.record = r ∧ (u.startXfer 0 r held).apart = { s.apart with xfer := some x }) ∨
          (u.startXfer 0 r held).apart = { s.apart with drops := s.apart.drops + 1 } := by
      intro u hu hb hl held
      rw [← hb] at hsome
      unfold State.startXfer
      dsimp only
      split
      · next hnone => rw [hnone] at hsome; cases hsome
      · next k _ =>
        split
        · refine .inl ⟨{ record := r, first := (u.chan 0).bufCons, count := k, held, bufs := (u.chan 0).bufs.take k }, rfl, ?_⟩
          rw [← hu]
          exact congrArg (fun c : Chan => ({ u.apart with xfer := c.xfer } : Apart)) (u.chan_setChan_self hl _)
        · refine .inr ?_
          rw [State.apart_dropRec_zero, apart_offRecord.sticky _ (by decide), u.apart_setChan (by rfl), hu]
    have hgap : ∀ u : State, ∀ c : Prop, ∀ [Decidable c], (if c then { u with hif.gap := false } else u : State).apart = u.apart := by
      intro u c _
      split <;> rfl
    unfold State.issue
    rw [if_neg (by simp [hd])]
    dsimp only
    rw [hgap]
    exact hstart _ (htake _) (hbufs _) ((length_modAt _ _ _).symm ▸ hlen) _

/-! ## The work beside -/

theorem State.apart_issueRaw (f : FrameW) : (s.issueRaw f).apart = s.apart := by
  unfold State.issueRaw
  split
  · rfl
  · exact apart_offRecord.issue s (by decide) _

theorem State.apart_notePass (o : PassOut) : (s.notePass o).apart = s.apart :=
  (apart_offRecord.stickyIf _ (by decide) _).trans (apart_offRecord.stickyIf s (by decide) _)

theorem State.apart_showCounts (f : FrameW) (o : PassOut) (sat : Plane) : (s.showCounts f o sat).apart = s.apart := by
  have hoff := apart_offRecord
  have hp : ∀ n, 0x1404 + 256 * n ≠ Reg.HIF_CH_DROP_COUNT 0 ∧ 0x1404 + 256 * n + 4 ≠ Reg.HIF_CH_DROP_COUNT 0 ∧
      0x140C + 256 * n ≠ Reg.HIF_CH_DROP_COUNT 0 ∧ 0x1410 + 256 * n ≠ Reg.HIF_CH_DROP_COUNT 0 := fun n => by
    simp only [Reg.HIF_CH_DROP_COUNT]
    omega
  unfold State.showCounts
  dsimp only
  refine (foldl_keeps State.apart (fun u n => ?_) _ _).trans ((hoff.stickyIf _ (by decide) _).trans ((hoff.bump _ (by decide) _).trans
    ((hoff.setRegN _ (by decide) _).trans ((hoff.setRegN _ (by decide) _).trans (hoff.setRegN s (by decide) _)))))
  split
  · rfl
  · obtain ⟨h1, h2, h3, h4⟩ := hp n
    exact (hoff.setRegN _ h4 _).trans ((hoff.setRegN _ h3 _).trans (hoff.setPair u h1 h2 _))

theorem State.apart_monitor (f : FrameW) (h : Plane) : (s.monitor f h).1.apart = s.apart :=
  (apart_offRecord.setRegN _ (by decide) _).trans rfl

theorem State.apart_publishMap (f : FrameW) (scores : List (Nat × Nat × Nat)) : (s.publishMap f scores).apart = s.apart := by
  unfold State.publishMap
  dsimp only
  split
  · exact (apart_offRecord.event _ _ _).trans rfl
  · rfl

theorem State.apart_scoreFrame (k score : Nat) : (s.scoreFrame k score).apart = s.apart := by
  have hrun : ∀ n, (s.setRegN Reg.CAL_REQ_RUN n).apart = s.apart := fun n => apart_offRecord.setRegN s (by decide) n
  unfold State.scoreFrame
  dsimp only
  split_ifs
  · exact hrun _
  · rfl
  · exact (apart_offRecord.event _ _ _).trans ((apart_offRecord.sticky _ (by decide)).trans (hrun _))
  · exact hrun _
  · exact hrun _

theorem State.apart_putRevisions (due : Nat × Rec → Bool) : (s.putRevisions due).apart = s.apart := by
  unfold State.putRevisions
  refine (foldl_keeps State.apart (fun u e => ?_) _ _).trans rfl
  exact (apart_offRecord.sticky _ (by decide)).trans ((apart_offRecord.bump _ (by decide) 1).trans
    (apart_offRecord.formRec u (by decide) e.2))

theorem State.apart_revise (f : FrameW) (d : DefOut) : (s.revise f d).apart = s.apart := by
  unfold State.revise
  dsimp only
  split_ifs
  · rfl
  · rfl
  · exact (State.apart_putRevisions _ _).trans rfl

theorem State.apart_goState (p : PState) : (s.goState p).apart = s.apart := by
  unfold State.goState
  split
  · rfl
  · exact (apart_offRecord.event _ _ _).trans ((apart_offRecord.sticky _ (by decide)).trans rfl)

theorem State.apart_completeAfter (ch typ frame cid status reason : Nat) (value : Option Nat) :
    (s.completeAfter ch typ frame cid status reason value).apart = s.apart := by
  refine (foldl_keeps State.apart (fun u a => ?_) _ _).trans rfl
  split
  · rfl
  · exact (State.apart_complete _ _ _ _ _ _).trans rfl

end Sys2Proof.Machine
end

section
/-! Frames complete (R19, R21, R133, R240, R276, R282, R312, R396, R397). -/

namespace Sys2Proof.Machine

open Sys2Proof

variable (s : State)

theorem exec_previewFrameComplete (k : Nat) :
    exec (.previewFrameComplete k) s =
      runIf "PREVIEW_FRAME_COMPLETE" (Instr.wf (.previewFrameComplete k)) (fun s => s.doPreview k) s := rfl
theorem exec_committedFrameComplete (k : Nat) :
    exec (.committedFrameComplete k) s =
      runIf "COMMITTED_FRAME_COMPLETE" (Instr.wf (.committedFrameComplete k)) (fun s => s.doCommitted k) s := rfl

/-! ## Metadata (R114) -/

theorem length_leBytes (n v : Nat) : (leBytes n v).length = n := by
  induction n generalizing v with
  | zero => rfl
  | succ n ih => exact congrArg (· + 1) (ih _)

theorem FrameW.length_metadata (f : FrameW) (m : MetaIn) : (f.metadata m).length = 96 := by
  unfold FrameW.metadata
  simp only [List.length_append, length_leBytes]

/-- Metadata begin with the frame's number. -/
theorem FrameW.take_metadata (f : FrameW) (m : MetaIn) : (f.metadata m).take 8 = leBytes 8 f.k := by
  unfold FrameW.metadata
  simp only [List.append_assoc]
  rw [List.take_left' (length_leBytes 8 f.k)]

/-! ## Frames in flight -/

/-- A frame that was put in place is the one of its number. -/
theorem State.eq_of_mem_setFrame {f g : FrameW} (h : g ∈ (s.setFrame f).frames) (hk : g.k = f.k) : g = f := by
  obtain ⟨q, -, rfl⟩ := List.mem_map.1 h
  split at hk
  · next hq => exact if_pos hq
  · next hq => exact absurd hk hq

/-- Frames that nothing needs are forgotten; none comes in. -/
theorem State.tidy_frames_subset : s.tidy.frames ⊆ s.frames := fun _ h => (List.mem_filter.1 h).1

theorem State.k_of_frameOf {k : Nat} {f : FrameW} (h : s.frameOf k = some f) : f.k = k := by
  simpa using List.find?_some h

theorem frames_of_apart {s t : State} (h : t.apart = s.apart) : t.frames = s.frames := congrArg Apart.frames h

/-! ## Preview frames (R133) -/

/-- A preview frame that was put in place stays done while it is queued for revisions and the due ones are issued. -/
theorem State.prevDone_of_mem {q g : FrameW} (hq : q.prevDone = true) (hk : g.k = q.k) {c : Prop} [Decidable c] {l : List Nat} {n : Nat}
    (hg : g ∈ (State.dueRevisions (if c then { s.setFrame q with trs.queuedPrev := l } else s.setFrame q) n).tidy.frames) :
    g.prevDone = true := by
  have hkept : (State.dueRevisions (if c then { s.setFrame q with trs.queuedPrev := l } else s.setFrame q) n).frames =
      (s.setFrame q).frames := (frames_of_apart (State.apart_putRevisions _ _)).trans (by split <;> rfl)
  have hset : g ∈ (s.setFrame q).frames := hkept ▸ State.tidy_frames_subset _ hg
  rw [s.eq_of_mem_setFrame hset hk, hq]

/-- A preview frame that completes is done: nothing that its delivery sets off puts another frame in its place. -/
theorem State.prevDone_putPreview {f g : FrameW} (hg : g ∈ (s.putPreview f).frames) (hk : g.k = f.k) : g.prevDone = true := by
  unfold State.putPreview at hg
  generalize f.passOut f.missPrev f.prevRows = o at hg
  dsimp only at hg
  generalize State.issue _ _ _ = u at hg
  exact State.prevDone_of_mem u (q := { f with prevDone := true, prevQueued := _, prevOut := o.d.out, prevFlags := o.d.flags}) rfl hk hg

/-! ## Delivery (R240, R276, R282, R397) -/

/-- The digests of a frame's rows, which its link covers (R397). -/
def rowDigests (rows : List (Nat × List Byte)) : List Byte := rows.flatMap fun r => rowDigest r.1 r.2

/-- The state in which a committed frame is chained: a chain that is to start has started (R396). -/
def State.chained (k : Nat) : State := if s.sec.chain.isNone && !s.sec.chainOver then s.startChain k else s

theorem State.apart_chained (k : Nat) : ∃ c, (s.chained k).apart = { s.apart with chain := c } := by
  unfold State.chained
  split
  · exact s.apart_startChain k
  · exact ⟨_, rfl⟩

theorem State.chained_of_chain {c} (hc : s.sec.chain = some c) (k : Nat) : s.chained k = s := by
  unfold State.chained
  rw [hc]
  rfl

/-- A committed frame is chained, its record issued on channel 0, and it joins its take; its milestone changes none of these. -/
theorem State.apart_deliverFrame (f : FrameW) (md : List Byte) (rows : List (Nat × List Byte)) :
    (s.deliverFrame f md rows).apart =
      (let t := (s.chained f.k).chainFrame f.k md (rowDigests rows)
       let u := t.1.issue 0 (frameRec f (md ++ t.2) rows (decide (t.1.trs.lastFrame = some f.k)))
       u.takeRecord f (md ++ t.2) rows (s.chained f.k).linkBefore).apart :=
  State.apart_milestoneDue _ _ _ _ _ _

theorem length_frameRec_pos (f : FrameW) {md : List Byte} (hmd : 0 < md.length) (link : List Byte) (rows : List (Nat × List Byte))
    (last : Bool) : 0 < (frameRec f (md ++ link) rows last).len := by
  simp only [frameRec, List.length_append]
  omega

/-- What a committed frame's delivery leaves: the frames in flight and the last frame of the stream. -/
theorem State.deliverFrame_keeps (f : FrameW) {md : List Byte} (hmd : 0 < md.length) (rows : List (Nat × List Byte)) :
    (s.deliverFrame f md rows).apart.frames = s.apart.frames ∧ (s.deliverFrame f md rows).apart.lastFrame = s.apart.lastFrame := by
  obtain ⟨c, hc⟩ := s.apart_chained f.k
  obtain ⟨d, hd⟩ := (s.chained f.k).apart_chainFrame f.k md (rowDigests rows)
  rw [hc] at hd
  rw [s.apart_deliverFrame]
  dsimp only
  generalize (s.chained f.k).chainFrame f.k md (rowDigests rows) = t at hd ⊢
  obtain ⟨r, hr⟩ := (t.1.issue 0 (frameRec f (md ++ t.2) rows (decide (t.1.trs.lastFrame = some f.k)))).apart_takeRecord f (md ++ t.2) rows
    (s.chained f.k).linkBefore
  rw [hr]
  obtain ⟨x, -, hx⟩ | hx := t.1.apart_issue_zero (length_frameRec_pos f hmd t.2 rows (decide (t.1.trs.lastFrame = some f.k)))
  · rw [hx, hd]
    exact ⟨rfl, rfl⟩
  · rw [hx, hd]
    exact ⟨rfl, rfl⟩

/-- From `a` to `b` the frame `f`, with the metadata `md` (its link included), went to channel 0 as one record or was dropped whole, and
into the take that holds it. -/
structure Delivered (a b : Apart) (f : FrameW) (md : List Byte) (rows : List (Nat × List Byte)) : Prop where
  record : (∃ x, b.xfer = some x ∧ x.record = frameRec f md rows false) ∨ b.drops = a.drops + 1
  take : ∀ r, a.run = some r → ¬r.leavesOut f.k →
    ∃ r', b.run = some r' ∧ ∃ x ∈ r'.t.frames, x.k = f.k ∧ x.metadata = md ∧ x.rows = rows

/-- In a chain, and not the last of its stream, a committed frame adds its link and is delivered with it. -/
theorem State.delivered_deliverFrame {c0 before pos : Nat} {seed last : List Byte} (hc : s.sec.chain = some (c0, seed, last, before, pos))
    {f : FrameW} (hlast : s.trs.lastFrame ≠ some f.k) {md : List Byte} (hmd : 0 < md.length) (rows : List (Nat × List Byte)) :
    (s.deliverFrame f md rows).apart.chain = some (c0, seed, linkOf last md (rowDigests rows), f.k, pos + 1) ∧
      Delivered s.apart (s.deliverFrame f md rows).apart f (md ++ linkOf last md (rowDigests rows)) rows := by
  obtain ⟨ht, hlink⟩ := s.chainFrame_of_chain hc f.k md (rowDigests rows)
  rw [s.apart_deliverFrame, s.chained_of_chain hc]
  dsimp only
  rw [hlink]
  generalize (s.chainFrame f.k md (rowDigests rows)).1 = t at ht ⊢
  have hnot : decide (t.trs.lastFrame = some f.k) = false := decide_eq_false (fun h => hlast ((congrArg Apart.lastFrame ht).symm.trans h))
  rw [hnot]
  have hi := t.apart_issue_zero (length_frameRec_pos f hmd (linkOf last md (rowDigests rows)) rows false)
  generalize t.issue 0 (frameRec f (md ++ linkOf last md (rowDigests rows)) rows false) = u at hi ⊢
  obtain ⟨q, hq⟩ := u.apart_takeRecord f (md ++ linkOf last md (rowDigests rows)) rows s.linkBefore
  have hkept : u.apart.chain = t.apart.chain ∧ u.apart.run = t.apart.run := by
    obtain ⟨x, -, hx⟩ | hx := hi
    · rw [hx]; exact ⟨rfl, rfl⟩
    · rw [hx]; exact ⟨rfl, rfl⟩
  obtain ⟨hchain, hrun⟩ := hkept
  refine ⟨?_, ?_, fun r hr hin => ?_⟩
  · rw [hq]
    exact hchain.trans (congrArg Apart.chain ht)
  · rw [hq]
    obtain ⟨x, hx, hu⟩ | hu := hi
    · exact .inl ⟨x, congrArg Apart.xfer hu, hx⟩
    · exact .inr ((congrArg Apart.drops hu).trans (congrArg (·.drops + 1) ht))
  · have hur : u.cel.run = some r := hrun.trans ((congrArg Apart.run ht).trans hr)
    obtain ⟨fs, ⟨r', hr', rfl⟩, hx⟩ := u.takes_takeRecord hur hin (md ++ linkOf last md (rowDigests rows)) rows s.linkBefore
    exact ⟨r', congrArg Apart.run hr', hx⟩

/-! ## Committed frames (R21) -/

/-- A committed frame that completes is done, is delivered with its metadata and the rows of its window, and ends its stream where it is
the last one. -/
theorem State.commitFrame_cases (f : FrameW) : ∃ (q : FrameW) (w v : State) (m : MetaIn) (rows : List (Nat × List Byte)),
    q.k = f.k ∧ q.comDone = true ∧ w.apart = { s.apart with frames := (s.setFrame q).frames } ∧ rows.map (·.1) = winRows f.prof ∧
      v.apart = (w.deliverFrame f (f.metadata m) rows).apart ∧
      s.commitFrame f = if v.trs.lastFrame = some f.k then v.streamEnd f.k else v.tidy := by
  unfold State.commitFrame
  dsimp only
  generalize ho : f.passOut _ _ = o
  have hrows : o.rows.map (·.1) = winRows f.prof := by
    rw [← ho]
    simp [FrameW.passOut, Function.comp_def]
  generalize hq : ({ f with comDone := true, comGap := s.hif.gap } : FrameW) = q
  have hqk : q.k = f.k := by rw [← hq]
  have hqd : q.comDone = true := by rw [← hq]
  have hmon : ∀ p : State, p.apart = (s.setFrame q).apart →
      (p.monitor f (f.highPlane o.d.out o.d.flags)).1.apart = { s.apart with frames := (s.setFrame q).frames } := fun p hp =>
    (p.apart_monitor f _).trans (hp.trans rfl)
  have hbeside : ∀ (u : State) sat scores k score, (((((u.notePass o).showCounts f o sat).publishMap f scores).scoreFrame k score).revise f
      o.d).apart = u.apart := fun u sat scores k score =>
    (State.apart_revise _ _ _).trans ((State.apart_scoreFrame _ _ _).trans ((State.apart_publishMap _ _ _).trans
      ((State.apart_showCounts _ _ _ _).trans (u.apart_notePass o))))
  split
  · exact ⟨q, _, _, _, o.rows, hqk, hqd, hmon _ (apart_offRecord.setRegN _ (by decide) _), hrows, hbeside _ _ _ _ _, rfl⟩
  · exact ⟨q, _, _, _, o.rows, hqk, hqd, hmon _ rfl, hrows, hbeside _ _ _ _ _, rfl⟩

/-- The end of a stream brings no frame in. -/
theorem State.streamEnd_frames_subset (k : Nat) : (s.streamEnd k).frames ⊆ s.frames := by
  obtain ⟨c, hc⟩ := s.apart_endChain 0
  have hend : (s.endChain 0).frames = s.frames := congrArg Apart.frames hc
  have hgo : ∀ u : State, (if u.pow.st = .stream then State.goState { u with trs.lastFrame := none } .ready else u : State).frames =
      u.frames := by
    intro u
    split
    · exact (congrArg Apart.frames (State.apart_goState _ _)).trans rfl
    · rfl
  have hsub : ∀ u : State, u.frames ⊆ s.frames → (match s.tol.stopping with
      | some (_, c) => u.completeAfter 0 0 k c St.ok Why.none (some k)
      | none => u).frames ⊆ s.frames := by
    intro u hu
    split
    · rw [frames_of_apart (State.apart_completeAfter _ _ _ _ _ _ _ _)]
      exact hu
    · exact hu
  unfold State.streamEnd
  refine hsub _ ?_
  rw [hgo]
  exact fun g hg => hend ▸ (List.mem_filter.1 hg).1

/-- A committed frame that completes is done. -/
theorem State.comDone_commitFrame {f g : FrameW} (hg : g ∈ (s.commitFrame f).frames) (hk : g.k = f.k) : g.comDone = true := by
  obtain ⟨q, w, v, m, rows, hqk, hq, hw, -, hv, he⟩ := s.commitFrame_cases f
  obtain ⟨hf, -⟩ := w.deliverFrame_keeps f (md := f.metadata m) (by rw [f.length_metadata]; decide) rows
  have hframes : v.frames = (s.setFrame q).frames := (congrArg Apart.frames hv).trans (hf.trans (congrArg Apart.frames hw))
  have hset : g ∈ (s.setFrame q).frames := by
    rw [he] at hg
    rw [← hframes]
    split at hg
    · exact v.streamEnd_frames_subset f.k hg
    · exact v.tidy_frames_subset hg
  rw [s.eq_of_mem_setFrame hset (hk.trans hqk.symm), hq]

/-- So is a frame of KEEP_WARM (R312). -/
theorem State.comDone_warmFrame {f g : FrameW} (hg : g ∈ (s.warmFrame f).frames) (hk : g.k = f.k) : g.comDone = true := by
  have hput : ∀ (u : State) (q : FrameW) (h : Plane), q.k = f.k → q.comDone = true →
      g ∈ ((u.setFrame q).monitor f h).1.tidy.frames → g.comDone = true := by
    intro u q h hqk hq hmem
    have hset : g ∈ (u.setFrame q).frames := by
      rw [← frames_of_apart (State.apart_monitor (u.setFrame q) f h)]
      exact State.tidy_frames_subset _ hmem
    rw [u.eq_of_mem_setFrame hset (hk.trans hqk.symm), hq]
  unfold State.warmFrame at hg
  dsimp only at hg
  generalize f.highPlane _ _ = h at hg
  generalize s.stickyIf _ _ = u at hg
  exact hput u { f with comDone := true } h rfl rfl hg

/-- A committed frame that goes on with its stream: it adds its link to the chain and is delivered with it. -/
theorem State.delivered_commitFrame {c0 before pos : Nat} {seed last : List Byte} (hc : s.sec.chain = some (c0, seed, last, before, pos))
    {f : FrameW} (hlast : s.trs.lastFrame ≠ some f.k) : ∃ m rows, rows.map (·.1) = winRows f.prof ∧
      (s.commitFrame f).apart.chain = some (c0, seed, linkOf last (f.metadata m) (rowDigests rows), f.k, pos + 1) ∧
      Delivered s.apart (s.commitFrame f).apart f (f.metadata m ++ linkOf last (f.metadata m) (rowDigests rows)) rows := by
  obtain ⟨q, w, v, m, rows, -, -, hw, hrows, hv, he⟩ := s.commitFrame_cases f
  have hmd : 0 < (f.metadata m).length := by rw [f.length_metadata]; decide
  have hwc : w.sec.chain = some (c0, seed, last, before, pos) := (congrArg Apart.chain hw).trans hc
  have hwl : w.trs.lastFrame = s.trs.lastFrame := congrArg Apart.lastFrame hw
  obtain ⟨-, hvl⟩ := w.deliverFrame_keeps f hmd rows
  obtain ⟨hchain, hrecord, htake⟩ := w.delivered_deliverFrame hwc (hwl ▸ hlast) hmd rows
  have hgoes : v.trs.lastFrame ≠ some f.k := by
    rw [show v.trs.lastFrame = s.trs.lastFrame from (congrArg Apart.lastFrame hv).trans (hvl.trans hwl)]
    exact hlast
  have htidy : (s.commitFrame f).apart = { v.apart with frames := v.tidy.frames } := by rw [he, if_neg hgoes]; rfl
  rw [hv] at htidy
  rw [hw] at hrecord htake
  rw [htidy]
  exact ⟨m, rows, hrows, hchain, hrecord, htake⟩

/-! ## The commands -/

/-- A frame that completes is the one of its number, in the state in which its snapshot is prepared and its bursts are judged. -/
theorem State.doPreview_of {k : Nat} {f : FrameW} (hf : ((s.prepUpTo k).judgeBursts).frameOf k = some f)
    (hr : ((s.prepUpTo k).judgeBursts).prevReady f = true) : s.doPreview k = ((s.prepUpTo k).judgeBursts).putPreview f := by
  unfold State.doPreview
  dsimp only
  rw [hf]
  exact if_pos hr

theorem State.doCommitted_of {k : Nat} {f : FrameW} (hf : ((s.prepUpTo k).judgeBursts).frameOf k = some f)
    (hr : ((s.prepUpTo k).judgeBursts).comReady f = true) : s.doCommitted k = ((s.prepUpTo k).judgeBursts).commitFrame f := by
  unfold State.doCommitted
  dsimp only
  rw [hf]
  exact if_pos hr

theorem State.comDone_doCommitted {k : Nat} {f g : FrameW} (hf : ((s.prepUpTo k).judgeBursts).frameOf k = some f)
    (hr : ((s.prepUpTo k).judgeBursts).comReady f = true ∨ ((s.prepUpTo k).judgeBursts).warmReady f = true)
    (hg : g ∈ (s.doCommitted k).frames) (hk : g.k = k) : g.comDone = true := by
  have hgf : g.k = f.k := hk.trans (State.k_of_frameOf _ hf).symm
  by_cases hc : ((s.prepUpTo k).judgeBursts).comReady f = true
  · rw [s.doCommitted_of hf hc] at hg
    exact State.comDone_commitFrame _ hg hgf
  · have hwarm : s.doCommitted k = ((s.prepUpTo k).judgeBursts).warmFrame f := by
      unfold State.doCommitted
      dsimp only
      rw [hf]
      exact (if_neg hc).trans (if_pos (hr.resolve_left hc))
    rw [hwarm] at hg
    exact State.comDone_warmFrame _ hg hgf

/-- What stands apart stands after the end of the command. -/
theorem apart_commit (s t : State) : (commit s t).apart = t.apart := by
  have hchan : (commit s t).chan 0 = t.chan 0 := by rw [State.chan, commit_hif]; rfl
  simp only [State.apart, commit_frames, commit_trs, commit_cel, commit_sec, commit_rol, hchan, reg_commit_ne s t
    (show Reg.HIF_CH_DROP_COUNT 0 ≠ Reg.GLB_INT_SUMMARY by decide)]

/-- Settles O18: what a frame's completion sets off reaches the frames, the chain, the take and channel 0 by the frame's own delivery
alone. -/
theorem framesComplete : Obligations.FramesComplete := by
  unfold Obligations.FramesComplete
  intro s k f hp hk hf
  have hu64 : u64 k = true := by simpa [u64] using hk
  have hfk : f.k = k := State.k_of_frameOf _ hf
  refine ⟨fun hr => ?_, fun hr => ?_, ?_⟩
  · refine yields_of_runIf (exec_previewFrameComplete s k) hu64 hp fun g hg hgk => ?_
    rw [commit_frames, s.doPreview_of hf hr] at hg
    exact State.prevDone_putPreview _ hg (hgk.trans hfk.symm)
  · refine yields_of_runIf (exec_committedFrameComplete s k) hu64 hp fun g hg hgk => ?_
    rw [commit_frames] at hg
    exact s.comDone_doCommitted hf hr hg hgk
  · dsimp only
    intro c0 seed last before pos _ hr hlast hchain
    refine yields_of_runIf (exec_committedFrameComplete s k) hu64 hp ?_
    rw [s.doCommitted_of hf hr]
    generalize (s.prepUpTo k).judgeBursts = u at *
    have hpost := apart_commit s (u.commitFrame f)
    generalize commit s (u.commitFrame f) = t at hpost ⊢
    obtain ⟨m, rows, hrows, hlinked, hrecord, htake⟩ := u.delivered_commitFrame hchain (hfk.symm ▸ hlast)
    rw [← hpost] at hlinked hrecord htake
    rw [hfk] at hlinked htake
    refine ⟨f.metadata m, rows, f.length_metadata m, f.take_metadata m, hrows, hlinked, hrecord, fun r hrun hstage harm hwin => ?_⟩
    refine htake r hrun ?_
    rintro (h0 | ha | ⟨h2, hout⟩)
    · exact hstage h0
    · omega
    · have := hwin h2
      omega

end Sys2Proof.Machine
end

section
/-! The trim of the housekeeping converter under a direct write (R177, R337). -/

namespace Sys2Proof.Machine

open Sys2Proof

/-- A write that changes CAL_TRIM_HKC while SEC_LOCK is 0 is in force at once for the housekeeping converter (R177, R337). -/
theorem State.doTrimWrite_hkcTrim {s : State} {v : Word} (hl : s.flag Fld.SEC_STATUS_SEC_LOCK = false)
    (hv : trimWord Reg.CAL_TRIM_HKC v ≠ s.reg Reg.CAL_TRIM_HKC) :
    (s.doTrimWrite Reg.CAL_TRIM_HKC v).hkc.trim = trimWord Reg.CAL_TRIM_HKC v := by
  unfold State.doTrimWrite
  simp [hl, hv]

/-- The converter's trim after CAL_TRIM_WRITE of CAL_TRIM_HKC, at the end of the command. -/
theorem yields_hkcTrim {s : State} (hp : s.powered) {v : Word} (hl : s.flag Fld.SEC_STATUS_SEC_LOCK = false)
    (hv : trimWord Reg.CAL_TRIM_HKC v ≠ s.reg Reg.CAL_TRIM_HKC) :
    Yields (.calTrimWrite Reg.CAL_TRIM_HKC v) s fun t => t.hkc.trim = trimWord Reg.CAL_TRIM_HKC v := by
  refine yields_of_runIf (exec_calTrimWrite s Reg.CAL_TRIM_HKC v) rfl hp ?_
  rw [commit_hkc]
  exact State.doTrimWrite_hkcTrim (s := s.woken) hl hv

/-- Refutes O54: right after reset, where CAL_TRIM_HKC and the trim in force hold gain 0x800 and SEC_LOCK is 0, CAL_TRIM_WRITE of 0 to
CAL_TRIM_HKC puts 0 in force for the housekeeping converter at once, as R177 says; but of a trim's write the statement lets nothing
beside the register named differ. -/
theorem not_eventsTouchTheirPartOnly : ¬ Obligations.EventsTouchTheirPartOnly := by
  unfold Obligations.EventsTouchTheirPartOnly
  intro h
  obtain ⟨-, -, hwrites, -, -⟩ := h State.reset
  obtain ⟨-, -, -, htrim, -⟩ := hwrites Reg.CAL_TRIM_HKC 0
  obtain ⟨t, ht, hnew⟩ := yields_hkcTrim (s := State.reset) (v := 0) (by decide) (by decide) (by decide)
  have hold : t.hkc = State.reset.hkc := (htrim t ht).1 .hkc List.not_mem_nil
  rw [hold] at hnew
  exact absurd hnew (by decide)

end Sys2Proof.Machine
end

section
/-! What a snapshot fixes of the frames in flight, and what of the other work of a snapshot leaves it alone (R59, R61): completions and
records, self-test slices, and the jobs of the accelerator. -/

namespace Sys2Proof.Machine

open Sys2Proof

/-! ## What a snapshot fixes -/

/-- What snapshots alone decide of a frame: its number, whether it is closed, its closing and its opening snapshot. -/
def FrameW.shot (f : FrameW) : Nat × Bool × Nat × Nat := (f.k, f.closed, f.snap, f.prev)

/-- The frame now integrating, and what snapshots have decided of each frame in flight. -/
def State.shots (s : State) : Nat × List (Nat × Bool × Nat × Nat) := (s.tmg.frame, s.frames.map FrameW.shot)

theorem shots_offRecord : OffRecord State.shots where
  reg _ _ _ _ := rfl
  fresh _ _ := rfl
  chan _ _ _ _ := rfl
  nv _ _ := rfl

variable (s : State)

theorem State.shots_ite {c : Prop} [Decidable c] {t u : State} {a : Nat × List (Nat × Bool × Nat × Nat)} (ht : t.shots = a)
    (hu : u.shots = a) : (if c then t else u).shots = a := by
  split
  · exact ht
  · exact hu

/-- Frames changed in nothing that a snapshot decides. -/
theorem State.shots_mapFrames {g : FrameW → FrameW} (h : ∀ f, (g f).shot = f.shot) : (s.mapFrames g).shots = s.shots := by
  have hmap : (s.frames.map g).map FrameW.shot = s.frames.map FrameW.shot := by
    rw [List.map_map]
    exact List.map_congr_left fun f _ => h f
  exact congrArg (Prod.mk _) hmap

theorem shots_commit (s t : State) : (commit s t).shots = t.shots := by simp [State.shots]

theorem State.shots_setRegN (off n : Nat) : (s.setRegN off n).shots = s.shots := rfl
theorem State.shots_setPair (lo v : Nat) : (s.setPair lo v).shots = s.shots := rfl
theorem State.shots_setFld (f : Fld) (x : Nat) : (s.setFld f x).shots = s.shots := rfl
theorem State.shots_sticky (f : Fld) : (s.sticky f).shots = s.shots := rfl

/-! ## Completions -/

theorem State.shots_stickyIf (c : Bool) (f : Fld) : (s.stickyIf c f).shots = s.shots := State.shots_ite rfl rfl

theorem State.shots_complete (cid st why : Nat) (v : Option Nat) (b : Option (List Byte)) :
    (s.complete cid st why v b).shots = s.shots := by simp [State.shots]

theorem State.shots_fail (cid st why : Nat) : (s.fail cid st why).shots = s.shots := by simp [State.shots]

theorem State.shots_completeAfter (ch typ frame cid status reason : Nat) (value : Option Nat) :
    (s.completeAfter ch typ frame cid status reason value).shots = s.shots := by
  have hafter : ∀ (u : State) a, (if (u.chan a.ch).holds a.typ a.frame then { u with hif.after := u.hif.after ++ [a] }
      else State.complete { u with cel.replayEnd := if a.ch = 4 then some u.mono else u.cel.replayEnd } a.cid a.status a.reason
        a.value none).shots = u.shots :=
    fun u a => State.shots_ite rfl (State.shots_complete _ _ _ _ _ _)
  exact foldl_keeps State.shots hafter _ _

theorem State.shots_goState (p : PState) : (s.goState p).shots = s.shots :=
  State.shots_ite rfl (shots_offRecord.event _ _ _)

/-! ## Self-test slices -/

theorem State.shots_enterOnly (x : SliceRun) (code misr ref : Nat) : (s.enterOnly x code misr ref).shots = s.shots := rfl

theorem State.shots_releaseUnit (id : SliceId) : (s.releaseUnit id).shots = s.shots := by
  unfold State.releaseUnit
  split_ifs <;> rfl

theorem State.shots_takeEgress : s.takeEgress.shots = s.shots := State.shots_ite rfl rfl

theorem State.shots_startSlice (r : SliceRun) : (s.startSlice r).shots = s.shots := by
  have hbegun : (let s := { s with bst.running := s.bst.running ++ [{ r with start := s.mono }] }
      if r.id.die < 5 then s.setDie r.id.die { s.die r.id.die with renewed := false } else s).shots = s.shots :=
    State.shots_ite rfl rfl
  rw [← hbegun]
  unfold State.startSlice
  dsimp only
  generalize (if r.id.die < 5 then _ else _ : State) = u
  exact State.shots_ite rfl (State.shots_ite (State.shots_takeEgress _) (State.shots_ite rfl (State.shots_ite rfl rfl)))

theorem State.shots_tryStart (r : SliceRun) : (s.tryStart r).shots = s.shots := State.shots_ite (s.shots_startSlice r) rfl

theorem State.shots_endRun (r : BistRun) : (s.endRun r).shots = s.shots := by
  have hpost : ∀ u : State, (match r.cid with
      | some c => u.complete c St.ok Why.none (some r.notPassed) (some r.block)
      | none => u).shots = u.shots := by
    intro u
    split
    · exact u.shots_complete _ _ _ _ _
    · rfl
  have hshown : ∀ u : State, (if r.die < 5 ∧ r.kind ≠ Owner.bistRun then
      let s := u.setFld (Fld.BST_DIE_LAST r.die) (r.outcome + 1)
      if r.outcome = 2 then s else s.setDie r.die { s.die r.die with lastRun := some s.mono }
      else u).shots = u.shots :=
    fun u => State.shots_ite (State.shots_ite rfl rfl) rfl
  exact (hpost _).trans ((hshown _).trans (shots_offRecord.event _ _ _))

theorem State.shots_advanceRun (die kind : Nat) (c : Option Nat) : (s.advanceRun die kind c).shots = s.shots := by
  unfold State.advanceRun
  split
  · rfl
  · split
    · exact s.shots_endRun _
    · exact s.shots_tryStart _

theorem State.shots_advanceBehind (x : SliceRun) : (s.advanceBehind x).shots = s.shots := by
  unfold State.advanceBehind
  split
  · exact State.shots_ite rfl (s.shots_advanceRun _ _ _)
  · exact s.shots_advanceRun _ _ _

theorem State.shots_abortSlice (x : SliceRun) : (s.abortSlice x).shots = s.shots := by
  have hreported : ∀ misr ref, ((State.releaseUnit { s.drew with bst.running := s.bst.running.filter (·.id ≠ x.id) } x.id).reportSlice
      x.id Slice.aborted misr ref).shots = s.shots := fun _ _ =>
    (shots_offRecord.reportSlice _ _ _ _ _).trans (State.shots_releaseUnit _ _)
  unfold State.abortSlice
  refine State.shots_ite ?_ (State.shots_ite ?_ ?_)
  · exact (State.shots_sticky _ _).trans (hreported _ _)
  · exact (State.shots_advanceBehind _ _).trans ((State.shots_enterOnly _ _ _ _ _).trans ((State.shots_sticky _ _).trans (hreported _ _)))
  · exact hreported _ _

theorem State.shots_abortSlices (t : SliceRun → Bool) : (s.abortSlices t).shots = s.shots :=
  foldl_keeps State.shots (fun u x => u.shots_abortSlice x) _ s

theorem State.shots_abandonRuns (n : Nat) : (s.abandonRuns n).shots = s.shots := by
  have hskip : ∀ (u : State) r t, (u.skipSlice r t).shots = u.shots := fun _ _ _ =>
    (State.shots_sticky _ _).trans ((State.shots_enterOnly _ _ _ _ _).trans (shots_offRecord.reportSlice _ _ _ _ _))
  have hstop : ∀ (u : State) (x : SliceRun), ((((u.drew.releaseUnit x.id).reportSlice x.id Slice.aborted (u.freeVal % 2 ^ 64)
      (((u.sliceRef x.id).map (·.2)).getD 0)).enterOnly x Slice.aborted (u.freeVal % 2 ^ 64)
      (((u.sliceRef x.id).map (·.2)).getD 0)).sticky Fld.BST_STATUS_ABORT_SEEN).shots = u.shots := fun u x =>
    (State.shots_sticky _ _).trans ((State.shots_enterOnly _ _ _ _ _).trans
      ((shots_offRecord.reportSlice _ _ _ _ _).trans (State.shots_releaseUnit _ _)))
  unfold State.abandonRuns
  exact (foldl_keeps State.shots State.shots_endRun _ _).trans
    ((foldl_keeps State.shots (fun u r => foldl_keeps State.shots (fun u t => hskip u r t) _ u) _ _).trans
      ((foldl_keeps State.shots hstop _ _).trans (s.shots_stickyIf _ _)))

/-! ## Jobs of the accelerator, and milestones -/

theorem State.shots_pickJob : s.pickJob.shots = s.shots := by
  unfold State.pickJob
  split
  · rfl
  · split <;> rfl
  · rfl
  · dsimp only
    split <;> rfl

theorem State.shots_wantJob : s.wantJob.shots = s.shots := (s.pickJob.shots_abortSlices _).trans s.shots_pickJob

theorem State.shots_msMerged (gone into : Nat) : (s.msMerged gone into).shots = s.shots := shots_offRecord.event _ _ _

theorem State.shots_putClosing (m : Milestone) (early : List Nat) : (s.putClosing m early).shots = s.shots :=
  (State.shots_wantJob _).trans (foldl_keeps State.shots (fun u g => u.shots_msMerged g m.frame) _ s)

theorem State.shots_milestoneDue (k snap closing takeId : Nat) (dropped : Bool) :
    (s.milestoneDue k snap closing takeId dropped).shots = s.shots := by
  have hdrop : (if dropped then { s with sec.msDrops := s.sec.msDrops + 1 } else s).shots = s.shots := State.shots_ite rfl rfl
  unfold State.milestoneDue
  split
  · rfl
  · exact State.shots_ite hdrop (State.shots_ite hdrop (State.shots_ite ((State.shots_putClosing _ _ _).trans hdrop)
      ((State.shots_wantJob _).trans ((foldl_keeps State.shots (fun u g => u.shots_msMerged g k) _ _).trans hdrop))))

end Sys2Proof.Machine
end

section
/-! What a take does at a snapshot leaves what the snapshot has decided of the frames (R59). -/

namespace Sys2Proof.Machine

open Sys2Proof

variable (s : State)

/-! ## The take -/

theorem State.shots_unshowTake (r : TakeRun) : (s.unshowTake r).shots = s.shots :=
  foldl_keeps State.shots (f := fun (u : State) (e : Nat × Word) => u.setReg e.1 e.2) (fun _ _ => rfl) r.before s

theorem State.shots_leaveTake : s.leaveTake.shots = s.shots :=
  State.shots_ite rfl (State.shots_ite ((State.shots_goState _ _).trans (s.shots_goState .stream)) (s.shots_goState .stream))

theorem State.shots_freeTake (r : TakeRun) (reason : Nat) : (s.freeTake r reason).shots = s.shots := by
  have hleft : (State.leaveTake { (if r.stage = 0 then s else s.unshowTake r) with cel.run := none }).shots = s.shots :=
    (State.shots_leaveTake _).trans (State.shots_ite rfl (s.shots_unshowTake r))
  exact State.shots_ite ((State.shots_fail _ _ _ _).trans hleft) ((State.shots_complete _ _ _ _ _ _).trans hleft)

theorem State.shots_setRun (r : TakeRun) : (s.setRun r).shots = s.shots :=
  (State.shots_setRegN _ _ _).trans ((State.shots_setRegN _ _ _).trans ((State.shots_setPair _ _ _).trans
    ((State.shots_setPair _ _ _).trans ((State.shots_setPair _ _ _).trans (State.shots_setRegN _ _ _)))))

theorem State.shots_writeIndex (t : Take) : (s.writeIndex t).shots = s.shots := rfl

theorem State.shots_rewrite (r : TakeRun) : (s.rewrite r).shots = s.shots := (State.shots_writeIndex _ _).trans (s.shots_setRun _)

theorem State.shots_setStage (r : TakeRun) (stage : Nat) : (s.setStage r stage).shots = s.shots :=
  State.shots_ite (s.shots_setRun r) (s.shots_rewrite _)

theorem State.shots_closeAt (r : TakeRun) : (s.closeAt r).shots = s.shots := by
  unfold State.closeAt
  dsimp only
  split <;> exact State.shots_setStage _ _ _

theorem State.shots_closingMilestone (r : TakeRun) : (s.closingMilestone r).shots = s.shots := by
  unfold State.closingMilestone
  split
  · rfl
  · refine State.shots_ite rfl ?_
    split
    · exact s.shots_putClosing _ _
    · split
      · exact State.shots_ite (s.shots_milestoneDue _ _ _ _ _) rfl
      · rfl

theorem State.shots_endTakeAt (k reason freeReason : Nat) : (s.endTakeAt k reason freeReason).shots = s.shots := by
  have hseen : (s.stickyIf (decide (reason ≠ 0)) Fld.CEL_STATUS_TRUNCATED).shots = s.shots := s.shots_stickyIf _ _
  unfold State.endTakeAt
  split
  · rfl
  · refine State.shots_ite (s.shots_freeTake _ _) (State.shots_ite (State.shots_ite ?_ ?_) rfl)
    · exact (State.shots_freeTake _ _ _).trans hseen
    · exact (State.shots_closingMilestone _ _).trans ((State.shots_closeAt _ _).trans hseen)

theorem State.shots_takeChange (k0 kinds : Nat) : (s.takeChange k0 kinds).shots = s.shots := by
  unfold State.takeChange
  split
  · rfl
  · next r _ =>
    have hentry : (if r.t.changes.any (·.k0 = k0) then s.setRun { r with t := { r.t with
          changes := r.t.changes.map fun c => if c.k0 = k0 then { s.changeEntry k0 kinds with kinds := c.kinds ||| kinds } else c } }
        else if r.t.changes.length < 256 then s.setRun { r with t := { r.t with changes := r.t.changes ++ [s.changeEntry k0 kinds] } }
        else s.endTakeAt k0 4 Why.none).shots = s.shots :=
      State.shots_ite (s.shots_setRun _) (State.shots_ite (s.shots_setRun _) (s.shots_endTakeAt _ _ _))
    exact State.shots_ite rfl (State.shots_ite (State.shots_ite rfl rfl)
      (State.shots_ite ((State.shots_endTakeAt _ _ _ _).trans hentry) hentry))

theorem State.shots_takeSnap (k t : Nat) : (s.takeSnap k t).shots = s.shots := by
  unfold State.takeSnap
  split
  · exact State.shots_ite (s.shots_setStage _ _) rfl
  · rfl

end Sys2Proof.Machine
end

section
/-! What the dies' roles and the arming of a take do at a snapshot leaves what the snapshot has decided of the frames (R59). -/

namespace Sys2Proof.Machine

open Sys2Proof

variable (s : State)

/-! ## Dies and their roles -/

theorem State.shots_modDie (n : Nat) (g : Die → Die) : (s.modDie n g).shots = s.shots := rfl

theorem State.shots_modCask (c : Nat) (g : Cask → Cask) : (s.modCask c g).shots = s.shots := State.shots_ite rfl rfl

theorem State.shots_powerDie (n : Nat) : (s.powerDie n).shots = s.shots :=
  (State.shots_modCask _ _ _).trans (State.shots_modCask _ _ _)

theorem State.shots_prepareDie (n : Nat) (role : Role) : (s.prepareDie n role).shots = s.shots :=
  State.shots_ite rfl (State.shots_ite (s.shots_powerDie n) (State.shots_ite (s.shots_abandonRuns n) rfl))

theorem State.shots_takeRole (n : Nat) : (s.takeRole n).shots = s.shots := by
  unfold State.takeRole
  split
  · exact State.shots_ite rfl rfl
  · exact State.shots_ite (State.shots_advanceRun _ _ _ _) rfl
  · rfl

theorem State.shots_pendMap (c : MapChange) : (s.pendMap c).shots = s.shots :=
  foldl_keeps State.shots (fun _ _ => State.shots_ite (State.shots_prepareDie _ _ _) rfl) _ _

theorem State.shots_makeRotation : s.makeRotation.shots = s.shots := by
  unfold State.makeRotation
  split
  · exact State.shots_pendMap _ _
  · rfl

theorem State.shots_rotReturn : s.rotReturn.shots = s.shots := by
  refine State.shots_ite rfl ?_
  split
  · exact s.shots_pendMap _
  · rfl

theorem State.shots_rotSnap (et : Nat) : (s.rotSnap et).shots = s.shots :=
  State.shots_ite ((State.shots_makeRotation _).trans s.shots_rotReturn) s.shots_rotReturn

/-- Of the frames a map that is applied alters nothing: its work is on the dies (R222). -/
theorem State.shots_applyMap (k0 : Nat) (new : List MapEnt) (reseed seeded : Bool) :
    (s.applyMap k0 new reseed seeded).1.shots = s.shots := by
  unfold State.applyMap
  refine (foldl_keeps State.shots (fun u n => ?_) _ _ : _ = _)
  simp only [apply_ite State.shots, State.shots_modDie, State.shots_abortSlices, State.shots_abandonRuns, State.shots_takeRole, ite_self]

/-! ## The take that is armed -/

/-- The capacity that an arming computes is kept opaque: what the snapshot has decided does not depend on it. -/
theorem State.shots_arm (r : TakeRun) (a ext w : Nat) (reduced : Bool) : (s.arm r a ext w reduced).shots = s.shots := by
  have hfree : (if r.req.freeAll then { s with cel.stored := [], cel.slots := [] } else s : State).shots = s.shots :=
    State.shots_ite rfl rfl
  rw [← hfree]
  unfold State.arm
  generalize (if r.req.freeAll then _ else _ : State) = u
  generalize Take.capped = capped
  revert capped
  refine id fun capped => ?_
  have hgone := u.shots_goState .take
  exact State.shots_ite ((State.shots_rewrite _ _).trans ((State.shots_stickyIf _ _ _).trans hgone))
    ((State.shots_rewrite _ _).trans hgone)

end Sys2Proof.Machine
end

section
/-! Of the frames in flight, maps that fall due and the calibrations' steps alter nothing that the snapshot has decided (R59). -/

namespace Sys2Proof.Machine

open Sys2Proof

variable (s : State)

/-! ## Maps that fall due -/

theorem State.shots_setOwnProf (p : Profile) : (s.setOwnProf p).shots = s.shots := by
  unfold State.setOwnProf
  split
  · rfl
  · exact State.shots_ite rfl rfl
  · rfl

theorem State.shots_monCut (k : Nat) (moved : List Nat) : (s.monCut k moved).shots = s.shots := rfl

theorem State.shots_applyDue (k : Nat) (m : List MapEnt) (reseed seeded : Bool) : (s.applyDue k m reseed seeded).shots = s.shots :=
  (State.shots_monCut _ _ _).trans (s.shots_applyMap k m reseed seeded)

theorem State.shots_forceRate (k : Nat) : (s.forceRate k).shots = s.shots :=
  have hrate : ∀ p, ((s.setOwnProf p).sticky Fld.ROL_STATUS_RATE_FORCED).shots = s.shots := fun p =>
    (State.shots_sticky _ _).trans (s.shots_setOwnProf p)
  State.shots_ite ((State.shots_takeChange _ _ _).trans (State.shots_ite (hrate _) (hrate _))) rfl

theorem State.shots_stepFailover (k : Nat) (seeded : Bool) : (s.stepFailover k seeded).shots = s.shots := by
  refine foldl_keeps State.shots (fun u n => ?_) _ _
  have hdue : ∀ m b, ((u.sticky Fld.ROL_STATUS_FAILOVER).applyDue k m b seeded).shots = u.shots := fun m b =>
    (State.shots_applyDue _ k m b seeded).trans (u.shots_sticky _)
  have hdone : ∀ (v : State) l, v.shots = u.shots → (State.forceRate { v with rol.failover := l } k).shots = u.shots :=
    fun v _ hv => (State.shots_forceRate _ _).trans hv
  dsimp only
  split
  · rfl
  · exact hdone _ _ (hdue _ _)
  · split
    · exact hdone _ _ (hdue _ _)
    · exact u.shots_prepareDie _ _

theorem State.shots_stepPending (k et : Nat) (seeded : Bool) : (s.stepPending k et seeded).shots = s.shots := by
  unfold State.stepPending
  refine State.shots_ite rfl ?_
  split
  · rfl
  next c _ =>
    have hdue := State.shots_applyDue { s with rol.pend := none } k (s.freshMap c) c.reseed seeded
    dsimp only
    generalize State.applyDue _ k _ _ _ = u at hdue ⊢
    split
    · exact (State.shots_complete _ _ _ _ _ _).trans (State.shots_ite hdue (State.shots_ite hdue (State.shots_ite hdue hdue)))
    · exact State.shots_ite hdue (State.shots_ite hdue (State.shots_ite hdue hdue))

theorem State.shots_handoverStat (rows groups : Nat) : (s.handoverStat rows groups).shots = s.shots := rfl

theorem State.shots_handoverAt (k : Nat) : (s.handoverAt k).shots = s.shots := State.shots_ite rfl (State.shots_handoverStat _ _ _)

theorem State.shots_rotClock (et : Nat) : (s.rotClock et).shots = s.shots := State.shots_ite rfl rfl

/-! ## Coils and the housekeeping converter -/

theorem State.shots_setEng (g : Group) (e : Eng) : (s.setEng g e).shots = s.shots := by cases g <;> rfl

theorem State.shots_setShut (m : MechState) : (s.setShut m).shots = s.shots :=
  State.shots_ite rfl (State.shots_mapFrames _ fun f => by split <;> rfl)

theorem State.shots_setPos (g : Group) (m : MechState) : (s.setPos g m).shots = s.shots := by
  cases g with
  | a => exact s.shots_setShut m
  | b => rfl

theorem State.shots_endUnrun (r : Option CoilReq) (status reason : Nat) : (s.endUnrun r status reason).shots = s.shots := by
  unfold State.endUnrun
  split
  · exact State.shots_complete _ _ _ _ _ _
  · rfl

theorem State.shots_hkcServe (t : Nat) : (s.hkcServe t).shots = s.shots := by
  unfold State.hkcServe
  refine State.shots_ite rfl ?_
  split
  · rfl
  · refine State.shots_ite rfl ?_
    split <;> rfl

theorem State.shots_doSelfcalDone : s.doSelfcalDone.shots = s.shots := by
  unfold State.doSelfcalDone
  split
  · exact State.shots_ite (State.shots_hkcServe _ _) rfl
  · rfl

theorem State.shots_selfcalAbort : s.selfcalAbort.shots = s.shots :=
  State.shots_ite ((State.shots_hkcServe _ _).trans s.shots_doSelfcalDone) s.shots_doSelfcalDone

theorem State.shots_startProfile (g : Group) (r : CoilReq) : (s.startProfile g r).shots = s.shots :=
  (State.shots_selfcalAbort _).trans ((State.shots_setPos _ _ _).trans ((State.shots_setPair _ _ _).trans (s.shots_setEng g _)))

theorem State.shots_requestCoil (r : CoilReq) : (s.requestCoil r).1.shots = s.shots := by
  unfold State.requestCoil
  dsimp only
  split
  · rfl
  · split
    · exact s.shots_startProfile _ _
    · split
      · exact (State.shots_setEng _ _ _).trans (s.shots_endUnrun _ _ _)
      · split
        · exact s.shots_setEng _ _
        · rfl
    · split
      · exact s.shots_setEng _ _
      · rfl

/-! ## Calibrations -/

theorem State.shots_calCoil (coil entry : Nat) : (s.calCoil coil entry).1.shots = s.shots := by
  unfold State.calCoil
  dsimp only
  split_ifs
  · exact s.shots_setEng _ _
  · rfl
  · exact s.shots_requestCoil _

theorem State.shots_openShutter (k : Cal) : (s.openShutter k).1.shots = s.shots := by
  unfold State.openShutter
  split_ifs
  · exact s.shots_calCoil _ _
  · rfl

theorem State.shots_publishCal (k : Cal) (why : Nat) (racked : Option Nat) : (s.publishCal k why racked).shots = s.shots := by
  unfold State.publishCal
  refine (State.shots_setRegN _ _ _).trans ((State.shots_setRegN _ _ _).trans ((State.shots_stickyIf _ _ _).trans
    ((State.shots_sticky _ _).trans ?_)))
  exact shots_offRecord.formRec _ (by decide) _

theorem State.shots_completeCal (k : Cal) (why : Nat) : (s.completeCal k why).shots = s.shots := by
  unfold State.completeCal
  split
  · exact s.shots_completeAfter _ _ _ _ _ _ _
  · rfl

theorem State.shots_rejectCal (k : Cal) (why : Nat) (openUp : Bool) : (s.rejectCal k why openUp).shots = s.shots := by
  have hopen : (if openUp then s.openShutter k else (s, k)).1.shots = s.shots := by
    split
    · exact s.shots_openShutter k
    · rfl
  exact (State.shots_completeCal _ _ _).trans ((State.shots_publishCal _ _ _ _).trans (State.shots_ite hopen hopen))

theorem State.shots_acceptCal (k : Cal) (racked : Option Nat) : (s.acceptCal k racked).shots = s.shots :=
  (State.shots_completeCal _ _ _).trans (State.shots_publishCal _ _ _ _)

theorem State.shots_discardHeld : s.discardHeld.shots = s.shots := by
  unfold State.discardHeld
  split
  · exact State.shots_publishCal _ _ _ _
  · rfl

theorem State.shots_putCask (c : Nat) : (s.putCask c).shots = s.shots := rfl

theorem State.shots_calRack (k : Nat) : (s.calRack k).1.shots = s.shots := by
  unfold State.calRack
  split
  · split_ifs
    · rfl
    · exact State.shots_acceptCal _ _ _
    · exact s.shots_rejectCal _ _ _
  · rfl

theorem State.shots_rackAt (k t : Nat) : (s.rackAt k t).1.shots = s.shots := by
  unfold State.rackAt
  split
  · dsimp only
    split_ifs
    · split
      · exact State.shots_complete _ _ _ _ _ _
      · rfl
    · rfl
  · rfl

theorem State.shots_reloadAt : s.reloadAt.1.shots = s.shots := by
  unfold State.reloadAt
  split_ifs <;> rfl

theorem State.shots_stepRack (k t : Nat) : (s.stepRack k t).1.shots = s.shots := by
  have hracked : ((s.rackAt k t).1.calRack k).1.reloadAt.1.shots = s.shots :=
    (State.shots_reloadAt _).trans ((State.shots_calRack _ _).trans (s.shots_rackAt k t))
  unfold State.stepRack
  dsimp only
  split
  · exact (State.shots_discardHeld _).trans hracked
  · exact hracked

theorem State.shots_forceProfile (p : Profile) : (s.forceProfile p).shots = s.shots := rfl

theorem State.shots_endBand (p : Profile) (k : Nat) : (s.endBand p k).shots = s.shots := shots_offRecord.event _ _ _

theorem State.shots_startCapture (c : Cal) (k : Nat) : (s.startCapture c k).shots = s.shots :=
  State.shots_ite (shots_offRecord.event _ _ _) rfl

theorem State.shots_stepRows (band done : Nat) : (s.stepRows band done).shots = s.shots :=
  State.shots_ite rfl (State.shots_ite rfl rfl)

theorem restore_offRecord : OffRecord fun s => s.casks.restore where
  reg _ _ _ _ := rfl
  fresh _ _ := rfl
  chan _ _ _ _ := rfl
  nv _ _ := rfl

theorem State.endBand_restore (p : Profile) (k : Nat) : (s.endBand p k).casks.restore = none := restore_offRecord.event _ _ _

/-- A profile that a band put aside is in force again before the calibration's own step. -/
theorem State.calSnap_of_restore {p : Profile} (h : s.casks.restore = some p) (k t : Nat) :
    s.calSnap k t = (s.endBand p k).calSnap k t := by
  unfold State.calSnap
  rw [h, s.endBand_restore p k]

theorem State.shots_calSnap_of_no_restore (h : s.casks.restore = none) (k t : Nat) : (s.calSnap k t).shots = s.shots := by
  have hband : ∀ (o : Option Profile) (u : State), u.shots = s.shots →
      (match o with | some p => u.endBand p k | none => u).shots = s.shots := by
    intro o u hu
    split
    · exact (u.shots_endBand _ _).trans hu
    · exact hu
  unfold State.calSnap
  rw [h]
  dsimp only
  split
  · rfl
  next c _ =>
    split
    · exact s.shots_startCapture c k
    · split
      · split
        · exact hband _ _ (s.shots_rejectCal _ _ _)
        · split
          · refine hband _ _ ?_
            exact s.shots_openShutter c
          · split
            · split
              · rfl
              · exact s.shots_stepRows _ _
            · rfl
      · rfl

theorem State.shots_calSnap (k t : Nat) : (s.calSnap k t).shots = s.shots := by
  cases h : s.casks.restore with
  | none => exact s.shots_calSnap_of_no_restore h k t
  | some p =>
    rw [s.calSnap_of_restore h]
    exact ((s.endBand p k).shots_calSnap_of_no_restore (s.endBand_restore p k) k t).trans (s.shots_endBand p k)

end Sys2Proof.Machine
end

section
/-! Of the frames in flight, the settings, profiles and requests that fall due at a snapshot alter nothing that the snapshot has
decided (R59, R63). -/

namespace Sys2Proof.Machine

open Sys2Proof

variable (s : State)

theorem FrameW.shot_ite {c : Prop} [Decidable c] {f g : FrameW} (h : g.shot = f.shot) : (if c then g else f).shot = f.shot := by
  split
  · exact h
  · rfl

/-! ## Settings of the sensor and of the timing -/

theorem State.shots_applyCodes (biasing : Bool) : (s.applyCodes biasing).shots = s.shots := by
  have hstale : ∀ c, (s.stickyIf c Fld.SEN_STATUS_CAL_STALE).shots = s.shots := fun c => s.shots_stickyIf c _
  have hlater : ∀ (c : Prop) [Decidable c] (u : State) (n : Nat), u.shots = s.shots →
      (if c then { u with sen.settleEnd := some (max (u.sen.settleEnd.getD 0) n) } else u : State).shots = s.shots :=
    fun _ _ _ _ hu => State.shots_ite hu hu
  exact hlater _ _ _ (hlater _ _ _ (hstale _))

theorem State.shots_applyTrims : s.applyTrims.shots = s.shots := by
  have hstale : ∀ c, (s.stickyIf c Fld.CAL_STATUS_TRIM_STALE).shots = s.shots := fun c => s.shots_stickyIf c _
  have hlater : ∀ (c : Prop) [Decidable c] (u : State) (n : Nat), u.shots = s.shots →
      (if c then { u with sen.settleEnd := some (max (u.sen.settleEnd.getD 0) n) } else u : State).shots = s.shots :=
    fun _ _ _ _ hu => State.shots_ite hu hu
  exact hlater _ _ _ (hlater _ _ _ (hstale _))

theorem State.shots_restartRef (new : Word) : (s.restartRef new).shots = s.shots :=
  State.shots_ite (State.shots_ite rfl rfl) (State.shots_ite rfl rfl)

theorem State.shots_latchSync : s.latchSync.shots = s.shots := s.shots_restartRef _

/-! ## Profiles -/

theorem State.shots_putProfile (k : Nat) (cfg : Profile) (cause : Nat) : (s.putProfile k cfg cause).shots = s.shots := by
  have hown : ∀ c : Bool, (if c then { s.setOwnProf cfg with trs.dueCauses := (s.setOwnProf cfg).trs.dueCauses ||| Cause.profile }
      else s.setOwnProf cfg : State).shots = s.shots := fun _ => State.shots_ite (s.shots_setOwnProf cfg) (s.shots_setOwnProf cfg)
  have hchange : ∀ u : State, u.shots = s.shots → ∀ n, (u.takeChange k n).shots = s.shots := fun u hu n => (u.shots_takeChange k n).trans hu
  have hshown : ∀ (u : State) n x, u.shots = s.shots →
      (State.sticky { u.setRegN Reg.TOL_STEPS n with tol.stepShape := x } Fld.TOL_STATUS_STEP_SEEN).shots = s.shots := fun _ _ _ hu => hu
  unfold State.putProfile
  refine State.shots_ite (hchange _ (hown _) _) ?_
  exact (shots_offRecord.event _ _ _).trans (hshown _ _ _ (hchange _ (hown _) _))

theorem State.shots_reform (k cause : Nat) : (s.reform k cause).1.shots = s.shots := by
  unfold State.reform
  dsimp only
  split
  · rfl
  · exact s.shots_putProfile _ _ _

theorem State.shots_interfere : s.interfere.shots = s.shots := by
  unfold State.interfere
  split
  · exact State.shots_ite rfl rfl
  · rfl

theorem State.shots_stopFiller : s.stopFiller.shots = s.shots := rfl

theorem State.shots_tell (x : Told) : (s.tell x).shots = s.shots := s.shots_complete _ _ _ _ _

/-! ## Requests that fall due -/

theorem State.shots_dueStart (k t : Nat) : (s.dueStart k t).1.shots = s.shots := by
  have hgone : ∀ u : State, u.shots = s.shots → ((u.goState .stream).wantHub).shots = s.shots := fun u hu =>
    (State.shots_abortSlices _ _).trans ((u.shots_goState .stream).trans hu)
  unfold State.dueStart
  split
  · rfl
  · split
    · rfl
    · dsimp only
      split
      · exact State.shots_fail _ _ _ _
      · split
        · exact State.shots_reform _ k Step.admission
        · exact hgone _ (State.shots_reform _ k Step.admission)

theorem State.shots_dueStop (k t : Nat) : (s.dueStop k t).shots = s.shots := by
  unfold State.dueStop
  split
  · rfl
  · refine State.shots_ite rfl ?_
    exact (State.shots_endTakeAt _ _ _ _).trans (State.shots_mapFrames _ fun f => FrameW.shot_ite rfl)

theorem State.shots_dueProfile (k t : Nat) : (s.dueProfile k t).1.shots = s.shots := by
  have hput : ∀ (u : State) r c, u.shots = s.shots →
      (State.putProfile { u with tol.req := r, tol.runtime := 0 } k c Step.admission).shots = s.shots :=
    fun _ _ _ hu => (State.shots_putProfile _ _ _ _).trans hu
  unfold State.dueProfile
  split
  · rfl
  · split
    · rfl
    · dsimp only
      split
      · exact State.shots_fail _ _ _ _
      · split
        · exact State.shots_fail _ _ _ _
        · split
          · rfl
          · exact hput _ _ _ (State.shots_ite rfl (State.shots_applyMap _ _ _ _ _))

theorem State.shots_putBudget (v : List Nat) : (s.putBudget v).shots = s.shots := by
  have hput : ∀ (c : Bool) (u : State) off n, (if c then u.setRegN off n else u).shots = u.shots :=
    fun _ _ _ _ => State.shots_ite (State.shots_setRegN _ _ _) rfl
  have hallow : ∀ (c : Bool) (u : State) a, (if c then
      { (u.setRegN Reg.TOL_ALLOW_MJ a).setRegN Reg.TOL_ALLOW_LEFT_MJ a with tol.allowUj := 1000 * a, tol.allowOut := false }
      else u : State).shots = u.shots := fun _ _ _ => State.shots_ite rfl rfl
  unfold State.putBudget
  exact (hput _ _ _ _).trans ((hallow _ _ _).trans ((hput _ _ _ _).trans (hput _ _ _ _)))

theorem State.shots_dueBudget (k t : Nat) : (s.dueBudget k t).shots = s.shots := by
  unfold State.dueBudget
  split
  · rfl
  next cid v _ =>
    refine State.shots_ite rfl ?_
    have hput : (State.putBudget { s with tol.budget := none } v).shots = s.shots := State.shots_putBudget _ v
    dsimp only
    split
    · exact State.shots_complete _ _ _ _ _ _
    · have hformed : (State.reform { State.putBudget { s with tol.budget := none } v with tol.runtime := 0 } k Step.budget).1.shots =
          s.shots := (State.shots_reform _ k Step.budget).trans hput
      exact (State.shots_complete _ _ _ _ _ _).trans (State.shots_ite hformed hformed)

theorem State.shots_dueRuntime (k : Nat) : (s.dueRuntime k).shots = s.shots := by
  unfold State.dueRuntime
  refine State.shots_ite ?_ rfl
  dsimp only
  split
  · rfl
  · exact (State.shots_interfere _).trans (State.shots_putProfile _ _ _ _)

theorem State.shots_dueThrottle (k : Nat) : (s.dueThrottle k).shots = s.shots := by
  have hlevel : (State.interfere { (if s.tol.level < s.tol.levelDue then s.stopFiller else s) with tol.level := s.tol.levelDue }).shots =
      s.shots := (State.shots_interfere _).trans (State.shots_ite rfl rfl)
  exact State.shots_ite rfl (State.shots_ite ((State.shots_putProfile _ _ _ _).trans hlevel) ((State.shots_reform _ _ _).trans hlevel))

theorem State.shots_dueArm (k t : Nat) : (s.dueArm k t).shots = s.shots := by
  unfold State.dueArm
  split
  · rfl
  · refine State.shots_ite rfl ?_
    dsimp only
    split
    · exact State.shots_fail _ _ _ _
    · split
      · exact State.shots_fail _ _ _ _
      · exact State.shots_ite (State.shots_fail _ _ _ _) ((State.shots_arm _ _ _ _ _ _).trans (State.shots_putProfile _ _ _ _))

end Sys2Proof.Machine
end

section
/-! All that falls due at a snapshot alters nothing that the snapshot has decided of the frames in flight (R59). -/

namespace Sys2Proof.Machine

open Sys2Proof

variable (s : State)

/-! ## All that falls due -/

theorem State.shots_changes (k t et : Nat) (seeded : Bool) : (s.changes k t et seeded).shots = s.shots := by
  have hmaps : ((((s.rotSnap et).stepFailover k seeded).stepPending k et seeded).stepRack k t).1.shots = s.shots :=
    (State.shots_stepRack _ _ _).trans ((State.shots_stepPending _ _ _ _).trans ((State.shots_stepFailover _ _ _).trans (s.shots_rotSnap _)))
  have hset : ∀ u : State, (((u.latchSync.applyCodes false).applyTrims.calSnap k et).dueProfile k t).1.shots = u.shots := fun u =>
    (State.shots_dueProfile _ _ _).trans ((State.shots_calSnap _ _ _).trans ((State.shots_applyTrims _).trans
      ((State.shots_applyCodes _ _).trans u.shots_latchSync)))
  have hstream : ∀ u : State, ((u.dueStop k t).dueStart k t).1.shots = u.shots := fun u =>
    (State.shots_dueStart _ _ _).trans (u.shots_dueStop _ _)
  have hdue : ∀ u : State, ((((u.dueBudget k t).dueRuntime k).dueThrottle k).dueArm k t).shots = u.shots := fun u =>
    (State.shots_dueArm _ _ _).trans ((State.shots_dueThrottle _ _).trans ((State.shots_dueRuntime _ _).trans (u.shots_dueBudget _ _)))
  have htell : ∀ (l : List Told) (u : State), (l.foldl (fun u x => u.tell x) u).shots = u.shots := fun l u =>
    foldl_keeps State.shots State.shots_tell l u
  have hmon : ∀ (c : Prop) [Decidable c] (u : State), (if c then u.monCut (k + 1) (List.range 48) else u).shots = u.shots :=
    fun _ _ u => State.shots_ite (u.shots_monCut _ _) rfl
  have hheld : ∀ (c : Prop) [Decidable c] (u : State), (if c then u.discardHeld else u).shots = u.shots :=
    fun _ _ u => State.shots_ite u.shots_discardHeld rfl
  have hcause : ∀ (c : Bool) (u : State) (n : Nat), (if c then { u with trs.dueCauses := u.trs.dueCauses ||| n } else u).shots = u.shots :=
    fun _ _ _ => State.shots_ite rfl rfl
  have hwrites : ∀ (u : State) l, State.shots { u with trs.tauWrites := l } = u.shots := fun _ _ => rfl
  unfold State.changes
  dsimp only
  simp only [State.shots_takeChange, State.shots_handoverAt, hheld, hmon, htell, hdue, hwrites, hcause, hstream, hset, hmaps]

theorem State.shots_allChanges (k t et : Nat) : (s.allChanges k t et).shots = s.shots :=
  State.shots_ite (s.shots_changes _ _ _ _) (s.shots_changes _ _ _ _)

theorem State.shots_stepSwap : s.stepSwap.shots = s.shots := State.shots_ite rfl rfl

theorem State.shots_stepTable : s.stepTable.shots = s.shots := rfl

end Sys2Proof.Machine
end

section
/-! The placing of the next snapshot, the flushes that open with a frame and the HOST trigger of a snapshot alter nothing that the
snapshot has decided of the frames in flight (R59, R61). -/

namespace Sys2Proof.Machine

open Sys2Proof

variable (s : State)

/-! ## The next snapshot -/

theorem State.shots_dropLock : s.dropLock.shots = s.shots := State.shots_ite (shots_offRecord.event _ _ _) rfl

theorem State.shots_tryLock : s.tryLock.shots = s.shots := State.shots_ite (shots_offRecord.event _ _ _) rfl

theorem State.shots_judgeAligned (t e : Nat) : (s.judgeAligned t e).shots = s.shots := by
  have hjudged : ∀ (a b : Prop) [Decidable a] [Decidable b] (u : State), (if a then u else if b then
      State.tryLock { u with tmg.lockRun := u.tmg.lockRun + 1 } else State.dropLock { u with tmg.lockRun := 0 }).shots = u.shots :=
    fun _ _ _ _ u => State.shots_ite rfl (State.shots_ite (State.shots_tryLock _) (State.shots_dropLock _))
  unfold State.judgeAligned
  exact (hjudged _ _ _).trans (s.shots_setRegN _ _)

theorem State.shots_alignedSnap (t : Nat) : (s.alignedSnap t).shots = s.shots := State.shots_ite rfl (s.shots_judgeAligned _ _)

theorem State.shots_scheduleNext (t pmin last : Nat) : (s.scheduleNext t pmin last).shots = s.shots := by
  unfold State.scheduleNext
  refine State.shots_ite ?_ (State.shots_ite rfl rfl)
  split
  · rfl
  · dsimp only
    split <;> exact s.shots_alignedSnap t

theorem State.shots_ringStart (q : RingOwn) : (s.ringStart q).shots = s.shots := State.shots_ite rfl (State.shots_ite rfl rfl)

theorem State.shots_ringSend (typ : Nat) (body : List Nat) : (s.ringSend typ body).shots = s.shots :=
  State.shots_ite rfl (State.shots_ite (State.shots_ringStart _ _) rfl)

theorem State.shots_sendEpoch : s.sendEpoch.shots = s.shots := State.shots_ite (s.shots_ringSend _ _) rfl

theorem State.shots_placeNext (t last : Nat) : (s.placeNext t last).shots = s.shots :=
  State.shots_ite rfl ((State.shots_sendEpoch _).trans (s.shots_scheduleNext _ _ _))

/-! ## Flushes -/

theorem State.shots_publishFlush (r : FlushRec) : (s.publishFlush r).shots = s.shots := by
  have hsticky : ∀ (c : Bool) n, (((s.sticky Fld.TRS_STATUS_FLUSH_SEEN).stickyIf c Fld.TRS_STATUS_RETRACT_SEEN).bump Reg.TRS_RETRACT_COUNT
      n).shots = s.shots := fun _ _ => State.shots_stickyIf _ _ _
  have hrec : ∀ (c : Bool) (u : State) r, (if c then u.formRec 1 r else u).shots = u.shots := fun _ u _ =>
    State.shots_ite (shots_offRecord.formRec u (by decide) _) rfl
  unfold State.publishFlush
  exact (shots_offRecord.event _ _ _).trans ((hrec _ _ _).trans (hsticky _ _))

theorem State.shots_coldFrom (g : Nat) : (s.coldFrom g).shots = s.shots := by
  unfold State.coldFrom
  split
  · rfl
  · exact State.shots_mapFrames _ fun f => FrameW.shot_ite rfl

theorem State.shots_seedAt (g : Nat) : (s.seedAt g).shots = s.shots := by
  refine (State.shots_coldFrom _ _).trans ?_
  refine (State.shots_setPair _ _ _).trans ?_
  exact State.shots_mapFrames s fun f => FrameW.shot_ite (by dsimp only; split <;> rfl)

theorem State.shots_seedRowsAt (g : Nat) (rows : List Nat) : (s.seedRowsAt g rows).shots = s.shots := by
  refine (State.shots_coldFrom _ _).trans ?_
  exact State.shots_mapFrames s fun f => FrameW.shot_ite rfl

theorem State.shots_endEpisode (g : Nat) : (s.endEpisode g).shots = s.shots := by
  unfold State.endEpisode
  split
  · rfl
  · exact State.shots_ite (State.shots_seedAt _ _) (State.shots_seedAt _ _)

theorem State.shots_handleFrom (f : Nat) (seed : Option Nat) : (s.handleFrom f seed).shots = s.shots := by
  refine State.shots_mapFrames s fun g => FrameW.shot_ite ?_
  dsimp only
  split_ifs <;> rfl

theorem State.shots_scheduledFlush (f t causes : Nat) (rows : List Nat) : (s.scheduledFlush f t causes rows).shots = s.shots := by
  unfold State.scheduledFlush
  refine State.shots_ite rfl ?_
  split
  · dsimp only
    split
    · exact State.shots_publishFlush _ _
    · rfl
  · exact (State.shots_publishFlush _ _).trans (State.shots_ite (s.shots_seedRowsAt _ _) (s.shots_seedAt _))

theorem State.shots_streamFlush (f t causes : Nat) : (s.streamFlush f t causes).shots = s.shots := by
  unfold State.streamFlush
  split
  · refine State.shots_ite (s.shots_scheduledFlush _ _ _ _) ?_
    exact (State.shots_publishFlush _ _).trans ((State.shots_setPair _ _ _).trans (State.shots_handleFrom _ _ _))
  · exact s.shots_scheduledFlush _ _ _ _

theorem State.shots_episodeAt (f t : Nat) : (s.episodeAt f t).shots = s.shots := by
  have hcold : (match s.trs.coldEnd with
      | some e => if f ≤ e then s.mapFrames fun g => if g.k = f then { g with cold := true, coldPrev := true } else g else s
      | none => s).shots = s.shots := by
    split
    · exact State.shots_ite (s.shots_mapFrames fun g => FrameW.shot_ite rfl) rfl
    · rfl
  exact State.shots_ite hcold (State.shots_ite ((State.shots_endEpisode _ _).trans hcold) ((State.shots_handleFrom _ _ _).trans hcold))

theorem State.shots_openFlush (k t : Nat) : (s.openFlush k t).shots = s.shots := by
  have hopen : ∀ (c b : Prop) [Decidable c] [Decidable b] (u : State) n rows, (if c then u else if b then (u.episodeAt k t).streamFlush k t n
      else (u.episodeAt k t).scheduledFlush k t n rows).shots = u.shots := fun _ _ _ _ u _ _ =>
    State.shots_ite rfl (State.shots_ite ((State.shots_streamFlush _ _ _ _).trans (u.shots_episodeAt k t))
      ((State.shots_scheduledFlush _ _ _ _ _).trans (u.shots_episodeAt k t)))
  unfold State.openFlush
  exact State.shots_ite (hopen _ _ _ _ _) (hopen _ _ _ _ _)

theorem State.shots_freeRevisions : s.freeRevisions.shots = s.shots :=
  foldl_keeps State.shots (f := fun (u : State) (e : Nat × Rec) =>
    State.sticky ((u.formRec 1 e.2).bump Reg.TRS_REVISION_COUNT) Fld.TRS_STATUS_REVISE_SEEN)
    (fun u e => (State.shots_sticky _ _).trans ((shots_offRecord.bump _ (by decide) 1).trans (shots_offRecord.formRec u (by decide) e.2))) _ _

/-! ## The HOST trigger of a snapshot -/

theorem State.shots_injLost (off : Nat) : (s.injLost off).shots = s.shots := rfl

theorem State.shots_startGroup (src : Nat) (chs : List Nat) (eng : Nat) : (s.startGroup src chs eng).shots = s.shots :=
  (State.shots_hkcServe _ _).trans (State.shots_abortSlices _ _)

theorem State.shots_dropGroup : s.dropGroup.shots = s.shots := by
  unfold State.dropGroup
  split <;> rfl

theorem State.shots_inject (src : Nat) (chs : List Nat) (eng : Nat) : (s.inject src chs eng).1.shots = s.shots := by
  rw [← s.shots_doSelfcalDone]
  unfold State.inject
  generalize s.doSelfcalDone = u
  dsimp only
  split
  · exact u.shots_injLost _
  · split
    · exact State.shots_startGroup _ _ _ _
    · split
      · split
        · rfl
        · split
          · exact u.shots_injLost Reg.HKC_INJ_BUSY
          · exact u.shots_injLost _
      · split
        · exact u.shots_startGroup _ _ _
        · split
          · exact (State.shots_startGroup _ _ _ _).trans ((State.shots_dropGroup _).trans (u.shots_injLost _))
          · exact u.shots_injLost _

theorem State.shots_hostTrigger : s.hostTrigger.shots = s.shots := by
  rw [← s.shots_doSelfcalDone]
  exact State.shots_ite (State.shots_injLost _ _) (State.shots_ite rfl (State.shots_inject _ _ _ _))

end Sys2Proof.Machine
end

section
/-! What a snapshot decides of the frames in flight: one frame closes and the next one opens (R59, R61). -/

namespace Sys2Proof.Machine

open Sys2Proof

variable (s : State)

/-! ## Conversion -/

/-- A conversion takes readings of the platform and leaves residues; nothing else of the state changes (R37). -/
theorem State.convert_keeps {β : Type} {g : State → β} (hfree : ∀ (u : State) n, g { u with free := n } = g u)
    (hres : ∀ (u : State) r, g { u with sen.residue := r } = g u) (sc : Scene) (e : Nat) : g (s.convert sc e).1 = g s := by
  have hdrew : ∀ u : State, g u.drew = g u := fun u => hfree u _
  have hpixels : ∀ (l : List Nat) (f : State × PixMap Nat × PixMap Int → Nat → PixMap Nat × PixMap Int) x,
      g (l.foldl (fun x i => (x.1.drew, f x i)) x).1 = g x.1 := by
    intro l f
    induction l with
    | nil => exact fun _ => rfl
    | cons i l ih => exact fun x => (ih _).trans (hdrew _)
  exact (hres _ _).trans ((hpixels _ _ _).trans (hdrew s))

theorem State.closeInterval_keeps {β : Type} {g : State → β} (hfree : ∀ (u : State) n, g { u with free := n } = g u)
    (hres : ∀ (u : State) r, g { u with sen.residue := r } = g u)
    (hcount : ∀ (u : State) c x, g { u with sen.counters := c, sen.subCounts := x } = g u) (sc : Scene) (t0 t : Nat) :
    g (s.closeInterval sc t0 t) = g s := (hcount _ _ _).trans (s.convert_keeps hfree hres _ _)

theorem State.closeInterval_subCounts (sc : Scene) (t0 t : Nat) :
    (s.closeInterval sc t0 t).sen.subCounts.length = s.sen.subCounts.length + 1 := by
  have hsame : (s.convert (if s.testing then testScene sc (edgesIn t0 t) else sc) (edgesIn t0 t)).1.sen.subCounts = s.sen.subCounts :=
    s.convert_keeps (g := fun u => u.sen.subCounts) (fun _ _ => rfl) (fun _ _ => rfl) _ _
  rw [← hsame]
  exact List.length_append

/-! ## The frame that closes -/

/-- What a closing snapshot does to the frames: the open frame `k` gets its two snapshots, and only frames that nobody needs any more
go (R59). -/
theorem State.closeFrame_frames (k t prev : Nat) (d marks : PixMap Nat) : ∃ (g : FrameW → FrameW) (p : FrameW → Bool),
    (s.closeFrame k t prev d marks).frames = (s.frames.map g).filter p ∧
    (∀ f, (g f).shot = if f.k = k ∧ !f.closed then (f.k, true, t, prev) else f.shot) ∧
    (∀ f, s.tmg.first = false → (g f).streamed = f.streamed ∧ (g f).comDone = f.comDone) ∧
    ∀ f, f.streamed = true → f.comDone = false → p f = true := by
  have htidy : ∀ u : State, ∃ p : FrameW → Bool, u.tidy.frames = u.frames.filter p ∧
      ∀ f, f.streamed = true → f.comDone = false → p f = true := fun u => ⟨_, rfl, fun f hs hc => by simp [hs, hc]⟩
  unfold State.closeFrame
  extract_lets tc warm p edges sat starve _ v first w _ x
  obtain ⟨keep, hkeep, hlive⟩ := htidy x
  have hframes : v.frames = s.frames := by
    simp only [v]
    split <;> rfl
  have hfirst : first = s.tmg.first := by
    simp only [first, v]
    split <;> rfl
  have hx : x.frames = w.frames := by
    simp only [x]
    split <;> rfl
  refine ⟨_, keep, hkeep.trans (congrArg (List.filter keep) (hx.trans (congrArg (List.map _) hframes))), fun f => ?_, fun f hf => ?_, hlive⟩
  · dsimp only
    split <;> rfl
  · rw [hfirst, hf]
    dsimp only
    split
    · exact ⟨by simp, rfl⟩
    · exact ⟨rfl, rfl⟩

/-- What the snapshot has decided of each frame, once frame `k` is closed at `t` (R59). -/
theorem State.mem_closeFrame {k t prev : Nat} {d marks : PixMap Nat} {q : FrameW}
    (hq : q ∈ (s.closeFrame k t prev d marks).frames) :
    ∃ f ∈ s.frames, q.shot = if f.k = k ∧ !f.closed then (f.k, true, t, prev) else f.shot := by
  obtain ⟨g, p, hframes, hshot, -⟩ := s.closeFrame_frames k t prev d marks
  rw [hframes] at hq
  obtain ⟨f, hf, rfl⟩ := List.mem_map.mp (List.mem_of_mem_filter hq)
  exact ⟨f, hf, hshot f⟩

/-- A streamed frame whose COMMIT delivery is still due outlives its closing (R59). -/
theorem State.closeFrame_streamed {k t prev : Nat} {d marks : PixMap Nat} {f : FrameW} (hf : f ∈ s.frames) (hk : f.k = k)
    (hopen : f.closed = false) (hs : f.streamed = true) (hc : f.comDone = false) (hfirst : s.tmg.first = false) :
    ∃ q ∈ (s.closeFrame k t prev d marks).frames, q.shot = (k, true, t, prev) := by
  obtain ⟨g, p, hframes, hshot, hstream, hlive⟩ := s.closeFrame_frames k t prev d marks
  obtain ⟨hgs, hgc⟩ := hstream f hfirst
  refine ⟨g f, ?_, ?_⟩
  · rw [hframes]
    exact List.mem_filter.mpr ⟨List.mem_map_of_mem hf, hlive _ (hgs.trans hs) (hgc.trans hc)⟩
  · rw [hshot, if_pos ⟨hk, by rw [hopen]; rfl⟩, hk]

theorem State.shots_sumShorted (k ticks : Nat) (d : PixMap Nat) : (s.sumShorted k ticks d).shots = s.shots := by
  unfold State.sumShorted
  split
  · exact State.shots_ite rfl rfl
  · rfl

/-- Of the sensor a snapshot shows the sums of its interval in registers only (R36, R43). -/
theorem State.showSen_keeps {β : Type} {g : State → β} (hreg : ∀ (u : State) off n, g (u.setRegN off n) = g u)
    (hsticky : ∀ (u : State) c x, g (u.stickyIf c x) = g u) (edges : Nat) (d marks : PixMap Nat) :
    g (s.showSen edges d marks) = g s :=
  (hreg _ _ _).trans ((hreg _ _ _).trans ((hreg _ _ _).trans ((hreg _ _ _).trans ((hsticky _ _ _).trans (hsticky _ _ _)))))

theorem State.showSen_frames (edges : Nat) (d marks : PixMap Nat) : (s.showSen edges d marks).frames = s.frames :=
  s.showSen_keeps (g := State.frames) State.setRegN_frames State.stickyIf_frames edges d marks

theorem State.showSen_tmg (edges : Nat) (d marks : PixMap Nat) : (s.showSen edges d marks).tmg = s.tmg :=
  s.showSen_keeps (g := State.tmg) State.setRegN_tmg State.stickyIf_tmg edges d marks

theorem State.showTmg_frames (k t prev : Nat) : (s.showTmg k t prev).frames = s.frames :=
  (State.setPair_frames _ _ _).trans ((State.setPair_frames _ _ _).trans (s.setRegN_frames _ _))

theorem State.showTmg_tmg (k t prev : Nat) : (s.showTmg k t prev).tmg = s.tmg :=
  (State.setPair_tmg _ _ _).trans ((State.setPair_tmg _ _ _).trans (s.setRegN_tmg _ _))

/-- At a frame snapshot the frame number goes on by one and frame `k` is closed; what comes before the closing leaves the frames as
they were. -/
theorem State.shots_latchFrame (sc : Scene) (k t prev : Nat) : ∃ (u : State) (d marks : PixMap Nat), u.frames = s.frames ∧
    u.tmg.first = s.tmg.first ∧ (s.latchFrame sc k t prev).shots = (k + 1, (u.closeFrame k t prev d marks).frames.map FrameW.shot) := by
  have hf : ∀ t0, (s.closeInterval sc t0 t).frames = s.frames := fun t0 =>
    s.closeInterval_keeps (g := State.frames) (fun _ _ => rfl) (fun _ _ => rfl) (fun _ _ _ => rfl) sc t0 t
  have ht : ∀ t0, (s.closeInterval sc t0 t).tmg = s.tmg := fun t0 =>
    s.closeInterval_keeps (g := State.tmg) (fun _ _ => rfl) (fun _ _ => rfl) (fun _ _ _ => rfl) sc t0 t
  unfold State.latchFrame
  refine ⟨_, _, _, ?_, ?_, congrArg (Prod.mk (k + 1)) (congrArg Prod.snd (State.shots_sumShorted (State.closeFrame _ k t prev _ _) _ _ _))⟩
  · rw [State.showTmg_frames, State.showSen_frames, hf]
  · rw [State.showTmg_tmg, State.showSen_tmg, ht]

/-! ## The frame that opens -/

theorem State.shots_openFrame (k t : Nat) : (s.openFrame k t).shots = (s.shots.1, s.shots.2 ++ [(k, false, t, t)]) :=
  congrArg (Prod.mk s.tmg.frame) List.map_append

/-- What a due snapshot decides of the frames: frame `k` closes and frame `k + 1` opens, both at the scheduled tick, and nothing else
that the snapshot does changes that (R59, R61). -/
theorem State.shots_doSnapshot (sc : Scene) (hdue : s.snapDue = true) : ∃ (u : State) (d marks : PixMap Nat), u.frames = s.frames ∧
    u.tmg.first = s.tmg.first ∧ (s.doSnapshot sc).shots = (s.tmg.frame + 1,
      (u.closeFrame s.tmg.frame s.tmg.nextSnap s.tmg.lastSnap d marks).frames.map FrameW.shot ++
        [(s.tmg.frame + 1, false, s.tmg.nextSnap, s.tmg.nextSnap)]) := by
  have hbefore : s.epochMiss.bandUnlock.frames = s.frames ∧ s.epochMiss.bandUnlock.tmg.first = s.tmg.first := by
    unfold State.bandUnlock State.epochMiss
    split_ifs <;> exact ⟨rfl, rfl⟩
  obtain ⟨hframes, hfirst⟩ := hbefore
  obtain ⟨u, d, marks, hu, hufirst, hlatch⟩ :=
    s.epochMiss.bandUnlock.shots_latchFrame sc s.tmg.frame s.tmg.nextSnap s.tmg.lastSnap
  refine ⟨u, d, marks, hu.trans hframes, hufirst.trans hfirst, ?_⟩
  have hhost : ∀ (c : Bool) (v : State), (if c then v.hostTrigger else v).shots = v.shots := fun _ v => State.shots_ite v.shots_hostTrigger rfl
  unfold State.doSnapshot
  rw [hdue]
  simp only [Bool.not_true, Bool.false_eq_true, if_false, hhost, State.shots_freeRevisions, State.shots_openFlush, State.shots_openFrame,
    State.shots_placeNext, State.shots_setFld, State.shots_rotClock, State.shots_stepTable, State.shots_allChanges, State.shots_stepSwap,
    State.shots_takeSnap, hlatch]

end Sys2Proof.Machine
end

section
/-! The commands of SnapshotsAdvanceFrames: a frame snapshot, an intermediate one, and a converted grid sample (R37, R45, R59, R61). -/

namespace Sys2Proof.Machine

open Sys2Proof

variable (s : State)

/-! ## The clauses of a frame snapshot -/

/-- A due frame snapshot closes frame `k` and opens frame `k + 1`, both at the scheduled tick (R59, R61). -/
theorem yields_frameSnapshot (hp : s.powered) (sc : Scene) (hdue : s.snapDue = true) :
    Yields (.frameSnapshot sc) s fun t => t.tmg.frame = s.tmg.frame + 1 ∧
      (∃ f ∈ t.frames, f.k = s.tmg.frame + 1 ∧ f.closed = false ∧ f.prev = s.tmg.nextSnap) ∧
      ((∀ f ∈ s.frames, f.k = s.tmg.frame → f.closed = false) →
        ∀ g ∈ t.frames, g.k = s.tmg.frame → g.closed = true ∧ g.snap = s.tmg.nextSnap ∧ g.prev = s.tmg.lastSnap) ∧
      ∀ f ∈ s.frames, f.k = s.tmg.frame → f.closed = false → (∀ g ∈ s.frames, g.k = s.tmg.frame → g = f) → f.streamed = true →
        f.comDone = false → s.tmg.first = false → ∃ g ∈ t.frames, g.k = s.tmg.frame ∧ g.closed = true := by
  obtain ⟨u, d, marks, hu, hfirst, hshots⟩ := s.shots_doSnapshot sc hdue
  refine yields_of_run (f := fun u => u.doSnapshot sc) rfl hp ?_
  have hcommit := (shots_commit s (s.doSnapshot sc)).trans hshots
  generalize commit s (s.doSnapshot sc) = t at hcommit ⊢
  obtain ⟨hframe, hframes⟩ := Prod.mk.inj hcommit
  have hopened : (s.tmg.frame + 1, false, s.tmg.nextSnap, s.tmg.nextSnap) ∈ t.frames.map FrameW.shot := by
    rw [hframes]
    exact List.mem_append_right _ (List.mem_singleton_self _)
  refine ⟨hframe, ?_, fun hopen g hg hk => ?_, fun f hf hk hopen _ hs hc hnot => ?_⟩
  · obtain ⟨f, hf, hshot⟩ := List.mem_map.mp hopened
    simp only [FrameW.shot, Prod.mk.injEq] at hshot
    obtain ⟨hk, hclosed, -, hprev⟩ := hshot
    exact ⟨f, hf, hk, hclosed, hprev⟩
  · have hmem : g.shot ∈ t.frames.map FrameW.shot := List.mem_map_of_mem hg
    rw [hframes] at hmem
    rcases List.mem_append.mp hmem with hold | hnew
    · obtain ⟨q, hq, hqs⟩ := List.mem_map.mp hold
      obtain ⟨f, hf, hshot⟩ := u.mem_closeFrame hq
      rw [hu] at hf
      have hfk : f.k = s.tmg.frame := by
        have hkeep : g.k = f.k := by
          refine (congrArg Prod.fst (hqs.symm.trans hshot)).trans ?_
          split <;> rfl
        omega
      rw [hqs, if_pos ⟨hfk, by rw [hopen f hf hfk]; rfl⟩] at hshot
      simp only [FrameW.shot, Prod.mk.injEq] at hshot
      exact hshot.2
    · have hk' : g.k = s.tmg.frame + 1 := congrArg Prod.fst (List.mem_singleton.mp hnew)
      omega
  · rw [← hu] at hf
    rw [← hfirst] at hnot
    obtain ⟨q, hq, hqs⟩ := u.closeFrame_streamed (t := s.tmg.nextSnap) (prev := s.tmg.lastSnap) (d := d) (marks := marks) hf hk hopen hs
      hc hnot
    have hmem : (s.tmg.frame, true, s.tmg.nextSnap, s.tmg.lastSnap) ∈ t.frames.map FrameW.shot := by
      rw [hframes, ← hqs]
      exact List.mem_append_left _ (List.mem_map_of_mem hq)
    obtain ⟨g, hg, hshot⟩ := List.mem_map.mp hmem
    simp only [FrameW.shot, Prod.mk.injEq] at hshot
    exact ⟨g, hg, hshot.1, hshot.2.1⟩

/-! ## An intermediate snapshot -/

/-- A due intermediate snapshot adds one sub-interval and one grid sample, which closes no frame (R37, R45). -/
theorem yields_intermediateSnapshot (hp : s.powered) (sc : Scene) (hsched : s.tmg.scheduled = true) (hlong : 50000000 < s.tol.prof.period)
    (hdue : tickLe s.nextSub s.now = true) (hlate : tickLe s.tmg.nextSnap s.nextSub = false) :
    Yields (.intermediateSnapshot sc) s fun t => t.tmg.subDone = s.tmg.subDone + 1 ∧
      t.sen.gridDue = s.sen.gridDue ++ [(25000000, none)] ∧ t.sen.subCounts.length = s.sen.subCounts.length + 1 := by
  have hsub : s.subDue = true := by simp [State.subDue, hlong, hlate]
  have hdone : (s.closeInterval sc (tickAdd s.nextSub (-25000000)) s.nextSub).tmg.subDone = s.tmg.subDone :=
    s.closeInterval_keeps (g := fun u => u.tmg.subDone) (fun _ _ => rfl) (fun _ _ => rfl) (fun _ _ _ => rfl) _ _ _
  have hgrid : (s.closeInterval sc (tickAdd s.nextSub (-25000000)) s.nextSub).sen.gridDue = s.sen.gridDue :=
    s.closeInterval_keeps (g := fun u => u.sen.gridDue) (fun _ _ => rfl) (fun _ _ => rfl) (fun _ _ _ => rfl) _ _ _
  refine yields_of_run (f := fun u => u.doIntermediate sc) rfl hp ?_
  have heq : s.doIntermediate sc = { s.closeInterval sc (tickAdd s.nextSub (-25000000)) s.nextSub with
      tmg.subDone := (s.closeInterval sc (tickAdd s.nextSub (-25000000)) s.nextSub).tmg.subDone + 1
      sen.gridDue := (s.closeInterval sc (tickAdd s.nextSub (-25000000)) s.nextSub).sen.gridDue ++ [(25000000, none)] } :=
    if_pos (by rw [hsched, hsub, hdue]; rfl)
  rw [commit_tmg, commit_sen, heq]
  exact ⟨congrArg (· + 1) hdone, congrArg (· ++ _) hgrid, s.closeInterval_subCounts _ _ _⟩

/-! ## A converted grid sample -/

theorem State.sen_newGrid_gridDue : s.newGrid.sen.gridDue = s.sen.gridDue := by
  unfold State.newGrid
  split
  · rw [State.showGrid_sen]
  · rfl

theorem State.sen_newGrid_lastDelivered : s.newGrid.sen.lastDelivered = s.sen.lastDelivered := by
  unfold State.newGrid
  split
  · rw [State.showGrid_sen]
  · rfl

/-- The sample converted is the oldest that waits, and its values are the newest delivered (R45). -/
theorem State.gridSample_queue {rs : List (Option Int)} {g : Nat × Option Nat} {due : List (Nat × Option Nat)}
    (h : s.sen.gridDue = g :: due) :
    (s.gridSample rs).1.sen.gridDue = due ∧ (s.gridSample rs).1.sen.lastDelivered.isSome = true := by
  obtain ⟨len, closes⟩ := g
  unfold State.gridSample
  rw [h]
  cases closes with
  | none => exact ⟨rfl, rfl⟩
  | some k => exact ⟨State.sen_newGrid_gridDue _, congrArg Option.isSome (State.sen_newGrid_lastDelivered _)⟩

theorem State.sumGrid_sen (k : Nat) (g : List Int) : (s.sumGrid k g).sen = s.sen := by
  unfold State.sumGrid
  split
  · dsimp only
    split <;> rfl
  · rfl

theorem State.noteCapture_sen (f : FrameW) (kind : Nat) : (s.noteCapture f kind).sen = s.sen := by
  unfold State.noteCapture
  split
  · rfl
  · exact (State.stickyIf_sen _ _ _).trans (State.stickyIf_sen _ _ _)

theorem State.sumFrame_sen (k : Nat) : (s.sumFrame k).sen = s.sen := by
  unfold State.sumFrame
  split
  · split
    · rfl
    · split
      · rfl
      · exact s.noteCapture_sen _ _
  · rfl

theorem State.noteRow_sen (f : FrameW) (g : Array (Array GainOut)) (row : Nat) : (s.noteRow f g row).sen = s.sen :=
  (State.stickyIf_sen _ _ _).trans (State.stickyIf_sen _ _ _)

theorem State.commitRow_sen (f : FrameW) (t : List Int) (row : Nat) : (s.commitRow f t row).sen = s.sen := by
  unfold State.commitRow
  dsimp only
  split <;> exact s.noteRow_sen _ _ _

theorem State.tryRow_sen (k row : Nat) : (s.tryRow k row).sen = s.sen := by
  unfold State.tryRow
  split
  · rfl
  · split
    · rfl
    · split
      · rfl
      · exact s.commitRow_sen _ _ _

theorem State.catchUp_sen : s.catchUp.sen = s.sen :=
  foldl_keeps State.sen (f := fun (u : State) (f : FrameW) => f.gotRows.foldl (fun v row => v.tryRow f.k row) u)
    (fun u f => foldl_keeps State.sen (fun v row => v.tryRow_sen f.k row) f.gotRows u) s.frames s

theorem State.tidy_sen : s.tidy.sen = s.sen := rfl

/-- The restoration that a grid value sets going leaves the sensor as the sample left it (R45). -/
theorem State.doGrid_sen (rs : List (Option Int)) : (s.doGrid rs).sen = (s.gridSample rs).1.sen := by
  unfold State.doGrid
  split
  · next h => rw [h]
  · next h =>
    rw [h, State.tidy_sen, State.catchUp_sen, State.sumFrame_sen, State.sumGrid_sen, State.mapFrames_sen]

/-- A converted grid sample leaves the queue of samples (R45). -/
theorem yields_gridConversionDone (hp : s.powered) {rs : List (Option Int)} {g : Nat × Option Nat} {due : List (Nat × Option Nat)}
    (hrs : rs.length = 48) (h : s.sen.gridDue = g :: due) :
    Yields (.gridConversionDone rs) s fun t => t.sen.gridDue = due ∧ t.sen.lastDelivered.isSome = true := by
  refine yields_of_runIf (f := fun u => u.doGrid rs) rfl (decide_eq_true hrs) hp ?_
  rw [commit_sen, State.doGrid_sen]
  exact s.gridSample_queue h

/-- Settles O9: each clause is the theorem above of its command. Of a frame snapshot the frames keep, through all that falls due with
it, what the snapshot itself has decided of them (`State.shots`). -/
theorem snapshotsAdvanceFrames : Obligations.SnapshotsAdvanceFrames := by
  unfold Obligations.SnapshotsAdvanceFrames
  intro s hp
  exact ⟨fun sc => yields_frameSnapshot s hp sc, fun sc => yields_intermediateSnapshot s hp sc,
    fun _ _ _ hrs h => yields_gridConversionDone s hp hrs h⟩

end Sys2Proof.Machine
end

section
/-! What no command alters: the queue, the variant and elapsed time (R57). -/

namespace Sys2Proof.Machine

open Sys2Proof

variable (s : State)

/-- Whatever next state is answered, the queue and the variant are those of `s`, and so is elapsed time where `timed` says so. -/
def State.keptBy (s : State) (timed : Bool) (o : Host.Outcome State Fault Refusal) : Prop :=
  ∀ t, o = .next t → t.pending = s.pending ∧ t.variant = s.variant ∧ (timed = true → t.mono = s.mono)

theorem State.keptBy_run (f : State → State) : s.keptBy true (run f s) := by
  intro t ht
  rcases run_next s f ht with ⟨-, rfl⟩ | ⟨-, rfl⟩ <;> simp

theorem State.keptBy_runIf (m : String) (ok : Bool) (f : State → State) : s.keptBy true (runIf m ok f s) := by
  intro t ht
  rcases (runIf_next s f ht).2 with ⟨-, rfl⟩ | ⟨-, rfl⟩ <;> simp

theorem State.keptBy_runPower (f : State → State) : s.keptBy false (runPower f s) := by
  intro t ht
  rw [runPower_next s f ht]
  exact ⟨commit_pending _ _, commit_variant _ _, nofun⟩

/-- Every row ends in one of the three ways: the first group after a check of its operands, the second without one, and the rows of
the supplies and the reset pins in OFF too. -/
theorem exec_keptBy (i : Instr) : s.keptBy (!isSupply i) (exec i s) := by
  cases i with
  | startStream | stopStream | setProfile | armTake | abortTake | abortReplay | replayTake | calibrate | rackCask | loadCask | saveCask
  | calAbort | coilRun | coilStop | roleSet | energyPlan | setBudget | bistRun | nvRead | nvWrite | nvStoreTrims | attest | fwStage
  | fwCommit | debugUnlockChallenge | debugUnlockResponse | cmdProd | chBufProd | cmpCons | chScmpCons | commandFetch
  | interruptModerationTimeout | registerWrite | loRegisterRead | tmgSyncConfigWrite | tmgTrigConfigWrite | trsTauWrite | calTrimWrite
  | coilUcodeWrite | channelEnable | channelDisable | linkUp | recallComplete | gridConversionDone | readout | halo | state | history
  | backfeed | control | misdeliveredItemReturn | previewFrameComplete | committedFrameComplete | egressBufferAvailable
  | recordTransferDone | refInEdge | ltcFrame | trigInEdge | cellarEccError | patrolScrub | trellisLinkFail | dieWatchdogMiss
  | diePrepared | replicaCheckDone | replicaRestore | drainEnd | calibrationDecision | hkcConversionComplete | ledgerInterval | timeSync
  | frameEpoch | ringTrigger | census | censusReply | delay | user | nack | censusReq | ringBadMessage | ringLoopTimeout | sliceEnd
  | sliceRetry | ringMessageReturn =>
    dsimp only [exec]
    exact s.keptBy_runIf _ _ _
  | senBiasWrite | senQrefWrite | senGridFrameLoRead | senGridFrameHiRead | gridFreezeTimeout | settlingEnd | pplRadDataWrite | swap
  | flush | regGo | injGo | selfcal | qFlush | hkcQLoRead | censusRequest | userSend | wayCfgWrite | pstateRequest | critHoldClear | lock
  | secMboxReqWrite | cmdEn | glbIntSummaryWrite | glbIntEnWrite | busMasterEnableChange | d3hotEntry | functionLevelReset | bootComplete
  | bootBistEnd | pstateReached | frameSnapshot | intermediateSnapshot | refLossTimeout | ltcLossTimeout | triggerAccept
  | takeTriggerFinal | takeFinalise | takeInterruptedClose | replayRecordQueue | roleSetReadyTimeout | rotationDue | loadCaskCopyDone
  | saveCaskDone | calibrationCopyValid | calAutoStart | chopGridPoint | coilCurrentAtTarget | phase | phaseDurationEnd | waitKink
  | waitKinkTimeout | jumpIf | setFlag | endProfile | illegalWord | untimedLimit | kinkSampleTrigger | kinkWindowDecision | coilOc
  | gapEnd | gapStuck | hkcRegTimer | hkcHeldTriggerStart | hkcSelfcalStart | hkcSelfcalDone | hkcSelfcalPeriod | critNvResume
  | throttleStepTimer | xchkInterval | powerOnHour | logDeferredWrite | signJobDone | milestoneSigned | debugChallengeExpire
  | timeSyncSend | censusTimeout | ringLock | masterConflictDecision | alignHoldoverTimeout | bgSliceTimer | egressSliceBufferTimeout
  | loadCaskCheckDone | fwStageDone | nvAccessDone | ltcFreewheelEnd | mixedDecayFastEnd | coilBlankingEnd | hkcTrimGroupTrigger
  | linkDown | d3hotExit | trngHealthFail | ringLockLoss =>
    dsimp only [exec]
    exact s.keptBy_run _
  | powerOn | rstNAssert | rstNRelease | vioLow | vddHLow | mgmtWatchdogExpire | perstNAssert | perstNRelease | supplyResetRelease =>
    dsimp only [exec]
    exact s.keptBy_runPower _

/-- Settles O58: whichever way a command ends, it leaves the queue and the variant, and only the supplies' way leaves elapsed time to the
command. -/
theorem commandsKeepQueueAndTime : Obligations.CommandsKeepQueueAndTime := by
  unfold Obligations.CommandsKeepQueueAndTime
  intro i s t ht
  obtain ⟨hpending, hvariant, htime⟩ := exec_keptBy s i t ht
  exact ⟨hpending, hvariant, fun hi => htime (by simp [hi])⟩

end Sys2Proof.Machine
end

section
/-! One tick of the timebase (R57, log 1): what it does to time and to the trigger settings, and what it leaves of the registers. -/

namespace Sys2Proof.Machine

open Sys2Proof

variable (s : State)

/-! ## The parts of a tick -/

/-- A message of the ring that starts alters the ring's part and what has left the block. -/
theorem State.ringStart_keeps {β : Type} (g : State → β)
    (hg : ∀ (u : State) w o l, g { u with way := w, outs := o, linkL12 := l } = g u) (q : RingOwn) : g (s.ringStart q) = g s := by
  unfold State.ringStart
  dsimp only
  split_ifs
  · exact hg s _ _ _
  · exact hg s _ _ _
  · exact hg s _ _ _

theorem State.ringDrain_keeps {β : Type} (g : State → β)
    (hg : ∀ (u : State) w o l, g { u with way := w, outs := o, linkL12 := l } = g u) : g s.ringDrain = g s := by
  unfold State.ringDrain
  split
  · split
    · exact (State.ringStart_keeps _ g hg _).trans (hg s _ s.outs s.linkL12)
    · rfl
  · rfl

/-- Of the registers, buffers that an EGRESS slice takes alter the count of free ones (R286, R414). -/
theorem State.egressTick_keeps {β : Type} (g : State → β) (hreg : ∀ (u : State) v, g (u.setReg Reg.HIF_POOL_FREE v) = g u)
    (hg : ∀ (u : State) n h b, g { u with free := n, hif := h, bst := b } = g u) : g s.egressTick = g s := by
  unfold State.egressTick State.takeEgress
  dsimp only
  split_ifs
  · rfl
  · exact (hreg _ _).trans (hg s _ _ _)
  · rfl

/-- The timing once a tick has put the trigger settings `cfg` and `holdoff` into force: it remembers those that they replace (R83). -/
def Tmg.latched (m : Tmg) (mono : Nat) (cfg holdoff : Word) : Tmg :=
  { m with
    trigCfg := cfg, trigHoldoff := holdoff
    trigOld := if cfg = m.trigCfg ∧ holdoff = m.trigHoldoff then m.trigOld else (mono, m.trigCfg, m.trigHoldoff) :: m.trigOld }

theorem State.latchTrig_eq :
    s.latchTrig = { s with tmg := s.tmg.latched s.mono (s.reg Reg.TMG_TRIG_CFG) (s.reg Reg.TMG_TRIG_HOLDOFF) } := by
  unfold State.latchTrig Tmg.latched
  dsimp only
  split
  · next h => rw [h.1, h.2]
  · rfl

/-! ## The tick -/

/-- What the self-test and the converter do at a tick. -/
abbrev State.tickWork (s : State) : State := s.latchGated.egressTick

/-- Time goes on by one, and the registers that a snapshot latches follow (R57, R86). -/
def State.aged (s : State) : State :=
  { s with
    now := (s.now + 1) % 2 ^ 64, mono := s.mono + 1, fresh := [], held := s.regs, linkL12 := s.linkL12 || s.linkRests }

/-- The state of a tick before the summary follows it. -/
def State.ticked (s : State) : State := s.tickWork.aged.latchTrig.ringDrain

/-- With the supplies there, a tick is that, and the summary after it (R445). -/
theorem State.tick_of_powered (hp : s.powered) : s.tick = s.ticked.refreshSummary := by
  unfold State.tick
  rw [if_pos (show s.clockRuns = true by simp [State.clockRuns, hp])]
  rfl

/-- What shows neither the converter, the self-test, the host interface nor the free count stands through the work of a tick. -/
theorem State.tickWork_keeps {β : Type} (g : State → β) (hreg : ∀ (u : State) v, g (u.setReg Reg.HIF_POOL_FREE v) = g u)
    (hg : ∀ (u : State) n h b, g { u with free := n, hif := h, bst := b } = g u) (hk : ∀ (u : State) k, g { u with hkc := k } = g u) :
    g s.tickWork = g s :=
  (State.egressTick_keeps _ g hreg hg).trans (hk s _)

theorem State.tickWork_reg {o : Nat} (h : o ≠ Reg.HIF_POOL_FREE) : s.tickWork.reg o = s.reg o :=
  s.tickWork_keeps (fun u => u.reg o) (fun u v => u.reg_setReg_ne v h) (fun _ _ _ _ => rfl) fun _ _ => rfl

theorem State.tickWork_regs (h : s.egressTested = false) : s.tickWork.regs = s.regs := by
  have hidle : s.latchGated.egressTested = false := h
  unfold State.tickWork State.egressTick
  rw [hidle]
  rfl

@[simp] theorem State.ticked_now : s.ticked.now = (s.now + 1) % 2 ^ 64 := by
  unfold State.ticked
  rw [State.ringDrain_keeps _ State.now fun _ _ _ _ => rfl, State.latchTrig_eq]
  exact congrArg (fun n => (n + 1) % 2 ^ 64) (s.tickWork_keeps State.now (fun _ _ => rfl) (fun _ _ _ _ => rfl) fun _ _ => rfl)

@[simp] theorem State.ticked_mono : s.ticked.mono = s.mono + 1 := by
  unfold State.ticked
  rw [State.ringDrain_keeps _ State.mono fun _ _ _ _ => rfl, State.latchTrig_eq]
  exact congrArg (· + 1) (s.tickWork_keeps State.mono (fun _ _ => rfl) (fun _ _ _ _ => rfl) fun _ _ => rfl)

@[simp] theorem State.ticked_fresh : s.ticked.fresh = [] := by
  unfold State.ticked
  rw [State.ringDrain_keeps _ State.fresh fun _ _ _ _ => rfl, State.latchTrig_eq]
  rfl

@[simp] theorem State.ticked_pending : s.ticked.pending = s.pending := by
  unfold State.ticked
  rw [State.ringDrain_keeps _ State.pending fun _ _ _ _ => rfl, State.latchTrig_eq]
  exact s.tickWork_keeps State.pending (fun _ _ => rfl) (fun _ _ _ _ => rfl) fun _ _ => rfl

@[simp] theorem State.ticked_held : s.ticked.held = s.tickWork.regs := by
  unfold State.ticked
  rw [State.ringDrain_keeps _ State.held fun _ _ _ _ => rfl, State.latchTrig_eq]
  rfl

@[simp] theorem State.ticked_regs : s.ticked.regs = s.tickWork.regs := by
  unfold State.ticked
  rw [State.ringDrain_keeps _ State.regs fun _ _ _ _ => rfl, State.latchTrig_eq]
  rfl

/-- The trigger settings that a tick puts into force (R83). -/
@[simp] theorem State.ticked_tmg :
    s.ticked.tmg = s.tmg.latched (s.mono + 1) (s.reg Reg.TMG_TRIG_CFG) (s.reg Reg.TMG_TRIG_HOLDOFF) := by
  have hmono : s.tickWork.mono = s.mono := s.tickWork_keeps State.mono (fun _ _ => rfl) (fun _ _ _ _ => rfl) fun _ _ => rfl
  have htmg : s.tickWork.tmg = s.tmg := s.tickWork_keeps State.tmg (fun _ _ => rfl) (fun _ _ _ _ => rfl) fun _ _ => rfl
  rw [← s.tickWork_reg (o := Reg.TMG_TRIG_CFG) (by decide), ← s.tickWork_reg (o := Reg.TMG_TRIG_HOLDOFF) (by decide), ← htmg, ← hmono]
  unfold State.ticked
  rw [State.ringDrain_keeps _ State.tmg fun _ _ _ _ => rfl, State.latchTrig_eq]
  rfl

/-- Settles O56: the command at the front by `step_cons`; an empty queue by what a tick leaves of each part. -/
theorem stepTakesTheFrontCommand : Obligations.StepTakesTheFrontCommand := by
  unfold Obligations.StepTakesTheFrontCommand
  intro s
  refine ⟨fun c rest h => step_cons s h, fun hq hp => ?tick, fun hq hoff => ?off⟩
  case tick =>
    have hstored : ∀ o, s.ticked.reg o = s.tickWork.reg o := fun o => by unfold State.reg; rw [s.ticked_regs]
    refine ⟨_, step_nil s hq, ?_⟩
    rw [s.tick_of_powered hp]
    refine ⟨by simp, by simp, by simp, by simp [hq], fun o ho => ?held, fun o hs ho => ?regs, fun he => ⟨?idleHeld, ?idleFree⟩⟩
    case held =>
      rw [State.refreshSummary_held, s.ticked_held]
      exact s.tickWork_reg ho
    case regs => rw [State.reg_refreshSummary_ne _ hs, hstored, s.tickWork_reg ho]
    case idleHeld => rw [State.refreshSummary_held, s.ticked_held, s.tickWork_regs he]
    case idleFree =>
      rw [State.reg_refreshSummary_ne _ (by decide), hstored]
      unfold State.reg
      rw [s.tickWork_regs he]
  case off => rw [step_nil s hq, s.tick_of_off hoff]

end Sys2Proof.Machine
end

section
/-! Settings that other rules hold back: stored, banked, remembered or rejected (R63, R83, R112, R116, R118, R119, R136, R148). -/

namespace Sys2Proof.Machine

open Sys2Proof

variable (s : State)

theorem exec_tmgSyncConfigWrite (off : Nat) (v : Word) :
    exec (.tmgSyncConfigWrite off v) s =
      runIf "TMG_SYNC_CONFIG_WRITE" (Instr.wf (.tmgSyncConfigWrite off v)) (fun s => s.woken.doSyncWrite off v) s := rfl
theorem exec_tmgTrigConfigWrite (off : Nat) (v : Word) :
    exec (.tmgTrigConfigWrite off v) s =
      runIf "TMG_TRIG_CONFIG_WRITE" (Instr.wf (.tmgTrigConfigWrite off v)) (fun s => s.woken.hostSet off v) s := rfl
theorem exec_pplRadDataWrite (v : Word) : exec (.pplRadDataWrite v) s = run (fun s => s.woken.doRadData v) s := rfl
theorem exec_swap (v : Word) : exec (.swap v) s = run (fun s => s.woken.writePpl Reg.PPL_RAD_CTRL v) s := rfl
theorem exec_flush (v : Word) : exec (.flush v) s = run (fun s => s.woken.writeTrs Reg.TRS_CTRL v) s := rfl
theorem exec_trsTauWrite (off : Nat) (v : Word) :
    exec (.trsTauWrite off v) s = runIf "TRS_TAU_WRITE" (Instr.wf (.trsTauWrite off v)) (fun s => s.woken.writeTrs off v) s := rfl

/-! ## Stored and rejected writes -/

/-- A write that follows the access codes reads as they leave it, once its command has ended. -/
theorem reg_commit_hostSet {off : Nat} (ho : off ≠ Reg.GLB_INT_SUMMARY) (v : Word) :
    (commit s (s.woken.hostSet off v)).reg off = s.merged off v :=
  (reg_commit_ne s _ ho).trans (s.woken.reg_setReg_self off _)

/-- A rejected write shows in the flag of its block, and leaves every register of another offset. -/
theorem reg_and_flag_of_rejected (u : State) {f : Fld} {off : Nat} (ho : off ≠ Reg.GLB_INT_SUMMARY) (hf : off ≠ f.off)
    (hs : f.off ≠ Reg.GLB_INT_SUMMARY) (hl : f.lo < 32) (hw : 0 < f.wd) :
    (commit s (u.sticky f)).reg off = u.reg off ∧ (commit s (u.sticky f)).flag f = true := by
  rw [reg_commit_ne s _ ho, flag_commit hs]
  exact ⟨u.reg_sticky_ne hf, flag_sticky u hl hw⟩

/-! ## Timing -/

/-- A reference setting is stored outside a stream, and rejected in it or out of range (R63). -/
theorem yields_tmgSyncConfigWrite {off : Nat} {v : Word} (hp : s.powered) (hw : Instr.wf (.tmgSyncConfigWrite off v) = true) :
    Yields (.tmgSyncConfigWrite off v) s fun t =>
      if s.inStream || !syncValueOk off v then t.reg off = s.reg off ∧ t.flag Fld.TMG_STATUS_CFG_REJ = true ∧ t.tmg = s.tmg
      else t.reg off = s.merged off v ∧ t.tmg = s.tmg := by
  have hoff : off = Reg.TMG_SYNC_CFG ∨ off = Reg.TMG_REF_OFS ∨ off = Reg.TMG_REF_TOL := by simpa [Instr.wf] using hw
  have hother : off ≠ Reg.GLB_INT_SUMMARY ∧ off ≠ Reg.TMG_STATUS := by rcases hoff with rfl | rfl | rfl <;> decide
  refine yields_of_runIf (exec_tmgSyncConfigWrite s off v) hw hp ?_
  by_cases hrej : (s.inStream || !syncValueOk off v) = true
  · rw [if_pos hrej, show s.woken.doSyncWrite off v = s.woken.sticky Fld.TMG_STATUS_CFG_REJ from if_pos hrej, commit_tmg]
    have hreg := reg_and_flag_of_rejected s s.woken (f := Fld.TMG_STATUS_CFG_REJ) hother.1 hother.2 (by decide) (by decide) (by decide)
    exact ⟨hreg.1, hreg.2, rfl⟩
  · rw [if_neg hrej, show s.woken.doSyncWrite off v = s.woken.hostSet off v from if_neg hrej, commit_tmg]
    exact ⟨reg_commit_hostSet s hother.1 v, rfl⟩

/-- A trigger setting is stored; a tick puts it into force (R83). -/
theorem yields_tmgTrigConfigWrite {off : Nat} {v : Word} (hp : s.powered) (hw : Instr.wf (.tmgTrigConfigWrite off v) = true) :
    Yields (.tmgTrigConfigWrite off v) s fun t => t.reg off = s.merged off v ∧ t.tmg = s.tmg := by
  have hoff : off = Reg.TMG_TRIG_CFG ∨ off = Reg.TMG_TRIG_HOLDOFF := by simpa [Instr.wf] using hw
  refine yields_of_runIf (exec_tmgTrigConfigWrite s off v) hw hp ?_
  exact ⟨reg_commit_hostSet s (by rcases hoff with rfl | rfl <;> decide) v, by rw [commit_tmg]; rfl⟩

/-! ## The radiometric table -/

/-- An entry goes to the bank that the host loads, and the address moves on, outside a take and with no swap waiting (R112). -/
theorem State.doRadData_of_open {v : Word} (ht : s.pow.st ≠ .take) (hs : s.flag Fld.PPL_RAD_CTRL_SWAP = false) :
    tabGet (fun _ => 0) (s.doRadData v).radIdle (s.regN Reg.PPL_RAD_ADDR) = v.toNat % 2 ^ 16 ∧
      (s.doRadData v).regN Reg.PPL_RAD_ADDR = (s.regN Reg.PPL_RAD_ADDR + 1) % 4096 ∧ (s.doRadData v).rad.active = s.rad.active := by
  have hfits : (s.regN Reg.PPL_RAD_ADDR + 1) % 4096 < 2 ^ 32 := by omega
  unfold State.doRadData
  rw [if_neg (by simp [ht, hs])]
  cases ha : s.rad.active with
  | true => exact ⟨by simp [State.radIdle, ha], regN_setRegN hfits, ha⟩
  | false => exact ⟨by simp [State.radIdle, ha], regN_setRegN hfits, ha⟩

theorem yields_pplRadDataWrite {v : Word} (hp : s.powered) :
    Yields (.pplRadDataWrite v) s fun t =>
      if s.pow.st = .take ∨ s.flag Fld.PPL_RAD_CTRL_SWAP = true then t.rad = s.rad ∧ t.flag Fld.PPL_STATUS_CFG_REJ = true
      else tabGet (fun _ => 0) t.radIdle (s.regN Reg.PPL_RAD_ADDR) = v.toNat % 2 ^ 16 ∧
        t.regN Reg.PPL_RAD_ADDR = (s.regN Reg.PPL_RAD_ADDR + 1) % 4096 ∧ t.rad.active = s.rad.active := by
  refine yields_of_run (exec_pplRadDataWrite s v) hp ?_
  by_cases hrej : s.pow.st = .take ∨ s.flag Fld.PPL_RAD_CTRL_SWAP = true
  · have hbarred : (decide (s.pow.st = .take) || s.flag Fld.PPL_RAD_CTRL_SWAP) = true := by simpa using hrej
    have hdiscarded : s.woken.doRadData v = s.woken.sticky Fld.PPL_STATUS_CFG_REJ := if_pos hbarred
    rw [if_pos hrej, hdiscarded, commit_rad, flag_commit (by decide)]
    exact ⟨rfl, flag_sticky _ (by decide) (by decide)⟩
  · rw [if_neg hrej]
    obtain ⟨ht, hs⟩ := not_or.mp hrej
    have hidle : ∀ u : State, (commit s u).radIdle = u.radIdle := fun u => by unfold State.radIdle; rw [commit_rad]
    rw [hidle, regN_commit (by decide), commit_rad]
    exact s.woken.doRadData_of_open ht (Bool.eq_false_iff.mpr hs)

/-- A swap is remembered until its snapshot (R112, R116). -/
theorem yields_swap {v : Word} (hp : s.powered) (ht : s.pow.st ≠ .take) (hv : pplValueOk Reg.PPL_RAD_CTRL v = true)
    (hs : fldOf v Fld.PPL_RAD_CTRL_SWAP = 1) :
    Yields (.swap v) s fun t => t.flag Fld.PPL_RAD_CTRL_SWAP = true ∧ t.rad = s.rad := by
  have hset : s.woken.writePpl Reg.PPL_RAD_CTRL v = (s.woken.hostSet Reg.PPL_RAD_CTRL v).setFld Fld.PPL_RAD_CTRL_SWAP 1 := by
    unfold State.writePpl
    rw [if_neg (by decide), if_neg (by decide), if_neg (by simp [ht, hv]), if_neg (by decide), if_pos rfl, if_pos hs]
  refine yields_of_run (exec_swap s v) hp ?_
  rw [hset, commit_rad, flag_commit (by decide)]
  exact ⟨flag_setFld_one _ (by decide) (by decide), rfl⟩

/-! ## Restoration -/

/-- A flush is remembered until its snapshot (R136, R148). -/
theorem yields_flush {v : Word} (hp : s.powered) (hv : v.getLsbD 0 = true) :
    Yields (.flush v) s fun t => t.flag Fld.TRS_CTRL_FLUSH = true := by
  have hset : s.woken.writeTrs Reg.TRS_CTRL v = s.woken.setFld Fld.TRS_CTRL_FLUSH 1 := by
    unfold State.writeTrs
    rw [if_pos rfl, if_pos hv]
  refine yields_of_run (exec_flush s v) hp ?_
  rw [hset, flag_commit (by decide)]
  exact flag_setFld_one _ (by decide) (by decide)

/-- A target constant is stored outside a take and in range; that one governs and has changed is remembered beside (R118, R119). -/
theorem yields_trsTauWrite {off : Nat} {v : Word} (hp : s.powered) (hw : Instr.wf (.trsTauWrite off v) = true) :
    Yields (.trsTauWrite off v) s fun t =>
      if s.pow.st = .take ∨ trsValueOk off v = false then t.reg off = s.reg off ∧ t.flag Fld.TRS_STATUS_CFG_REJ = true
      else t.reg off = s.merged off v ∧
        ((off = Reg.TRS_TAU_EVEN ∧ s.tol.prof.mode = Mode.even ∨ off = Reg.TRS_TAU_FAST ∧ s.tol.prof.mode = Mode.fast) →
          s.merged off v ≠ s.reg off → t.trs.tauWrites = s.trs.tauWrites ++ [s.mono]) := by
  have hoff : off = Reg.TRS_TAU_EVEN ∨ off = Reg.TRS_TAU_FAST := by simpa [Instr.wf] using hw
  have hsum : off ≠ Reg.GLB_INT_SUMMARY := by rcases hoff with rfl | rfl <;> decide
  have hplain : off ≠ Reg.TRS_CTRL ∧ ¬(off = Reg.TRS_STATUS ∨ off = Reg.TRS_TBL_IDX) := by rcases hoff with rfl | rfl <;> decide
  have hmask : rwMask off ≠ 0 := by rcases hoff with rfl | rfl <;> decide
  refine yields_of_runIf (exec_trsTauWrite s off v) hw hp ?_
  unfold State.writeTrs
  rw [if_neg hplain.1, if_neg hplain.2, if_neg hmask]
  by_cases hrej : s.pow.st = .take ∨ trsValueOk off v = false
  · rw [if_pos hrej, if_pos (by simpa using hrej)]
    exact reg_and_flag_of_rejected s s.woken hsum (mt .inl hplain.2) (by decide) (by decide) (by decide)
  · rw [if_neg hrej, if_neg (by simpa using hrej)]
    have hstored : (s.woken.hostSet off v).reg off = s.merged off v := s.woken.reg_setReg_self off _
    dsimp only
    refine ⟨?_, fun hgoverns hnew => ?_⟩
    · refine (reg_commit_ne s _ hsum).trans (Eq.trans ?_ hstored)
      split <;> rfl
    · rw [commit_trs, if_pos ⟨hgoverns, by rw [hstored]; exact hnew⟩]
      rfl

/-- Settles O37: each clause is the theorem above of its command. -/
theorem settingsAreStoredOrRejected : Obligations.SettingsAreStoredOrRejected := by
  unfold Obligations.SettingsAreStoredOrRejected
  intro s off v hp
  exact ⟨yields_tmgSyncConfigWrite s hp, yields_tmgTrigConfigWrite s hp, yields_pplRadDataWrite s hp, yields_swap s hp,
    yields_flush s hp, yields_trsTauWrite s hp⟩

end Sys2Proof.Machine
end

section
/-! Streams, profiles and budgets: an accepted command waits for its snapshot (R60, R62, R132, R270, R317). -/

namespace Sys2Proof.Machine

open Sys2Proof

variable (s : State)

theorem exec_startStream (h : Hdr) :
    exec (.startStream h) s = runIf "START_STREAM" (Instr.wf (.startStream h)) (fun s => s.doStartStream h) s := rfl
theorem exec_stopStream (h : Hdr) :
    exec (.stopStream h) s = runIf "STOP_STREAM" (Instr.wf (.stopStream h)) (fun s => s.doStopStream h) s := rfl
theorem exec_setProfile (h : Hdr) (p : ProfileReq) (frame : Nat) :
    exec (.setProfile h p frame) s =
      runIf "SET_PROFILE" (Instr.wf (.setProfile h p frame)) (fun s => s.doSetProfile h p frame) s := rfl
theorem exec_setBudget (h : Hdr) (cap window allow flat mask : Nat) :
    exec (.setBudget h cap window allow flat mask) s =
      runIf "SET_BUDGET" (Instr.wf (.setBudget h cap window allow flat mask)) (fun s => s.doSetBudget h cap window allow flat mask) s :=
  rfl

variable {h : Hdr}

/-- START_STREAM in READY, at rest, settled and with its source of snapshots in place, waits for its snapshot (R60, R69). -/
theorem yields_startStream (ht : s.taken h Op.startStream 1) (hready : s.pow.st = .ready) (hrest : s.pow.target = none)
    (hsettled : s.sen.settleEnd = none) (hsync : s.syncBusy = false)
    (hperiod : s.refPeriodBad s.tol.req.period (pMin s.rol.map s.tol.req 0) = false) :
    Yields (.startStream h) s fun t => t.tol.start = some (s.hif.nextCid, 0) := by
  have ⟨hpow, hhdr, _⟩ := ht
  have hbad : (fun u : State => if u.refPeriodBad u.tol.req.period (pMin u.rol.map u.tol.req 0) then some Why.noField else none)
      (s.accepted h Op.startStream) = none := if_neg (ne_true_of_eq_false hperiod)
  have hfree : ¬(s.pow.st ≠ .ready ∨ s.moving ∨ s.settling ∨ s.syncBusy) := by
    simp [State.moving, State.settling, hready, hrest, hsettled, hsync]
  refine yields_of_runIf (exec_startStream s h) hhdr hpow ?_
  unfold State.doStartStream
  rw [State.acceptCmd_of_taken s ht hbad, commit_tol]
  exact congrArg (fun u : State => u.tol.start) (if_neg hfree)

/-- STOP_STREAM in a stream that nothing ends yet waits for its snapshot (R132). -/
theorem yields_stopStream (ht : s.taken h Op.stopStream 1) (hstream : s.inStream = true) (hstop : s.tol.stop = none)
    (hlast : s.trs.lastFrame = none) : Yields (.stopStream h) s fun t => t.tol.stop = some s.hif.nextCid := by
  have ⟨hpow, hhdr, _⟩ := ht
  have hfree : ¬((!s.inStream) = true ∨ s.tol.stop.isSome ∨ s.trs.lastFrame.isSome) := by simp [hstream, hstop, hlast]
  refine yields_of_runIf (exec_stopStream s h) hhdr hpow ?_
  unfold State.doStopStream
  rw [State.acceptCmd_of_taken s ht rfl, commit_tol]
  exact congrArg (fun u : State => u.tol.stop) (if_neg hfree)

/-- A profile without a field at fault passes the first of the checks too (R271). -/
theorem profileFieldBad_eq_none {p : ProfileReq} (hb : profileBad p = none) : profileFieldBad p = none := by
  unfold profileBad at hb
  split at hb
  · cases hb
  · next hf => exact hf

/-- SET_PROFILE outside a take and a calibration waits for its snapshot (R62). -/
theorem yields_setProfile {p : ProfileReq} {frame : Nat} (ht : s.taken h Op.setProfile 1) (hp : profileReqOk p = true)
    (hframe : frame < 2 ^ 64) (hb : profileBad p = none) (hst : s.pow.st ≠ .take) (hcal : s.casks.cal = none) :
    Yields (.setProfile h p frame) s fun t => t.tol.setProf = some (s.hif.nextCid, reqProfile p, frame) := by
  have ⟨hpow, hhdr, _⟩ := ht
  have hw : Instr.wf (.setProfile h p frame) = true := by
    simp only [Instr.wf, hhdr, hp, u64, decide_eq_true hframe, Bool.and_self]
  have hfree : ¬(s.pow.st = .take ∨ s.casks.cal.isSome) := by simp [hst, hcal]
  refine yields_of_runIf (exec_setProfile s h p frame) hw hpow ?_
  unfold State.doSetProfile
  rw [profileFieldBad_eq_none hb, State.acceptCmd_of_taken s ht hb, commit_tol]
  exact congrArg (fun u : State => u.tol.setProf) (if_neg hfree)

/-- SET_BUDGET whose fields are in order and leave the sensor its share waits for its snapshot (R317). -/
theorem yields_setBudget {cap window allow flat mask : Nat} (ht : s.taken h Op.setBudget 1) (hc : cap < 2 ^ 32) (hwin : window < 2 ^ 32)
    (ha : allow < 2 ^ 32) (hf : flat < 2 ^ 32) (hm : mask < 2 ^ 8) (hb : budgetBad cap window flat mask = none)
    (hclash : s.budgetClash cap flat mask = false) :
    Yields (.setBudget h cap window allow flat mask) s fun t =>
      t.tol.budget = some (s.hif.nextCid, [cap, window, allow, flat, mask]) := by
  have ⟨hpow, hhdr, _⟩ := ht
  have hw : Instr.wf (.setBudget h cap window allow flat mask) = true := by
    simp only [Instr.wf, hhdr, u32, u8, decide_eq_true hc, decide_eq_true hwin, decide_eq_true ha, decide_eq_true hf,
      decide_eq_true hm, Bool.and_self]
  refine yields_of_runIf (exec_setBudget s h cap window allow flat mask) hw hpow ?_
  unfold State.doSetBudget
  rw [State.acceptCmd_of_taken s ht, commit_tol]
  rw [hb]
  exact if_neg (ne_true_of_eq_false hclash)

/-- Settles O6: each clause is the theorem above of its command. -/
theorem streamAndProfileCommandsPend : Obligations.StreamAndProfileCommandsPend := by
  unfold Obligations.StreamAndProfileCommandsPend
  intro s h
  exact ⟨yields_startStream s, yields_stopStream s, fun _ _ => yields_setProfile s, fun _ _ _ _ _ => yields_setBudget s⟩

end Sys2Proof.Machine
end

section
/-! Takes: armed, made final, finalised, closed after an interruption, and aborted (R80, R236, R237, R244 to R246). -/

namespace Sys2Proof.Machine

open Sys2Proof

variable (s : State)

theorem exec_armTake (h : Hdr) (q : ArmReq) :
    exec (.armTake h q) s = runIf "ARM_TAKE" (Instr.wf (.armTake h q)) (fun s => s.doArmTake h q) s := rfl
theorem exec_takeTriggerFinal : exec .takeTriggerFinal s = run State.doTriggerFinal s := rfl
theorem exec_takeFinalise : exec .takeFinalise s = run State.doFinalise s := rfl
theorem exec_takeInterruptedClose : exec .takeInterruptedClose s = run State.doInterruptedClose s := rfl
theorem exec_abortTake (h : Hdr) :
    exec (.abortTake h) s = runIf "ABORT_TAKE" (Instr.wf (.abortTake h)) (fun s => s.doAbortTake h) s := rfl

/-! ## What leaves the takes alone -/

theorem cel_offRecord : OffRecord State.cel where
  reg _ _ _ _ := rfl
  fresh _ _ := rfl
  chan _ _ _ _ := rfl
  nv _ _ := rfl

@[simp] theorem State.showTake_cel (t : Take) (st : Nat) : (s.showTake t st).cel = s.cel := by
  have hoff := cel_offRecord
  exact (hoff.setRegN _ (by decide) _).trans ((hoff.setRegN _ (by decide) _).trans ((hoff.setPair _ (by decide) (by decide) _).trans
    ((hoff.setPair _ (by decide) (by decide) _).trans ((hoff.setPair _ (by decide) (by decide) _).trans (hoff.setRegN s (by decide) _)))))

@[simp] theorem State.goState_cel (p : PState) : (s.goState p).cel = s.cel := by
  unfold State.goState
  split
  · rfl
  · exact cel_offRecord.event _ _ _

@[simp] theorem State.leaveTake_cel : s.leaveTake.cel = s.cel := by
  unfold State.leaveTake
  split
  · rfl
  · dsimp only
    split
    · exact (State.goState_cel _ _).trans (s.goState_cel _)
    · exact s.goState_cel _

@[simp] theorem State.ctrInc_cel (i : Nat) : (s.ctrInc i).cel = s.cel := by
  have heach : ∀ (u : State) l, (u.nvEach l).cel = u.cel := fun u l =>
    foldl_keeps State.cel (f := fun (v : State) (e : Nat × List Byte) => v.nvStore e.1 e.2 1) (fun _ _ => rfl) l u
  unfold State.ctrInc
  split
  · rfl
  · exact (heach _ _).trans rfl

@[simp] theorem State.armDone_cel (r : TakeRun) (status reason : Nat) : (s.armDone r status reason).cel = s.cel :=
  s.complete_cel _ _ _ _ _

/-- Of the takes, the registers that show the one last finalised again lose the index of the other alone (R245, R253). -/
theorem State.unshowTake_cel (r : TakeRun) : (s.unshowTake r).cel = { s.cel with slots := s.cel.slots.filter fun e => e.1 ≠ r.t.id } := by
  have hregs : (r.before.foldl (fun (u : State) e => u.setReg e.1 e.2) s).cel = s.cel :=
    foldl_keeps State.cel (f := fun (u : State) (e : Nat × Word) => u.setReg e.1 e.2) (fun _ _ => rfl) _ _
  unfold State.unshowTake State.dropIndex
  rw [hregs]

/-! ## Arming -/

theorem yields_armTake {h : Hdr} {q : ArmReq} (ht : s.taken h Op.armTake 1) (hc : s.cidsOk) (hpre : q.pre < 2 ^ 32) (hpos : 0 < q.post)
    (hpost : q.post < 2 ^ 32) (hext : q.extent < 2 ^ 32) (hretrig : q.retrig < 2) (hstore : q.store < 2) (hst : s.pow.st = .stream)
    (hrun : s.cel.run = none) (hint : s.cel.interrupted = none) (hroom : s.cel.stored.length < 16 ∨ q.freeAll = true)
    (hrep : s.cel.replay = none ∨ q.freeAll = false) (hcal : s.casks.cal = none) (hset : s.sen.settleEnd = none)
    (hsync : s.syncBusy = false) :
    Yields (.armTake h q) s fun t =>
      ∃ r, t.cel.run = some r ∧ r.stage = 0 ∧ r.cid = s.hif.nextCid ∧ r.req = q ∧ r.acceptTick = s.nextAccept := by
  have ⟨hpow, hhdr, _⟩ := ht
  have hw : Instr.wf (.armTake h q) = true := by
    simp only [Instr.wf, hhdr, u32, decide_eq_true hpre, decide_eq_true hpost, decide_eq_true hext, decide_eq_true hretrig,
      decide_eq_true hstore, Bool.and_self]
  have hbad : (fun _ : State => if q.post = 0 then some 0x14 else none) (s.accepted h Op.armTake) = none := if_neg (by omega)
  have hfree : ¬(s.pow.st ≠ .stream ∨ s.cel.run.isSome ∨ s.cel.interrupted.isSome ∨ (16 ≤ s.cel.stored.length ∧ !q.freeAll) ∨
      (s.cel.replay.isSome ∧ q.freeAll) ∨ s.casks.cal.isSome ∨ s.settling ∨ s.syncBusy) := by
    have hfull : ¬(16 ≤ s.cel.stored.length ∧ q.freeAll = false) := by rcases hroom with h | h <;> simp [h]
    have hreplays : ¬(s.cel.replay.isSome = true ∧ q.freeAll = true) := by rcases hrep with h | h <;> simp [h]
    simp [hst, hrun, hint, hfull, hreplays, hcal, State.settling, hset, hsync]
  have hat : (s.accepted h Op.armTake).acceptTick s.hif.nextCid = s.nextAccept := by
    unfold State.acceptTick
    rw [s.find_accepted hc]
    rfl
  refine yields_of_runIf (exec_armTake s h q) hw hpow ?_
  unfold State.doArmTake
  rw [State.acceptCmd_of_taken s ht hbad, commit_cel]
  split
  · next hbusy => exact absurd hbusy hfree
  · dsimp only
    split
    · exact ⟨_, rfl, rfl, rfl, rfl, hat⟩
    · exact ⟨_, rfl, rfl, rfl, rfl, hat⟩

/-! ## The end of a take -/

/-- Once the triggers that came in by then are judged, the membership is final 2,500 ticks after S_e (R80). -/
theorem yields_takeTriggerFinal {r : TakeRun} {e : Nat} (hp : s.powered) (hrun : s.cel.run = some r) (hstage : r.stage = 3)
    (hopen : r.finalMembers = false) (he : r.endSnap = some e) (hlate : tickLe (tickAdd e 2500) s.now = true)
    (hjudged : ∀ p ∈ s.tmg.trigPending ++ s.tmg.trigEdge.toList, (tickLe p.t e && tickLe p.recv (tickAdd e 2500)) = false) :
    Yields .takeTriggerFinal s fun t => t.cel.run = some { r with finalMembers := true } ∧ t.cel.lastEnd = some e := by
  have hwaits : ((s.tmg.trigPending ++ s.tmg.trigEdge.toList).any fun p => tickLe p.t e && tickLe p.recv (tickAdd e 2500)) = false :=
    List.any_eq_false.mpr fun p hm => ne_true_of_eq_false (hjudged p hm)
  refine yields_of_run (exec_takeTriggerFinal s) hp ?_
  unfold State.doTriggerFinal
  simp only [hrun, he, hwaits]
  rw [if_pos (by simp [hstage, hopen, hlate]), commit_cel]
  exact ⟨rfl, rfl⟩

/-- A take that holds everything, the closing milestone too, is stored CLOSED with its own frames alone (R244). -/
theorem yields_takeFinalise {r : TakeRun} {f : TakeFrame} {ms : List Byte} (hp : s.powered) (hrun : s.cel.run = some r)
    (hstage : r.stage = 3) (hfinal : r.finalMembers = true) (hf : r.t.frames.find? (·.k = r.t.last) = some f)
    (hms : f.milestone = some ms) :
    Yields .takeFinalise s fun t => t.cel.run = none ∧
      ∃ k ∈ t.cel.stored, k.id = r.t.id ∧ k.state = 3 ∧ k.closing = ms ∧ ∀ x ∈ k.frames, r.t.first ≤ x.k ∧ x.k ≤ r.t.last := by
  refine yields_of_run (exec_takeFinalise s) hp ?_
  have hkept : ∀ (u : State) t, ((((u.showTake t 0).sticky Fld.CEL_STATUS_TAKE_END).leaveTake).ctrInc 4).cel = u.cel := fun u t =>
    (State.ctrInc_cel _ _).trans ((State.leaveTake_cel _).trans ((State.sticky_cel _ _).trans (u.showTake_cel t 0)))
  unfold State.doFinalise
  simp only [hrun, hf, hms]
  rw [if_pos ⟨hstage, hfinal⟩, commit_cel]
  rw [apply_ite State.cel, State.armDone_cel, State.armDone_cel, ite_self, hkept]
  refine ⟨rfl, _, List.mem_append_right _ (List.mem_singleton_self _), rfl, rfl, rfl, fun x hx => ?_⟩
  simpa using (List.mem_filter.mp hx).2

/-- An interrupted take whose index names a complete frame of its own is stored INTERRUPTED up to it, once the dies have power again
(R245). -/
theorem yields_takeInterruptedClose {r : TakeRun} {c : Nat} (hp : s.powered) (hint : s.cel.interrupted = some r)
    (hpow : s.cel.repowered = true) (hst : s.pow.st = .ready ∨ s.pow.st = .stream ∨ s.pow.st = .take) (hstage : r.stage ≠ 1)
    (hc : r.t.complete = some c) (hfirst : r.t.first ≤ c) :
    Yields .takeInterruptedClose s fun t => t.cel.interrupted = none ∧
      ∃ k ∈ t.cel.stored, k.id = r.t.id ∧ k.state = 4 ∧ k.last = min c r.t.last ∧ ∀ x ∈ k.frames, x.k ≤ k.last := by
  refine yields_of_run (exec_takeInterruptedClose s) hp ?_
  unfold State.doInterruptedClose
  simp only [hint, hpow, hc]
  rw [if_neg (by rcases hst with h | h | h <;> simp [h]), if_neg (by simp [hstage, hfirst]), commit_cel]
  simp only [State.armDone_cel, State.ctrInc_cel, State.showTake_cel]
  refine ⟨rfl, _, List.mem_append_right _ (List.mem_singleton_self _), rfl, rfl, rfl, fun x hx => ?_⟩
  simpa using (List.mem_filter.mp hx).2

/-! ## ABORT_TAKE -/

/-- Of the takes that are stored, freeing the one in progress keeps each (R245, R246). -/
theorem State.freeTake_cel (r : TakeRun) (reason : Nat) :
    (s.freeTake r reason).cel.run = none ∧ (s.freeTake r reason).cel.stored = s.cel.stored := by
  have hended : (s.freeTake r reason).cel = { (if r.stage = 0 then s else s.unshowTake r).cel with run := none } := by
    unfold State.freeTake
    dsimp only
    split <;> simp
  rw [hended]
  refine ⟨rfl, ?_⟩
  dsimp only
  split
  · rfl
  · rw [s.unshowTake_cel]

theorem yields_abortTake {h : Hdr} {r : TakeRun} (ht : s.taken h Op.abortTake 64) (hrun : s.cel.run = some r) (hstage : r.stage = 1) :
    Yields (.abortTake h) s fun t => t.cel.run = none ∧ t.cel.stored = s.cel.stored := by
  have ⟨hpow, hhdr, _⟩ := ht
  have haccepted : (s.accepted h Op.abortTake).cel = s.cel := rfl
  refine yields_of_runIf (exec_abortTake s h) hhdr hpow ?_
  unfold State.doAbortTake
  rw [State.acceptCmd_of_taken s ht rfl, commit_cel, haccepted, hrun]
  dsimp only
  rw [if_neg (by omega), if_pos hstage, State.complete_cel]
  exact State.freeTake_cel _ r _

/-- Settles O11: each clause is the theorem above of its command. -/
theorem takesArmCloseAndAbort : Obligations.TakesArmCloseAndAbort := by
  unfold Obligations.TakesArmCloseAndAbort
  intro s hp
  exact ⟨fun _ _ => yields_armTake s, fun _ _ => yields_takeTriggerFinal s hp, fun _ _ _ => yields_takeFinalise s hp,
    fun _ _ => yields_takeInterruptedClose s hp, fun _ _ => yields_abortTake s⟩

end Sys2Proof.Machine
end

section
/-! What no record of the host rings can alter: the registers of the other blocks, and the parts beside the host interface (R276 to
R283). -/

namespace Sys2Proof.Machine

open Sys2Proof

/-- What shows no register of the host interface's block, no W1C bit of the tick and nothing of the host interface. -/
structure OffHost {β : Type} (g : State → β) : Prop where
  reg : ∀ s off v, off / 0x400 = 1 → g (State.setReg s off v) = g s
  host : ∀ (s : State) f h, g { s with fresh := f, hif := h } = g s

namespace OffHost

variable {β : Type} {g : State → β} (h : OffHost g) (s : State)

include h

theorem setChan (n : Nat) (c : Chan) : g (s.setChan n c) = g s := h.host s s.fresh _

theorem sticky {f : Fld} (ho : f.off / 0x400 = 1) : g (s.sticky f) = g s := (h.host _ _ s.hif).trans (h.reg s _ _ ho)

/-- The registers of channel `n` lie in the block (R443). -/
theorem chStatus {n : Nat} (hn : n < 8) (lo wd : Nat) : g (s.sticky ⟨Reg.HIF_CH_STATUS n, lo, wd⟩) = g s :=
  h.sticky s (show (0x0494 + 32 * n) / 0x400 = 1 by omega)

theorem dropRec {n : Nat} (hn : n < 8) (r : Rec) : g (s.dropRec n r) = g s := by
  have hcount : Reg.HIF_CH_DROP_COUNT n / 0x400 = 1 := show (0x0498 + 32 * n) / 0x400 = 1 by omega
  have hdropped : ∀ u : State, g ((u.bump (Reg.HIF_CH_DROP_COUNT n)).sticky (Fld.HIF_CH_STATUS_DROP_SEEN n)) = g u := fun u =>
    (h.chStatus _ hn _ _).trans (h.reg u _ _ hcount)
  unfold State.dropRec
  dsimp only
  split
  · exact (h.host _ _ _).trans ((hdropped _).trans (h.setChan s n _))
  · exact (hdropped _).trans (h.setChan s n _)

theorem startXfer {n : Nat} (hn : n < 8) (r : Rec) (held : Nat) : g (s.startXfer n r held) = g s := by
  unfold State.startXfer
  dsimp only
  split
  · rfl
  · split
    · exact h.setChan s n _
    · exact (h.dropRec _ hn r).trans ((h.chStatus _ hn _ _).trans (h.setChan s n _))

theorem pump {n : Nat} (hn : n < 8) : g (s.pump n) = g s := by
  unfold State.pump
  dsimp only
  split
  · rfl
  · split
    · exact (h.startXfer _ hn _ _).trans (h.setChan s n _)
    · rfl

theorem formRec {n : Nat} (hn : n < 8) (r : Rec) : g (s.formRec n r) = g s := by
  have htake : ∀ k, g (s.take n k) = g s := fun k => (h.reg _ _ _ (by decide)).trans (h.setChan s n _)
  unfold State.formRec
  dsimp only
  split
  · exact h.dropRec s hn r
  · split
    · exact (h.dropRec _ hn r).trans ((h.chStatus _ hn _ _).trans (h.setChan s n _))
    · split
      · exact (h.pump _ hn).trans ((h.setChan _ n _).trans (htake _))
      · exact h.dropRec s hn r

theorem event (typ : Nat) (payload : List Byte) : g (s.event typ payload) = g s := h.formRec s (by decide) _

end OffHost

theorem tmg_offHost : OffHost State.tmg := ⟨fun _ _ _ _ => rfl, fun _ _ _ => rfl⟩
theorem mono_offHost : OffHost State.mono := ⟨fun _ _ _ _ => rfl, fun _ _ _ => rfl⟩
theorem now_offHost : OffHost State.now := ⟨fun _ _ _ _ => rfl, fun _ _ _ => rfl⟩

/-- A register of another block. -/
theorem reg_offHost {o : Nat} (ho : o / 0x400 ≠ 1) : OffHost fun u => u.reg o :=
  ⟨fun s off v hoff => s.reg_setReg_ne v (by rintro rfl; exact ho hoff), fun _ _ _ => rfl⟩

end Sys2Proof.Machine
end

section
/-! The reference: its intervals, and the lock that it takes and loses (R64 to R69). -/

namespace Sys2Proof.Machine

open Sys2Proof

variable (s : State)

theorem exec_refInEdge (t : Nat) :
    exec (.refInEdge t) s =
      runIf "REF_IN_EDGE" (Instr.wf (.refInEdge t)) (fun s => if tickLe t s.now then s.doRefEdge t else s) s := rfl
theorem exec_refLossTimeout :
    exec .refLossTimeout s =
      run (fun s => if s.refLate then State.refLose { s with tmg.refTimedOut := true, tmg.alignWait := [] } else s) s := rfl

/-! ## Flags -/

/-- A flag of one bit is that bit of its register. -/
theorem flag_eq_getLsbD {f : Fld} (hw : f.wd = 1) : s.flag f = (s.reg f.off).getLsbD f.lo := by
  unfold State.flag State.fld fldOf
  rw [hw, BitVec.getLsbD, Nat.testBit_eq_decide_div_mod_eq]
  rcases Nat.mod_two_eq_zero_or_one ((s.reg f.off).toNat / 2 ^ f.lo) with h | h <;> simp [h]

/-- A sticky bit clears no flag. -/
theorem flag_sticky_of_flag {f f' : Fld} (hw : f.wd = 1) (h : s.flag f = true) : (s.sticky f').flag f = true := by
  have hreg : (s.sticky f').reg f.off = (s.setReg f'.off (s.reg f'.off ||| BitVec.ofNat 32 (2 ^ f'.lo))).reg f.off := rfl
  rw [flag_eq_getLsbD _ hw, hreg, State.reg_setReg]
  rw [flag_eq_getLsbD s hw] at h
  split
  · next ho => rw [BitVec.getLsbD_or, ← ho, h, Bool.true_or]
  · exact h

/-! ## What judging an aligned snapshot leaves of the reference -/

/-- What the edges alone decide of the reference. -/
def State.edgeView (s : State) : Option Nat × Bool × Nat × Nat × Bool × Bool :=
  (s.tmg.refLast, s.tmg.refTimedOut, s.tmg.pRef, s.tmg.refRun, s.tmg.refPresent, s.tmg.refFormed)

/-- From `s` to `t` aligned snapshots have been judged: the edges' part stands, no holdover begins, no lock is taken without the
reference, and what was lost stays reported (R66, R68). -/
structure State.Judged (s t : State) : Prop where
  edges : t.edgeView = s.edgeView
  holdover : s.tmg.holdover = false → t.tmg.holdover = false
  locked : s.tmg.refPresent = false → s.tmg.locked = false → t.tmg.locked = false
  lost : s.flag Fld.TMG_STATUS_REF_LOST = true → t.flag Fld.TMG_STATUS_REF_LOST = true

namespace State.Judged

variable {s} {t u : State}

theorem refl (s : State) : State.Judged s s := ⟨rfl, id, fun _ => id, id⟩

theorem refLast (h : State.Judged s t) : t.tmg.refLast = s.tmg.refLast := congrArg (fun e => e.1) h.edges
theorem pRef (h : State.Judged s t) : t.tmg.pRef = s.tmg.pRef := congrArg (fun e => e.2.2.1) h.edges
theorem refRun (h : State.Judged s t) : t.tmg.refRun = s.tmg.refRun := congrArg (fun e => e.2.2.2.1) h.edges
theorem refPresent (h : State.Judged s t) : t.tmg.refPresent = s.tmg.refPresent := congrArg (fun e => e.2.2.2.2.1) h.edges
theorem refFormed (h : State.Judged s t) : t.tmg.refFormed = s.tmg.refFormed := congrArg (fun e => e.2.2.2.2.2) h.edges

theorem trans (h : State.Judged s t) (h' : State.Judged t u) : State.Judged s u where
  edges := h'.edges.trans h.edges
  holdover hs := h'.holdover (h.holdover hs)
  locked hp hl := h'.locked (h.refPresent.trans hp) (h.locked hp hl)
  lost hs := h'.lost (h.lost hs)

/-- The status register stands. -/
theorem of_status (hstatus : t.reg Reg.TMG_STATUS = s.reg Reg.TMG_STATUS) (hedges : t.edgeView = s.edgeView)
    (hhold : s.tmg.holdover = false → t.tmg.holdover = false)
    (hlocked : s.tmg.refPresent = false → s.tmg.locked = false → t.tmg.locked = false) : State.Judged s t where
  edges := hedges
  holdover := hhold
  locked := hlocked
  lost h := by
    unfold State.flag State.fld at h ⊢
    rw [show t.reg Fld.TMG_STATUS_REF_LOST.off = s.reg Fld.TMG_STATUS_REF_LOST.off from hstatus]
    exact h

/-- An EVENT record follows. -/
theorem event (h : State.Judged s t) (typ : Nat) (payload : List Byte) : State.Judged s (t.event typ payload) := by
  have htmg : (t.event typ payload).tmg = t.tmg := tmg_offHost.event t typ payload
  have hstatus : (t.event typ payload).reg Reg.TMG_STATUS = t.reg Reg.TMG_STATUS := (reg_offHost (by decide)).event t typ payload
  refine h.trans (of_status hstatus ?_ ?_ ?_)
  · simp only [State.edgeView, htmg]
  · rw [htmg]; exact id
  · rw [htmg]; exact fun _ => id

/-- What was lost is reported. -/
theorem sticky (s : State) : State.Judged s (s.sticky Fld.TMG_STATUS_REF_LOST) :=
  ⟨rfl, id, fun _ => id, flag_sticky_of_flag s rfl⟩

theorem foldl {α : Type} {f : State → α → State} (hf : ∀ s a, State.Judged s (f s a)) (l : List α) :
    ∀ s, State.Judged s (l.foldl f s) := by
  induction l with
  | nil => exact fun s => refl s
  | cons a l ih => exact fun s => (hf s a).trans (ih _)

end State.Judged

theorem State.judged_dropLock : State.Judged s s.dropLock := by
  have hunlock : State.Judged s { s with tmg.locked := false } := .of_status rfl rfl id fun _ _ => rfl
  unfold State.dropLock
  split
  · exact (hunlock.trans (.sticky _)).event _ _
  · exact .refl s

theorem State.judged_tryLock : State.Judged s s.tryLock := by
  unfold State.tryLock
  split
  · next h =>
    simp only [Bool.and_eq_true] at h
    obtain ⟨⟨hpresent, -⟩, -⟩ := h
    have hlock : State.Judged s { s with tmg.locked := true, tmg.holdover := false } :=
      .of_status rfl rfl (fun _ => rfl) fun hp => absurd (hpresent.symm.trans hp) (by decide)
    exact hlock.event _ _
  · exact .refl s

theorem State.judged_judgeAligned (t e : Nat) : State.Judged s (s.judgeAligned t e) := by
  have herr : ∀ n, State.Judged s (s.setRegN Reg.TMG_REF_ERR n) := fun n =>
    .of_status (reg_setRegN_ne (by decide)) rfl id fun _ => id
  have hrun : ∀ (u : State) n, State.Judged u { u with tmg.lockRun := n } := fun u n => .of_status rfl rfl id fun _ => id
  unfold State.judgeAligned
  dsimp only
  split
  · exact herr _
  · split
    · exact (herr _).trans ((hrun _ _).trans (State.judged_tryLock _))
    · exact (herr _).trans ((hrun _ _).trans (State.judged_dropLock _))

theorem State.judged_alignArrive (t : Nat) : State.Judged s (s.alignArrive t) := by
  have hwait : ∀ l, State.Judged s { s with tmg.alignWait := l } := fun l => .of_status rfl rfl id fun _ => id
  unfold State.alignArrive
  dsimp only
  exact (hwait _).trans (State.Judged.foldl (f := fun (u : State) (w : Nat × Nat) => u.judgeAligned w.1 t)
    (fun u w => u.judged_judgeAligned w.1 t) _ _)

/-! ## The reference is lost -/

theorem State.dropLock_tmg : s.dropLock.tmg = { s.tmg with locked := false } := by
  unfold State.dropLock
  split
  · exact tmg_offHost.event _ _ _
  · next h => rw [← Bool.eq_false_iff.mpr h]

/-- What is lost with the reference: its presence, the run of its intervals and the lock; holdover begins if p_ref had been formed
(R68, R69). -/
theorem State.refLose_spec :
    s.refLose.tmg.refPresent = false ∧ s.refLose.tmg.locked = false ∧ s.refLose.tmg.holdover = s.tmg.refFormed ∧
      s.refLose.tmg.refRun = 0 ∧ s.refLose.tmg.refLast = s.tmg.refLast ∧ s.refLose.tmg.refTimedOut = s.tmg.refTimedOut ∧
      s.refLose.tmg.pRef = s.tmg.pRef ∧ s.refLose.flag Fld.TMG_STATUS_REF_LOST = true := by
  have hlost : (s.sticky Fld.TMG_STATUS_REF_LOST).flag Fld.TMG_STATUS_REF_LOST = true := flag_sticky s (by decide) (by decide)
  have htmg : s.refLose.tmg = { s.tmg with
      refPresent := false, holdover := s.tmg.refFormed, lockRun := 0, refRun := 0, refBack := false, locked := false } :=
    State.dropLock_tmg _
  rw [htmg]
  exact ⟨rfl, rfl, rfl, rfl, rfl, rfl, rfl, (State.judged_dropLock _).lost hlost⟩

theorem yields_refLossTimeout (hp : s.powered) (h : s.refLate = true) :
    Yields .refLossTimeout s fun u => u.tmg.refPresent = false ∧ u.tmg.locked = false ∧ u.tmg.holdover = s.tmg.refFormed ∧
      u.tmg.refTimedOut = true ∧ u.flag Fld.TMG_STATUS_REF_LOST = true := by
  refine yields_of_run (exec_refLossTimeout s) hp ?_
  obtain ⟨hpresent, hlocked, hhold, -, -, htimed, -, hlost⟩ :=
    State.refLose_spec { s with tmg.refTimedOut := true, tmg.alignWait := [] }
  rw [if_pos h, commit_tmg, flag_commit (by decide)]
  exact ⟨hpresent, hlocked, hhold, htimed, hlost⟩

/-! ## An edge -/

theorem sumN_cons (d : Nat) (l : List Nat) : sumN (d :: l) = d + sumN l := by
  have hfrom : ∀ (l : List Nat) (a : Nat), l.foldl (· + ·) a = a + l.foldl (· + ·) 0 := by
    intro l
    induction l with
    | nil => intro a; rfl
    | cons x l ih => intro a; rw [List.foldl_cons, List.foldl_cons, ih, ih (0 + x)]; omega
  unfold sumN
  rw [List.foldl_cons, hfrom l (0 + d)]
  omega

/-- Of the timing, an interval enters the last eight, and p_ref once there are eight (R64). -/
theorem State.refInterval_tmg (d : Nat) :
    (s.refInterval d).tmg = { s.tmg with
      refIntervals := d :: s.tmg.refIntervals.take 7
      pRef := if 7 ≤ s.tmg.refIntervals.length then d + sumN (s.tmg.refIntervals.take 7) else s.tmg.pRef } := by
  have hlen : (d :: s.tmg.refIntervals.take 7).length = 8 ↔ 7 ≤ s.tmg.refIntervals.length := by
    simp only [List.length_cons, List.length_take]
    omega
  unfold State.refInterval
  dsimp only [List.take_succ_cons]
  split
  · next h =>
    rw [if_pos (hlen.mp h), ← sumN_cons]
    rfl
  · next h => rw [if_neg (mt hlen.mpr h)]

/-- The profile, and what else stands beside the timing, is as it was. -/
theorem State.refInterval_ownProf (d : Nat) : (s.refInterval d).ownProf = s.ownProf := by
  have hparts : (s.refInterval d).casks = s.casks ∧ (s.refInterval d).tol = s.tol := by
    unfold State.refInterval
    dsimp only
    split <;> exact ⟨rfl, rfl⟩
  unfold State.ownProf
  rw [hparts.1, hparts.2]

/-- The state of an edge at tick `t` once its interval from the edge at `t0` has been counted. -/
def State.edged (s : State) (t0 t : Nat) : State :=
  State.refInterval { s with tmg.refLast := some t, tmg.refTimedOut := false } (tickSpan t0 t)

/-- A good interval goes on with the run; the eighth makes the reference present and formed (R64, R69). -/
def State.goodEdge (s : State) : State :=
  let u := { s with tmg.refRun := s.tmg.refRun + 1, tmg.refBack := true }
  if 8 ≤ u.tmg.refRun then { u with tmg.pHold := u.tmg.pRef, tmg.refFormed := true, tmg.refPresent := true } else u

/-- What an edge does, by the source of snapshots and its interval (R64, R68, R69). -/
theorem State.doRefEdge_cases {t0 : Nat} (t : Nat) (hlast : s.tmg.refLast = some t0) :
    let good := refInTol (s.ownProf.period * s.refMult) s.tolPpm (tickSpan t0 t)
    (s.src ≠ 1 ∧ State.Judged (s.edged t0 t) (s.doRefEdge t)) ∨
    (s.src = 1 ∧ good = false ∧ ∃ b, State.Judged { (s.edged t0 t).refLose with tmg.refBack := b } (s.doRefEdge t)) ∨
    (s.src = 1 ∧ good = true ∧ ∃ u, State.Judged (s.edged t0 t).goodEdge u ∧
      s.doRefEdge t = { u with tmg.holdover := u.tmg.holdover && !u.tmg.locked }) := by
  intro good
  have hsame : (s.edged t0 t).src = s.src ∧ (s.edged t0 t).refMult = s.refMult ∧ (s.edged t0 t).tolPpm = s.tolPpm := by
    unfold State.src State.refMult State.tolPpm State.edged
    rw [State.refInterval_tmg]
    exact ⟨rfl, rfl, rfl⟩
  have hprof : (s.edged t0 t).ownProf = s.ownProf := State.refInterval_ownProf _ _
  have hgood : refInTol ((s.edged t0 t).ownProf.period * (s.edged t0 t).refMult) (s.edged t0 t).tolPpm (tickSpan t0 t) = good := by
    rw [hprof, hsame.2.1, hsame.2.2]
  have hedge : s.doRefEdge t =
      if (s.edged t0 t).src ≠ 1 then (s.edged t0 t).alignArrive t
      else if !refInTol ((s.edged t0 t).ownProf.period * (s.edged t0 t).refMult) (s.edged t0 t).tolPpm (tickSpan t0 t) then
        State.alignArrive { (s.edged t0 t).refLose with tmg.refBack := s.tmg.refTimedOut } t
      else
        let u := (((s.edged t0 t).goodEdge).alignArrive t).tryLock
        { u with tmg.holdover := u.tmg.holdover && !u.tmg.locked } := by
    unfold State.doRefEdge State.edged State.goodEdge
    rw [hlast]
  rw [hedge, hsame.1, hgood]
  by_cases hsrc : s.src = 1
  · rw [if_neg (not_not_intro hsrc)]
    cases good with
    | false => exact .inr (.inl ⟨hsrc, rfl, _, State.judged_alignArrive _ t⟩)
    | true => exact .inr (.inr ⟨hsrc, rfl, _, (State.judged_alignArrive _ t).trans (State.judged_tryLock _), rfl⟩)
  · rw [if_pos hsrc]
    exact .inl ⟨hsrc, State.judged_alignArrive _ t⟩

/-- What an edge leaves of the timing before its interval is judged (R64). -/
theorem State.edged_tmg (t0 t : Nat) :
    (s.edged t0 t).tmg = { s.tmg with
      refLast := some t, refTimedOut := false
      refIntervals := tickSpan t0 t :: s.tmg.refIntervals.take 7
      pRef := if 7 ≤ s.tmg.refIntervals.length then tickSpan t0 t + sumN (s.tmg.refIntervals.take 7) else s.tmg.pRef } :=
  State.refInterval_tmg _ _

theorem State.goodEdge_of_run_lt (h : s.tmg.refRun < 7) :
    s.goodEdge = { s with tmg.refRun := s.tmg.refRun + 1, tmg.refBack := true } :=
  if_neg (show ¬8 ≤ s.tmg.refRun + 1 by omega)

theorem State.goodEdge_of_run_ge (h : 7 ≤ s.tmg.refRun) :
    s.goodEdge = { s with
      tmg.refRun := s.tmg.refRun + 1, tmg.refBack := true, tmg.pHold := s.tmg.pRef, tmg.refFormed := true, tmg.refPresent := true } :=
  if_pos (show 8 ≤ s.tmg.refRun + 1 by omega)

theorem State.goodEdge_interval : s.goodEdge.tmg.refLast = s.tmg.refLast ∧ s.goodEdge.tmg.pRef = s.tmg.pRef := by
  rcases Nat.lt_or_ge s.tmg.refRun 7 with h | h
  · rw [s.goodEdge_of_run_lt h]
    exact ⟨rfl, rfl⟩
  · rw [s.goodEdge_of_run_ge h]
    exact ⟨rfl, rfl⟩

section
variable {t0 t : Nat} (hlast : s.tmg.refLast = some t0)
include hlast

/-- Whatever its interval is, the edge is the last one, and p_ref is as its interval makes it (R64). -/
theorem State.doRefEdge_interval :
    (s.doRefEdge t).tmg.refLast = some t ∧ (s.doRefEdge t).tmg.pRef = (s.edged t0 t).tmg.pRef := by
  have hedge : (s.edged t0 t).tmg.refLast = some t := by rw [State.edged_tmg]
  rcases s.doRefEdge_cases t hlast with ⟨-, h⟩ | ⟨-, -, b, h⟩ | ⟨-, -, u, h, heq⟩
  · exact ⟨h.refLast.trans hedge, h.pRef⟩
  · obtain ⟨-, -, -, -, hkeep, -, hpRef, -⟩ := (s.edged t0 t).refLose_spec
    exact ⟨h.refLast.trans (hkeep.trans hedge), h.pRef.trans hpRef⟩
  · obtain ⟨hkeep, hpRef⟩ := (s.edged t0 t).goodEdge_interval
    rw [heq]
    exact ⟨h.refLast.trans (hkeep.trans hedge), h.pRef.trans hpRef⟩

/-- In REF mode a good interval leaves what judging leaves of the run that goes on; holdover ends with the lock. -/
theorem State.doRefEdge_good (hsrc : s.src = 1)
    (hgood : refInTol (s.ownProf.period * s.refMult) s.tolPpm (tickSpan t0 t) = true) :
    ∃ u, State.Judged (s.edged t0 t).goodEdge u ∧
      s.doRefEdge t = { u with tmg.holdover := u.tmg.holdover && !u.tmg.locked } := by
  rcases s.doRefEdge_cases t hlast with ⟨hne, -⟩ | ⟨-, hbad, -⟩ | ⟨-, -, h⟩
  · exact absurd hsrc hne
  · rw [hgood] at hbad
    exact absurd hbad (by decide)
  · exact h

/-- In REF mode an interval out of tolerance loses the reference. -/
theorem State.doRefEdge_bad (hsrc : s.src = 1)
    (hbad : refInTol (s.ownProf.period * s.refMult) s.tolPpm (tickSpan t0 t) = false) :
    ∃ b, State.Judged { (s.edged t0 t).refLose with tmg.refBack := b } (s.doRefEdge t) := by
  rcases s.doRefEdge_cases t hlast with ⟨hne, -⟩ | ⟨-, -, h⟩ | ⟨-, hgood, -⟩
  · exact absurd hsrc hne
  · exact h
  · rw [hbad] at hgood
    exact absurd hgood (by decide)

variable (hp : s.powered) (ht : t < 2 ^ 64) (hle : tickLe t s.now = true)
include hp ht hle

omit hlast in
theorem yields_refInEdge {P : State → Prop} (h : P (commit s (s.doRefEdge t))) : Yields (.refInEdge t) s P := by
  have hw : Instr.wf (.refInEdge t) = true := decide_eq_true ht
  refine yields_of_runIf (exec_refInEdge s t) hw hp ?_
  rw [if_pos hle]
  exact h

theorem yields_refInEdge_pRef (hlen : 7 ≤ s.tmg.refIntervals.length) :
    Yields (.refInEdge t) s fun u => u.tmg.refLast = some t ∧
      u.tmg.pRef = tickSpan t0 t + sumN (s.tmg.refIntervals.take 7) := by
  refine yields_refInEdge s hp ht hle ?_
  obtain ⟨hedge, hpRef⟩ := s.doRefEdge_interval hlast (t := t)
  rw [State.edged_tmg, if_pos hlen] at hpRef
  rw [commit_tmg]
  exact ⟨hedge, hpRef⟩

theorem yields_refInEdge_good (hsrc : s.src = 1)
    (hgood : refInTol (s.ownProf.period * s.refMult) s.tolPpm (tickSpan t0 t) = true) (hrun : s.tmg.refRun < 7) :
    Yields (.refInEdge t) s fun u => u.tmg.refLast = some t ∧ u.tmg.refRun = s.tmg.refRun + 1 ∧
      u.tmg.refPresent = s.tmg.refPresent := by
  refine yields_refInEdge s hp ht hle ?_
  obtain ⟨hedge, -⟩ := s.doRefEdge_interval hlast (t := t)
  obtain ⟨u, h, heq⟩ := s.doRefEdge_good hlast hsrc hgood
  have hrunE : (s.edged t0 t).tmg.refRun = s.tmg.refRun := by rw [State.edged_tmg]
  have hpresentE : (s.edged t0 t).tmg.refPresent = s.tmg.refPresent := by rw [State.edged_tmg]
  have hrun' : (s.edged t0 t).tmg.refRun < 7 := by rw [hrunE]; exact hrun
  rw [State.goodEdge_of_run_lt _ hrun'] at h
  rw [commit_tmg]
  refine ⟨hedge, ?_, ?_⟩ <;> rw [heq]
  · exact h.refRun.trans (congrArg (· + 1) hrunE)
  · exact h.refPresent.trans hpresentE

theorem yields_refInEdge_eighth (hsrc : s.src = 1)
    (hgood : refInTol (s.ownProf.period * s.refMult) s.tolPpm (tickSpan t0 t) = true) (hrun : 7 ≤ s.tmg.refRun) :
    Yields (.refInEdge t) s fun u => u.tmg.refLast = some t ∧ u.tmg.refPresent = true ∧ u.tmg.refFormed = true ∧
      (u.tmg.locked = true → u.tmg.holdover = false) ∧ (s.tmg.holdover = false → u.tmg.holdover = false) := by
  refine yields_refInEdge s hp ht hle ?_
  obtain ⟨hedge, -⟩ := s.doRefEdge_interval hlast (t := t)
  obtain ⟨u, h, heq⟩ := s.doRefEdge_good hlast hsrc hgood
  have hrunE : (s.edged t0 t).tmg.refRun = s.tmg.refRun := by rw [State.edged_tmg]
  have hholdE : (s.edged t0 t).tmg.holdover = s.tmg.holdover := by rw [State.edged_tmg]
  have hrun' : 7 ≤ (s.edged t0 t).tmg.refRun := by rw [hrunE]; exact hrun
  rw [State.goodEdge_of_run_ge _ hrun'] at h
  rw [commit_tmg]
  refine ⟨hedge, ?_⟩
  rw [heq]
  refine ⟨?_, ?_, fun hlocked => ?_, fun hhold => ?_⟩
  · exact h.refPresent
  · exact h.refFormed
  · exact Bool.and_eq_false_iff.mpr (.inr (congrArg not hlocked))
  · exact Bool.and_eq_false_iff.mpr (.inl (h.holdover (hholdE.trans hhold)))

theorem yields_refInEdge_bad (hsrc : s.src = 1)
    (hbad : refInTol (s.ownProf.period * s.refMult) s.tolPpm (tickSpan t0 t) = false) :
    Yields (.refInEdge t) s fun u => u.tmg.refLast = some t ∧ u.tmg.refPresent = false ∧ u.tmg.locked = false ∧
      u.tmg.refRun = 0 ∧ u.flag Fld.TMG_STATUS_REF_LOST = true := by
  refine yields_refInEdge s hp ht hle ?_
  obtain ⟨hedge, -⟩ := s.doRefEdge_interval hlast (t := t)
  obtain ⟨b, h⟩ := s.doRefEdge_bad hlast hsrc hbad
  obtain ⟨hpresent, hlocked, -, hrun, -, -, -, hlost⟩ := (s.edged t0 t).refLose_spec
  rw [commit_tmg, flag_commit (by decide)]
  exact ⟨hedge, h.refPresent.trans hpresent, h.locked hpresent hlocked, h.refRun.trans hrun, h.lost hlost⟩

end

end Sys2Proof.Machine
end

section
/-! The timecode: frames decoded, lost and freewheeled (R70 to R73). -/

namespace Sys2Proof.Machine

open Sys2Proof

variable (s : State)

theorem exec_ltcFrame (p : LtcSpan) (code user : Word) (reverse : Bool) :
    exec (.ltcFrame p code user reverse) s =
      runIf "LTC_FRAME" (Instr.wf (.ltcFrame p code user reverse))
        (fun s => if tickLe p.stop s.now then s.doLtcFrame p.start p.stop code user reverse else s) s := rfl
theorem exec_ltcLossTimeout : exec .ltcLossTimeout s = run State.doLtcLoss s := rfl
theorem exec_ltcFreewheelEnd : exec .ltcFreewheelEnd s = run State.doFreewheelEnd s := rfl

/-- A mismatch of a prediction is reported apart from what the decoded LTC frame leaves of the timecode (R70 to R73). -/
theorem State.ltcDecode_tmg (start stop c : Nat) (user : Word) :
    let t := s.ltcDecode start stop c user
    t.tmg.ltcCode = BitVec.ofNat 32 c ∧ t.tmg.ltcUser = user ∧ t.tmg.ltcBoundary = stop ∧ t.tmg.ltcStart = start ∧
      t.tmg.ltcLastSync = s.mono - tickSpan stop s.now ∧
      (s.tmg.ltcPresent = true → t.tmg.ltcPresent = true ∧ t.tmg.ltcValid = true) := by
  have hreport : ∀ typ p, ((s.sticky Fld.TMG_STATUS_LTC_MISMATCH).event typ p).tmg = s.tmg ∧
      ((s.sticky Fld.TMG_STATUS_LTC_MISMATCH).event typ p).mono = s.mono ∧
      ((s.sticky Fld.TMG_STATUS_LTC_MISMATCH).event typ p).now = s.now := fun typ p =>
    ⟨tmg_offHost.event _ typ p, mono_offHost.event _ typ p, now_offHost.event _ typ p⟩
  unfold State.ltcDecode
  dsimp only
  split
  · obtain ⟨htmg, hmono, hnow⟩ := hreport 0x0004 _
    rw [htmg, hmono, hnow]
    exact ⟨rfl, rfl, rfl, rfl, rfl, fun h => by simp [h]⟩
  · exact ⟨rfl, rfl, rfl, rfl, rfl, fun h => by simp [h]⟩

section
variable {start stop : Nat} (code user : Word) (hp : s.powered) (hstart : start < 2 ^ 64) (hstop : stop < 2 ^ 64)
include hp hstart hstop

theorem yields_ltcFrame {reverse : Bool} {P : State → Prop} (hle : tickLe stop s.now = true)
    (h : P (commit s (s.doLtcFrame start stop code user reverse))) : Yields (.ltcFrame ⟨start, stop⟩ code user reverse) s P := by
  have hw : Instr.wf (.ltcFrame ⟨start, stop⟩ code user reverse) = true :=
    Bool.and_eq_true_iff.mpr ⟨decide_eq_true hstart, decide_eq_true hstop⟩
  refine yields_of_runIf (exec_ltcFrame s _ code user reverse) hw hp ?_
  rw [if_pos hle]
  exact h

theorem yields_ltcFrame_decoded {r : Nat} (hspan : tickLe start stop = true) (hle : tickLe stop s.now = true) (hen : s.ltcEn = true)
    (hrate : ltcRateCode (tickSpan start stop) (code.getLsbD 22) = some r) :
    Yields (.ltcFrame ⟨start, stop⟩ code user false) s fun t =>
      t.tmg.ltcCode = BitVec.ofNat 32 (code.toNat % 2 ^ 23 + 2 ^ 23 * r) ∧
      t.tmg.ltcUser = user ∧ t.tmg.ltcBoundary = stop ∧ t.tmg.ltcStart = start ∧ t.tmg.ltcLastSync = s.mono - tickSpan stop s.now ∧
      (s.tmg.ltcPresent = true → t.tmg.ltcPresent = true ∧ t.tmg.ltcValid = true) := by
  have hframe : s.doLtcFrame start stop code user false =
      s.ltcDecode start stop (code.toNat % 2 ^ 23 + 2 ^ 23 * r) user := by
    unfold State.doLtcFrame
    rw [hen, hspan, hrate]
    rfl
  refine yields_ltcFrame s code user hp hstart hstop hle ?_
  rw [commit_tmg, hframe]
  exact s.ltcDecode_tmg start stop _ user

theorem yields_ltcFrame_discarded {reverse : Bool} (hle : tickLe stop s.now = true)
    (h : reverse = true ∨ ltcRateCode (tickSpan start stop) (code.getLsbD 22) = none) :
    Yields (.ltcFrame ⟨start, stop⟩ code user reverse) s fun t => t.tmg = s.tmg := by
  have hframe : s.doLtcFrame start stop code user reverse = s := by
    rcases h with h | h
    · exact if_pos (by simp [h])
    · unfold State.doLtcFrame
      rw [h]
      exact ite_self s
  refine yields_ltcFrame s code user hp hstart hstop hle ?_
  rw [commit_tmg, hframe]

end

theorem yields_ltcLossTimeout (hp : s.powered) (hpresent : s.tmg.ltcPresent = true)
    (hdue : 2 * ltcTicks3 (ltcRate s.tmg.ltcCode.toNat) ≤ 3 * (s.mono - s.tmg.ltcLastSync)) :
    let n := s.fld Fld.TMG_LTC_CFG_FREEWHEEL
    Yields .ltcLossTimeout s fun t => t.tmg.ltcPresent = false ∧ t.flag Fld.TMG_STATUS_LTC_LOST = true ∧
      (n = 0 → t.tmg.ltcValid = false ∧ t.tmg.ltcFreewheel = false) ∧
      (0 < n → t.tmg.ltcValid = true ∧ t.tmg.ltcFreewheel = true ∧
        t.tmg.ltcFreeEnd = s.mono + n * ltcTicks3 (ltcRate s.tmg.ltcCode.toNat) / 3) := by
  intro n
  have hlost : (s.sticky Fld.TMG_STATUS_LTC_LOST).flag Fld.TMG_STATUS_LTC_LOST = true := flag_sticky s (by decide) (by decide)
  have hdo : s.doLtcLoss = { s.sticky Fld.TMG_STATUS_LTC_LOST with
      tmg.ltcPresent := false, tmg.ltcGood := false
      tmg.ltcFreewheel := n != 0, tmg.ltcValid := n != 0
      tmg.ltcFreeEnd := s.mono + n * ltcTicks3 (ltcRate s.tmg.ltcCode.toNat) / 3 } :=
    if_pos (by rw [hpresent]; exact decide_eq_true hdue)
  refine yields_of_run (exec_ltcLossTimeout s) hp ?_
  rw [commit_tmg, flag_commit (by decide), hdo]
  refine ⟨rfl, hlost, fun h => ?_, fun h => ?_⟩
  · exact ⟨bne_eq_false_iff_eq.mpr h, bne_eq_false_iff_eq.mpr h⟩
  · exact ⟨bne_iff_ne.mpr h.ne', bne_iff_ne.mpr h.ne', rfl⟩

theorem yields_ltcFreewheelEnd (hp : s.powered) (hfree : s.tmg.ltcFreewheel = true) (hdue : s.tmg.ltcFreeEnd ≤ s.mono) :
    Yields .ltcFreewheelEnd s fun t => t.tmg.ltcFreewheel = false ∧ t.tmg.ltcValid = s.tmg.ltcPresent := by
  have hdo : s.doFreewheelEnd = { s with tmg.ltcFreewheel := false, tmg.ltcValid := s.tmg.ltcPresent } :=
    if_pos (by rw [hfree]; exact decide_eq_true hdue)
  refine yields_of_run (exec_ltcFreewheelEnd s) hp ?_
  rw [commit_tmg, hdo]
  exact ⟨rfl, rfl⟩

/-- Settles O43: what judging leaves of the reference, then the timecode's events one by one. -/
theorem referenceAndTimecodeAreTakenAndLost : Obligations.ReferenceAndTimecodeAreTakenAndLost := by
  unfold Obligations.ReferenceAndTimecodeAreTakenAndLost
  intro s hp
  refine ⟨fun t0 t ht hle hlast => ⟨?_, ?_, ?_, ?_⟩, yields_refLossTimeout s hp, ?_, yields_ltcLossTimeout s hp,
    yields_ltcFreewheelEnd s hp⟩
  · exact yields_refInEdge_pRef s hlast hp ht hle
  · exact yields_refInEdge_good s hlast hp ht hle
  · exact yields_refInEdge_eighth s hlast hp ht hle
  · exact yields_refInEdge_bad s hlast hp ht hle
  · intro start stop code user hstart hstop hspan hle hen
    exact ⟨fun r => yields_ltcFrame_decoded s code user hp hstart hstop hspan hle hen,
      fun reverse => yields_ltcFrame_discarded s code user hp hstart hstop hle⟩

end Sys2Proof.Machine
end

section
/-! Triggers: the settings that they come under, the pin's width filter, and what judging them does (R74 to R76, R83). -/

namespace Sys2Proof.Machine

open Sys2Proof

variable (s : State)

theorem exec_trigInEdge (t : Nat) (level : Bool) :
    exec (.trigInEdge t level) s =
      runIf "TRIG_IN_EDGE" (Instr.wf (.trigInEdge t level)) (fun s => if tickLe t s.now then s.doTrigEdge t level else s) s := rfl
theorem exec_triggerAccept : exec .triggerAccept s = run (fun s => (s.ripenEdge s.now).judgeTrigger) s := rfl

/-! ## The settings of a tick -/

/-- With the supplies there and nothing queued, a step is a tick. -/
theorem step_next_ticked (hp : s.powered) (hq : s.pending = []) : step s = .next s.ticked.refreshSummary := by
  rw [step_nil s hq, s.tick_of_powered hp]

/-- Settings that no earlier ones outlast are in force. -/
theorem trigSettings_of_forall_le {at_ : Nat} {old : List (Nat × Word × Word)} (cur : Word × Word) (h : ∀ e ∈ old, e.1 ≤ at_) :
    trigSettings at_ cur old = cur := by
  match old, h with
  | [], _ => rfl
  | (till, set) :: rest, h => exact if_pos (h (till, set) (List.mem_cons_self ..))

/-- Up to the tick before, a tick leaves the settings as they were, by what it remembers (R83). -/
theorem trigSettings_latched {m : Tmg} {at_ mono : Nat} (h : at_ < mono) (cfg holdoff : Word) :
    trigSettings at_ (cfg, holdoff) (m.latched mono cfg holdoff).trigOld = trigSettings at_ (m.trigCfg, m.trigHoldoff) m.trigOld := by
  unfold Tmg.latched
  dsimp only
  split
  · next hsame => rw [hsame.1, hsame.2]
  · exact if_neg (by omega)

theorem tickSpan_self (a : Nat) : tickSpan a a = 0 := by
  unfold tickSpan
  omega

theorem tickSpan_succ {a b : Nat} (h : tickSpan a b < 2 ^ 62) : tickSpan a ((b + 1) % 2 ^ 64) = tickSpan a b + 1 := by
  unfold tickSpan at h ⊢
  omega

/-- The settings at a tick that has passed. -/
theorem State.trigSet_of_tickLe {t : Nat} (h : tickLe t s.now = true) :
    s.trigSet t = trigSettings (s.mono - tickSpan t s.now) (s.tmg.trigCfg, s.tmg.trigHoldoff) s.tmg.trigOld := by
  unfold State.trigSet
  rw [if_pos h]

/-- A tick leaves the settings of the ticks before it. -/
theorem State.trigSet_ticked {t : Nat} (h : tickSpan t s.now < 2 ^ 62) : s.ticked.refreshSummary.trigSet t = s.trigSet t := by
  have hspan : tickSpan t s.ticked.refreshSummary.now = tickSpan t s.now + 1 := by
    rw [State.refreshSummary_now, s.ticked_now]
    exact tickSpan_succ h
  have hafter : tickLe t s.ticked.refreshSummary.now = true := decide_eq_true (by omega)
  have hbefore : tickLe t s.now = true := decide_eq_true (by omega)
  rw [State.trigSet_of_tickLe _ hafter, State.trigSet_of_tickLe s hbefore, hspan, State.refreshSummary_mono, s.ticked_mono,
    Nat.add_sub_add_right, State.refreshSummary_tmg, s.ticked_tmg]
  exact trigSettings_latched (by omega) _ _

/-- The settings written are those of the tick that follows. -/
theorem State.trigSet_ticked_now (h : ∀ e ∈ s.tmg.trigOld, e.1 ≤ s.mono) :
    s.ticked.refreshSummary.trigSet s.ticked.refreshSummary.now = (s.reg Reg.TMG_TRIG_CFG, s.reg Reg.TMG_TRIG_HOLDOFF) := by
  have hnow : tickLe s.ticked.refreshSummary.now s.ticked.refreshSummary.now = true :=
    decide_eq_true (by rw [tickSpan_self]; decide)
  rw [State.trigSet_of_tickLe _ hnow, tickSpan_self, State.refreshSummary_mono, s.ticked_mono, State.refreshSummary_tmg, s.ticked_tmg]
  refine trigSettings_of_forall_le _ fun e he => ?_
  have hold : e ∈ s.tmg.trigOld ∨ e.1 = s.mono + 1 := by
    unfold Tmg.latched at he
    dsimp only at he
    split at he
    · exact .inl he
    · exact (List.mem_cons.mp he).elim (fun heq => .inr (congrArg Prod.fst heq)) .inl
  rcases hold with hm | hm
  · have := h e hm
    omega
  · omega

/-! ## The width filter -/

/-- An edge whose width has passed goes on to wait for acceptance; the settings stand. -/
theorem State.ripenEdge_eq (t : Nat) : ∃ e l, s.ripenEdge t = { s with tmg.trigEdge := e, tmg.trigPending := l } := by
  unfold State.ripenEdge
  split
  · split
    · exact ⟨_, _, rfl⟩
    · exact ⟨_, _, rfl⟩
  · exact ⟨_, _, rfl⟩

theorem yields_trigInEdge {t : Nat} {level : Bool} (hp : s.powered) (ht : t < 2 ^ 64) (hle : tickLe t s.now = true) :
    let set := s.trigSet t
    let sel := fldOf set.1 Fld.TMG_TRIG_CFG_PIN_EN = 1 ∧ (level = true ↔ fldOf set.1 Fld.TMG_TRIG_CFG_TRIG_EDGE = 0)
    Yields (.trigInEdge t level) s fun u =>
      (sel → u.tmg.trigEdge = some { t, src := 0, recv := s.now, cfg := set.1, holdoff := set.2 }) ∧
      (¬sel → u.tmg.trigEdge = none) ∧ u.tmg.trigs = s.tmg.trigs := by
  intro set sel
  have hw : Instr.wf (.trigInEdge t level) = true := decide_eq_true ht
  obtain ⟨e, l, hripe⟩ := s.ripenEdge_eq t
  have hdo : s.doTrigEdge t level =
      if fldOf set.1 Fld.TMG_TRIG_CFG_PIN_EN = 1 ∧ level = (fldOf set.1 Fld.TMG_TRIG_CFG_TRIG_EDGE = 0) then
        { s with
          tmg.trigEdge := some { t, src := 0, recv := s.now, cfg := set.1, holdoff := set.2 }, tmg.trigPending := l }
      else { s with tmg.trigEdge := none, tmg.trigPending := l } := by
    unfold State.doTrigEdge
    rw [hripe]
    rfl
  refine yields_of_runIf (exec_trigInEdge s t level) hw hp ?_
  have hsel : fldOf set.1 Fld.TMG_TRIG_CFG_PIN_EN = 1 ∧ level = (fldOf set.1 Fld.TMG_TRIG_CFG_TRIG_EDGE = 0) ↔ sel :=
    and_congr_right' eq_iff_iff
  rw [if_pos hle, commit_tmg, hdo]
  split
  · next h => exact ⟨fun _ => rfl, fun hn => absurd (hsel.mp h) hn, rfl⟩
  · next h => exact ⟨fun hy => absurd (hsel.mpr hy) h, fun _ => rfl, rfl⟩

/-! ## What an accepted trigger leaves alone -/

/-- What shows no register of the Cellarer's block, neither the count of late triggers nor the takes. -/
structure OffTake {β : Type} (g : State → β) : Prop where
  reg : ∀ s off v, off / 0x400 = 9 → g (State.setReg s off v) = g s
  late : ∀ s v, g (State.setReg s Reg.TMG_TRIG_LATE v) = g s
  take : ∀ (s : State) f c, g { s with fresh := f, cel := c } = g s

namespace OffTake

variable {β : Type} {g : State → β} (h : OffTake g) (s : State)

include h

theorem stickyIf (c : Bool) : g (s.stickyIf c Fld.CEL_STATUS_TRUNCATED) = g s := by
  cases c
  · rfl
  · exact (h.take _ _ s.cel).trans (h.reg s _ _ (by decide))

theorem setPair {lo : Nat} (hlo : lo / 0x400 = 9) (hhi : (lo + 4) / 0x400 = 9) (v : Nat) : g (s.setPair lo v) = g s :=
  (h.reg _ _ _ hhi).trans (h.reg s _ _ hlo)

theorem showTake (t : Take) (st : Nat) : g (s.showTake t st) = g s :=
  (h.reg _ _ _ (by decide)).trans ((h.reg _ _ _ (by decide)).trans ((h.setPair _ (by decide) (by decide) _).trans
    ((h.setPair _ (by decide) (by decide) _).trans ((h.setPair _ (by decide) (by decide) _).trans (h.reg s _ _ (by decide))))))

theorem setRun (r : TakeRun) : g (s.setRun r) = g s := (h.showTake _ r.t _).trans (h.take s s.fresh _)

theorem setStage (r : TakeRun) (stage : Nat) : g (s.setStage r stage) = g s := by
  have hwrite : ∀ q, g (s.rewrite q) = g s := fun q => (h.take _ _ _).trans (h.setRun s _)
  unfold State.setStage
  split
  · exact h.setRun s r
  · exact hwrite _

theorem closeAt (r : TakeRun) : g (s.closeAt r) = g s := by
  unfold State.closeAt
  dsimp only
  generalize (if r.t.trig + r.t.post ≤ r.t.last then _ else _ : TakeRun) = q
  split
  · exact h.setStage s _ 3
  · exact h.setStage s _ 2

theorem setLast (r : TakeRun) (want : Nat) : g (s.setLast r want) = g s := by
  obtain ⟨c, t, -, he⟩ := s.setLast_eq r want
  rw [he]
  exact (h.closeAt _ _).trans (h.stickyIf s c)

theorem extendTake (r : TakeRun) (want : Nat) : g (s.extendTake r want) = g s := by
  have hcut : ∀ q : TakeRun, g ((s.sticky Fld.CEL_STATUS_TRUNCATED).closeAt q) = g s := fun q =>
    (h.closeAt _ q).trans (h.stickyIf s true)
  unfold State.extendTake
  dsimp only
  split
  · exact hcut _
  · split
    · exact hcut _
    · exact h.setLast s _ _
  · split
    · split
      · exact hcut _
      · exact h.setLast s _ _
    · exact h.setLast s _ _

theorem takeTrigger (t k : Nat) (ring : Bool) (recv : Nat) : g (s.takeTrigger t k ring recv) = g s := by
  have hlate : ∀ c : Bool, g (if c then s.bump Reg.TMG_TRIG_LATE else s) = g s := by
    intro c
    cases c
    · rfl
    · exact h.late s _
  unfold State.takeTrigger
  lift_lets
  intro ended late u
  have hu : g u = g s := hlate late
  clear_value u late
  rw [← hu]
  dsimp only
  split
  · rfl
  · split
    · rfl
    · split
      · exact h.setLast u _ _
      · split
        · split
          · exact h.extendTake u _ _
          · exact h.setRun u _
        · rfl

end OffTake

theorem tmg_offTake : OffTake State.tmg := ⟨fun _ _ _ _ => rfl, fun _ _ => rfl, fun _ _ _ => rfl⟩

/-- The count of accepted triggers. -/
theorem trigCount_offTake : OffTake fun u => u.reg Reg.TMG_TRIG_COUNT where
  reg s off v hoff := s.reg_setReg_ne v (by rintro rfl; exact absurd hoff (by decide))
  late s v := s.reg_setReg_ne v (by decide)
  take _ _ _ := rfl

theorem State.ringSend_keeps {β : Type} (g : State → β)
    (hg : ∀ (u : State) w o l, g { u with way := w, outs := o, linkL12 := l } = g u) (typ : Nat) (body : List Nat) :
    g (s.ringSend typ body) = g s := by
  have hown : ∀ (u : State) q, g (u.ownSend q) = g u := by
    intro u q
    unfold State.ownSend
    split
    · exact u.ringStart_keeps g hg q
    · exact hg u _ u.outs u.linkL12
  unfold State.ringSend
  split
  · rfl
  · exact (hown _ _).trans (hg s _ s.outs s.linkL12)

/-! ## Judging -/

/-- The trigger is among those accepted, and counted; what it sends and what it does to a take leave both (R75, R77, R78). -/
theorem State.acceptTrigger_spec (p : TrigPend) :
    (s.acceptTrigger p).tmg = { s.tmg with trigs := p.t :: s.tmg.trigs } ∧
      (s.acceptTrigger p).reg Reg.TMG_TRIG_COUNT = s.reg Reg.TMG_TRIG_COUNT + 1 := by
  have hsent : ∀ {β : Type} (g : State → β), (∀ (u : State) w o l, g { u with way := w, outs := o, linkL12 := l } = g u) →
      ∀ (c : Bool) (u : State), g (if c then u.ringSend Msg.trigger (leNats 7 p.t) else u) = g u := by
    intro β g hg c u
    cases c
    · rfl
    · exact u.ringSend_keeps g hg _ _
  unfold State.acceptTrigger
  dsimp only
  constructor
  · rw [tmg_offTake.takeTrigger, hsent State.tmg (fun _ _ _ _ => rfl), tmg_offHost.event]
    rfl
  · refine (trigCount_offTake.takeTrigger _ _ _ _ _).trans ?_
    refine (hsent (fun u => u.reg Reg.TMG_TRIG_COUNT) (fun _ _ _ _ => rfl) _ _).trans ?_
    refine ((reg_offHost (by decide)).event _ _ _).trans ?_
    exact (State.reg_setReg_ne _ _ (by decide)).trans ((State.reg_setReg_ne _ _ (by decide)).trans
      ((State.reg_sticky_ne _ (by decide)).trans (s.reg_setReg_self _ _)))

theorem yields_triggerAccept {p : TrigPend} {rest : List TrigPend} (hp : s.powered) (hedge : s.tmg.trigEdge = none)
    (hwait : s.tmg.trigPending = p :: rest) :
    let held := ∃ a ∈ s.tmg.trigs, a < p.t ∧ p.t ≤ a + p.holdoff.toNat
    Yields .triggerAccept s fun u => u.tmg.trigPending = rest ∧
      (p.t ∈ s.tmg.trigs → u.tmg.trigs = s.tmg.trigs ∧ u.reg Reg.TMG_TRIG_COUNT = s.reg Reg.TMG_TRIG_COUNT) ∧
      (p.t ∉ s.tmg.trigs → held → u.tmg.trigs = s.tmg.trigs ∧ u.reg Reg.TMG_TRIG_HELD = s.reg Reg.TMG_TRIG_HELD + 1) ∧
      (p.t ∉ s.tmg.trigs → ¬held → u.tmg.trigs = p.t :: s.tmg.trigs ∧
        u.reg Reg.TMG_TRIG_COUNT = s.reg Reg.TMG_TRIG_COUNT + 1) := by
  intro held
  have hripe : s.ripenEdge s.now = s := by
    unfold State.ripenEdge
    rw [hedge]
  have hheld : ∀ l, State.trigHeld { s with tmg.trigPending := l } p = true ↔ held := by
    intro l
    simp [State.trigHeld, held]
  refine yields_of_run (exec_triggerAccept s) hp ?_
  rw [hripe, commit_tmg, reg_commit_ne _ _ (by decide), reg_commit_ne _ _ (by decide)]
  unfold State.judgeTrigger
  rw [hwait]
  dsimp only
  split
  case isTrue hknown =>
    have hin : p.t ∈ s.tmg.trigs := List.contains_iff_mem.mp hknown
    exact ⟨rfl, fun _ => ⟨rfl, rfl⟩, fun hout => absurd hin hout, fun hout => absurd hin hout⟩
  case isFalse hnew =>
    have hout : p.t ∉ s.tmg.trigs := fun hin => hnew (List.contains_iff_mem.mpr hin)
    split
    case isTrue hh => exact ⟨rfl, fun hin => absurd hin hout, fun _ _ => ⟨rfl, State.reg_setReg_self _ _ _⟩,
      fun _ hfree => absurd ((hheld rest).mp hh) hfree⟩
    case isFalse hh =>
      obtain ⟨htmg, hcount⟩ := State.acceptTrigger_spec { s with tmg.trigPending := rest } p
      rw [htmg]
      exact ⟨rfl, fun hin => absurd hin hout, fun _ h => absurd ((hheld rest).mpr h) hh, fun _ _ => ⟨rfl, hcount⟩⟩

/-- Settles O44: the tick puts the settings into force, and the edge and the waiting trigger are judged by those of their tick. -/
theorem triggersAreFilteredAndJudged : Obligations.TriggersAreFilteredAndJudged := by
  unfold Obligations.TriggersAreFilteredAndJudged
  intro s hp
  refine ⟨fun _ _ => yields_tmgTrigConfigWrite s hp, fun hq => ⟨_, step_next_ticked s hp hq, ?force⟩, fun u hq hu => ?settings,
    fun _ _ => yields_trigInEdge s hp, fun _ _ => yields_triggerAccept s hp⟩
  case force =>
    rw [State.refreshSummary_tmg, State.refreshSummary_mono, s.ticked_tmg, s.ticked_mono]
    exact ⟨rfl, rfl, rfl, rfl, rfl⟩
  case settings =>
    obtain rfl : s.ticked.refreshSummary = u := Host.Outcome.next.inj ((step_next_ticked s hp hq).symm.trans hu)
    exact ⟨fun _ => s.trigSet_ticked, s.trigSet_ticked_now⟩

end Sys2Proof.Machine
end

section
/-! What closing an interrupted take can alter: the registers that show the take finalised before it, which its state names (R245, R253). -/

namespace Sys2Proof.Machine

open Sys2Proof

/-- A command that is not outstanding does not complete. -/
theorem State.fail_of_not_outstanding {s : State} {cid : Nat} (h : s.hif.outstanding = []) (status reason : Nat) :
    s.fail cid status reason = s := by
  unfold State.fail
  rw [h]
  rfl

/-- An interrupted take that no trigger has reached leaves nothing stored, and what it remembers of a register comes back (R245). -/
theorem yields_takeInterruptedClose_armed {s : State} {r : TakeRun} {o : Nat} {v : Word} (hready : s.pow.st = .ready)
    (hint : s.cel.interrupted = some r) (hpow : s.cel.repowered = true) (hstage : r.stage = 1) (hbefore : r.before = [(o, v)])
    (hnone : s.hif.outstanding = []) (ho : o ≠ Reg.GLB_INT_SUMMARY) :
    Yields .takeInterruptedClose s fun t => t.reg o = v := by
  have hp : s.powered := by rw [State.powered, hready]; decide
  refine yields_of_run (exec_takeInterruptedClose s) hp ?_
  rw [reg_commit_ne _ _ ho]
  unfold State.doInterruptedClose
  simp only [hint, hpow, hready]
  rw [if_neg (by simp), if_pos (.inl hstage), State.fail_of_not_outstanding]
  · unfold State.unshowTake
    rw [hbefore]
    exact State.reg_setReg_self _ _ _
  · unfold State.unshowTake
    rw [hbefore]
    exact hnone

/-- An armed take that remembers the word 1 of GLB_SCRATCH_0, a register that shows no take. -/
def strayRun : TakeRun where
  t := { id := 0, state := 1, flags := 0, trunc := 0, fmt := 0, diesAt := 0, diesLost := 0, arm := 0, first := 1, last := 0
         trig := 0, trigTick := 0, pre := 0, post := 1, retrig := 0, extent := 0, wBytes := 0, nMax := 0, win := [], offset := 0
         complete := none, linkBefore := [], linkLast := [], regs := [], trsRegs := [], radDigest := [], closing := []
         changes := [], retrigTicks := [], frames := [] }
  req := { pre := 0, post := 1, extent := 0, retrig := 0, store := 0, immediate := false, freeAll := false }
  cid := 0
  stage := 1
  acceptTick := 0
  endSnap := none
  finalMembers := false
  aborted := false
  reduced := false
  want := 0
  ends := [0, 0, 0, 0, 0]
  before := [(Reg.GLB_SCRATCH 0, 1)]
  atEnd := none

/-- The device in READY, with that take interrupted and the dies powered again. -/
def strayState : State :=
  { State.reset with pow.st := .ready, cel.interrupted := some strayRun, cel.repowered := true }

/-- Refutes O55: the statement speaks of every state, and in `strayState` the interrupted take remembers a register outside the take's own
block; TAKE_INTERRUPTED_CLOSE puts GLB_SCRATCH_0, of block 0, back to 1 from the 0 of reset. (A take that `State.arm` has armed remembers
the registers of `takeShown` alone, which the statement does not assume.) -/
theorem not_commandsTouchTheirPartsOnly : ¬ Obligations.CommandsTouchTheirPartsOnly := by
  unfold Obligations.CommandsTouchTheirPartsOnly
  intro h
  obtain ⟨-, -, -, -, -, -, htakes, -⟩ := h strayState
  obtain ⟨-, hclose, -⟩ := htakes
  obtain ⟨t, ht, hnew⟩ := yields_takeInterruptedClose_armed (s := strayState) (r := strayRun) (o := Reg.GLB_SCRATCH 0) (v := 1)
    rfl rfl rfl rfl rfl rfl (by decide)
  have hold : t.reg (Reg.GLB_SCRATCH 0) = strayState.reg (Reg.GLB_SCRATCH 0) := (hclose t ht).2 _ (by decide) (by decide)
  rw [hnew] at hold
  exact absurd hold (by decide)

end Sys2Proof.Machine
end

section
/-! How a command of the ring ends whose parameters are at fault, or which fails once it is accepted (R262, R267, R268). -/

namespace Sys2Proof.Machine

open Sys2Proof

variable (s : State)

/-- A command that is taken, but with a parameter at fault, is refused with BAD_PARAM. -/
theorem State.acceptCmd_of_bad {h : Hdr} {op limit off : Nat} (ht : s.taken h op limit) {bad : State → Option Nat}
    (hbad : bad (s.accepted h op) = some off) (body : State → Nat → State) (v : Option Nat) :
    s.acceptCmd h op limit bad body none v = (s.accepted h op).complete s.hif.nextCid St.badParam off v none := by
  obtain ⟨-, -, hf, hboot, hres, -⟩ := ht
  have hb : (s.accepted h op).sec.boot ≠ .recovery := hboot
  unfold State.acceptCmd
  rw [s.accept_eq hf]
  simp [hb, firstBad, hdrBad, hres, hbad]

/-- A failing command that is outstanding draws a free value and completes. -/
theorem State.fail_of_some {cid st why : Nat} {c : OutCmd} (hc : s.hif.outstanding.find? (·.cid = cid) = some c) :
    s.fail cid st why = s.drew.complete cid st why (lostValue c.opcode) (s.lostBlock c.opcode) := by
  unfold State.fail
  rw [hc]

theorem State.completed_fail {cid : Nat} {c : OutCmd} (hc : s.hif.outstanding.find? (·.cid = cid) = some c) (hb : s.busOk = true)
    (st why : Nat) : Completed s (s.fail cid st why) c.tag c.opcode st why := by
  rw [s.fail_of_some hc]
  exact s.drew.completed_complete hc hb st why _ _

theorem State.outs_suffix_fail (cid st why : Nat) : s.outs <:+ (s.fail cid st why).outs := by
  unfold State.fail
  split
  · exact List.suffix_rfl
  · exact s.drew.outs_suffix_complete _ _ _ _ _

/-- A failing command leaves every register but the host interface's status (R268). -/
theorem State.reg_fail_ne {o : Nat} (h : o ≠ Reg.HIF_STATUS) (cid st why : Nat) : (s.fail cid st why).reg o = s.reg o := by
  unfold State.fail
  split
  · rfl
  · exact State.reg_complete_ne _ h _ _ _ _ _

/-- A command that completes as soon as it is accepted. -/
theorem State.completed_accepted (hc : s.cidsOk) (hb : s.busOk = true) (h : Hdr) (op st why : Nat) (v : Option Nat)
    (b : Option (List Byte)) :
    Completed s (commit s ((s.accepted h op).complete s.hif.nextCid st why v b)) h.tag op st why :=
  ((s.accepted h op).completed_complete (s.find_accepted hc h op) hb st why v b).later (outs_suffix_commit _ _)

/-- A command that fails as soon as it is accepted. -/
theorem State.failed_accepted (hc : s.cidsOk) (hb : s.busOk = true) (h : Hdr) (op st why : Nat) :
    Completed s (commit s ((s.accepted h op).fail s.hif.nextCid st why)) h.tag op st why :=
  ((s.accepted h op).completed_fail (s.find_accepted hc h op) hb st why).later (outs_suffix_commit _ _)

/-- A command whose data the host's memory does not take ends with BAD_PARAM, the rest of them written (R268). -/
theorem State.writeOut_of_bad {cid addr len : Nat} {o : Out} {body : State → State} (hb : s.busOk = true)
    (hh : s.hostBad addr len = true) : s.writeOut cid addr len o body = (s.emit o).fail cid St.badParam Why.hostMemory := by
  have hh' : (s.emit o).hostBad addr len = true := hh
  simp [State.writeOut, State.post_of_bus s hb, hh']

end Sys2Proof.Machine
end

section
/-! What self-test slices that make way, records and counters leave alone: the casks and all that loads, racks and calibrates them. -/

namespace Sys2Proof.Machine

open Sys2Proof

variable (s : State)

theorem casks_offRecord : OffRecord State.casks := ⟨fun _ _ _ _ => rfl, fun _ _ => rfl, fun _ _ _ _ => rfl, fun _ _ => rfl⟩

@[simp] theorem State.releaseUnit_casks (id : SliceId) : (s.releaseUnit id).casks = s.casks := by
  unfold State.releaseUnit
  split_ifs <;> rfl

@[simp] theorem State.takeEgress_casks : s.takeEgress.casks = s.casks := by
  unfold State.takeEgress
  dsimp only
  split <;> rfl

@[simp] theorem State.startSlice_casks (r : SliceRun) : (s.startSlice r).casks = s.casks := by
  have hbegun : (let s := { s with bst.running := s.bst.running ++ [{ r with start := s.mono }] }
      if r.id.die < 5 then s.setDie r.id.die { s.die r.id.die with renewed := false } else s).casks = s.casks := by
    dsimp only
    split <;> rfl
  rw [← hbegun]
  unfold State.startSlice
  dsimp only
  generalize (if r.id.die < 5 then _ else _ : State) = u
  split_ifs
  · rfl
  · exact State.takeEgress_casks _
  · rfl
  · rfl
  · rfl

@[simp] theorem State.tryStart_casks (r : SliceRun) : (s.tryStart r).casks = s.casks := by
  unfold State.tryStart
  split
  · exact s.startSlice_casks r
  · rfl

@[simp] theorem State.endRun_casks (r : BistRun) : (s.endRun r).casks = s.casks := by
  have hlast : ∀ u : State, (if r.die < 5 ∧ r.kind ≠ Owner.bistRun then
      let s := u.setFld (Fld.BST_DIE_LAST r.die) (r.outcome + 1)
      if r.outcome = 2 then s else s.setDie r.die { s.die r.die with lastRun := some s.mono }
      else u).casks = u.casks := by
    intro u
    dsimp only
    split_ifs <;> rfl
  have hbefore := fun u : State => (hlast _).trans (casks_offRecord.event u 0x0501 (leBytes 1 r.die ++ leBytes 1 r.kind ++
    leBytes 1 r.outcome ++ leBytes 1 0 ++ leBytes 4 (sat32 ((u.mono - r.start) / 250))))
  unfold State.endRun
  dsimp only
  split
  · exact (State.complete_casks _ _ _ _ _ _).trans (hbefore _)
  · exact hbefore _

@[simp] theorem State.advanceRun_casks (die kind : Nat) (c : Option Nat) : (s.advanceRun die kind c).casks = s.casks := by
  unfold State.advanceRun
  split
  · rfl
  · split
    · exact s.endRun_casks _
    · exact s.tryStart_casks _

@[simp] theorem State.advanceBehind_casks (x : SliceRun) : (s.advanceBehind x).casks = s.casks := by
  unfold State.advanceBehind
  split
  · split
    · rfl
    · exact s.advanceRun_casks _ _ _
  · exact s.advanceRun_casks _ _ _

@[simp] theorem State.abortSlice_casks (x : SliceRun) : (s.abortSlice x).casks = s.casks := by
  have hreported : ∀ misr ref, ((State.releaseUnit { s.drew with bst.running := s.bst.running.filter (·.id ≠ x.id) } x.id).reportSlice
      x.id Slice.aborted misr ref).casks = s.casks := fun _ _ =>
    (casks_offRecord.reportSlice _ _ _ _ _).trans (State.releaseUnit_casks _ _)
  unfold State.abortSlice
  dsimp only
  split_ifs
  · exact hreported _ _
  · exact (State.advanceBehind_casks _ _).trans (hreported _ _)
  · exact hreported _ _

@[simp] theorem State.abortSlices_casks (t : SliceRun → Bool) : (s.abortSlices t).casks = s.casks :=
  foldl_keeps State.casks (fun u x => u.abortSlice_casks x) _ s

@[simp] theorem State.ctrInc_casks (i : Nat) : (s.ctrInc i).casks = s.casks := by
  have heach : ∀ (u : State) l, (u.nvEach l).casks = u.casks := fun u l =>
    foldl_keeps State.casks (f := fun (v : State) (e : Nat × List Byte) => v.nvStore e.1 e.2 1) (fun _ _ => rfl) l u
  unfold State.ctrInc
  split
  · rfl
  · exact heach _ _

end Sys2Proof.Machine
end

section
/-! RACK_CASK, LOAD_CASK and SAVE_CASK (R151, R153 to R155, R243). -/

namespace Sys2Proof.Machine

open Sys2Proof

variable (s : State)

theorem exec_rackCask (h : Hdr) (cask frame : Nat) :
    exec (.rackCask h cask frame) s = runIf "RACK_CASK" (Instr.wf (.rackCask h cask frame)) (fun s => s.doRackCask h cask frame) s := rfl
theorem exec_loadCask (h : Hdr) (cask addr : Nat) (d : HostData) :
    exec (.loadCask h cask addr d) s =
      runIf "LOAD_CASK" (Instr.wf (.loadCask h cask addr d)) (fun s => s.doLoadCask h cask addr d) s := rfl
theorem exec_saveCask (h : Hdr) (cask addr : Nat) :
    exec (.saveCask h cask addr) s = runIf "SAVE_CASK" (Instr.wf (.saveCask h cask addr)) (fun s => s.doSaveCask h cask addr) s := rfl
theorem exec_loadCaskCheckDone : exec .loadCaskCheckDone s = run State.doLoadCheck s := rfl
theorem exec_loadCaskCopyDone : exec .loadCaskCopyDone s = run State.doLoadDone s := rfl
theorem exec_saveCaskDone : exec .saveCaskDone s = run State.doSaveDone s := rfl

/-! ## Casks and their replicas (R150) -/

/-- A cask changed, and all that stands beside the two casks as it was. -/
theorem State.modCask_casks (c : Nat) (g : Cask → Cask) :
    (s.modCask c g).casks = { s.casks with
      a := if c = 0 then g s.casks.a else s.casks.a, b := if c = 0 then s.casks.b else g s.casks.b } := by
  unfold State.modCask
  split <;> rfl

theorem State.cask_modCask_self (c : Nat) (g : Cask → Cask) : (s.modCask c g).cask c = g (s.cask c) := by
  unfold State.modCask State.cask
  split <;> rfl

/-- The casks alone tell what a cask holds. -/
theorem State.cask_of_casks {s t : State} (h : t.casks = s.casks) (c : Nat) : t.cask c = s.cask c := by unfold State.cask; rw [h]

theorem State.caskOk_congr {s t : State} (hc : t.casks = s.casks) (hr : t.rol = s.rol) (hv : t.variant = s.variant) (c : Nat) :
    t.caskOk c = s.caskOk c := by
  have hcounted : t.counted = s.counted := by
    unfold State.counted State.present State.nDies State.die
    rw [hr, hv]
  unfold State.caskOk
  rw [hcounted, State.cask_of_casks hc]

/-- A cask of which no replica has passed its check is not valid. -/
theorem State.caskOk_of_unchecked {c : Nat} (h : (s.cask c).replicas = List.replicate 5 none) : s.caskOk c = false := by
  have hnone : ∀ n, (List.replicate 5 none : List (Option Bool)).getD n none = none := fun n => by
    rw [List.getD_eq_getElem?_getD, List.getElem?_replicate]
    split <;> rfl
  unfold State.caskOk
  rw [h]
  simp only [hnone]
  cases s.counted <;> simp

/-! ## Copies (R153) -/

/-- A list over the five dies is read at one of them. -/
theorem getD_dies {α : Type} (g : Nat → Option α) {n : Nat} (h : n < 5) : ((List.range 5).map g).getD n none = g n := by
  rw [List.getD_eq_getElem?_getD, List.getElem?_map, List.getElem?_range h]
  rfl

/-- What a racking or a SAVE_CASK waits for aside, casks that have lost their validity leave all. -/
theorem State.validCheck_casks : ∃ rack save, s.validCheck.casks = { s.casks with rack, save } := by
  have hrack : ∀ u : State, ∃ rack, u.rackCheck.casks = { u.casks with rack } := by
    intro u
    unfold State.rackCheck
    split
    · split
      · exact ⟨_, rfl⟩
      · dsimp only
        split
        · exact ⟨none, State.fail_casks _ _ _ _⟩
        · exact ⟨none, rfl⟩
    · exact ⟨_, rfl⟩
  have hsave : ∀ u : State, ∃ save, u.saveCheck.casks = { u.casks with save } := by
    intro u
    unfold State.saveCheck
    split
    · split
      · exact ⟨_, rfl⟩
      · exact ⟨none, State.fail_casks _ _ _ _⟩
    · exact ⟨_, rfl⟩
  obtain ⟨rack, hr⟩ := hrack s
  obtain ⟨save, hs⟩ := hsave s.rackCheck
  exact ⟨rack, save, hs.trans (by rw [hr])⟩

/-- While an image is copied into a cask, the cask holds it, unchecked; but for what waits on the cask the rest stands. -/
theorem State.startCopy_casks (c : Nat) (img : CaskImage) :
    ∃ rack save, (s.startCopy c img).casks = { (s.modCask c fun k => { k with
      img := some img, replicas := List.replicate 5 none, copying := true }).casks with rack, save } := by
  obtain ⟨rack, save, h⟩ := State.validCheck_casks ((s.modCask c fun k => { k with
    img := some img, replicas := List.replicate 5 none, copying := true }).abortSlices fun x => x.id.die < 5 ∧ x.id.unit = 3)
  rw [State.abortSlices_casks] at h
  exact ⟨rack, save, h⟩

theorem State.startCopy_cask (c : Nat) (img : CaskImage) :
    (s.startCopy c img).cask c = { s.cask c with img := some img, replicas := List.replicate 5 none, copying := true } := by
  obtain ⟨rack, save, h⟩ := s.startCopy_casks c img
  have hcask : (s.startCopy c img).cask c = (s.modCask c fun k => { k with
      img := some img, replicas := List.replicate 5 none, copying := true }).cask c := by
    unfold State.cask
    rw [h]
  rw [hcask, s.cask_modCask_self]

/-- Once its copies have passed, a cask with an image is valid. -/
theorem State.caskOk_endCopy {c : Nat} (hc : c < 2) (himg : (s.cask c).img.isSome = true) (hn : s.counted ≠ [])
    (hlt : ∀ n ∈ s.counted, n < 5) : (s.endCopy c).caskOk c = true := by
  have hcounted : (s.endCopy c).counted = s.counted := by
    unfold State.endCopy State.modCask
    split <;> rfl
  have hpassed : ∀ n ∈ s.counted, ((List.range 5).map fun n => if s.counted.contains n then some true else none).getD n none =
      some true := fun n hm => by
    rw [getD_dies _ (hlt n hm), if_pos (List.contains_iff_mem.mpr hm)]
  unfold State.caskOk
  rw [hcounted]
  unfold State.endCopy
  rw [State.cask_modCask_self]
  simp only [hc, himg, List.isEmpty_eq_false_iff.mpr hn, Bool.not_false, Bool.and_true, decide_true, Bool.true_and]
  exact List.all_eq_true.mpr fun n hm => decide_eq_true (hpassed n hm)

theorem State.failCopy_cask (c : Nat) :
    (s.failCopy c).cask c = { s.cask c with
      replicas := (List.range 5).map fun n => if s.counted.contains n then some false else none
      checked := (List.range 5).map fun n => s.counted.contains n
      copying := false } := by
  unfold State.failCopy
  exact (State.cask_of_casks (State.stickyIf_casks _ _ _) c).trans (s.cask_modCask_self c _)

/-! ## RACK_CASK -/

theorem yields_rackCask {h : Hdr} {cask frame : Nat} (ht : s.taken h Op.rackCask 1) (hcask : cask < 2 ^ 8) (hframe : frame < 2 ^ 64)
    {P : State → Prop} (hP : P (commit s (s.doRackCask h cask frame))) : Yields (.rackCask h cask frame) s P := by
  have ⟨hpow, hhdr, _⟩ := ht
  have hw : Instr.wf (.rackCask h cask frame) = true := by
    simp only [Instr.wf, hhdr, u8, u64, decide_eq_true hcask, decide_eq_true hframe, Bool.and_self]
  exact yields_of_runIf (exec_rackCask s h cask frame) hw hpow hP

theorem State.doRackCask_of_bad {h : Hdr} {cask frame off : Nat} (ht : s.taken h Op.rackCask 1)
    (hbad : s.atAccept.rackBad cask frame = some off) :
    s.doRackCask h cask frame =
      (s.accepted h Op.rackCask).complete s.hif.nextCid St.badParam off (lostValue Op.rackCask) none :=
  s.acceptCmd_of_bad ht hbad _ _

/-- With its fields in order RACK_CASK comes to its own checks. -/
theorem State.doRackCask_of_good {h : Hdr} {cask frame : Nat} (ht : s.taken h Op.rackCask 1)
    (hgood : s.atAccept.rackBad cask frame = none) :
    s.doRackCask h cask frame =
      let u := s.accepted h Op.rackCask
      if s.anyRack || (s.cask cask).copying || s.loading cask then u.fail s.hif.nextCid St.busy Why.none
      else if s.casks.active = cask then u.complete s.hif.nextCid St.ok Why.none (some s.newest) none
      else if s.changesFull then u.fail s.hif.nextCid St.busy Why.none
      else { u with casks.rack := some (cask, frame, some s.hif.nextCid) } :=
  s.acceptCmd_of_taken ht hgood _ _

/-- The clauses of RACK_CASK: refused for a field, refused as busy, met at once, or waiting for its snapshot (R151, R243). -/
theorem yields_rackCask_cases {h : Hdr} {cask frame : Nat} (hc : s.cidsOk) (hb : s.busOk = true) (ht : s.taken h Op.rackCask 1)
    (hcask : cask < 2 ^ 8) (hframe : frame < 2 ^ 64) :
    let ends := fun (t : State) (status why : Nat) => Completed s t h.tag Op.rackCask status why ∧ t.casks = s.casks
    let inWay := s.anyRack = true ∨ (s.cask cask).copying = true ∨ s.loading cask = true
    (∀ off, s.atAccept.rackBad cask frame = some off → Yields (.rackCask h cask frame) s fun t => ends t St.badParam off) ∧
    (s.atAccept.rackBad cask frame = none →
      ((inWay ∨ s.casks.active ≠ cask ∧ s.changesFull = true) → Yields (.rackCask h cask frame) s fun t => ends t St.busy Why.none) ∧
      (¬inWay → s.casks.active = cask → Yields (.rackCask h cask frame) s fun t => ends t St.ok Why.none) ∧
      (¬inWay → s.casks.active ≠ cask → s.changesFull = false →
        Yields (.rackCask h cask frame) s fun t => t.casks = { s.casks with rack := some (cask, frame, some s.hif.nextCid) })) := by
  intro ends inWay
  have hinWay : (s.anyRack || (s.cask cask).copying || s.loading cask) = true ↔ inWay := by
    simp only [inWay, Bool.or_eq_true, or_assoc]
  have hfailed : ends (commit s ((s.accepted h Op.rackCask).fail s.hif.nextCid St.busy Why.none)) St.busy Why.none :=
    ⟨s.failed_accepted hc hb _ _ _ _, (commit_casks _ _).trans (State.fail_casks _ _ _ _)⟩
  have hended : ∀ st why v, ends (commit s ((s.accepted h Op.rackCask).complete s.hif.nextCid st why v none)) st why :=
    fun _ _ _ => ⟨s.completed_accepted hc hb _ _ _ _ _ _, (commit_casks _ _).trans (State.complete_casks _ _ _ _ _ _)⟩
  refine ⟨fun off hbad => ?_, fun hgood => ⟨fun hbusy => ?_, fun hfree hact => ?_, fun hfree hact hroom => ?_⟩⟩ <;>
    refine yields_rackCask s ht hcask hframe ?_
  · rw [s.doRackCask_of_bad ht hbad]
    exact hended _ _ _
  · rw [s.doRackCask_of_good ht hgood]
    dsimp only
    by_cases hway : inWay
    · rw [if_pos (hinWay.mpr hway)]
      exact hfailed
    · obtain ⟨hact, hfull⟩ := hbusy.resolve_left hway
      rw [if_neg (mt hinWay.mp hway), if_neg hact, if_pos hfull]
      exact hfailed
  · rw [s.doRackCask_of_good ht hgood]
    dsimp only
    rw [if_neg (mt hinWay.mp hfree), if_pos hact]
    exact hended _ _ _
  · rw [s.doRackCask_of_good ht hgood]
    dsimp only
    rw [if_neg (mt hinWay.mp hfree), if_neg hact, if_neg (ne_true_of_eq_false hroom)]
    exact commit_casks _ _

/-! ## LOAD_CASK -/

/-- An accepted LOAD_CASK transfers its image (R153). -/
theorem yields_loadCask {h : Hdr} {cask addr : Nat} {d : HostData} (hw : Instr.wf (.loadCask h cask addr d) = true)
    (ht : s.taken h Op.loadCask 1) (haddr : caskAddrBad cask addr = none) (hforce : s.inStream = false ∨ s.casks.active ≠ cask)
    (hrack : s.rackPending cask = false) (hcal : s.calTargets cask = false) (hd : d ≠ .error) :
    Yields (.loadCask h cask addr d) s fun t => t.casks =
      { s.casks with load := some { cask, addr, cid := s.hif.nextCid, img := (caskOf d).getD noCask, stage := 0 } } := by
  have hfree : ((s.inStream && s.casks.active = cask) || s.rackPending cask || s.calTargets cask) = false := by
    rcases hforce with hf | hf <;> simp [hf, hrack, hcal]
  refine yields_of_runIf (exec_loadCask s h cask addr d) hw ht.1 ?_
  have hload : s.doLoadCask h cask addr d = State.abortSlices { s.accepted h Op.loadCask with
      casks.load := some { cask, addr, cid := s.hif.nextCid, img := (caskOf d).getD noCask, stage := 0 } }
      fun x => x.id.die < 5 ∧ x.id.unit = 3 := by
    unfold State.doLoadCask
    rw [s.acceptCmd_of_taken ht haddr]
    exact (if_neg (ne_true_of_eq_false hfree)).trans (if_neg hd)
  rw [hload, commit_casks, State.abortSlices_casks]
  rfl

/-- An image that passes its checks is copied: its cask holds it, and is not valid (R153). -/
theorem yields_loadCaskCheckDone_good {x : Xfer} (hp : s.powered) (hx : s.casks.load = some x) (h0 : x.stage = 0)
    (himg : imgOk x.img = true) :
    Yields .loadCaskCheckDone s fun t => t.casks.load = some { x with stage := 1 } ∧ (t.cask x.cask).img = some x.img ∧
      (t.cask x.cask).copying = true ∧ t.caskOk x.cask = false := by
  refine yields_of_run (exec_loadCaskCheckDone s) hp ?_
  have hcopy : s.doLoadCheck = State.startCopy { s with casks.load := some { x with stage := 1 } } x.cask x.img := by
    unfold State.doLoadCheck
    rw [hx]
    simp [h0, himg]
  have hcask := State.startCopy_cask { s with casks.load := some { x with stage := 1 } } x.cask x.img
  obtain ⟨rack, save, hcasks⟩ := State.startCopy_casks { s with casks.load := some { x with stage := 1 } } x.cask x.img
  rw [hcopy, commit_casks, State.cask_commit, hcasks, State.modCask_casks, hcask]
  refine ⟨rfl, rfl, rfl, State.caskOk_of_unchecked _ ?_⟩
  rw [State.cask_commit, hcask]

/-- An image that fails them ends the command and changes no cask (R153). -/
theorem yields_loadCaskCheckDone_bad {x : Xfer} {c : OutCmd} (hp : s.powered) (hb : s.busOk = true) (hx : s.casks.load = some x)
    (h0 : x.stage = 0) (himg : imgOk x.img = false) (hc : s.hif.outstanding.find? (·.cid = x.cid) = some c) :
    Yields .loadCaskCheckDone s fun t => t.casks = { s.casks with load := none } ∧
      Completed s t c.tag c.opcode St.badParam Why.noField := by
  refine yields_of_run (exec_loadCaskCheckDone s) hp ?_
  have hfail : s.doLoadCheck = State.fail { s with casks.load := none } x.cid St.badParam Why.noField := by
    unfold State.doLoadCheck
    rw [hx]
    simp [h0, himg]
  rw [hfail]
  exact ⟨(commit_casks _ _).trans (State.fail_casks _ _ _ _),
    (State.completed_fail { s with casks.load := none } hc hb _ _).later (outs_suffix_commit _ _)⟩

/-- A field that is written 0 reads 0. -/
theorem State.fld_setFld_zero (f : Fld) : (s.setFld f 0).fld f = 0 := by
  have hr : (s.setFld f 0).reg f.off = fldPut (s.reg f.off) f 0 := s.reg_setReg_self _ _
  unfold State.fld
  rw [hr]
  refine Nat.eq_of_testBit_eq fun j => ?_
  simp only [fldOf, Nat.testBit_mod_two_pow, Nat.testBit_div_two_pow, Nat.zero_testBit]
  by_cases hj : j < f.wd
  · have hbit : (fldPut (s.reg f.off) f 0).getLsbD (j + f.lo) = false := by
      simp only [fldPut, BitVec.getLsbD_or, BitVec.getLsbD_and, BitVec.getLsbD_not, BitVec.getLsbD_ofNat, Nat.testBit_mul_two_pow,
        Nat.testBit_two_pow_sub_one]
      simp [hj]
    simpa [hj, BitVec.getLsbD] using hbit
  · simp [hj]

theorem State.flag_clearStale : s.clearStale.flag Fld.SEN_STATUS_CAL_STALE = false := by
  have hreg : s.clearStale.reg Reg.SEN_STATUS = (s.setFld Fld.SEN_STATUS_CAL_STALE 0).reg Reg.SEN_STATUS :=
    State.reg_setFld_ne _ _ (by decide)
  have hfld : s.clearStale.fld Fld.SEN_STATUS_CAL_STALE = (s.setFld Fld.SEN_STATUS_CAL_STALE 0).fld Fld.SEN_STATUS_CAL_STALE :=
    congrArg (fldOf · Fld.SEN_STATUS_CAL_STALE) hreg
  simp [State.flag, hfld, s.fld_setFld_zero Fld.SEN_STATUS_CAL_STALE]

/-- Copies that pass make the cask valid, and LOAD_CASK ends with OK (R153, R154). -/
theorem yields_loadCaskCopyDone_good {x : Xfer} {c : OutCmd} (hp : s.powered) (hb : s.busOk = true) (hx : s.casks.load = some x)
    (h1 : x.stage = 1) (hcask : x.cask < 2) (hc : s.hif.outstanding.find? (·.cid = x.cid) = some c)
    (hdig : x.img.digest = imgDigest x.img) (himg : (s.cask x.cask).img.isSome = true) (hn : s.counted ≠ [])
    (hlt : ∀ n ∈ s.counted, n < 5) :
    Yields .loadCaskCopyDone s fun t => t.casks.load = none ∧ (t.cask x.cask).copying = false ∧ t.caskOk x.cask = true ∧
      t.flag Fld.SEN_STATUS_CAL_STALE = false ∧ Completed s t c.tag c.opcode St.ok Why.none := by
  refine yields_of_run (exec_loadCaskCopyDone s) hp ?_
  let v : State := { s with casks.load := none, casks.reload := s.casks.reload || s.casks.active = x.cask }
  let u := v.endCopy x.cask
  have hdone : s.doLoadDone = u.clearStale.complete x.cid St.ok Why.none (some x.img.gen) none := by
    unfold State.doLoadDone
    rw [hx]
    simp only [h1, ne_eq, not_true_eq_false, if_false, hdig]
    rfl
  have hcasks : (commit s (u.clearStale.complete x.cid St.ok Why.none (some x.img.gen) none)).casks = u.casks :=
    (commit_casks _ _).trans (State.complete_casks _ _ _ _ _ _)
  have hu : u.hif = s.hif ∧ u.rol = s.rol ∧ u.variant = s.variant ∧ u.outs = s.outs := by
    simp only [u, v, State.endCopy, State.modCask]
    split <;> exact ⟨rfl, rfl, rfl, rfl⟩
  obtain ⟨hhif, hrol, hvar, houts⟩ := hu
  rw [hdone]
  refine ⟨?load, ?copying, ?valid, ?stale, ?ended⟩
  case load =>
    rw [hcasks]
    exact congrArg Casks.load (State.modCask_casks v _ _)
  case copying =>
    rw [State.cask_of_casks hcasks]
    exact congrArg Cask.copying (State.cask_modCask_self v _ _)
  case valid =>
    have hok : u.caskOk x.cask = true := v.caskOk_endCopy hcask himg hn hlt
    rw [State.caskOk_congr hcasks _ _, hok]
    · rw [commit_rol, State.complete_rol]
      rfl
    · exact (commit_variant _ _).trans hvar.symm
  case stale =>
    rw [flag_commit (by decide)]
    have hreg : (u.clearStale.complete x.cid St.ok Why.none (some x.img.gen) none).reg Reg.SEN_STATUS = u.clearStale.reg Reg.SEN_STATUS :=
      State.reg_complete_ne _ (by decide) _ _ _ _ _
    exact (congrArg (fun w => fldOf w Fld.SEN_STATUS_CAL_STALE != 0) hreg).trans u.flag_clearStale
  case ended =>
    have hfind : u.clearStale.hif.outstanding.find? (·.cid = x.cid) = some c := by
      show u.hif.outstanding.find? _ = _
      rw [hhif, hc]
    have hbus : u.clearStale.busOk = true := by
      show (u.hif.busMaster && !u.hif.d3hot) = true
      rw [hhif]
      exact hb
    refine (((u.clearStale.completed_complete hfind hbus _ _ _ _)).earlier ?_).later (outs_suffix_commit _ _)
    show s.outs <:+ u.outs
    rw [houts]

/-- Copies that fail their check end LOAD_CASK as a failed check does (log 115). -/
theorem yields_loadCaskCopyDone_bad {x : Xfer} {c : OutCmd} (hp : s.powered) (hb : s.busOk = true) (hx : s.casks.load = some x)
    (h1 : x.stage = 1) (hc : s.hif.outstanding.find? (·.cid = x.cid) = some c) (hdig : x.img.digest ≠ imgDigest x.img) :
    Yields .loadCaskCopyDone s fun t => t.casks.load = none ∧ (t.cask x.cask).copying = false ∧
      (∀ n ∈ s.counted, n < 5 → (t.cask x.cask).replicas.getD n none = some false) ∧
      Completed s t c.tag c.opcode St.badParam Why.noField := by
  refine yields_of_run (exec_loadCaskCopyDone s) hp ?_
  let v : State := { s with casks.load := none }
  let u := v.failCopy x.cask
  have hdone : s.doLoadDone = u.fail x.cid St.badParam Why.noField := by
    unfold State.doLoadDone
    rw [hx]
    simp only [h1, ne_eq, not_true_eq_false, if_false, hdig, not_false_eq_true, if_true]
    rfl
  have hcasks : (commit s (u.fail x.cid St.badParam Why.noField)).casks = u.casks :=
    (commit_casks _ _).trans (State.fail_casks _ _ _ _)
  have hmod : ∀ g, (v.modCask x.cask g).hif = s.hif ∧ (v.modCask x.cask g).outs = s.outs := fun g => by
    unfold State.modCask
    split <;> exact ⟨rfl, rfl⟩
  have hhif : u.hif = s.hif := (State.stickyIf_hif _ _ _).trans (hmod _).1
  have houts : u.outs = s.outs := (State.stickyIf_outs _ _ _).trans (hmod _).2
  rw [hdone]
  refine ⟨?load, ?copying, fun n hn hlt => ?failed, ?ended⟩
  case load =>
    rw [hcasks]
    exact (congrArg Casks.load (State.stickyIf_casks _ _ _)).trans (congrArg Casks.load (State.modCask_casks v _ _))
  case copying =>
    rw [State.cask_of_casks hcasks]
    exact congrArg Cask.copying (v.failCopy_cask _)
  case failed =>
    rw [State.cask_of_casks hcasks, v.failCopy_cask, getD_dies _ hlt]
    exact if_pos (List.contains_iff_mem.mpr hn)
  case ended =>
    have hfind : u.hif.outstanding.find? (·.cid = x.cid) = some c := by rw [hhif, hc]
    have hbus : u.busOk = true := by
      unfold State.busOk
      rw [hhif]
      exact hb
    exact ((u.completed_fail hfind hbus _ _).earlier (houts ▸ List.suffix_rfl)).later (outs_suffix_commit _ _)

/-! ## SAVE_CASK -/

/-- An accepted SAVE_CASK takes the image that the cask holds (R155). -/
theorem yields_saveCask {h : Hdr} {cask addr : Nat} {img : CaskImage} (ht : s.taken h Op.saveCask 1) (hcask : cask < 2 ^ 8)
    (haddr : addr < 2 ^ 64) (hgood : caskAddrBad cask addr = none) (hok : s.caskOk cask = true) (hrack : s.rackPending cask = false)
    (hcal : s.calTargets cask = false) (himg : (s.cask cask).img = some img) :
    Yields (.saveCask h cask addr) s fun t => t.casks =
      { s.casks with save := some { cask, addr, cid := s.hif.nextCid, img, stage := 0 } } := by
  have ⟨hpow, hhdr, _⟩ := ht
  have hw : Instr.wf (.saveCask h cask addr) = true := by
    simp only [Instr.wf, hhdr, u8, u64, decide_eq_true hcask, decide_eq_true haddr, Bool.and_self]
  have hbad : (fun s : State => match caskAddrBad cask addr with
      | some o => some o
      | none => if s.caskOk cask then none else some 0x10) (s.accepted h Op.saveCask) = none := by
    rw [hgood]
    exact if_pos hok
  have hfree : ¬((s.accepted h Op.saveCask).rackPending cask || (s.accepted h Op.saveCask).calTargets cask) = true := by
    show ¬(s.rackPending cask || s.calTargets cask) = true
    simp [hrack, hcal]
  have himg' : ((s.accepted h Op.saveCask).cask cask).img = some img := himg
  refine yields_of_runIf (exec_saveCask s h cask addr) hw hpow ?_
  unfold State.doSaveCask
  rw [s.acceptCmd_of_taken ht hbad, if_neg hfree, himg']
  exact commit_casks _ _

/-- The image reaches host memory, and SAVE_CASK ends by what the host's memory has made of it (R155, R268). -/
theorem yields_saveCaskDone {x : Xfer} {c : OutCmd} (hp : s.powered) (hb : s.busOk = true) (hx : s.casks.save = some x)
    (hc : s.hif.outstanding.find? (·.cid = x.cid) = some c) :
    let bad := s.hostBad x.addr 102048256
    Yields .saveCaskDone s fun t => t.casks.save = none ∧ Sent s t (.hostCask x.addr x.img) ∧
      Completed s t c.tag c.opcode (if bad then St.badParam else St.ok) (if bad then Why.hostMemory else Why.none) := by
  intro bad
  refine yields_of_run (exec_saveCaskDone s) hp ?_
  let v : State := { s with casks.save := none }
  let u := v.emit (.hostCask x.addr x.img)
  have hsent : Sent s u (.hostCask x.addr x.img) := sent_emit v _
  have hdone : s.doSaveDone = v.writeOut x.cid x.addr 102048256 (.hostCask x.addr x.img) fun s =>
      s.complete x.cid St.ok Why.none (some x.img.gen) none := by
    unfold State.doSaveDone
    rw [hx]
  rw [hdone]
  by_cases hbad : bad = true
  · rw [v.writeOut_of_bad hb hbad, if_pos hbad, if_pos hbad]
    refine ⟨?_, (hsent.later (u.outs_suffix_fail _ _ _)).later (outs_suffix_commit _ _),
      ((u.completed_fail hc hb _ _).earlier (List.suffix_cons _ _)).later (outs_suffix_commit _ _)⟩
    rw [commit_casks, State.fail_casks]
    rfl
  · rw [v.writeOut_of_good hb (Bool.eq_false_iff.mpr hbad), if_neg hbad, if_neg hbad]
    refine ⟨?_, (hsent.later (u.outs_suffix_complete _ _ _ _ _)).later (outs_suffix_commit _ _),
      ((u.completed_complete hc hb _ _ _ _).earlier (List.suffix_cons _ _)).later (outs_suffix_commit _ _)⟩
    rw [commit_casks, State.complete_casks]
    rfl

/-- Settles O19: each clause is the theorem above of its command. -/
theorem caskCommandsProceed : Obligations.CaskCommandsProceed := by
  unfold Obligations.CaskCommandsProceed
  intro s hp hc hb
  exact ⟨fun _ _ _ => yields_rackCask_cases s hc hb, fun _ _ _ _ => yields_loadCask s,
    fun _ => yields_loadCaskCheckDone_good s hp, fun _ _ => yields_loadCaskCheckDone_bad s hp hb,
    fun _ _ => yields_loadCaskCopyDone_good s hp hb, fun _ _ hx h1 _ => yields_loadCaskCopyDone_bad s hp hb hx h1,
    fun _ _ _ _ => yields_saveCask s, fun _ _ => yields_saveCaskDone s hp hb⟩

end Sys2Proof.Machine
end

section
/-! Reports of calibrations, and the commands that complete behind them (R160, R179, R182, R272). -/

namespace Sys2Proof.Machine

open Sys2Proof

variable (s : State)

/-! ## Completions behind a record (R272) -/

/-- What completions leave alone, a completion that waits for a record leaves alone too. -/
theorem State.completeAfter_keeps {β : Type} (g : State → β)
    (hcomplete : ∀ (u : State) cid st why v b, g (u.complete cid st why v b) = g u)
    (hwaits : ∀ (u : State) a e, g { u with hif.after := a, cel.replayEnd := e } = g u)
    (ch typ frame cid status reason : Nat) (value : Option Nat) :
    g (s.completeAfter ch typ frame cid status reason value) = g s := by
  have hsettled : ∀ (u : State) a, g (if (u.chan a.ch).holds a.typ a.frame then { u with hif.after := u.hif.after ++ [a] }
      else State.complete { u with cel.replayEnd := if a.ch = 4 then some u.mono else u.cel.replayEnd } a.cid a.status a.reason
        a.value none) = g u := by
    intro u a
    split
    · exact hwaits u _ u.cel.replayEnd
    · exact (hcomplete _ _ _ _ _ _).trans (hwaits u u.hif.after _)
  unfold State.completeAfter State.settleAfter
  dsimp only
  rw [foldl_keeps g hsettled]
  exact hwaits s _ s.cel.replayEnd

@[simp] theorem State.completeAfter_casks (ch typ frame cid status reason : Nat) (value : Option Nat) :
    (s.completeAfter ch typ frame cid status reason value).casks = s.casks :=
  s.completeAfter_keeps State.casks (fun _ _ _ _ _ _ => State.complete_casks _ _ _ _ _ _) (fun _ _ _ => rfl) _ _ _ _ _ _ _

theorem State.reg_completeAfter_ne {o : Nat} (h : o ≠ Reg.HIF_STATUS) (ch typ frame cid status reason : Nat) (value : Option Nat) :
    (s.completeAfter ch typ frame cid status reason value).reg o = s.reg o :=
  s.completeAfter_keeps (fun u => u.reg o) (fun u _ _ _ _ _ => u.reg_complete_ne h _ _ _ _ _) (fun _ _ _ => rfl) _ _ _ _ _ _ _

/-- Where no other completion waits and the record has left its channel, the command completes at once. -/
theorem State.completed_completeAfter {cid : Nat} {c : OutCmd} (hc : s.hif.outstanding.find? (·.cid = cid) = some c)
    (hb : s.busOk = true) (ha : s.hif.after = []) {ch typ frame : Nat} (hh : (s.chan ch).holds typ frame = false)
    (st why : Nat) (v : Option Nat) : Completed s (s.completeAfter ch typ frame cid st why v) c.tag c.opcode st why := by
  let u : State := { s with hif.after := [], cel.replayEnd := if ch = 4 then some s.mono else s.cel.replayEnd }
  have hnow : s.completeAfter ch typ frame cid st why v = u.complete cid st why v none := by
    unfold State.completeAfter State.settleAfter
    rw [ha]
    exact if_neg (ne_true_of_eq_false hh)
  rw [hnow]
  exact u.completed_complete hc hb st why v none

/-! ## The report (R182, R183) -/

@[simp] theorem State.publishCal_casks (k : Cal) (why : Nat) (racked : Option Nat) : (s.publishCal k why racked).casks = s.casks :=
  (State.stickyIf_casks _ _ _).trans (casks_offRecord.formRec s (by decide) _)

/-- A report alters no register of the calibrations' block but those of R183 before it writes them. -/
theorem State.reg_publishCal_status (k : Cal) (why : Nat) (racked : Option Nat) : ∃ u : State,
    (s.publishCal k why racked).reg Reg.CAL_STATUS =
      ((u.sticky Fld.CAL_STATUS_REPORT).stickyIf (decide (why ≠ 0)) Fld.CAL_STATUS_REJECTED).reg Reg.CAL_STATUS :=
  ⟨_, (reg_setRegN_ne (by decide)).trans (reg_setRegN_ne (by decide))⟩

theorem flag_of_reg {s t : State} {f : Fld} (h : t.reg f.off = s.reg f.off) : t.flag f = s.flag f := by
  unfold State.flag State.fld
  rw [h]

/-- A report sets REPORT. -/
theorem State.publishCal_report (k : Cal) (why : Nat) (racked : Option Nat) :
    (s.publishCal k why racked).flag Fld.CAL_STATUS_REPORT = true := by
  obtain ⟨u, hu⟩ := s.reg_publishCal_status k why racked
  rw [flag_of_reg (f := Fld.CAL_STATUS_REPORT) hu]
  unfold State.stickyIf
  split
  · exact flag_sticky_of_flag _ (by decide) (flag_sticky u (by decide) (by decide))
  · exact flag_sticky u (by decide) (by decide)

/-- A report with a reason sets REJECTED. -/
theorem State.publishCal_rejected (k : Cal) {why : Nat} (hw : why ≠ 0) (racked : Option Nat) :
    (s.publishCal k why racked).flag Fld.CAL_STATUS_REJECTED = true := by
  obtain ⟨u, hu⟩ := s.reg_publishCal_status k why racked
  rw [flag_of_reg (f := Fld.CAL_STATUS_REJECTED) hu, State.stickyIf, if_pos (decide_eq_true hw)]
  exact flag_sticky _ (by decide) (by decide)

/-- CAL_LAST shows the kind, the result and the reason of the newest report. -/
theorem State.publishCal_last (k : Cal) (why : Nat) (racked : Option Nat) :
    (s.publishCal k why racked).reg Reg.CAL_LAST = BitVec.ofNat 32 (k.kind + 2 ^ 8 * rejResult why + 2 ^ 16 * why) :=
  (reg_setRegN_ne (by decide)).trans (State.reg_setReg_self _ _ _)

theorem host_offRecord : OffRecord fun u => (u.hif.outstanding, u.hif.after, u.busOk) :=
  ⟨fun _ _ _ _ => rfl, fun _ _ => rfl, fun _ _ _ _ => rfl, fun _ _ => rfl⟩

/-- What a report does to the host interface, its record does. -/
theorem State.publishCal_hif (k : Cal) (why : Nat) (racked : Option Nat) :
    (s.publishCal k why racked).hif = (s.formRec 2 (plainRec 5 k.lastFrame (k.report why racked))).hif := State.stickyIf_hif _ _ _

/-- A report touches no command, and not the bus. -/
theorem State.publishCal_host (k : Cal) (why : Nat) (racked : Option Nat) :
    (s.publishCal k why racked).hif.outstanding = s.hif.outstanding ∧ (s.publishCal k why racked).hif.after = s.hif.after ∧
      (s.publishCal k why racked).busOk = s.busOk := by
  have hformed := host_offRecord.formRec s (n := 2) (by decide) (plainRec 5 k.lastFrame (k.report why racked))
  simp only [Prod.mk.injEq, State.busOk] at hformed
  unfold State.busOk
  rw [s.publishCal_hif]
  exact hformed

/-- A record that is dropped is not in its channel. -/
theorem State.holds_dropRec {n : Nat} (hn : n ≠ 0) (r : Rec) (typ frame : Nat) :
    ((s.dropRec n r).chan n).holds typ frame = (s.chan n).holds typ frame := by
  have hchans : ∀ u : State, (u.chan n).holds typ frame = (u.hif.chans.map (·.holds typ frame)).getD n (chanIdle.holds typ frame) :=
    fun u => (List.getD_map _ _ fun c : Chan => c.holds typ frame).symm
  have hmod := map_modAt (·.holds typ frame) s.hif.chans n
    (fun _ => { s.chan n with dropsSince := min ((s.chan n).dropsSince + 1) (2 ^ 32 - 1) }) chanIdle rfl
  unfold State.dropRec
  rw [if_neg (fun h => hn h.1), hchans, hchans]
  exact congrArg (·.getD n (chanIdle.holds typ frame)) hmod

/-- With channel 2 off a report does not enter it. -/
theorem State.publishCal_holds (hoff : s.chanOn 2 = false) (k : Cal) (why : Nat) (racked : Option Nat) (typ frame : Nat) :
    ((s.publishCal k why racked).chan 2).holds typ frame = (s.chan 2).holds typ frame := by
  have hdrop : ∀ r, s.formRec 2 r = s.dropRec 2 r := fun r => if_pos (by simp [hoff])
  rw [← s.holds_dropRec (n := 2) (by decide), ← hdrop]
  unfold State.chan
  rw [s.publishCal_hif]

/-! ## The command of a calibration (R179) -/

@[simp] theorem State.completeCal_casks (k : Cal) (why : Nat) : (s.completeCal k why).casks = s.casks := by
  unfold State.completeCal
  split
  · exact State.completeAfter_casks _ _ _ _ _ _ _ _
  · rfl

theorem State.reg_completeCal_ne {o : Nat} (h : o ≠ Reg.HIF_STATUS) (k : Cal) (why : Nat) : (s.completeCal k why).reg o = s.reg o := by
  unfold State.completeCal
  split
  · exact State.reg_completeAfter_ne _ h _ _ _ _ _ _ _
  · rfl

/-- A command ends with the calibration that serves it: it completes at once where the bus and the other completions leave it to, and
no report waits in channel 2. -/
def State.CalEnds (s t : State) (k : Cal) (status why : Nat) : Prop :=
  ∀ cid c, k.cid = some cid → s.hif.outstanding.find? (·.cid = cid) = some c → s.busOk = true → s.hif.after = [] →
    s.chanOn 2 = false → (s.chan 2).holds 5 k.lastFrame = false → Completed s t c.tag c.opcode status why

/-- After its report the command of a calibration ends with the status of the reason. -/
theorem State.calEnds_completeCal (k : Cal) (why : Nat) (racked : Option Nat) :
    s.CalEnds ((s.publishCal k why racked).completeCal k why) k (rejStatus why) why := by
  intro cid c hk hc hb ha hoff hh
  obtain ⟨hout, hafter, hbus⟩ := s.publishCal_host k why racked
  have houts : s.outs <:+ (s.publishCal k why racked).outs := by
    have hset : (s.publishCal k why racked).outs = (s.formRec 2 (plainRec 5 k.lastFrame (k.report why racked))).outs :=
      State.stickyIf_outs _ _ _
    rw [hset]
    exact (State.beside_formRec (cid := 0) s 2 _).outs
  have hholds := (s.publishCal_holds hoff k why racked 5 k.lastFrame).trans hh
  unfold State.completeCal
  rw [hk]
  exact (State.completed_completeAfter _ (hout ▸ hc) (hbus.trans hb) (hafter.trans ha) hholds _ _ _).earlier houts

/-! ## Ends (R160, R161, R163, R179) -/

/-- A calibration is over, other than by acceptance. -/
def State.calOver (s : State) (k : Cal) (why : Nat) : State :=
  let s := if why = Rej.hostAbort then s else { s with casks.decided := some s.mono }
  { s with casks.cal := none, casks.restore := if k.stage = 2 then k.displaced else s.casks.restore }

/-- A calibration that is rejected is over, and its report and its command follow; the shutter may be opened before. -/
theorem State.rejectCal_eq (k : Cal) (why : Nat) (openUp : Bool) :
    s.rejectCal k why openUp =
      let p := if openUp then s.openShutter k else (s, k)
      ((p.1.calOver p.2 why).publishCal p.2 why none).completeCal p.2 why := rfl

/-- Opening the shutter leaves the calibration's kind. -/
theorem State.openShutter_kind (k : Cal) : (s.openShutter k).2.kind = k.kind := by
  unfold State.openShutter
  split <;> rfl

/-- A calibration of this kind was rejected for this reason: none runs, and the registers of R183 show it. -/
def State.CalRefused (t : State) (kind why : Nat) : Prop :=
  t.casks.cal = none ∧ t.flag Fld.CAL_STATUS_REJECTED = true ∧ t.flag Fld.CAL_STATUS_REPORT = true ∧
    t.reg Reg.CAL_LAST = BitVec.ofNat 32 (kind + 2 ^ 8 * rejResult why + 2 ^ 16 * why)

theorem State.calRefused_rejectCal (k : Cal) {why : Nat} (hw : why ≠ 0) (openUp : Bool) :
    (s.rejectCal k why openUp).CalRefused k.kind why := by
  have hover : ∀ (u : State) q, (((u.calOver q why).publishCal q why none).completeCal q why).CalRefused q.kind why := fun u q => by
    have hstatus := State.reg_completeCal_ne ((u.calOver q why).publishCal q why none) (o := Reg.CAL_STATUS) (by decide) q why
    refine ⟨?_, (flag_of_reg hstatus).trans (State.publishCal_rejected _ _ hw _),
      (flag_of_reg hstatus).trans (State.publishCal_report _ _ _ _),
      (State.reg_completeCal_ne _ (by decide) _ _).trans (State.publishCal_last _ _ _ _)⟩
    rw [State.completeCal_casks, State.publishCal_casks]
    rfl
  rw [State.rejectCal_eq]
  cases openUp
  · exact hover s k
  · have hopened := hover (s.openShutter k).1 (s.openShutter k).2
    rwa [s.openShutter_kind k] at hopened

/-- The end of a command leaves what tells that a calibration was rejected. -/
theorem State.CalRefused.commit {s t : State} {kind why : Nat} (h : t.CalRefused kind why) : (commit s t).CalRefused kind why := by
  obtain ⟨hcal, hrej, hrep, hlast⟩ := h
  exact ⟨(congrArg Casks.cal (commit_casks s t)).trans hcal, (flag_commit (by decide)).trans hrej, (flag_commit (by decide)).trans hrep,
    (reg_commit_ne s t (by decide)).trans hlast⟩

theorem State.calEnds_rejectCal (k : Cal) (why : Nat) : s.CalEnds (s.rejectCal k why false) k (rejStatus why) why := by
  have hover : (s.calOver k why).hif = s.hif ∧ (s.calOver k why).outs = s.outs ∧ (s.calOver k why).regs = s.regs := by
    unfold State.calOver
    dsimp only
    split <;> exact ⟨rfl, rfl, rfl⟩
  obtain ⟨hhif, houts, hregs⟩ := hover
  intro cid c hk hc hb ha hoff hh
  have hon : (s.calOver k why).chanOn 2 = s.chanOn 2 := by
    unfold State.chanOn State.flag State.fld State.reg
    rw [hregs]
  have hends := State.calEnds_completeCal (s.calOver k why) k why none cid c hk (hhif ▸ hc)
    (by unfold State.busOk; rw [hhif]; exact hb) (hhif ▸ ha) (hon.trans hoff) (by unfold State.chan; rw [hhif]; exact hh)
  exact hends.earlier (houts ▸ List.suffix_rfl)

end Sys2Proof.Machine
end

section
/-! Calibrations start, are decided, copied, racked or rejected, and end (R156, R157, R160, R161, R164 to R166, R172, R174 to R176, R179). -/

namespace Sys2Proof.Machine

open Sys2Proof

variable (s : State)

theorem exec_calibrate (h : Hdr) (kind flags capture : Nat) :
    exec (.calibrate h kind flags capture) s =
      runIf "CALIBRATE" (Instr.wf (.calibrate h kind flags capture)) (fun s => s.doCalibrate h kind flags capture) s := rfl
theorem exec_calAbort (h : Hdr) :
    exec (.calAbort h) s = runIf "CAL_ABORT" (Instr.wf (.calAbort h)) (fun s => s.doCalAbort h) s := rfl
theorem exec_calibrationDecision (meas : List Int) :
    exec (.calibrationDecision meas) s =
      runIf "CALIBRATION_DECISION" (Instr.wf (.calibrationDecision meas)) (fun s => s.doDecision meas) s := rfl
theorem exec_calibrationCopyValid : exec .calibrationCopyValid s = run State.doCopyValid s := rfl

/-! ## Starts (R156, R157, R163, R170) -/

section calibrate

variable {h : Hdr} {kind flags capture : Nat} (ht : s.taken h Op.calibrate 1) (hbad : s.calBad kind flags capture = none)

include ht

theorem yields_calibrate (hkind : kind < 2 ^ 8) (hflags : flags < 2 ^ 8) (hcapture : capture < 2 ^ 8) {P : State → Prop}
    (hP : P (commit s (s.doCalibrate h kind flags capture))) : Yields (.calibrate h kind flags capture) s P := by
  have ⟨hpow, hhdr, _⟩ := ht
  have hw : Instr.wf (.calibrate h kind flags capture) = true := by
    simp only [Instr.wf, hhdr, u8, decide_eq_true hkind, decide_eq_true hflags, decide_eq_true hcapture, Bool.and_self]
  exact yields_of_runIf (exec_calibrate s h kind flags capture) hw hpow hP

include hbad

/-- A calibration that its state, its target, the coils, the shutter and the budget allow starts. -/
theorem State.doCalibrate_of_free (hst : s.calState kind = true) (hcal : s.casks.cal = none) (hset : s.sen.settleEnd = none)
    (htgt : s.targetBusy kind = false) (hcoils : kind = 6 → s.coil.a.runsOrHolds = false ∧ s.coil.b.runsOrHolds = false)
    (hopen : kind = 2 → s.casks.shut = .one)
    (hband : kind = 1 → ¬s.tol.allowOut ∧ s.bandDies ≠ [] ∧
      let p := bandPeriod s.bandDies.length s.tol.level
      fitsPower s.budget (s.bandPlan p) p = true) :
    s.doCalibrate h kind flags capture =
      (s.accepted h Op.calibrate).startCal
        ((s.accepted h Op.calibrate).newCal kind flags capture false (some s.hif.nextCid)) := by
  have hfree : (!s.calState kind || s.casks.cal.isSome || s.settling || s.targetBusy kind ||
      (kind = 6 && (s.coil.a.runsOrHolds || s.coil.b.runsOrHolds))) = false := by
    have hquiet : (decide (kind = 6) && (s.coil.a.runsOrHolds || s.coil.b.runsOrHolds)) = false := by
      by_cases h6 : kind = 6
      · simp [hcoils h6]
      · simp [h6]
    simp only [hst, hcal, State.settling, hset, htgt, hquiet]
    rfl
  have hshut : ¬(kind = 2 ∧ s.casks.shut ≠ .one) := fun hk => hk.2 (hopen hk.1)
  have hfits : ¬(kind = 1 ∧ (s.tol.allowOut ∨ s.bandDies.isEmpty ∨
      !fitsPower s.budget (s.bandPlan (bandPeriod s.bandDies.length s.tol.level)) (bandPeriod s.bandDies.length s.tol.level))) := by
    rintro ⟨hk, hout⟩
    obtain ⟨hallow, hdies, hfit⟩ := hband hk
    rcases hout with ho | ho | ho
    · exact hallow ho
    · exact hdies (List.isEmpty_iff.mp ho)
    · simp only [hfit] at ho
      exact absurd ho (by decide)
  have hbody := s.acceptCmd_of_taken ht (bad := fun s => s.calBad kind flags capture) hbad
  unfold State.doCalibrate
  rw [hbody]
  exact (if_neg (ne_true_of_eq_false hfree)).trans ((if_neg hshut).trans (if_neg hfits))

end calibrate

/-- A calibration that needs no profile first runs at once. -/
theorem State.startCal_at_once {k : Cal} (h : calNeedsShut k.kind = false ∨ s.casks.shut = .two) :
    ∃ t, (s.startCal k).casks.cal = some { k with settleUntil := t } := by
  unfold State.startCal
  dsimp only
  split
  · exact ⟨k.settleUntil, rfl⟩
  · split
    · next hneeds =>
      have hshut : s.casks.shut = .two := h.resolve_left (by simp [hneeds])
      exact ⟨_, congrArg Casks.cal (congrArg State.casks (if_pos hshut))⟩
    · exact ⟨k.settleUntil, rfl⟩

/-! ## CAL_ABORT (R161, R175) -/

theorem State.discardHeld_cal : s.discardHeld.casks.cal = s.casks.cal := by
  unfold State.discardHeld
  split
  · rw [State.publishCal_casks]
  · rfl

/-- Before its decision CAL_ABORT ends the calibration (R161). -/
theorem yields_calAbort {h : Hdr} {k : Cal} (ht : s.taken h Op.calAbort 64) (hk : s.casks.cal = some k)
    (hmade : s.decisionMade = false) :
    Yields (.calAbort h) s fun t => t.casks.cal = none ∧ t.flag Fld.CAL_STATUS_REJECTED = true := by
  have ⟨hpow, hhdr, _⟩ := ht
  refine yields_of_runIf (exec_calAbort s h) hhdr hpow ?_
  have hheld : (s.accepted h Op.calAbort).discardHeld.casks.cal = some k := (State.discardHeld_cal _).trans hk
  have hbody : s.doCalAbort h =
      let p := (s.accepted h Op.calAbort).discardHeld.dropClose k
      (p.1.rejectCal p.2 Rej.hostAbort true).complete s.hif.nextCid St.ok Why.none (some 0) none := by
    unfold State.doCalAbort
    rw [s.acceptCmd_of_taken ht rfl, if_neg (show ¬(s.accepted h Op.calAbort).decisionMade = true from ne_true_of_eq_false hmade)]
    dsimp only
    rw [hheld]
  rw [hbody]
  dsimp only
  generalize ((s.accepted h Op.calAbort).discardHeld.dropClose k) = p
  obtain ⟨hcal, hrej, -, -⟩ := p.1.calRefused_rejectCal p.2 (why := Rej.hostAbort) (by decide) true
  refine ⟨?_, ?_⟩
  · rw [commit_casks, State.complete_casks]
    exact hcal
  · rw [flag_commit (by decide), flag_of_reg (State.reg_complete_ne _ (by decide) _ _ _ _ _)]
    exact hrej

/-! ## Decisions (R157, R160, R164 to R166, R172, R174 to R176) -/

/-- With its data there, a calibration is decided by its kind. -/
theorem State.doDecision_of_due {k : Cal} (hk : s.casks.cal = some k) (hstage : k.stage ≤ 3) (hdata : s.calDataIn k = true)
    (meas : List Int) :
    s.doDecision meas =
      if 3 ≤ k.kind then
        let d := s.trimDecide k meas
        let q := { k with rep := { calRepZero with old := d.2.2.1, new := d.2.2.2 } }
        if d.2.1 = 0 then State.acceptCal { (d.1.ctrInc 9) with casks.decided := some d.1.mono } q none else d.1.rejectCal q d.2.1 false
      else if k.kind = 2 then s.decideTwo k
      else
        let v := if k.kind = 0 then s.judgeOffset k else s.judgeTau k
        if v.why = 0 then s.acceptResult k v else s.rejectCal { k with rep := v.rep } v.why false := by
  have hdue : ¬(3 < k.stage ∨ !s.calDataIn k) := by
    rw [hdata]
    simpa using hstage
  unfold State.doDecision
  rw [hk]
  exact if_neg hdue

theorem yields_calibrationDecision (hp : s.powered) {meas : List Int} {P : State → Prop} (hP : P (commit s (s.doDecision meas))) :
    Yields (.calibrationDecision meas) s P := yields_of_runIf (exec_calibrationDecision s meas) rfl hp hP

/-- A calibration that is accepted is over, and its report follows (R160). -/
theorem State.acceptCal_over (k : Cal) (racked : Option Nat) :
    (s.acceptCal k racked).casks.cal = none ∧ (s.acceptCal k racked).flag Fld.CAL_STATUS_REPORT = true := by
  refine ⟨?_, (flag_of_reg (State.reg_completeCal_ne _ (by decide) _ _)).trans (State.publishCal_report _ _ _ _)⟩
  unfold State.acceptCal
  rw [State.completeCal_casks, State.publishCal_casks]

/-- A trim is over with its decision, and its report follows (R177, R179). -/
theorem yields_calibrationDecision_trim {k : Cal} {meas : List Int} (hp : s.powered) (hk : s.casks.cal = some k) (hstage : k.stage ≤ 3)
    (hdata : s.calDataIn k = true) (hkind : 3 ≤ k.kind) :
    Yields (.calibrationDecision meas) s fun t => t.casks.cal = none ∧ t.flag Fld.CAL_STATUS_REPORT = true := by
  refine yields_calibrationDecision s hp ?_
  rw [commit_casks, flag_commit (by decide), s.doDecision_of_due hk hstage hdata meas, if_pos hkind]
  generalize s.trimDecide k meas = d
  dsimp only
  split
  · exact State.acceptCal_over _ _ _
  · next hwhy =>
    obtain ⟨hcal, -, hrep, -⟩ := d.1.calRefused_rejectCal { k with rep := { calRepZero with old := d.2.2.1, new := d.2.2.2 } } hwhy false
    exact ⟨hcal, hrep⟩

/-- The result of a calibration is accepted: it is in its target under the next generation, and is copied (R157, R160). -/
def State.CalAccepted (s t : State) (k : Cal) (v : Verdict) : Prop :=
  let img := s.finishImage k v.image s.nextGen
  t.casks.cal = some { k with stage := 4, result := some img, rep := { v.rep with gen := s.nextGen } } ∧
    (t.cask k.target).img = some img ∧ (t.cask k.target).copying = true

/-- A calibration is rejected, and its command ends with the status of the reason (R179). -/
def State.CalRejected (s t : State) (k : Cal) (why : Nat) : Prop :=
  t.casks.cal = none ∧ t.flag Fld.CAL_STATUS_REJECTED = true ∧ t.flag Fld.CAL_STATUS_REPORT = true ∧
    t.reg Reg.CAL_LAST = BitVec.ofNat 32 (k.kind + 2 ^ 8 * rejResult why + 2 ^ 16 * why) ∧ s.CalEnds t k (rejStatus why) why

/-- A first capture of BLACKBODY_2P is held, and its command ends with OK (R175). -/
def State.CalHeld (s t : State) (k : Cal) (v : Verdict) (fail : Plane) : Prop :=
  t.casks.cal = none ∧ t.casks.held = some { cal := { k with rep := v.rep }, failed := fail } ∧ s.CalEnds t k St.ok Why.none

theorem State.CalEnds.commit {s t : State} {k : Cal} {status why : Nat} (h : s.CalEnds t k status why) :
    s.CalEnds (commit s t) k status why :=
  fun cid c hk hc hb ha hoff hh => (h cid c hk hc hb ha hoff hh).later (outs_suffix_commit _ _)

theorem State.calRejected_rejectCal (k : Cal) {why : Nat} (hw : why ≠ 0) : s.CalRejected (commit s (s.rejectCal k why false)) k why := by
  obtain ⟨hcal, hrej, hrep, hlast⟩ := (s.calRefused_rejectCal k hw false).commit (s := s)
  exact ⟨hcal, hrej, hrep, hlast, (s.calEnds_rejectCal k why).commit⟩

theorem State.calAccepted_acceptResult (k : Cal) (v : Verdict) : s.CalAccepted (commit s (s.acceptResult k v)) k v := by
  let img := s.finishImage k v.image s.nextGen
  let q : Cal := { k with stage := 4, result := some img, rep := { v.rep with gen := s.nextGen } }
  have hcopied : ∃ u : State, (s.acceptResult k v).casks = { (u.startCopy k.target img).casks with cal := some q } := by
    unfold State.acceptResult
    dsimp only
    split
    · exact ⟨_, rfl⟩
    · exact ⟨_, State.publishCal_casks _ _ _ _⟩
  obtain ⟨u, hu⟩ := hcopied
  have hcask : ((commit s (s.acceptResult k v)).cask k.target) = (u.startCopy k.target img).cask k.target := by
    rw [State.cask_commit]
    unfold State.cask
    rw [hu]
  rw [u.startCopy_cask] at hcask
  unfold State.CalAccepted
  rw [hcask, commit_casks, hu]
  exact ⟨rfl, rfl, rfl⟩

/-- What a verdict comes to: acceptance, or rejection for its reason. -/
theorem State.calDecided (k : Cal) (v : Verdict) {u : State}
    (hu : u = if v.why = 0 then s.acceptResult k v else s.rejectCal { k with rep := v.rep } v.why false) :
    (v.why = 0 → s.CalAccepted (commit s u) k v) ∧ (v.why ≠ 0 → s.CalRejected (commit s u) k v.why) := by
  subst hu
  constructor
  · intro hv
    rw [if_pos hv]
    exact s.calAccepted_acceptResult k v
  · intro hv
    rw [if_neg hv]
    exact s.calRejected_rejectCal { k with rep := v.rep } hv

theorem State.calHeld_holdCapture (k : Cal) (v : Verdict) (fail : Plane) :
    s.CalHeld (commit s (s.holdCapture { k with rep := v.rep } fail)) k v fail := by
  let u : State := { s with
    casks.cal := none, casks.decided := some s.mono, casks.held := some { cal := { k with rep := v.rep }, failed := fail } }
  have hcasks : (s.holdCapture { k with rep := v.rep } fail).casks = u.casks := by
    unfold State.holdCapture
    dsimp only
    split
    · exact State.complete_casks _ _ _ _ _ _
    · rfl
  refine ⟨?_, ?_, State.CalEnds.commit fun cid c hk hc hb _ _ _ => ?_⟩
  · rw [commit_casks, hcasks]
  · rw [commit_casks, hcasks]
  · have hdone : s.holdCapture { k with rep := v.rep } fail = u.complete cid St.ok Why.none (some 0) none := by
      unfold State.holdCapture
      dsimp only
      split
      · next other ho =>
        obtain rfl := Option.some.inj (hk.symm.trans ho)
        rfl
      · next ho => exact absurd (hk.symm.trans ho) (Option.some_ne_none cid)
    rw [hdone]
    exact u.completed_complete hc hb _ _ _ _

/-- The verdict on a pair of BLACKBODY_2P captures (R176). -/
def State.judgePair (s : State) (k : Cal) (h : Held) : Verdict :=
  let one := s.judgeCapture k
  if k.capture = 1 then s.judgeTwo k k h.cal one.2 h.failed one.1.rep.spread
  else s.judgeTwo k h.cal k h.failed one.2 one.1.rep.spread

/-- What the decision of a capture comes to (R174 to R176). -/
theorem State.decideTwo_spec (k : Cal) :
    let one := s.judgeCapture k
    let t := commit s (s.decideTwo k)
    (one.1.why ≠ 0 → s.CalRejected t k one.1.why) ∧
    (one.1.why = 0 → (∀ h, s.casks.held = some h → h.cal.capture = k.capture) → s.CalHeld t k one.1 one.2) ∧
    (∀ h, one.1.why = 0 → s.casks.held = some h → h.cal.capture ≠ k.capture →
      ((s.judgePair k h).why = 0 → s.CalAccepted t k (s.judgePair k h)) ∧
      ((s.judgePair k h).why ≠ 0 → s.CalRejected t k (s.judgePair k h).why)) := by
  intro one t
  refine ⟨fun hwhy => ?rejected, fun hwhy hheld => ?held, fun h hwhy hh hother => ?pair⟩
  case rejected =>
    have ht : s.decideTwo k = s.rejectCal { k with rep := one.1.rep } one.1.why false := if_pos hwhy
    simp only [t, ht]
    exact s.calRejected_rejectCal { k with rep := one.1.rep } hwhy
  case held =>
    have ht : s.decideTwo k = s.holdCapture { k with rep := one.1.rep } one.2 := by
      refine (if_neg (not_not.mpr hwhy)).trans ?_
      split
      · next h hh => exact if_pos (hheld h hh)
      · rfl
    simp only [t, ht]
    exact s.calHeld_holdCapture k one.1 one.2
  case pair =>
    let u : State := { s with casks.held := none }
    have ht : s.decideTwo k = if (s.judgePair k h).why = 0 then u.acceptResult k (s.judgePair k h)
        else u.rejectCal { k with rep := (s.judgePair k h).rep } (s.judgePair k h).why false := by
      rw [← ite_not]
      refine (if_neg (not_not.mpr hwhy)).trans ?_
      rw [hh]
      refine (if_neg hother).trans ?_
      by_cases h1 : k.capture = 1
      · rw [show s.judgePair k h = _ from if_pos h1, if_pos h1]
        rfl
      · rw [show s.judgePair k h = _ from if_neg h1, if_neg h1]
        rfl
    exact u.calDecided k (s.judgePair k h) ht

/-- A decision of a kind that writes a cask, whatever its verdict (R160). -/
theorem yields_calibrationDecision_of_decided {k : Cal} {meas : List Int} {v : Verdict} (hp : s.powered)
    (hd : s.doDecision meas = if v.why = 0 then s.acceptResult k v else s.rejectCal { k with rep := v.rep } v.why false) :
    (v.why = 0 → Yields (.calibrationDecision meas) s fun t => s.CalAccepted t k v) ∧
      (v.why ≠ 0 → Yields (.calibrationDecision meas) s fun t => s.CalRejected t k v.why) :=
  have hdecided := s.calDecided k v hd
  ⟨fun hv => yields_calibrationDecision s hp (hdecided.1 hv), fun hv => yields_calibrationDecision s hp (hdecided.2 hv)⟩

section cask

variable {k : Cal} {meas : List Int} (hp : s.powered) (hk : s.casks.cal = some k) (hstage : k.stage ≤ 3) (hdata : s.calDataIn k = true)

include hp hk hstage hdata

/-- The decisions of SHUTTER_OFFSET and of TAU_MAP (R164 to R166, R172). -/
theorem yields_calibrationDecision_single (hkind : k.kind < 2) :
    let v := if k.kind = 0 then s.judgeOffset k else s.judgeTau k
    (v.why = 0 → Yields (.calibrationDecision meas) s fun t => s.CalAccepted t k v) ∧
      (v.why ≠ 0 → Yields (.calibrationDecision meas) s fun t => s.CalRejected t k v.why) := by
  refine yields_calibrationDecision_of_decided s hp ?_
  rw [s.doDecision_of_due hk hstage hdata meas, if_neg (by omega), if_neg (by omega)]

/-- The decision of a capture of BLACKBODY_2P (R174 to R176). -/
theorem yields_calibrationDecision_two (hkind : k.kind = 2) {P : State → Prop} (hP : P (commit s (s.decideTwo k))) :
    Yields (.calibrationDecision meas) s P := by
  refine yields_calibrationDecision s hp ?_
  rwa [s.doDecision_of_due hk hstage hdata meas, if_neg (by omega), if_pos hkind]

end cask

/-! ## Copies (R157, R160) -/

/-- The copies valid, a result is racked next or the calibration is over. -/
theorem yields_calibrationCopyValid {k : Cal} {img : CaskImage} (hp : s.powered) (hk : s.casks.cal = some k) (h4 : k.stage = 4)
    (hres : k.result = some img) (hdig : img.digest = imgDigest img) :
    Yields .calibrationCopyValid s fun t =>
      if k.auto || bitN k.flags 0 then t.casks.cal = some { k with stage := 5 } else t.casks.cal = none := by
  refine yields_of_run (exec_calibrationCopyValid s) hp ?_
  have hvalid : s.doCopyValid = if k.auto || bitN k.flags 0
      then { s.endCopy k.target with casks.cal := some { k with stage := 5 } }
      else State.completeCal { s.endCopy k.target with casks.cal := none } k 0 := by
    unfold State.doCopyValid
    rw [hk]
    refine (if_neg (not_not.mpr h4)).trans ?_
    rw [hres]
    exact if_pos hdig
  rw [hvalid, commit_casks]
  split
  · rfl
  · rw [State.completeCal_casks]

/-- Settles O20: starts by `startCal_at_once`, decisions by what each verdict comes to, and the other clauses by the theorem above of
their command. -/
theorem calibrationsStartDecideAndEnd : Obligations.CalibrationsStartDecideAndEnd := by
  unfold Obligations.CalibrationsStartDecideAndEnd
  intro s hp
  refine ⟨?start, fun _ _ => yields_calAbort s, fun _ _ => yields_calibrationDecision_trim s hp, ?decision,
    fun _ _ => yields_calibrationCopyValid s hp⟩
  case start =>
    intro h kind flags capture ht hkind hflags hcapture hbad hst hcal hset htgt hcoils hopen hband hshut
    refine yields_calibrate s ht hkind hflags hcapture ?_
    rw [s.doCalibrate_of_free ht hbad hst hcal hset htgt hcoils hopen hband, commit_casks]
    obtain ⟨t, hstarted⟩ := State.startCal_at_once (s.accepted h Op.calibrate)
      (k := (s.accepted h Op.calibrate).newCal kind flags capture false (some s.hif.nextCid)) hshut
    exact ⟨_, hstarted, rfl, rfl, rfl, rfl⟩
  case decision =>
    intro k meas hk hstage hdata hkind i ends accepted rejected decides held one
    obtain ⟨hrejected, hheld, hpair⟩ := s.decideTwo_spec k
    refine ⟨fun h0 => ?offset, fun h1 => ?tau, fun h2 hwhy => ?capture, fun h2 hwhy hfirst => ?first, fun h h2 hwhy hh hother => ?pair⟩
    case offset =>
      have hdecided := yields_calibrationDecision_single s (meas := meas) hp hk hstage hdata (by omega)
      rwa [if_pos h0] at hdecided
    case tau =>
      have hdecided := yields_calibrationDecision_single s (meas := meas) hp hk hstage hdata (by omega)
      rwa [if_neg (by omega)] at hdecided
    case capture => exact yields_calibrationDecision_two s hp hk hstage hdata h2 (hrejected hwhy)
    case first => exact yields_calibrationDecision_two s hp hk hstage hdata h2 (hheld hwhy hfirst)
    case pair =>
      obtain ⟨hacc, hrej⟩ := hpair h hwhy hh hother
      exact ⟨fun hv => yields_calibrationDecision_two s hp hk hstage hdata h2 (hacc hv),
        fun hv => yields_calibrationDecision_two s hp hk hstage hdata h2 (hrej hv)⟩

end Sys2Proof.Machine
end

section
/-! The coil drive's own operations: what starting, holding, restarting and stopping do to a group's engine, and that none of them
starts or ends a calibration (R186, R201, R206, R352). -/

namespace Sys2Proof.Machine

open Sys2Proof

variable (s : State)

/-! ## Engines -/

@[simp] theorem State.eng_setEng (g : Group) (e : Eng) : (s.setEng g e).eng g = e := by cases g <;> rfl
@[simp] theorem State.setEng_casks (g : Group) (e : Eng) : (s.setEng g e).casks = s.casks := by cases g <;> rfl
@[simp] theorem State.meter_casks (g : Group) : (s.meter g).casks = s.casks := State.setEng_casks _ _ _

/-- The engines are read from the coils alone. -/
theorem State.eng_of_coil {s t : State} (h : t.coil = s.coil) (g : Group) : t.eng g = s.eng g := by unfold State.eng; rw [h]

theorem State.eng_commit (t : State) (g : Group) : (commit s t).eng g = t.eng g := State.eng_of_coil (commit_coil s t) g

/-- Metering the on-time of the switches leaves the engine but for where the next metering starts. -/
theorem State.eng_meter (g : Group) : (s.meter g).eng g = { s.eng g with onSince := s.mono } := by
  unfold State.meter
  dsimp only
  rw [State.eng_setEng]

@[simp] theorem State.setShut_coil (m : MechState) : (s.setShut m).coil = s.coil := by
  unfold State.setShut
  split <;> rfl

@[simp] theorem State.setShut_cal (m : MechState) : (s.setShut m).casks.cal = s.casks.cal := by
  unfold State.setShut
  split <;> rfl

@[simp] theorem State.eng_setPos (g g' : Group) (m : MechState) : (s.setPos g m).eng g' = s.eng g' := by
  cases g with
  | a => exact State.eng_of_coil (s.setShut_coil m) g'
  | b => cases g' <;> rfl

@[simp] theorem State.setPos_cal (g : Group) (m : MechState) : (s.setPos g m).casks.cal = s.casks.cal := by
  cases g with
  | a => exact s.setShut_cal m
  | b => rfl

/-! ## Commands that end with a run (R207) -/

@[simp] theorem State.coilReport_coil (cid st why : Nat) (kink : Option Nat) (start last : Nat) :
    (s.coilReport cid st why kink start last).coil = s.coil := State.complete_coil _ _ _ _ _ _
@[simp] theorem State.coilReport_casks (cid st why : Nat) (kink : Option Nat) (start last : Nat) :
    (s.coilReport cid st why kink start last).casks = s.casks := State.complete_casks _ _ _ _ _ _

@[simp] theorem State.endReq_coil (e : Eng) (r : CoilReq) (st why : Nat) : (s.endReq e r st why).coil = s.coil := by
  unfold State.endReq
  split
  · exact s.coilReport_coil _ _ _ _ _ _
  · rfl

@[simp] theorem State.endReq_casks (e : Eng) (r : CoilReq) (st why : Nat) : (s.endReq e r st why).casks = s.casks := by
  unfold State.endReq
  split
  · exact s.coilReport_casks _ _ _ _ _ _
  · rfl

@[simp] theorem State.endUnrun_coil (r : Option CoilReq) (st why : Nat) : (s.endUnrun r st why).coil = s.coil := by
  unfold State.endUnrun
  split
  · exact State.coilReport_coil _ _ _ _ _ _ _
  · rfl

@[simp] theorem State.endUnrun_casks (r : Option CoilReq) (st why : Nat) : (s.endUnrun r st why).casks = s.casks := by
  unfold State.endUnrun
  split
  · exact State.coilReport_casks _ _ _ _ _ _ _
  · rfl

/-! ## Self-calibration makes way (R352) -/

@[simp] theorem State.hkcServe_coil (t : Nat) : (s.hkcServe t).coil = s.coil := by
  unfold State.hkcServe
  repeat' split
  all_goals rfl

@[simp] theorem State.hkcServe_casks (t : Nat) : (s.hkcServe t).casks = s.casks := by
  unfold State.hkcServe
  repeat' split
  all_goals rfl

@[simp] theorem State.doSelfcalDone_coil : s.doSelfcalDone.coil = s.coil := by
  unfold State.doSelfcalDone
  split
  · split
    · exact State.hkcServe_coil _ _
    · rfl
  · rfl

theorem State.doSelfcalDone_cal_none (h : s.casks.cal = none) : s.doSelfcalDone.casks.cal = none := by
  unfold State.doSelfcalDone
  split
  · split
    · dsimp only
      rw [State.hkcServe_casks]
      exact congrArg (Option.map _) h
    · exact h
  · exact h

@[simp] theorem State.selfcalAbort_coil : s.selfcalAbort.coil = s.coil := by
  unfold State.selfcalAbort
  dsimp only
  split
  · exact (State.hkcServe_coil _ _).trans s.doSelfcalDone_coil
  · exact s.doSelfcalDone_coil

theorem State.selfcalAbort_cal_none (h : s.casks.cal = none) : s.selfcalAbort.casks.cal = none := by
  unfold State.selfcalAbort
  dsimp only
  split
  · rw [State.hkcServe_casks]
    exact s.doSelfcalDone_cal_none h
  · exact s.doSelfcalDone_cal_none h

/-! ## Starting (R186, R194, R201) -/

/-- The switches of a group serve a profile: they are enabled, the group has no over-current latched and is not stuck (R186, R204). -/
def State.servesGroup (s : State) (g : Group) : Prop := s.coilEnabled = true ∧ s.flag (grpOc g) = false ∧ (s.eng g).stuck = false

theorem State.eng_startProfile (g : Group) (r : CoilReq) :
    ((s.startProfile g r).eng g).st = .running ∧ ((s.startProfile g r).eng g).req = some r ∧
      ((s.startProfile g r).eng g).pc = r.entry ∧ ((s.startProfile g r).eng g).coil = r.coil := by
  have heng : ∀ e : Eng, ((((s.setEng g e).setPair (grpStart g) s.now).setPos g .moving).selfcalAbort).eng g = e := fun e => by
    rw [State.eng_of_coil (State.selfcalAbort_coil _), State.eng_setPos, State.eng_of_coil (State.setPair_coil _ _ _), State.eng_setEng]
  unfold State.startProfile
  dsimp only
  rw [heng]
  exact ⟨rfl, rfl, rfl, rfl⟩

theorem State.startProfile_cal_none (h : s.casks.cal = none) (g : Group) (r : CoilReq) : (s.startProfile g r).casks.cal = none := by
  refine State.selfcalAbort_cal_none _ ?_
  rw [State.setPos_cal]
  exact (congrArg Casks.cal (State.setEng_casks _ _ _)).trans h

/-- What a group refuses is what it does not serve. -/
theorem State.servesGroup_iff (g : Group) :
    s.servesGroup g ↔ ¬(!s.coilEnabled || s.flag (grpOc g) || (s.eng g).stuck) = true := by
  simp only [State.servesGroup, Bool.not_eq_true, Bool.or_eq_false_iff, Bool.not_eq_false', and_assoc]

/-- A group that does not serve refuses every request. -/
theorem State.requestCoil_refused {r : CoilReq} (h : ¬s.servesGroup (groupOf r.coil)) : s.requestCoil r = (s, .refused) :=
  if_pos (by rwa [State.servesGroup_iff, not_not] at h)

section request

variable {r : CoilReq} (hserves : s.servesGroup (groupOf r.coil))

include hserves

/-- An idle group starts the profile. -/
theorem State.requestCoil_idle (hidle : (s.eng (groupOf r.coil)).st = .idle) :
    s.requestCoil r = (s.startProfile (groupOf r.coil) r, .started) := by
  unfold State.requestCoil
  dsimp only
  rw [if_neg ((s.servesGroup_iff _).mp hserves)]
  simp only [hidle]

/-- The coil that runs is restarted, at its next grid point. -/
theorem State.requestCoil_restart (hrun : (s.eng (groupOf r.coil)).st = .running) (hcoil : (s.eng (groupOf r.coil)).coil = r.coil) :
    s.requestCoil r = ((s.endUnrun (s.eng (groupOf r.coil)).restart St.aborted CoilEnd.restarted).setEng (groupOf r.coil)
      { s.eng (groupOf r.coil) with restart := some r }, .waiting) := by
  unfold State.requestCoil
  dsimp only
  rw [if_neg ((s.servesGroup_iff _).mp hserves)]
  simp only [hrun, hcoil, if_true]

/-- Behind the group's other coil, or a gap, the request is held, one deep. -/
theorem State.requestCoil_hold
    (hbusy : (s.eng (groupOf r.coil)).st = .running ∧ (s.eng (groupOf r.coil)).coil ≠ r.coil ∨ (s.eng (groupOf r.coil)).st = .gap) :
    s.requestCoil r = if (s.eng (groupOf r.coil)).hold.isNone
      then (s.setEng (groupOf r.coil) { s.eng (groupOf r.coil) with hold := some r }, .waiting) else (s, .refused) := by
  unfold State.requestCoil
  dsimp only
  rw [if_neg ((s.servesGroup_iff _).mp hserves)]
  rcases hbusy with ⟨hrun, hcoil⟩ | hgap
  · simp only [hrun, hcoil, if_false]
  · simp only [hgap]

end request

/-! ## Stopping (R206) -/

/-- A running profile that is stopped leaves its group in GAP, the switches off. -/
theorem State.eng_stopProfile {g : Group} (hrun : (s.eng g).st = .running) (reason : Nat) :
    ((s.stopProfile g reason).eng g).st = .gap ∧ ((s.stopProfile g reason).eng g).reason = reason ∧
      ((s.stopProfile g reason).eng g).hs = false ∧ ((s.stopProfile g reason).eng g).ls = false := by
  have hrun' : ¬((s.meter g).eng g).st ≠ .running := by
    rw [s.eng_meter]
    exact not_not.mpr hrun
  unfold State.stopProfile
  dsimp only
  rw [State.eng_of_coil (State.endUnrun_coil _ _ _ _)]
  unfold State.endProfile
  dsimp only
  rw [if_neg hrun', State.eng_setEng]
  exact ⟨rfl, rfl, rfl, rfl⟩

theorem State.stopProfile_cal (g : Group) (reason : Nat) : (s.stopProfile g reason).casks.cal = s.casks.cal := by
  unfold State.stopProfile
  dsimp only
  rw [State.endUnrun_casks]
  unfold State.endProfile
  dsimp only
  split
  · rw [State.meter_casks]
  · rw [State.setEng_casks]
    split
    · split <;> simp only [State.endReq_casks, State.meter_casks]
    · rw [State.setPos_cal]
      split <;> simp only [State.endReq_casks, State.meter_casks]

theorem State.eng_dropHeld (g : Group) (reason : Nat) : (s.dropHeld g reason).eng g = { s.eng g with hold := none } := by
  unfold State.dropHeld
  dsimp only
  rw [State.eng_setEng]

@[simp] theorem State.dropHeld_casks (g : Group) (reason : Nat) : (s.dropHeld g reason).casks = s.casks := by
  unfold State.dropHeld
  dsimp only
  rw [State.setEng_casks, State.endUnrun_casks]

/-- With no calibration running, an event of the coil drive means nothing more. -/
theorem State.coilHook_of_no_cal (h : s.casks.cal = none) : s.coilHook = s := by
  unfold State.coilHook
  rw [h]

end Sys2Proof.Machine
end

section
/-! COIL_RUN and its STOP form, microcode words, and calibrations that close the shutter (R156, R163, R179, R181, R189, R201, R204, R206,
R207, R209). -/

namespace Sys2Proof.Machine

open Sys2Proof

variable (s : State)

theorem exec_coilRun (h : Hdr) (coil entry : Nat) :
    exec (.coilRun h coil entry) s =
      runIf "COIL_RUN" (Instr.wf (.coilRun h coil entry)) (fun s => (s.doCoilRun h coil entry).coilHook) s := rfl
theorem exec_coilStop (h : Hdr) (coil entry : Nat) :
    exec (.coilStop h coil entry) s =
      runIf "COIL_STOP" (Instr.wf (.coilStop h coil entry)) (fun s => (s.doCoilStop h coil entry).coilHook) s := rfl
theorem exec_coilUcodeWrite (w : Nat) (v : Word) :
    exec (.coilUcodeWrite w v) s =
      runIf "COIL_UCODE_WRITE" (Instr.wf (.coilUcodeWrite w v)) (fun s => s.woken.writeUcode w v) s := rfl
theorem exec_calAutoStart : exec .calAutoStart s = run State.doAutoStart s := rfl

/-! ## COIL_RUN (R201, R204, R207) -/

section coil

variable {h : Hdr} {coil entry : Nat} (ht : s.taken h Op.coilRun 4) (hcoil : coil < 4) (hentry : entry < 128 ∨ entry = 0xFF)

include hcoil hentry

theorem coilBad_of_range : coilBad coil entry = none := by
  unfold coilBad
  rw [if_neg (by omega), if_neg (by omega)]

include ht

/-- COIL_RUN ends as its request to the group does. -/
theorem yields_coilRun (hcal : s.casks.cal = none) {u : State} {r : Grant}
    (hr : (s.accepted h Op.coilRun).requestCoil { coil, entry := s.entryOf coil entry, cid := some s.hif.nextCid } = (u, r))
    (hgrant : r ≠ .refused) (hu : u.casks.cal = none) {P : Eng → Prop} (hP : P (u.eng (groupOf coil))) :
    Yields (.coilRun h coil entry) s fun t => P (t.eng (groupOf coil)) := by
  have ⟨hpow, hhdr, _⟩ := ht
  have hw : Instr.wf (.coilRun h coil entry) = true := by
    simp only [Instr.wf, hhdr, u8, Bool.true_and, Bool.and_eq_true, decide_eq_true_eq]
    omega
  have hopen : ¬(s.accepted h Op.coilRun).calRefusesCoil coil = true := by
    have hcal' : (s.accepted h Op.coilRun).casks.cal = none := hcal
    unfold State.calRefusesCoil
    rw [hcal']
    exact Bool.false_ne_true
  have hrun : s.doCoilRun h coil entry = u := by
    unfold State.doCoilRun
    rw [s.acceptCmd_of_taken ht (coilBad_of_range hcoil hentry), if_neg hopen]
    have hr' : (s.accepted h Op.coilRun).requestCoil
      { coil, entry := (s.accepted h Op.coilRun).entryOf coil entry, cid := some s.hif.nextCid } = (u, r) := hr
    rw [hr']
    exact if_neg hgrant
  refine yields_of_runIf (exec_coilRun s h coil entry) hw hpow ?_
  rw [hrun, u.coilHook_of_no_cal hu, State.eng_commit]
  exact hP

/-- The clauses of COIL_RUN on a group that serves: started, restarted, or held. -/
theorem yields_coilRun_cases (hcal : s.casks.cal = none) (hserves : s.servesGroup (groupOf coil)) :
    let g := groupOf coil
    let e := s.eng g
    let r : CoilReq := { coil, entry := s.entryOf coil entry, cid := some s.hif.nextCid }
    (e.st = .idle →
      Yields (.coilRun h coil entry) s fun t => (t.eng g).st = .running ∧ (t.eng g).req = some r ∧ (t.eng g).pc = r.entry ∧
        (t.eng g).coil = coil) ∧
    (e.st = .running → e.coil = coil →
      Yields (.coilRun h coil entry) s fun t => (t.eng g).restart = some r ∧ (t.eng g).req = e.req) ∧
    ((e.st = .running ∧ e.coil ≠ coil ∨ e.st = .gap) → e.hold = none →
      Yields (.coilRun h coil entry) s fun t => (t.eng g).hold = some r ∧ (t.eng g).req = e.req) := by
  intro g e r
  let u := s.accepted h Op.coilRun
  have hu : u.servesGroup (groupOf r.coil) := hserves
  refine ⟨fun hidle => ?_, fun hrun hsame => ?_, fun hbusy hfree => ?_⟩
  · exact yields_coilRun s ht hcoil hentry hcal (u.requestCoil_idle hu hidle) (by decide) (u.startProfile_cal_none hcal _ _)
      (P := fun x => x.st = .running ∧ x.req = some r ∧ x.pc = r.entry ∧ x.coil = coil) (u.eng_startProfile g r)
  · refine yields_coilRun s ht hcoil hentry hcal (u.requestCoil_restart hu hrun hsame) (by decide) ?_
      (P := fun x => x.restart = some r ∧ x.req = e.req) ?_
    · rw [State.setEng_casks, State.endUnrun_casks]
      exact hcal
    · rw [State.eng_setEng]
      exact ⟨rfl, rfl⟩
  · refine yields_coilRun s ht hcoil hentry hcal ((u.requestCoil_hold hu hbusy).trans (if_pos (Option.isNone_iff_eq_none.mpr hfree)))
      (by decide) ?_ (P := fun x => x.hold = some r ∧ x.req = e.req) ?_
    · rw [State.setEng_casks]
      exact hcal
    · rw [State.eng_setEng]
      exact ⟨rfl, rfl⟩

/-- A STOP ends the group's profile and drops what is held (R206). -/
theorem yields_coilStop (hcal : s.casks.cal = none) :
    let g := groupOf coil
    Yields (.coilStop h coil entry) s fun t => (t.eng g).hold = none ∧
      ((s.eng g).st = .running →
        (t.eng g).st = .gap ∧ (t.eng g).reason = CoilEnd.stopped ∧ (t.eng g).hs = false ∧ (t.eng g).ls = false) := by
  intro g
  have ⟨hpow, hhdr, _⟩ := ht
  have hw : Instr.wf (.coilStop h coil entry) = true := by
    simp only [Instr.wf, hhdr, u8, Bool.true_and, Bool.and_eq_true, decide_eq_true_eq]
    omega
  let a := s.accepted h Op.coilRun
  let u := if (s.eng g).st = .running then a.stopProfile g CoilEnd.stopped else a
  have hucal : u.casks.cal = none := by
    simp only [u]
    split
    · exact (a.stopProfile_cal _ _).trans hcal
    · exact hcal
  have hstop : (s.doCoilStop h coil entry).coil = (u.dropHeld g CoilEnd.stopped).coil ∧
      (s.doCoilStop h coil entry).casks = u.casks := by
    unfold State.doCoilStop
    rw [s.acceptCmd_of_taken ht (coilBad_of_range hcoil hentry)]
    exact ⟨State.coilReport_coil _ _ _ _ _ _ _, (State.coilReport_casks _ _ _ _ _ _ _).trans (State.dropHeld_casks _ _ _)⟩
  refine yields_of_runIf (exec_coilStop s h coil entry) hw hpow ?_
  rw [State.coilHook_of_no_cal _ ((congrArg Casks.cal hstop.2).trans hucal), State.eng_commit, State.eng_of_coil hstop.1, u.eng_dropHeld]
  refine ⟨rfl, fun hrun => ?_⟩
  have hu : u = a.stopProfile g CoilEnd.stopped := if_pos hrun
  rw [hu]
  exact a.eng_stopProfile hrun CoilEnd.stopped

end coil

/-! ## Microcode (R189, R209) -/

/-- A microcode word is stored while both groups are at rest, and else rejected. -/
theorem yields_coilUcodeWrite {w : Nat} (hp : s.powered) (hw : w < 128) (v : Word) :
    Yields (.coilUcodeWrite w v) s fun t =>
      if s.coil.a.active || s.coil.b.active then
        t.reg (Reg.COIL_UCODE w) = s.reg (Reg.COIL_UCODE w) ∧ t.flag Fld.COIL_STATUS_CFG_REJ = true
      else t.reg (Reg.COIL_UCODE w) = v := by
  have hsum : Reg.COIL_UCODE w ≠ Reg.GLB_INT_SUMMARY := by
    show 0x3A00 + 4 * w ≠ 0x0030
    omega
  have hstatus : Reg.COIL_UCODE w ≠ Reg.COIL_STATUS := by
    show 0x3A00 + 4 * w ≠ 0x3800
    omega
  refine yields_of_runIf (exec_coilUcodeWrite s w v) (decide_eq_true hw) hp ?_
  have hactive : (s.woken.coil.a.active || s.woken.coil.b.active) = (s.coil.a.active || s.coil.b.active) := rfl
  unfold State.writeUcode
  rw [hactive]
  split
  · exact reg_and_flag_of_rejected s s.woken (f := Fld.COIL_STATUS_CFG_REJ) hsum hstatus (by decide) (by decide) (by decide)
  · rw [reg_commit_ne _ _ hsum, State.reg_setReg_self]

/-! ## Calibrations that close the shutter (R163, R181) -/

section own

variable {coil : Nat} (hcoil : coil < 2) (entry : Nat)

theorem State.calCoil_runs_iff :
    ((s.eng .a).st = .running && s.coilEnabled && !s.flag (grpOc .a) && !(s.eng .a).stuck) = true ↔
      s.servesGroup .a ∧ (s.eng .a).st = .running := by
  simp only [State.servesGroup, Bool.and_eq_true, decide_eq_true_eq, Bool.not_eq_true']
  tauto

/-- But behind a profile that runs, a calibration asks for its own as the host does (R163). -/
theorem State.calCoil_asks (h : ¬(s.servesGroup .a ∧ (s.eng .a).st = .running)) :
    s.calCoil coil entry =
      ((s.requestCoil { coil, entry, cid := none }).1, decide ((s.requestCoil { coil, entry, cid := none }).2 ≠ .refused)) :=
  if_neg (mt s.calCoil_runs_iff.mp h)

include hcoil

/-- On an idle group a calibration's profile starts. -/
theorem State.calCoil_idle (hs : s.servesGroup .a) (hidle : (s.eng .a).st = .idle) :
    s.calCoil coil entry = (s.startProfile .a { coil, entry, cid := none }, true) := by
  have hgroup : groupOf coil = .a := if_pos hcoil
  have hstarted := s.requestCoil_idle (r := { coil, entry, cid := none }) (by rwa [hgroup]) (by rwa [hgroup])
  rw [s.calCoil_asks entry (by simp [hidle]), hstarted, hgroup]
  rfl

/-- Behind what the group does a calibration's profile is held, one deep. -/
theorem State.calCoil_busy (hs : s.servesGroup .a) (hbusy : (s.eng .a).st ≠ .idle) :
    s.calCoil coil entry = if (s.eng .a).hold.isNone
      then (s.setEng .a { s.eng .a with hold := some { coil, entry, cid := none } }, true) else (s, false) := by
  have hgroup : groupOf coil = .a := if_pos hcoil
  by_cases hrun : (s.eng .a).st = .running
  · exact if_pos (s.calCoil_runs_iff.mpr ⟨hs, hrun⟩)
  · have hgap : (s.eng .a).st = .gap := by
      cases hst : (s.eng .a).st with
      | idle => exact absurd hst hbusy
      | running => exact absurd hst hrun
      | gap => rfl
    have hheld := s.requestCoil_hold (r := { coil, entry, cid := none }) (by rwa [hgroup]) (by rw [hgroup]; exact .inr hgap)
    rw [s.calCoil_asks entry (fun h => hrun h.2), hheld, hgroup]
    split <;> rfl

/-- A group that does not serve refuses a calibration's profile. -/
theorem State.calCoil_unserved (h : ¬s.servesGroup .a) : s.calCoil coil entry = (s, false) := by
  have hgroup : groupOf coil = .a := if_pos hcoil
  rw [s.calCoil_asks entry (fun hs => h hs.1), s.requestCoil_refused (by rwa [hgroup])]
  rfl

/-- A calibration's profile is refused by a group that does not serve, or already holds a request. -/
theorem State.calCoil_refused (h : ¬s.servesGroup .a ∨ ((s.eng .a).st ≠ .idle ∧ (s.eng .a).hold ≠ none)) :
    s.calCoil coil entry = (s, false) := by
  by_cases hs : s.servesGroup .a
  · obtain ⟨hbusy, hheld⟩ := h.resolve_left (not_not.mpr hs)
    rw [s.calCoil_busy hcoil entry hs hbusy, if_neg (mt Option.isNone_iff_eq_none.mp hheld)]
  · exact s.calCoil_unserved hcoil entry hs

end own

/-- A calibration that finds the shutter otherwise than closed asks group A for the close profile, and waits for it or is rejected. -/
theorem State.startCal_closing {k : Cal} (hneeds : calNeedsShut k.kind = true) (hshut : s.casks.shut ≠ .two) :
    s.startCal k =
      let u := State.setRegN { s with casks.decided := none } Reg.CAL_REQ_RUN 0
      let p := u.calCoil 0 (s.fld Fld.CAL_SHUT_CFG_CLOSE_ENTRY)
      if p.2 then { p.1 with casks.cal := some { k with stage := 0, closing := 1, moved := true } }
      else p.1.rejectCal k Rej.kinkMissing false := by
  have h6 : ¬k.kind = 6 := fun h => by simp [calNeedsShut, h] at hneeds
  have hentry : (State.setRegN { s with casks.decided := none } Reg.CAL_REQ_RUN 0).fld Fld.CAL_SHUT_CFG_CLOSE_ENTRY =
      s.fld Fld.CAL_SHUT_CFG_CLOSE_ENTRY :=
    congrArg (fldOf · Fld.CAL_SHUT_CFG_CLOSE_ENTRY) (reg_setRegN_ne (s := { s with casks.decided := none }) (by decide))
  unfold State.startCal
  dsimp only
  rw [if_neg h6, if_pos hneeds, hentry]
  exact if_neg hshut

/-- The state in which an accepted CALIBRATE asks for its close profile: its command and the count of requests apart, the coils and
the registers stand as they did. -/
def State.closingFrom (s : State) (h : Hdr) : State :=
  State.setRegN { s.accepted h Op.calibrate with casks.decided := none } Reg.CAL_REQ_RUN 0

theorem State.servesGroup_closingFrom (h : Hdr) : (s.closingFrom h).servesGroup .a ↔ s.servesGroup .a := by
  have hoc : (s.closingFrom h).flag (grpOc .a) = s.flag (grpOc .a) :=
    flag_of_reg (f := Fld.COIL_OC_GRP_A) (State.reg_setReg_ne _ _ (by decide))
  unfold State.servesGroup
  rw [hoc]
  rfl

/-- The clauses of a CALIBRATE that closes the shutter: its close profile starts, is held, or is refused (R163, R179). -/
theorem yields_calibrate_closing {h : Hdr} {kind flags capture : Nat} (hcal : s.casks.cal = none) (ht : s.taken h Op.calibrate 1)
    (hkind : kind < 2 ^ 8) (hflags : flags < 2 ^ 8) (hcapture : capture < 2 ^ 8) (hbad : s.calBad kind flags capture = none)
    (hst : s.calState kind = true) (hset : s.sen.settleEnd = none) (htgt : s.targetBusy kind = false)
    (hband : kind = 1 → ¬s.tol.allowOut ∧ s.bandDies ≠ [] ∧
      let p := bandPeriod s.bandDies.length s.tol.level
      fitsPower s.budget (s.bandPlan p) p = true)
    (hneeds : calNeedsShut kind = true) (hshut : s.casks.shut ≠ .two) :
    let a := s.eng .a
    let close : CoilReq := { coil := 0, entry := s.fld Fld.CAL_SHUT_CFG_CLOSE_ENTRY, cid := none }
    let i := Instr.calibrate h kind flags capture
    let begun := fun (t : State) =>
      ∃ k, t.casks.cal = some k ∧ k.kind = kind ∧ k.stage = 0 ∧ k.closing = 1 ∧ k.cid = some s.hif.nextCid
    (s.servesGroup .a → a.st = .idle → Yields i s fun t => begun t ∧ (t.eng .a).st = .running ∧ (t.eng .a).req = some close) ∧
    (s.servesGroup .a → a.st ≠ .idle → a.hold = none →
      Yields i s fun t => begun t ∧ (t.eng .a).st = a.st ∧ (t.eng .a).hold = some close) ∧
    (¬s.servesGroup .a ∨ (a.st ≠ .idle ∧ a.hold ≠ none) → Yields i s fun t => t.CalRefused kind Rej.kinkMissing) := by
  intro a close i begun
  let u := s.closingFrom h
  let k := (s.accepted h Op.calibrate).newCal kind flags capture false (some s.hif.nextCid)
  have h6 : kind = 6 → s.coil.a.runsOrHolds = false ∧ s.coil.b.runsOrHolds = false := by
    rintro rfl
    exact absurd hneeds (by decide)
  have h2 : kind = 2 → s.casks.shut = .one := by
    rintro rfl
    exact absurd hneeds (by decide)
  have hstart : s.doCalibrate h kind flags capture =
      let p := u.calCoil 0 (s.fld Fld.CAL_SHUT_CFG_CLOSE_ENTRY)
      if p.2 then { p.1 with casks.cal := some { k with stage := 0, closing := 1, moved := true } }
      else p.1.rejectCal k Rej.kinkMissing false :=
    (s.doCalibrate_of_free ht hbad hst hcal hset htgt h6 h2 hband).trans (State.startCal_closing (s.accepted h Op.calibrate) hneeds hshut)
  have hyields : ∀ {P : State → Prop}, P (commit s (s.doCalibrate h kind flags capture)) → Yields i s P :=
    yields_calibrate s ht hkind hflags hcapture
  have hbegun : ∀ v : State, begun (commit s { v with casks.cal := some { k with stage := 0, closing := 1, moved := true } }) := fun v =>
    ⟨_, congrArg Casks.cal (commit_casks _ _), rfl, rfl, rfl, rfl⟩
  refine ⟨fun hs hidle => hyields ?_, fun hs hbusy hfree => hyields ?_, fun hno => hyields ?_⟩
  · rw [hstart, u.calCoil_idle (by decide) _ ((s.servesGroup_closingFrom h).mpr hs) hidle]
    obtain ⟨hrun, hreq, -, -⟩ := u.eng_startProfile .a close
    exact ⟨hbegun _, (congrArg Eng.st (State.eng_commit _ _ _)).trans hrun, (congrArg Eng.req (State.eng_commit _ _ _)).trans hreq⟩
  · rw [hstart, u.calCoil_busy (by decide) _ ((s.servesGroup_closingFrom h).mpr hs) hbusy]
    have hnone : (u.eng .a).hold.isNone = true := Option.isNone_iff_eq_none.mpr hfree
    rw [if_pos hnone]
    have hheld := u.eng_setEng .a { u.eng .a with hold := some close }
    exact ⟨hbegun _, (congrArg Eng.st (State.eng_commit _ _ _)).trans (congrArg Eng.st hheld :),
      (congrArg Eng.hold (State.eng_commit _ _ _)).trans (congrArg Eng.hold hheld :)⟩
  · rw [hstart, u.calCoil_refused (by decide) _ (hno.imp_left (mt (s.servesGroup_closingFrom h).mp))]
    exact (u.calRefused_rejectCal k (by decide) false).commit

/-- A standing request under CAL_AUTO starts a SHUTTER_OFFSET (R181). -/
theorem yields_calAutoStart (hp : s.powered) (hready : s.autoReady = true) (hshut : s.casks.shut = .two) :
    Yields .calAutoStart s fun t => ∃ k, t.casks.cal = some k ∧ k.kind = 0 ∧ k.auto = true ∧ k.cid = none := by
  refine yields_of_run (exec_calAutoStart s) hp ?_
  obtain ⟨t, hstarted⟩ := State.startCal_at_once { s with casks.lastAuto := some s.mono } (k := s.newCal 0 1 0 true none) (.inr hshut)
  unfold State.doAutoStart
  rw [if_pos hready, commit_casks]
  exact ⟨_, hstarted, rfl, rfl, rfl⟩

/-- Settles O25: each clause is the theorem above of its command. -/
theorem coilCommandsReachTheirGroup : Obligations.CoilCommandsReachTheirGroup := by
  unfold Obligations.CoilCommandsReachTheirGroup
  intro s h coil entry hp hcal hcoil hentry
  exact ⟨fun ht hen hoc hstuck => yields_coilRun_cases s ht hcoil hentry hcal ⟨hen, hoc, hstuck⟩,
    fun ht => yields_coilStop s ht hcoil hentry hcal, fun _ v hw => yields_coilUcodeWrite s hp hw v,
    fun _ _ _ => yields_calibrate_closing s hcal, yields_calAutoStart s hp⟩

end Sys2Proof.Machine
end

section
/-! Events of the coil drive: what each yields while no calibration runs, and what the ends of profiles leave alone (R186, R195, R206). -/

namespace Sys2Proof.Machine

open Sys2Proof

variable (s : State)

/-! ## Events -/

/-- With no calibration after it, an event of a group yields what the drive's own operation has. -/
theorem yields_coilEvent {i : Instr} {g : Group} {f : State → Group → State} (he : exec i s = run (State.coilEvent f g) s)
    (hp : s.powered) (hcal : (f s g).casks.cal = none) {P : State → Prop} (hP : P (commit s (f s g))) : Yields i s P := by
  refine yields_of_run he hp ?_
  unfold State.coilEvent
  rwa [State.coilHook_of_no_cal _ hcal]

/-- An event that ends in a new state of its group's engine yields what that engine shows. -/
theorem yields_engine {i : Instr} {g : Group} {f : State → Group → State} (he : exec i s = run (State.coilEvent f g) s)
    (hp : s.powered) {u : State} {e : Eng} (hf : f s g = u.setEng g e) (hcal : u.casks.cal = none) {P : State → Prop}
    (hP : ∀ t : State, t.eng g = e → P t) : Yields i s P := by
  refine yields_coilEvent s he hp ?_ (hP _ ?_)
  · rw [hf, State.setEng_casks]
    exact hcal
  · rw [State.eng_commit, hf, State.eng_setEng]

/-! ## Metering -/

@[simp] theorem State.setEng_mono (g : Group) (e : Eng) : (s.setEng g e).mono = s.mono := by cases g <;> rfl
@[simp] theorem State.meter_mono (g : Group) : (s.meter g).mono = s.mono := State.setEng_mono _ _ _
@[simp] theorem State.setEng_reg (g : Group) (e : Eng) (o : Nat) : (s.setEng g e).reg o = s.reg o := by cases g <;> rfl
@[simp] theorem State.meter_reg (g : Group) (o : Nat) : (s.meter g).reg o = s.reg o := State.setEng_reg _ _ _ _

theorem State.meter_cal {s : State} (h : s.casks.cal = none) (g : Group) : (s.meter g).casks.cal = none := by rwa [State.meter_casks]

/-- Metering leaves the word that an engine stands at. -/
theorem State.ucWord_meter (g : Group) : (s.meter g).ucWord ((s.meter g).eng g) = s.ucWord (s.eng g) := by
  unfold State.ucWord State.regN
  rw [s.eng_meter, s.meter_reg]

/-! ## Ends of profiles (R195, R206) -/

/-- What shows nothing that the end of a profile alters: the coils, the position of the shutter, a command that completes. -/
structure OffCoil {β : Type} (g : State → β) : Prop where
  coil : ∀ (s : State) c, g { s with coil := c } = g s
  free : ∀ (s : State) n, g { s with free := n } = g s
  shut : ∀ s m, g (State.setShut s m) = g s
  complete : ∀ s cid st why v b, g (State.complete s cid st why v b) = g s

namespace OffCoil

variable {β : Type} {g : State → β} (h : OffCoil g) (s : State)

include h

theorem setEng (q : Group) (e : Eng) : g (s.setEng q e) = g s := by
  cases q
  · exact h.coil s _
  · exact h.coil s _

theorem meter (q : Group) : g (s.meter q) = g s := (h.setEng _ q _).trans (h.coil s _)

theorem setPos (q : Group) (m : MechState) : g (s.setPos q m) = g s := by
  cases q with
  | a => exact h.shut s m
  | b => exact h.coil s _

theorem coilReport (cid st why : Nat) (kink : Option Nat) (start last : Nat) : g (s.coilReport cid st why kink start last) = g s := by
  unfold State.coilReport
  exact h.complete s _ _ _ _ _

theorem endReq (e : Eng) (r : CoilReq) (st why : Nat) : g (s.endReq e r st why) = g s := by
  unfold State.endReq
  split
  · exact h.coilReport s _ _ _ _ _ _
  · rfl

theorem endUnrun (r : Option CoilReq) (st why : Nat) : g (s.endUnrun r st why) = g s := by
  unfold State.endUnrun
  split
  · exact (h.coilReport _ _ _ _ _ _ _).trans (h.free s _)
  · rfl

theorem endProfile (q : Group) (st reason code : Nat) : g (s.endProfile q st reason code) = g s := by
  have hended : ∀ u : State, g (match (u.eng q).req with
      | some r => u.endReq (u.eng q) r st code
      | none => u) = g u := by
    intro u
    split
    · exact h.endReq u _ _ _ _
    · rfl
  rw [← h.meter s q, ← hended (s.meter q)]
  unfold State.endProfile
  dsimp only
  split
  · exact (hended _).symm
  · refine (h.setEng _ q _).trans ?_
    split
    · rfl
    · exact h.setPos _ q _

theorem stopProfile (q : Group) (reason : Nat) : g (s.stopProfile q reason) = g s := (h.endUnrun _ _ _ _).trans (h.endProfile s q _ _ _)

theorem dropHeld (q : Group) (reason : Nat) : g (s.dropHeld q reason) = g s := (h.setEng _ q _).trans (h.endUnrun s _ _ _)

theorem finishProfile (q : Group) (result : Nat) : g (s.finishProfile q result) = g s := by
  have hended : ∀ (e : Eng) st reason code, g ((s.setEng q e).endProfile q st reason code) = g s := fun e _ _ _ =>
    (h.endProfile _ q _ _ _).trans (h.setEng s q e)
  unfold State.finishProfile
  dsimp only
  split
  · exact hended _ _ _ _
  · split
    · exact (h.setEng _ q _).trans (hended _ _ _ _)
    · exact (h.endUnrun _ _ _ _).trans (hended _ _ _ _)

end OffCoil

theorem cal_offCoil : OffCoil fun u => u.casks.cal :=
  ⟨fun _ _ => rfl, fun _ _ => rfl, State.setShut_cal, fun _ _ _ _ _ _ => congrArg Casks.cal (State.complete_casks _ _ _ _ _ _)⟩

theorem setShut_reg (m : MechState) (o : Nat) : (s.setShut m).reg o = s.reg o := by
  unfold State.setShut
  split <;> rfl

/-- A register but the one in which a completion can leave its mark. -/
theorem reg_offCoil {o : Nat} (ho : o ≠ Reg.HIF_STATUS) : OffCoil fun u => u.reg o :=
  ⟨fun _ _ => rfl, fun _ _ => rfl, fun s m => setShut_reg s m o, fun s _ _ _ _ _ => s.reg_complete_ne ho _ _ _ _ _⟩

/-- A flag of such a register. -/
theorem flag_offCoil {f : Fld} (ho : f.off ≠ Reg.HIF_STATUS) : OffCoil fun u => u.flag f :=
  have h := reg_offCoil ho
  ⟨fun s c => flag_of_reg (h.coil s c), fun s n => flag_of_reg (h.free s n), fun s m => flag_of_reg (h.shut s m),
    fun s _ _ _ _ _ => flag_of_reg (h.complete s _ _ _ _ _)⟩

/-- A running profile that ends leaves its group in GAP with the switches off; its result and what is held stay. -/
theorem State.eng_endProfile {g : Group} (hrun : (s.eng g).st = .running) (st reason code : Nat) :
    let e := (s.endProfile g st reason code).eng g
    e.st = .gap ∧ e.reason = reason ∧ e.hs = false ∧ e.ls = false ∧ e.result = (s.eng g).result ∧
      e.gapAfterEnd = decide (reason = CoilEnd.done) := by
  have hrun' : ¬((s.meter g).eng g).st ≠ .running := by
    rw [s.eng_meter]
    exact not_not.mpr hrun
  have hresult : ((s.meter g).eng g).result = (s.eng g).result := by rw [s.eng_meter]
  unfold State.endProfile
  dsimp only
  rw [if_neg hrun', State.eng_setEng]
  exact ⟨rfl, rfl, rfl, rfl, hresult, rfl⟩

/-- To stop a group on which no profile runs changes no more than its metering. -/
theorem State.eng_stopProfile_of_rest {g : Group} (h : (s.eng g).st ≠ .running) (reason : Nat) :
    (s.stopProfile g reason).eng g = { s.eng g with onSince := s.mono } := by
  have hrest : ((s.meter g).eng g).st ≠ .running := by
    rw [s.eng_meter]
    exact h
  unfold State.stopProfile
  dsimp only
  rw [State.eng_of_coil (State.endUnrun_coil _ _ _ _)]
  unfold State.endProfile
  dsimp only
  rw [if_pos hrest, s.eng_meter]

end Sys2Proof.Machine
end

section
/-! The words of a sequencer engine (R189 to R195). -/

namespace Sys2Proof.Machine

open Sys2Proof

variable (s : State) (g : Group)

theorem exec_phase : exec (.phase g) s = run (State.coilEvent State.doPhase g) s := rfl
theorem exec_phaseDurationEnd : exec (.phaseDurationEnd g) s = run (State.coilEvent State.doPhaseEnd g) s := rfl
theorem exec_waitKink : exec (.waitKink g) s = run (State.coilEvent State.doWait g) s := rfl
theorem exec_waitKinkTimeout : exec (.waitKinkTimeout g) s = run (State.coilEvent State.doWaitTimeout g) s := rfl
theorem exec_jumpIf : exec (.jumpIf g) s = run (State.coilEvent State.doJump g) s := rfl
theorem exec_setFlag : exec (.setFlag g) s = run (State.coilEvent State.doSetFlag g) s := rfl
theorem exec_endProfile : exec (.endProfile g) s = run (State.coilEvent State.doEnd g) s := rfl
theorem exec_illegalWord : exec (.illegalWord g) s = run (State.coilEvent State.doIllegal g) s := rfl
theorem exec_untimedLimit : exec (.untimedLimit g) s = run (State.coilEvent State.doUntimed g) s := rfl

/-- What an engine at a word of its own opcode does is not left out. -/
theorem State.not_atWord_eq_false {s : State} {e : Eng} {op : Nat} (h : s.atWord e op = true) : ¬(!s.atWord e op) = true := by
  rw [h]
  exact Bool.false_ne_true

/-- An engine at a word is one of a running profile. -/
theorem State.running_of_atWord {s : State} {e : Eng} {op : Nat} (h : s.atWord e op = true) : e.st = .running := by
  simp only [State.atWord, Bool.and_eq_true, decide_eq_true_eq] at h
  tauto

theorem State.running_of_atIllegal {s : State} {e : Eng} (h : s.atIllegal e = true) : e.st = .running := by
  simp only [State.atIllegal, Bool.and_eq_true, decide_eq_true_eq] at h
  tauto

/-! ## PHASE (R190, R192) -/

/-- PHASE comes into force: the engine stays at its word, which it has executed. -/
theorem State.doPhase_of_word {s : State} {g : Group} (h : s.atWord (s.eng g) 0 = true) : ∃ e, s.doPhase g = (s.meter g).setEng g e ∧
    (let w := s.ucWord (s.eng g)
     e.phase = some (bitN w 28, w / 2 ^ 26 % 4, 10 * (w / 2 ^ 18 % 256), s.mono + w % 4096 * unitTicks (w / 2 ^ 16 % 4), bitN w 15)) ∧
    e.pc = (s.eng g).pc ∧ e.fetch = false := by
  have hpc : ((s.meter g).eng g).pc = (s.eng g).pc := by rw [s.eng_meter]
  unfold State.doPhase
  rw [if_neg (State.not_atWord_eq_false h)]
  refine ⟨_, rfl, ?_⟩
  rw [← s.ucWord_meter, ← s.meter_mono g, ← hpc]
  dsimp only
  split
  · exact ⟨rfl, rfl, rfl⟩
  · split <;> exact ⟨rfl, rfl, rfl⟩

/-- A PHASE that has run its duration ends, and the engine goes to the next word. -/
theorem State.doPhaseEnd_of_due {s : State} {g : Group} {off reach : Bool} {code target stop : Nat}
    (hphase : (s.eng g).phase = some (off, code, target, stop, reach)) (hrun : (s.eng g).st = .running) (hfetch : (s.eng g).fetch = false)
    (hwait : (s.eng g).wait = none) (hstop : stop ≤ s.mono) : ∃ e, s.doPhaseEnd g = s.setEng g e ∧
      e.pc = (s.eng g).pc + 1 ∧ e.fetch = true ∧ (reach = true → e.reached = some false) := by
  unfold State.doPhaseEnd
  dsimp only
  rw [hphase]
  refine ⟨_, if_pos (by simp [hrun, hfetch, hwait, hstop]), ?_⟩
  cases reach
  · exact ⟨rfl, rfl, fun h => absurd h Bool.false_ne_true⟩
  · exact ⟨rfl, rfl, fun _ => rfl⟩

/-! ## WAIT_KINK (R193) -/

theorem State.doWait_of_word {s : State} {g : Group} (h : s.atWord (s.eng g) 1 = true) :
    ∃ e, s.doWait g = (s.setReg (grpDmax g) 0x8000).setEng g e ∧
      (let w := s.ucWord (s.eng g)
       e.wait = some (s.mono, bitN w 28, w / 2 ^ 13 % 128, s.mono + 250000 * (w % 4096))) := by
  unfold State.doWait
  exact ⟨_, if_neg (State.not_atWord_eq_false h), rfl⟩

theorem State.doWaitTimeout_of_due {s : State} {g : Group} {t0 miss stop : Nat} {pol : Bool}
    (hwait : (s.eng g).wait = some (t0, pol, miss, stop)) (hrun : (s.eng g).st = .running) (hstop : stop ≤ s.mono) :
    s.doWaitTimeout g = s.setEng g ((s.eng g).goto miss s.mono) := by
  unfold State.doWaitTimeout
  dsimp only
  rw [hwait]
  exact if_pos ⟨hrun, hstop⟩

/-! ## JUMP_IF and SET_FLAG (R190, R194) -/

/-- A bit cleared and put anew is the bit put. -/
theorem bit_of_put (n f : Nat) {v : Nat} (hv : v < 2) : (n - n / 2 ^ f % 2 * 2 ^ f + v * 2 ^ f) / 2 ^ f % 2 = v := by
  have hle : n / 2 ^ f % 2 * 2 ^ f ≤ n := (Nat.mul_le_mul_right _ (Nat.mod_le _ _)).trans (Nat.div_mul_le_self n _)
  have hcleared : (n - n / 2 ^ f % 2 * 2 ^ f) / 2 ^ f = n / 2 ^ f - n / 2 ^ f % 2 := by
    rw [Nat.mul_comm, Nat.sub_mul_div]
  rw [Nat.add_mul_div_right _ _ (Nat.two_pow_pos f), hcleared]
  omega

theorem coil_offRecord : OffRecord State.coil := ⟨fun _ _ _ _ => rfl, fun _ _ => rfl, fun _ _ _ _ => rfl, fun _ _ => rfl⟩

/-- SET_FLAG puts its flag and goes on; of the rest of the part, its event alters neither the coils nor the casks. -/
theorem State.doSetFlag_of_word {s : State} {g : Group} (h : s.atWord (s.eng g) 3 = true) :
    (s.doSetFlag g).casks = s.casks ∧
      (let e := (s.doSetFlag g).eng g
       let w := s.ucWord (s.eng g)
       e.flags / 2 ^ (w / 2 ^ 27 % 4) % 2 = w / 2 ^ 26 % 2 ∧ e.pc = (s.eng g).pc + 1 ∧ e.untimed = (s.eng g).untimed + 1) := by
  have hevent : ∀ (c : Bool) (u : State) p, (if c then (u.sticky Fld.COIL_STATUS_FLAG_EVT).event 0x000A p else u).coil = u.coil ∧
      (if c then (u.sticky Fld.COIL_STATUS_FLAG_EVT).event 0x000A p else u).casks = u.casks := by
    intro c u p
    cases c
    · exact ⟨rfl, rfl⟩
    · exact ⟨coil_offRecord.event _ _ _, casks_offRecord.event _ _ _⟩
  unfold State.doSetFlag
  rw [if_neg (State.not_atWord_eq_false h)]
  dsimp only
  rw [State.eng_of_coil (hevent _ _ _).1, (hevent _ _ _).2, State.eng_setEng, State.setEng_casks]
  exact ⟨rfl, bit_of_put _ _ (Nat.mod_lt _ (by decide)), rfl, rfl⟩

/-! ## Ends (R189, R191, R195) -/

/-- END leaves its group in GAP, the switches off, with its result; a restart that waited is held, or ends. -/
theorem State.eng_finishProfile {s : State} {g : Group} (hrun : (s.eng g).st = .running) (result : Nat) :
    let e := (s.finishProfile g result).eng g
    e.st = .gap ∧ e.result = result ∧ e.reason = CoilEnd.done ∧ e.hs = false ∧ e.ls = false ∧ e.gapAfterEnd = true := by
  have hended : ∀ code, let e := ((s.setEng g { s.eng g with result }).endProfile g St.ok CoilEnd.done code).eng g
      e.st = .gap ∧ e.result = result ∧ e.reason = CoilEnd.done ∧ e.hs = false ∧ e.ls = false ∧ e.gapAfterEnd = true := by
    intro code
    have hend := State.eng_endProfile (s.setEng g { s.eng g with result }) (g := g) (by rwa [State.eng_setEng]) St.ok CoilEnd.done code
    rw [State.eng_setEng] at hend
    obtain ⟨hst, hreason, hhs, hls, hres, hgap⟩ := hend
    exact ⟨hst, hres, hreason, hhs, hls, hgap⟩
  unfold State.finishProfile
  dsimp only
  split
  · exact hended _
  · split
    · rw [State.eng_setEng]
      exact hended _
    · rw [State.eng_of_coil (State.endUnrun_coil _ _ _ _)]
      exact hended _

/-- A profile stopped for an illegal word leaves its group in GAP, the switches off, and ILLEGAL set. -/
theorem yields_illegal {i : Instr} {f : State → Group → State} (he : exec i s = run (State.coilEvent f g) s) (hp : s.powered) {u : State}
    (hf : f s g = (u.sticky Fld.COIL_STATUS_ILLEGAL).stopProfile g CoilEnd.illegal) (hcal : u.casks.cal = none)
    (hrun : (u.eng g).st = .running) :
    Yields i s fun t => (t.eng g).st = .gap ∧ (t.eng g).reason = CoilEnd.illegal ∧ (t.eng g).hs = false ∧ (t.eng g).ls = false ∧
      t.flag Fld.COIL_STATUS_ILLEGAL = true := by
  obtain ⟨hst, hreason, hhs, hls⟩ := (u.sticky Fld.COIL_STATUS_ILLEGAL).eng_stopProfile hrun CoilEnd.illegal
  refine yields_coilEvent s he hp ?_ ?_
  · rw [hf]
    exact (State.stopProfile_cal _ _ _).trans hcal
  · rw [hf, State.eng_commit, flag_commit (by decide)]
    exact ⟨hst, hreason, hhs, hls, ((flag_offCoil (by decide)).stopProfile _ g _).trans (flag_sticky u (by decide) (by decide))⟩

/-- Settles O21: each clause by what the operation of its word comes to. -/
theorem sequencerExecutesItsWords : Obligations.SequencerExecutesItsWords := by
  unfold Obligations.SequencerExecutesItsWords
  intro s g hp hcal e w
  refine ⟨fun hword => ?phase, fun off code target stop reach hphase hrun hfetch hwait hstop => ?phaseEnd, fun hword => ?wait,
    fun t0 pol miss stop hwait hrun hstop => ?timeout, fun hword => ?jump, fun hword => ?setFlag, fun hword => ?done,
    fun hword => ?illegal, fun hrun hlimit => ?untimed⟩
  case phase =>
    obtain ⟨e', hdo, hphase, hpc, hfetch⟩ := State.doPhase_of_word hword
    refine yields_engine s (exec_phase s g) hp hdo (State.meter_cal hcal g) fun t ht => ?_
    rw [ht]
    exact ⟨hphase, hpc, hfetch⟩
  case phaseEnd =>
    obtain ⟨e', hdo, hend⟩ := State.doPhaseEnd_of_due hphase hrun hfetch hwait hstop
    refine yields_engine s (exec_phaseDurationEnd s g) hp hdo hcal fun t ht => ?_
    rwa [ht]
  case wait =>
    obtain ⟨e', hdo, hwait⟩ := State.doWait_of_word hword
    have hsum : grpDmax g ≠ Reg.GLB_INT_SUMMARY := by cases g <;> decide
    refine yields_coilEvent s (exec_waitKink s g) hp ?_ ?_
    · rw [hdo, State.setEng_casks]
      exact hcal
    · rw [hdo, State.eng_commit, State.eng_setEng, reg_commit_ne _ _ hsum, State.setEng_reg, State.reg_setReg_self]
      exact ⟨hwait, rfl⟩
  case timeout =>
    refine yields_engine s (exec_waitKinkTimeout s g) hp (State.doWaitTimeout_of_due hwait hrun hstop) hcal fun t ht => ?_
    rw [ht]
    exact ⟨rfl, rfl, rfl⟩
  case jump =>
    refine yields_engine s (exec_jumpIf s g) hp (if_neg (State.not_atWord_eq_false hword)) hcal fun t ht => ?_
    rw [ht]
    exact ⟨rfl, rfl⟩
  case setFlag =>
    obtain ⟨hcasks, hset⟩ := State.doSetFlag_of_word hword
    refine yields_coilEvent s (exec_setFlag s g) hp (hcasks ▸ hcal) ?_
    rwa [State.eng_commit]
  case done =>
    have hdo : s.doEnd g = s.finishProfile g (w / 2 ^ 27 % 4) := if_neg (State.not_atWord_eq_false hword)
    refine yields_coilEvent s (exec_endProfile s g) hp ?_ ?_
    · rw [hdo]
      exact (cal_offCoil.finishProfile s g _).trans hcal
    · rw [hdo, State.eng_commit]
      exact State.eng_finishProfile (State.running_of_atWord hword) _
  case illegal =>
    exact yields_illegal s g (exec_illegalWord s g) hp (if_pos hword) hcal (State.running_of_atIllegal hword)
  case untimed =>
    refine yields_illegal s g (exec_untimedLimit s g) hp (u := s.setEng g { e with pc := e.last }) (if_pos ⟨hrun, hlimit⟩) ?_ ?_
    · rwa [State.setEng_casks]
    · rwa [State.eng_setEng]

end Sys2Proof.Machine
end

section
/-! Current regulation (R187, R188, R192, R201). -/

namespace Sys2Proof.Machine

open Sys2Proof

variable (s : State) (g : Group)

theorem exec_chopGridPoint : exec (.chopGridPoint g) s = run (State.coilEvent State.doGridPoint g) s := rfl
theorem exec_coilCurrentAtTarget : exec (.coilCurrentAtTarget g) s = run (State.coilEvent State.doAtTarget g) s := rfl
theorem exec_mixedDecayFastEnd : exec (.mixedDecayFastEnd g) s = run (State.coilEvent State.doMixedEnd g) s := rfl
theorem exec_coilBlankingEnd (at_ : Bool) :
    exec (.coilBlankingEnd g at_) s = run (State.coilEvent (fun s g => s.doBlankEnd g at_) g) s := rfl

/-! ## Off intervals -/

@[simp] theorem Eng.reachEnd_hs (e : Eng) (t : Nat) : (e.reachEnd t).hs = e.hs := by
  unfold Eng.reachEnd
  split
  · split <;> rfl
  · rfl

@[simp] theorem Eng.reachEnd_offSince (e : Eng) (t : Nat) : (e.reachEnd t).offSince = e.offSince := by
  unfold Eng.reachEnd
  split
  · split <;> rfl
  · rfl

@[simp] theorem Eng.reachEnd_blankEnd (e : Eng) (t : Nat) : (e.reachEnd t).blankEnd = e.blankEnd := by
  unfold Eng.reachEnd
  split
  · split <;> rfl
  · rfl

/-- A PHASE that waits for its target ends there. -/
theorem Eng.reachEnd_of_reach {e : Eng} {code target stop : Nat} {reach : Bool}
    (hphase : e.phase = some (false, code, target, stop, reach)) (hreach : reach = true) (hfetch : e.fetch = false) (hwait : e.wait = none) (t : Nat) :
    (e.reachEnd t).pc = e.pc + 1 ∧ (e.reachEnd t).reached = some true := by
  subst hreach
  unfold Eng.reachEnd
  rw [hphase]
  simp only [hfetch, hwait]
  exact ⟨rfl, rfl⟩

/-! ## Grid points (R187, R201) -/

section grid

variable {s g} (hrun : (s.eng g).st = .running) (hgrid : (s.mono - (s.eng g).gridStart) % 6250 = 0)

include hrun hgrid

/-- A point of the grid under SUPPLY: both switches are on, and the comparator is blanked for 1 µs. -/
theorem State.doGridPoint_of_supply {code target stop : Nat} {reach : Bool} (hrestart : (s.eng g).restart = none)
    (hphase : (s.eng g).phase = some (false, code, target, stop, reach)) : ∃ e, s.doGridPoint g = (s.meter g).setEng g e ∧
      e.hs = true ∧ e.ls = true ∧ e.blankEnd = some (s.mono + 250) := by
  unfold State.doGridPoint
  simp only [State.eng_meter, State.meter_mono, hrestart, hphase]
  rw [if_neg (not_or.mpr ⟨not_not.mpr hrun, not_not.mpr hgrid⟩)]
  exact ⟨_, rfl, rfl, rfl, rfl⟩

/-- A profile has been restarted for a request: it serves that one now, from its entry on. -/
def Eng.restartedBy (e : Eng) (r : CoilReq) : Prop :=
  e.req = some r ∧ e.pc = r.entry ∧ e.restart = none ∧ e.reason = CoilEnd.restarted ∧ e.st = .running

omit hrun hgrid in
theorem State.eng_restartProfile (r : CoilReq) : ((s.restartProfile g r).eng g).restartedBy r := by
  unfold State.restartProfile
  dsimp only
  rw [State.eng_of_coil (State.selfcalAbort_coil _), State.eng_setPos, State.eng_setEng]
  exact ⟨rfl, rfl, rfl, rfl, rfl⟩

omit hrun hgrid in
theorem State.restartProfile_cal_none (h : s.casks.cal = none) (r : CoilReq) : (s.restartProfile g r).casks.cal = none := by
  refine State.selfcalAbort_cal_none _ ?_
  rw [State.setPos_cal, State.setEng_casks]
  split
  · rw [State.endReq_casks]
    exact State.meter_cal h g
  · exact State.meter_cal h g

/-- A waiting restart takes place at a point of the grid after the first; the grid point may turn the switches on as well. -/
theorem State.doGridPoint_of_restart {r : CoilReq} (hcal : s.casks.cal = none) (hrestart : (s.eng g).restart = some r)
    (hlate : (s.eng g).gridStart < s.mono) : (s.doGridPoint g).casks.cal = none ∧ ((s.doGridPoint g).eng g).restartedBy r := by
  have hu := State.eng_restartProfile (s := s.meter g) (g := g) r
  have hucal := State.restartProfile_cal_none (g := g) (State.meter_cal hcal g) r
  unfold State.doGridPoint
  simp only [State.eng_meter, State.meter_mono, hrestart]
  rw [if_neg (not_or.mpr ⟨not_not.mpr hrun, not_not.mpr hgrid⟩), if_pos hlate]
  generalize (s.meter g).restartProfile g r = u at hu hucal
  split
  · rw [State.setEng_casks, State.eng_setEng]
    exact ⟨hucal, hu⟩
  · exact ⟨hucal, hu⟩

end grid

/-! ## The comparator (R187, R192) -/

section target

variable {s g} {code target stop : Nat} {reach : Bool} (hrun : (s.eng g).st = .running)
  (hphase : (s.eng g).phase = some (false, code, target, stop, reach))

include hrun hphase

/-- At the end of blanking the high side turns off where the target is zero or the current is at it, and stays as it is elsewhere. -/
theorem State.doBlankEnd_of_due {b : Nat} (hblank : (s.eng g).blankEnd = some b) (hdue : b ≤ s.mono) (at_ : Bool) :
    ∃ e, s.doBlankEnd g at_ = (s.meter g).setEng g e ∧ e.blankEnd = none ∧
      e.hs = ((s.eng g).hs && !(decide (target = 0) || at_)) := by
  unfold State.doBlankEnd
  simp only [State.eng_meter, State.meter_mono, hblank, hphase]
  rw [if_pos ⟨hrun, hdue⟩]
  by_cases hoff : target = 0 ∨ at_ = true
  · have hoff' : (decide (target = 0) || at_) = true := by simpa using hoff
    rw [if_pos hoff, hoff', Bool.not_true, Bool.and_false]
    exact ⟨_, rfl, Eng.reachEnd_blankEnd _ _, Eng.reachEnd_hs _ _⟩
  · have hon : (decide (target = 0) || at_) = false := by simpa using hoff
    rw [if_neg hoff, hon, Bool.not_false, Bool.and_true]
    exact ⟨_, rfl, rfl, rfl⟩

/-- At its target the current is let off, and a PHASE that waits for it ends. -/
theorem State.doAtTarget_of_supply (hblank : (s.eng g).blankEnd = none) :
    ∃ e, s.doAtTarget g = (s.meter g).setEng g e ∧ e.hs = false ∧ ((s.eng g).hs = true → e.offSince = some s.mono) ∧
      (reach = true → (s.eng g).fetch = false → (s.eng g).wait = none → e.pc = (s.eng g).pc + 1 ∧ e.reached = some true) := by
  unfold State.doAtTarget
  simp only [State.eng_meter, State.meter_mono, hphase]
  rw [if_pos (by simp [hrun, hblank])]
  cases hhs : (s.eng g).hs
  · rw [if_neg Bool.false_ne_true]
    refine ⟨_, rfl, Eng.reachEnd_hs _ _, fun h => absurd h Bool.false_ne_true, fun hreach hfetch hwait => ?_⟩
    refine Eng.reachEnd_of_reach rfl hreach ?_ ?_ _
    exacts [hfetch, hwait]
  · rw [if_pos rfl]
    refine ⟨_, rfl, Eng.reachEnd_hs _ _, fun _ => Eng.reachEnd_offSince _ _, fun hreach hfetch hwait => ?_⟩
    refine Eng.reachEnd_of_reach rfl hreach ?_ ?_ _
    exacts [hfetch, hwait]

end target

/-- In MIXED decay the low side turns on when the fast part is over. -/
theorem State.doMixedEnd_of_off {s : State} {g : Group} {off reach : Bool} {target stop t0 : Nat} (hrun : (s.eng g).st = .running)
    (hphase : (s.eng g).phase = some (off, 2, target, stop, reach)) (hsince : (s.eng g).offSince = some t0) :
    s.doMixedEnd g = s.setEng g ((s.eng g).decay 2 t0 s.mono) := by
  unfold State.doMixedEnd
  dsimp only
  rw [hphase, hsince]
  exact if_pos hrun

/-- Settles O22: each clause by what the operation of its event comes to. -/
theorem chopperRegulatesTheCurrent : Obligations.ChopperRegulatesTheCurrent := by
  unfold Obligations.ChopperRegulatesTheCurrent
  intro s g hp hcal hrun e
  have hmeter := State.meter_cal hcal g
  refine ⟨fun code target stop reach hphase => ⟨fun hgrid hrestart => ?supply, fun b at_ hblank hdue => ?blank, fun hhs hblank => ?off,
    fun hblank hreach hfetch hwait => ?reach⟩, fun off target stop reach t0 hphase hsince => ?mixed,
    fun r hrestart hgrid hlate => ?restart⟩
  case supply =>
    obtain ⟨e', hdo, hon⟩ := State.doGridPoint_of_supply hrun hgrid hrestart hphase
    refine yields_engine s (exec_chopGridPoint s g) hp hdo hmeter fun t ht => ?_
    rwa [ht]
  case blank =>
    obtain ⟨e', hdo, hend⟩ := State.doBlankEnd_of_due hrun hphase hblank hdue at_
    refine yields_engine s (exec_coilBlankingEnd s g at_) hp hdo hmeter fun t ht => ?_
    rwa [ht]
  case off =>
    obtain ⟨e', hdo, hoff, hsince, -⟩ := State.doAtTarget_of_supply hrun hphase hblank
    refine yields_engine s (exec_coilCurrentAtTarget s g) hp hdo hmeter fun t ht => ?_
    rw [ht]
    exact ⟨hoff, hsince hhs⟩
  case reach =>
    obtain ⟨e', hdo, hoff, -, hend⟩ := State.doAtTarget_of_supply hrun hphase hblank
    obtain ⟨hpc, hreached⟩ := hend hreach hfetch hwait
    refine yields_engine s (exec_coilCurrentAtTarget s g) hp hdo hmeter fun t ht => ?_
    rw [ht]
    exact ⟨hpc, hreached, hoff⟩
  case mixed =>
    refine yields_engine s (exec_mixedDecayFastEnd s g) hp (State.doMixedEnd_of_off hrun hphase hsince) hcal fun t ht => ?_
    rw [ht]
    exact ⟨rfl, by simp [Eng.decay, e]⟩
  case restart =>
    obtain ⟨hdone, hrestarted⟩ := State.doGridPoint_of_restart hrun hgrid hcal hrestart hlate
    refine yields_coilEvent s (exec_chopGridPoint s g) hp hdone ?_
    rw [State.eng_commit]
    exact hrestarted

end Sys2Proof.Machine
end

section
/-! Over-current, gaps and groups that are stuck (R202, R205). -/

namespace Sys2Proof.Machine

open Sys2Proof

variable (s : State) (g : Group)

theorem exec_coilOc : exec (.coilOc g) s = run (State.coilEvent State.doOverCurrent g) s := rfl
theorem exec_gapEnd : exec (.gapEnd g) s = run (State.coilEvent State.doGapEnd g) s := rfl
theorem exec_gapStuck : exec (.gapStuck g) s = run (State.coilEvent State.doGapStuck g) s := rfl

/-! ## Over-current (R205) -/

/-- The state in which an over-current stops its group: the bit is latched and its event is out. -/
def State.tripped (s : State) (g : Group) : State :=
  (s.sticky (grpOc g)).event 0x000B
    (leBytes 1 (grpIdx g) ++ leBytes 1 (s.eng g).coil ++ leBytes 1 ((s.sticky (grpOc g)).wordAt (s.eng g)) ++ leBytes 5 0 ++ leBytes 8 s.now)

theorem State.tripped_casks : (s.tripped g).casks = s.casks := casks_offRecord.event _ _ _

theorem State.eng_tripped : (s.tripped g).eng g = s.eng g :=
  State.eng_of_coil (coil_offRecord.event (s.sticky (grpOc g)) _ _) g

theorem State.flag_tripped : (s.tripped g).flag (grpOc g) = true := by
  have hevent : ∀ (u : State) p, (u.event 0x000B p).reg (grpOc g).off = u.reg (grpOc g).off := fun u p =>
    (reg_offHost (o := (grpOc g).off) (by cases g <;> decide)).event u 0x000B p
  rw [State.tripped, flag_of_reg (hevent _ _)]
  exact flag_sticky s (by cases g <;> decide) (by cases g <;> decide)

/-- What an over-current makes of its group, once its profile has stopped and what it holds is dropped. -/
theorem State.doOverCurrent_of_enabled {s : State} (h : s.coilEnabled = true) (g : Group) :
    s.doOverCurrent g =
      let u := ((s.tripped g).stopProfile g CoilEnd.oc).dropHeld g CoilEnd.oc
      let e := u.eng g
      let e := if e.st = .idle then { e with st := .gap, gapStart := u.mono, gapAfterEnd := false } else e
      (u.setEng g { e with hs := false, ls := false }).setPos g .unknown :=
  if_neg (by rw [h]; exact Bool.false_ne_true)

theorem State.doOverCurrent_cal {s : State} (h : s.coilEnabled = true) (g : Group) : (s.doOverCurrent g).casks.cal = s.casks.cal := by
  rw [State.doOverCurrent_of_enabled h]
  refine (cal_offCoil.setPos _ g _).trans ((cal_offCoil.setEng _ g _).trans ((cal_offCoil.dropHeld _ g _).trans
    ((cal_offCoil.stopProfile _ g _).trans ?_)))
  rw [s.tripped_casks]

theorem State.flag_doOverCurrent {s : State} (h : s.coilEnabled = true) (g : Group) : (s.doOverCurrent g).flag (grpOc g) = true := by
  have hoff : OffCoil fun u => u.flag (grpOc g) := flag_offCoil (by cases g <;> decide)
  rw [State.doOverCurrent_of_enabled h]
  exact (hoff.setPos _ g _).trans ((hoff.setEng _ g _).trans ((hoff.dropHeld _ g _).trans
    ((hoff.stopProfile _ g _).trans (s.flag_tripped g))))

/-- A group that has tripped is in GAP, its switches off and nothing held; a profile that ran ended for it. -/
theorem State.eng_doOverCurrent {s : State} (h : s.coilEnabled = true) (g : Group) :
    let e := (s.doOverCurrent g).eng g
    e.st = .gap ∧ e.hs = false ∧ e.ls = false ∧ e.hold = none ∧ ((s.eng g).st = .running → e.reason = CoilEnd.oc) := by
  rw [State.doOverCurrent_of_enabled h]
  dsimp only
  rw [State.eng_setPos, State.eng_setEng, State.eng_dropHeld]
  by_cases hrun : (s.eng g).st = .running
  · obtain ⟨hst, hreason, -, -⟩ := (s.tripped g).eng_stopProfile (g := g) (by rwa [State.eng_tripped]) CoilEnd.oc
    rw [if_neg (by simp [hst])]
    exact ⟨hst, rfl, rfl, rfl, fun _ => hreason⟩
  · rw [State.eng_stopProfile_of_rest _ (by rwa [State.eng_tripped]), State.eng_tripped]
    cases hst : (s.eng g).st with
    | running => exact absurd hst hrun
    | idle => exact ⟨rfl, rfl, rfl, rfl, nofun⟩
    | gap => exact ⟨hst, rfl, rfl, rfl, nofun⟩

/-! ## The end of a gap (R202) -/

section gap

variable {s g} (hgap : (s.eng g).st = .gap)

include hgap

/-- A group with nothing held is IDLE at the end of its gap. -/
theorem State.doGapEnd_of_free (hover : (s.eng g).gapStart + (s.eng g).gapTicks ≤ s.mono) (hhold : (s.eng g).hold = none) :
    s.doGapEnd g = s.setEng g { s.eng g with st := .idle, stuck := false } := by
  unfold State.doGapEnd
  dsimp only
  rw [if_neg (not_or.mpr ⟨not_not.mpr hgap, Nat.not_lt.mpr hover⟩), hhold]

/-- A group starts the request that it holds. -/
theorem State.doGapEnd_of_held (hover : (s.eng g).gapStart + (s.eng g).gapTicks ≤ s.mono) {r : CoilReq}
    (hhold : (s.eng g).hold = some r) (hen : s.coilEnabled = true) : s.doGapEnd g = s.startProfile g r := by
  unfold State.doGapEnd
  dsimp only
  rw [if_neg (not_or.mpr ⟨not_not.mpr hgap, Nat.not_lt.mpr hover⟩), hhold]
  exact if_pos hen

/-- A group whose current does not fall is stuck, and drops what it holds. -/
theorem State.doGapStuck_of_due (hstuck : (s.eng g).stuck = false) (hlate : (s.eng g).gapStart + (s.eng g).gapTicks + 125000000 ≤ s.mono) :
    s.doGapStuck g = ((s.sticky Fld.COIL_STATUS_GAP_STUCK).setEng g { s.eng g with stuck := true }).dropHeld g CoilEnd.stuck := by
  refine if_neg (not_or.mpr ⟨not_not.mpr hgap, not_or.mpr ⟨?_, Nat.not_lt.mpr hlate⟩⟩)
  rw [hstuck]
  exact Bool.false_ne_true

end gap

/-- A profile that starts leaves nothing held, and the tick is noted. -/
theorem State.eng_startProfile_held (r : CoilReq) :
    ((s.startProfile g r).eng g).hold = none ∧ ((s.startProfile g r).eng g).tStart = s.now := by
  unfold State.startProfile
  dsimp only
  rw [State.eng_of_coil (State.selfcalAbort_coil _), State.eng_setPos, State.eng_of_coil (State.setPair_coil _ _ _), State.eng_setEng]
  exact ⟨rfl, rfl⟩

/-- Settles O24: over-current by `eng_doOverCurrent`, the gap's ends by what each does to the engine. -/
theorem groupsStopAndPause : Obligations.GroupsStopAndPause := by
  unfold Obligations.GroupsStopAndPause
  intro s g hp hcal
  refine ⟨fun hen => ?trip, fun hgap hover => ⟨fun hhold => ?free, fun r hhold hen => ?held⟩, fun hgap hstuck hlate => ?stuck⟩
  case trip =>
    obtain ⟨hst, hhs, hls, hhold, hreason⟩ := State.eng_doOverCurrent hen g
    refine yields_coilEvent s (exec_coilOc s g) hp ((State.doOverCurrent_cal hen g).trans hcal) ?_
    rw [State.eng_commit, flag_commit (by cases g <;> decide)]
    exact ⟨hst, hhs, hls, hhold, State.flag_doOverCurrent hen g, hreason⟩
  case free =>
    refine yields_engine s (exec_gapEnd s g) hp (State.doGapEnd_of_free hgap hover hhold) hcal fun t ht => ?_
    rw [ht]
  case held =>
    have hdo := State.doGapEnd_of_held hgap hover hhold hen
    obtain ⟨hst, hreq, hpc, -⟩ := s.eng_startProfile g r
    obtain ⟨hnone, hstart⟩ := s.eng_startProfile_held g r
    refine yields_coilEvent s (exec_gapEnd s g) hp ?_ ?_
    · rw [hdo]
      exact s.startProfile_cal_none hcal g r
    · rw [hdo, State.eng_commit]
      exact ⟨hst, hreq, hpc, hnone, hstart⟩
  case stuck =>
    have hdo := State.doGapStuck_of_due hgap hstuck hlate
    have hflag := flag_offCoil (f := Fld.COIL_STATUS_GAP_STUCK) (by decide)
    refine yields_coilEvent s (exec_gapStuck s g) hp ?_ ?_
    · rw [hdo, State.dropHeld_casks, State.setEng_casks]
      exact hcal
    · rw [hdo, State.eng_commit, State.eng_dropHeld, State.eng_setEng, flag_commit (by decide)]
      exact ⟨rfl, rfl, (hflag.dropHeld _ g _).trans ((hflag.setEng _ g _).trans (flag_sticky s (by decide) (by decide)))⟩

end Sys2Proof.Machine
end

section
/-! What self-test slices that make way leave alone, whatever it is (R406, R407, R414). -/

namespace Sys2Proof.Machine

open Sys2Proof

/-- What shows nothing of the units that self-test slices take and give back, of their results, or of a command that completes. -/
structure OffSlices {β : Type} (g : State → β) : Prop where
  record : OffRecord g
  units : ∀ (s : State) free tmg sen hif rol slice sec bst,
    g { s with free := free, tmg := tmg, sen := sen, hif := hif, rol := rol, hkc.slice := slice, sec := sec, bst := bst } = g s
  complete : ∀ s cid st why v b, g (State.complete s cid st why v b) = g s

namespace OffSlices

variable {β : Type} {g : State → β} (h : OffSlices g) (s : State)

include h

theorem releaseUnit (id : SliceId) : g (s.releaseUnit id) = g s := by
  unfold State.releaseUnit
  split_ifs
  · exact h.units s _ _ _ _ _ _ _ _
  · exact h.units s _ _ _ _ _ _ _ _
  · exact h.units s _ _ _ _ _ _ _ _
  · exact h.units s _ _ _ _ _ _ _ _
  · exact h.units s _ _ _ _ _ _ _ _
  · rfl

theorem takeEgress : g s.takeEgress = g s := by
  unfold State.takeEgress
  dsimp only
  split
  · rfl
  · exact (h.record.setFld _ (by decide) _).trans (h.units s _ _ _ _ _ _ _ _)

theorem startSlice (r : SliceRun) : g (s.startSlice r) = g s := by
  have hbegun : g (let s := { s with bst.running := s.bst.running ++ [{ r with start := s.mono }] }
      if r.id.die < 5 then s.setDie r.id.die { s.die r.id.die with renewed := false } else s) = g s := by
    dsimp only
    split
    · exact h.units s _ _ _ _ _ _ _ _
    · exact h.units s _ _ _ _ _ _ _ _
  rw [← hbegun]
  unfold State.startSlice
  dsimp only
  generalize (if r.id.die < 5 then _ else _ : State) = u
  split_ifs
  · exact h.units u _ _ _ _ _ _ _ _
  · exact (h.takeEgress _).trans (h.units u _ _ _ _ _ _ _ _)
  · exact h.units u _ _ _ _ _ _ _ _
  · exact h.units u _ _ _ _ _ _ _ _
  · rfl

theorem tryStart (r : SliceRun) : g (s.tryStart r) = g s := by
  unfold State.tryStart
  split
  · exact h.startSlice s r
  · exact h.units s _ _ _ _ _ _ _ _

theorem endRun (r : BistRun) : g (s.endRun r) = g s := by
  have hlast : ∀ u : State, g (if r.die < 5 ∧ r.kind ≠ Owner.bistRun then
      let s := u.setFld (Fld.BST_DIE_LAST r.die) (r.outcome + 1)
      if r.outcome = 2 then s else s.setDie r.die { s.die r.die with lastRun := some s.mono }
      else u) = g u := by
    intro u
    have hshown : g (u.setFld (Fld.BST_DIE_LAST r.die) (r.outcome + 1)) = g u :=
      h.record.setFld u (show 0x4040 + 4 * r.die ≠ 0x0498 + 32 * 0 by omega) _
    dsimp only
    split_ifs
    · exact hshown
    · exact (h.units _ _ _ _ _ _ _ _ _).trans hshown
    · rfl
  have hended : ∀ u : State, g (match r.cid with
      | some cid => u.complete cid St.ok Why.none (some r.notPassed) (some r.block)
      | none => u) = g u := by
    intro u
    split
    · exact h.complete u _ _ _ _ _
    · rfl
  unfold State.endRun
  exact (hended _).trans ((hlast _).trans ((h.record.event _ _ _).trans (h.units s _ _ _ _ _ _ _ _)))

theorem advanceRun (die kind : Nat) (c : Option Nat) : g (s.advanceRun die kind c) = g s := by
  unfold State.advanceRun
  split
  · rfl
  · split
    · exact h.endRun s _
    · exact h.tryStart s _

theorem advanceBehind (x : SliceRun) : g (s.advanceBehind x) = g s := by
  unfold State.advanceBehind
  split
  · split
    · exact h.units s _ _ _ _ _ _ _ _
    · exact h.advanceRun s _ _ _
  · exact h.advanceRun s _ _ _

theorem abortSlice (x : SliceRun) : g (s.abortSlice x) = g s := by
  have hreported : ∀ misr ref, g ((State.releaseUnit { s.drew with bst.running := s.bst.running.filter (·.id ≠ x.id) } x.id).reportSlice
      x.id Slice.aborted misr ref) = g s := fun _ _ =>
    (h.record.reportSlice _ _ _ _ _).trans ((h.releaseUnit _ _).trans (h.units s _ _ _ _ _ _ _ _))
  have hseen : ∀ u : State, g (u.sticky Fld.BST_STATUS_ABORT_SEEN) = g u := fun u => h.record.sticky u (by decide)
  unfold State.abortSlice
  dsimp only
  split_ifs
  · exact (hseen _).trans (hreported _ _)
  · exact (h.advanceBehind _ _).trans ((h.units _ _ _ _ _ _ _ _ _).trans ((hseen _).trans (hreported _ _)))
  · exact (h.units _ _ _ _ _ _ _ _ _).trans (hreported _ _)

theorem abortSlices (t : SliceRun → Bool) : g (s.abortSlices t) = g s := foldl_keeps g (fun u x => h.abortSlice u x) _ s

end OffSlices

theorem coil_offSlices : OffSlices State.coil :=
  ⟨coil_offRecord, fun _ _ _ _ _ _ _ _ _ => rfl, fun s _ _ _ _ _ => s.complete_coil _ _ _ _ _⟩

/-- The housekeeping converter but for the slice that tests it. -/
theorem hkc_offSlices : OffSlices fun s => { s.hkc with slice := none } :=
  ⟨⟨fun _ _ _ _ => rfl, fun _ _ => rfl, fun _ _ _ _ => rfl, fun _ _ => rfl⟩, fun _ _ _ _ _ _ _ _ _ => rfl,
    fun s _ _ _ _ _ => by rw [s.complete_hkc]⟩

end Sys2Proof.Machine
end

section
/-! Injected triggers: which of them start their group, wait for the one that ends, or are lost (R339, R345, R346, R352). -/

namespace Sys2Proof.Machine

open Sys2Proof

variable (s : State)

/-! ## Self-calibration and the free converter -/

@[simp] theorem State.hkcServe_mono (t : Nat) : (s.hkcServe t).mono = s.mono := by
  unfold State.hkcServe
  repeat' split
  all_goals rfl

@[simp] theorem State.hkcServe_group (t : Nat) : (s.hkcServe t).hkc.group = s.hkc.group := by
  unfold State.hkcServe
  repeat' split
  all_goals rfl

/-- What the converter is given to rests on the converter, the sources' power and the rest of the coils. -/
theorem State.hkcServe_hkc_congr {s t : State} (hhkc : t.hkc = s.hkc) (hquiet : t.coilQuiet = s.coilQuiet)
    (hgated : ∀ ch, t.gated ch = s.gated ch) {m n : Nat} (hmn : m = n) : (t.hkcServe m).hkc = (s.hkcServe n).hkc := by
  subst hmn
  have hfree : t.hkcFree = s.hkcFree := by
    unfold State.hkcFree
    rw [hhkc]
  have hclear : t.selfcalClear = s.selfcalClear := by
    unfold State.selfcalClear
    rw [hhkc, hquiet]
  unfold State.hkcServe
  simp only [hfree, hclear, hhkc, hgated]
  repeat' split
  all_goals simp only [hhkc]

@[simp] theorem State.doSelfcalDone_mono : s.doSelfcalDone.mono = s.mono := by
  unfold State.doSelfcalDone
  split
  · split
    · exact State.hkcServe_mono _ _
    · rfl
  · rfl

@[simp] theorem State.setEng_hkc (g : Group) (e : Eng) : (s.setEng g e).hkc = s.hkc := by cases g <;> rfl

/-- A self-calibration completes alike whatever else an engine does, as long as it is as active as it was. -/
theorem State.doSelfcalDone_setEng_hkc {g : Group} {e : Eng} (h : e.active = (s.eng g).active) :
    (s.setEng g e).doSelfcalDone.hkc = s.doSelfcalDone.hkc := by
  have hquiet : (s.setEng g e).coilQuiet = s.coilQuiet := by
    cases g with
    | a => exact congrArg (fun x => !x && !s.coil.b.active) h
    | b => exact congrArg (fun x => !s.coil.a.active && !x) h
  unfold State.doSelfcalDone
  rw [s.setEng_hkc]
  cases s.hkc.calRun with
  | none => exact s.setEng_hkc g e
  | some t =>
    dsimp only
    rw [s.setEng_mono]
    by_cases hdone : t + selfcalTicks ≤ s.mono
    · rw [if_pos hdone, if_pos hdone]
      refine State.hkcServe_hkc_congr ?_ ?_ (fun _ => ?_) (s.setEng_mono g e)
      · cases g <;> rfl
      · exact hquiet
      · cases g <;> rfl
    · rw [if_neg hdone, if_neg hdone, s.setEng_hkc]

/-! ## Groups that start (R346, R353) -/

theorem State.startGroup_coil (src : Nat) (chs : List Nat) (n : Nat) : (s.startGroup src chs n).coil = s.coil :=
  (State.hkcServe_coil _ _).trans (coil_offSlices.abortSlices _ _)

theorem State.startGroup_casks (src : Nat) (chs : List Nat) (n : Nat) : (s.startGroup src chs n).casks = s.casks :=
  (State.hkcServe_casks _ _).trans (State.abortSlices_casks _ _)

theorem State.startGroup_group (src : Nat) (chs : List Nat) (n : Nat) :
    (s.startGroup src chs n).hkc.group = some (src, 0, chs, n) :=
  (State.hkcServe_group _ _).trans (congrArg Hkc.group (hkc_offSlices.abortSlices _ _))

/-! ## Triggers (R339, R345, R352) -/

/-- The group in progress was triggered in tick `now`, by a source that ranks below `src`. -/
def State.outranked (s : State) (src now : Nat) : Prop :=
  ∃ other i chs n, s.hkc.group = some (other, i, chs, n) ∧ s.hkc.groupAt = now ∧ injRank other < injRank src

section inject

variable {src : Nat} (chs : List Nat) (n : Nat)

/-- A trigger starts its group where no self-calibration runs on, and where no group is in progress or the one that is gives way. -/
theorem State.inject_of_open (hidle : s.doSelfcalDone.selfcalRuns = false)
    (hopen : s.doSelfcalDone.hkc.calRun ≠ none ∨ s.doSelfcalDone.hkc.group = none ∨
      s.doSelfcalDone.groupEnding = false ∧ s.doSelfcalDone.outranked src s.mono) :
    ∃ u : State, u.coil = s.coil ∧ u.casks = s.doSelfcalDone.casks ∧ s.inject src chs n = (u.startGroup src chs n, false) := by
  have hcoil := s.doSelfcalDone_coil
  have hmono := s.doSelfcalDone_mono
  unfold State.inject
  generalize s.doSelfcalDone = v at hidle hopen hcoil hmono
  dsimp only
  rw [if_neg (ne_true_of_eq_false hidle)]
  by_cases hcal : v.hkc.calRun = none
  · rw [if_neg (by simp [hcal])]
    rcases hopen.resolve_left (not_not.mpr hcal) with hnone | ⟨hlast, other, i, c, m, hgroup, hat, hrank⟩
    · have hlast : v.groupEnding = false := by
        unfold State.groupEnding
        rw [hnone]
      rw [if_neg (ne_true_of_eq_false hlast), hnone]
      exact ⟨v, hcoil, rfl, rfl⟩
    · rw [if_neg (ne_true_of_eq_false hlast), hgroup]
      dsimp only
      rw [if_pos ⟨hat.trans hmono.symm, hrank⟩]
      have hdrop : (v.injLost Reg.HKC_INJ_BUSY).dropGroup.coil = v.coil ∧ (v.injLost Reg.HKC_INJ_BUSY).dropGroup.casks = v.casks := by
        unfold State.dropGroup
        split <;> exact ⟨rfl, rfl⟩
      exact ⟨_, hdrop.1.trans hcoil, hdrop.2, rfl⟩
  · rw [if_pos (Option.isSome_iff_ne_none.mpr hcal)]
    exact ⟨{ v with hkc.calRun := none }, hcoil, rfl, rfl⟩

/-- A trigger in the tick in which the group in progress is complete waits for that. -/
theorem State.inject_of_ending (hcal : s.doSelfcalDone.hkc.calRun = none) (hlast : s.doSelfcalDone.groupEnding = true)
    (hnext : s.doSelfcalDone.hkc.next = none) :
    s.inject src chs n = ({ s.doSelfcalDone with hkc.next := some (src, chs, n) }, false) := by
  unfold State.inject
  generalize s.doSelfcalDone = v at hcal hlast hnext
  have hidle : v.selfcalRuns = false := by
    unfold State.selfcalRuns
    rw [hcal]
  dsimp only
  rw [if_neg (ne_true_of_eq_false hidle), if_neg (by simp [hcal]), if_pos hlast, hnext]

/-- A trigger is lost to a self-calibration that runs, and to a group in progress that does not give way. -/
theorem State.inject_of_busy (hbusy : s.doSelfcalDone.selfcalRuns = true ∨ (s.doSelfcalDone.hkc.calRun = none ∧
      s.doSelfcalDone.hkc.group ≠ none ∧ s.doSelfcalDone.groupEnding = false ∧ ¬s.doSelfcalDone.outranked src s.mono)) :
    ∃ off, s.inject src chs n = (s.doSelfcalDone.injLost off, true) := by
  have hmono := s.doSelfcalDone_mono
  unfold State.inject
  generalize s.doSelfcalDone = v at hbusy hmono
  dsimp only
  rcases hbusy with hruns | ⟨hcal, hgroup, hlast, hlower⟩
  · exact ⟨_, if_pos hruns⟩
  · have hidle : v.selfcalRuns = false := by
      unfold State.selfcalRuns
      rw [hcal]
    obtain ⟨⟨other, i, c, m⟩, hsome⟩ := Option.ne_none_iff_exists'.mp hgroup
    rw [if_neg (ne_true_of_eq_false hidle), if_neg (by simp [hcal]), if_neg (ne_true_of_eq_false hlast), hsome]
    exact ⟨_, if_neg fun h => hlower ⟨other, i, c, m, hsome, h.1.trans hmono, h.2⟩⟩

end inject

/-- A trigger that is lost leaves its mark, and nothing else but its count. -/
theorem State.flag_injLost (off : Nat) : (s.injLost off).flag Fld.HKC_STATUS_INJ_LOST = true := flag_sticky _ (by decide) (by decide)

end Sys2Proof.Machine
end

section
/-! What the flush of a confirmed kink leaves alone, whatever it is (R136 to R145). -/

namespace Sys2Proof.Machine

open Sys2Proof

/-- What shows nothing of restoration, of the frames in flight, or of what records alter. -/
structure OffFlush {β : Type} (g : State → β) : Prop where
  record : OffRecord g
  flush : ∀ (s : State) trs frames, g { s with trs := trs, frames := frames } = g s

namespace OffFlush

variable {β : Type} {g : State → β} (h : OffFlush g) (s : State)

include h

theorem handleFrom (f : Nat) (seed : Option Nat) : g (s.handleFrom f seed) = g s := h.flush s _ _

theorem retractFrom (f : Nat) : g (s.retractFrom f).1 = g s := by
  unfold State.retractFrom
  dsimp only
  split
  · rfl
  · exact h.flush s _ _

theorem coldFrom (q : Nat) : g (s.coldFrom q) = g s := by
  unfold State.coldFrom
  split
  · rfl
  · exact h.flush s _ _

theorem seedAt (q : Nat) : g (s.seedAt q) = g s :=
  (h.coldFrom _ q).trans ((h.record.setPair _ (by decide) (by decide) _).trans (h.flush s _ _))

theorem endEpisode (q : Nat) : g (s.endEpisode q) = g s := by
  have hseeded : ∀ x, g (State.seedAt { s with trs.episode := x } q) = g s := fun _ => (h.seedAt _ q).trans (h.flush s _ _)
  unfold State.endEpisode
  split
  · rfl
  · dsimp only
    split
    · exact hseeded _
    · exact (h.record.setFld _ (by decide) _).trans (hseeded _)

theorem publishFlush (r : FlushRec) : g (s.publishFlush r) = g s := by
  have hmarked : ∀ (c : Bool) n, g (((s.sticky Fld.TRS_STATUS_FLUSH_SEEN).stickyIf c Fld.TRS_STATUS_RETRACT_SEEN).bump
      Reg.TRS_RETRACT_COUNT n) = g s := fun c n =>
    (h.record.bump _ (by decide) n).trans ((h.record.stickyIf _ (by decide) c).trans (h.record.sticky s (by decide)))
  have hretracted : ∀ (c : Bool) (u : State) q, g (if c then u.formRec 1 q else u) = g u := by
    intro c u q
    cases c
    · rfl
    · exact h.record.formRec u (by decide) q
  unfold State.publishFlush
  exact (h.record.event _ _ _).trans ((hretracted _ _ _).trans (hmarked _ _))

theorem openEpisode (causes f start : Nat) (stop seed : Option Nat) : g (s.openEpisode causes f start stop seed) = g s := by
  have hnoted : ∀ (u : State) (x : Option Nat), g (match x with | some q => u.setPair Reg.TRS_SEED_FRAME_LO q | none => u) = g u := by
    intro u x
    split
    · exact h.record.setPair u (by decide) (by decide) _
    · rfl
  have hbegun : ∀ (u : State) (x : Option Nat), g (match x with | some q => if q ≤ u.integrating then u.endEpisode q else u | none => u) =
      g u := by
    intro u x
    split
    · split
      · exact h.endEpisode u _
      · rfl
    · rfl
  unfold State.openEpisode
  exact (hbegun _ _).trans ((h.publishFlush _ _).trans ((hnoted _ _).trans ((h.flush _ _ _).trans
    ((h.retractFrom _ _).trans (h.handleFrom s _ _)))))

theorem kinkFlush (start stop : Nat) : g (s.kinkFlush start stop) = g s := by
  have hopen : ∀ x, g { s with trs.kinkOpen := x } = g s := fun _ => h.flush s _ _
  unfold State.kinkFlush
  dsimp only
  split
  · exact (h.openEpisode _ _ _ _ _ _).trans (hopen _)
  · exact hopen _

end OffFlush

theorem coil_offFlush : OffFlush State.coil := ⟨coil_offRecord, fun _ _ _ => rfl⟩
theorem casks_offFlush : OffFlush State.casks := ⟨casks_offRecord, fun _ _ _ => rfl⟩

end Sys2Proof.Machine
end

section
/-! Kink detection: samples, windows and confirmed kinks (R196 to R200, R339, R345, R352). -/

namespace Sys2Proof.Machine

open Sys2Proof

variable (s : State) (g : Group)

theorem exec_kinkSampleTrigger : exec (.kinkSampleTrigger g) s = run (State.coilEvent State.doSample g) s := rfl
theorem exec_kinkWindowDecision :
    exec (.kinkWindowDecision g) s = run (State.coilEvent (fun s g => (s.doWindow g).kinkHook s g) g) s := rfl

/-! ## Samples (R196, R199) -/

/-- A sample of the window that integrates at this tick is due: its conversion is about to be triggered. -/
def State.sampleDue (s : State) (g : Group) (t0 : Nat) : State :=
  s.setEng g { s.eng g with sampling := some ((s.mono - t0) / max 1 (s.eng g).winTicks) }

/-- A sample that the converter turns away is a gap in the record; on group A the shutter's place is no longer known. -/
def State.sampleMissed (s : State) (g : Group) : State :=
  let u := (s.setEng g { s.eng g with sampling := none, gapRec := true }).sticky Fld.COIL_STATUS_GAP_SEEN
  match g with
  | .a => (u.sticky Fld.CAL_STATUS_KINK_GAP).setShut .unknown
  | .b => u

/-- A sampling tick injects the group's conversion. -/
theorem State.doSample_of_tick {s : State} {g : Group} {t0 miss stop : Nat} {pol : Bool} (hrun : (s.eng g).st = .running)
    (hwait : (s.eng g).wait = some (t0, pol, miss, stop)) (htick : s.now % (1250 * 2 ^ kinkSamp (s.eng g).kinkCfg) = 625 * grpIdx g) :
    s.doSample g =
      let p := (s.sampleDue g t0).inject Inj.coil [6 + grpIdx g] (grpIdx g)
      if p.2 then p.1.sampleMissed g else p.1 := by
  unfold State.doSample
  dsimp only
  split
  next hsome =>
    obtain ⟨rfl, -⟩ := Prod.mk.inj (Option.some.inj (hwait.symm.trans hsome))
    exact if_neg (not_or.mpr ⟨not_not.mpr hrun, not_not.mpr htick⟩)
  next hnone => exact absurd (hwait.symm.trans hnone) (Option.some_ne_none _)

/-- What a missed sample leaves, and the marks that it makes. -/
theorem State.sampleMissed_spec :
    (s.sampleMissed g).hkc = s.hkc ∧ (s.sampleMissed g).casks.cal = s.casks.cal ∧
      (s.sampleMissed g).eng g = { s.eng g with sampling := none, gapRec := true } ∧
      (s.sampleMissed g).flag Fld.COIL_STATUS_GAP_SEEN = true ∧
      (s.flag Fld.HKC_STATUS_INJ_LOST = true → (s.sampleMissed g).flag Fld.HKC_STATUS_INJ_LOST = true) := by
  have hshut : ∀ u : State, (u.setShut .unknown).hkc = u.hkc := fun u => by
    unfold State.setShut
    split <;> rfl
  have hflag : ∀ (u : State) f, (u.setShut .unknown).flag f = u.flag f := fun u f => flag_of_reg (setShut_reg u _ _)
  have hgap := fun e => flag_sticky (s.setEng g e) (f := Fld.COIL_STATUS_GAP_SEEN) (by decide) (by decide)
  have hlost : ∀ e, s.flag Fld.HKC_STATUS_INJ_LOST = true →
      ((s.setEng g e).sticky Fld.COIL_STATUS_GAP_SEEN).flag Fld.HKC_STATUS_INJ_LOST = true := fun e h =>
    flag_sticky_of_flag _ (by decide) ((flag_of_reg (s.setEng_reg g e _)).trans h)
  unfold State.sampleMissed
  cases g with
  | a =>
    refine ⟨hshut _, State.setShut_cal _ _, State.eng_of_coil (State.setShut_coil _ _) _, (hflag _ _).trans ?_, fun h => (hflag _ _).trans ?_⟩
    · exact flag_sticky_of_flag _ (by decide) (hgap _)
    · exact flag_sticky_of_flag _ (by decide) (hlost _ h)
  | b => exact ⟨rfl, rfl, rfl, hgap _, hlost _⟩

section sample

variable {s g} {t0 : Nat}

/-- To note a sample changes nothing that a self-calibration's end rests on. -/
theorem State.hkc_sampleDue : (s.sampleDue g t0).doSelfcalDone.hkc = s.doSelfcalDone.hkc := s.doSelfcalDone_setEng_hkc rfl

theorem State.mono_sampleDue : (s.sampleDue g t0).mono = s.mono := s.setEng_mono _ _

theorem State.selfcalRuns_sampleDue : (s.sampleDue g t0).doSelfcalDone.selfcalRuns = s.doSelfcalDone.selfcalRuns := by
  unfold State.selfcalRuns
  rw [State.hkc_sampleDue, State.doSelfcalDone_mono, State.doSelfcalDone_mono, State.mono_sampleDue]

theorem State.groupEnding_sampleDue : (s.sampleDue g t0).doSelfcalDone.groupEnding = s.doSelfcalDone.groupEnding := by
  unfold State.groupEnding
  rw [State.hkc_sampleDue, State.doSelfcalDone_mono, State.doSelfcalDone_mono, State.mono_sampleDue]

theorem State.outranked_sampleDue {src : Nat} :
    (s.sampleDue g t0).doSelfcalDone.outranked src (s.sampleDue g t0).mono ↔ s.doSelfcalDone.outranked src s.mono := by
  unfold State.outranked
  rw [State.hkc_sampleDue, State.mono_sampleDue]

theorem State.cal_sampleDue (h : s.casks.cal = none) : (s.sampleDue g t0).doSelfcalDone.casks.cal = none :=
  State.doSelfcalDone_cal_none _ (by rwa [State.sampleDue, State.setEng_casks])

theorem State.eng_sampleDue :
    ((s.sampleDue g t0).doSelfcalDone).eng g = { s.eng g with sampling := some ((s.mono - t0) / max 1 (s.eng g).winTicks) } :=
  (State.eng_of_coil (State.doSelfcalDone_coil _) g).trans (s.eng_setEng g _)

variable {miss stop : Nat} {pol : Bool} (hp : s.powered) (hcal : s.casks.cal = none) (hrun : (s.eng g).st = .running)
  (hwait : (s.eng g).wait = some (t0, pol, miss, stop))
  (htick : s.now % (1250 * 2 ^ kinkSamp (s.eng g).kinkCfg) = 625 * grpIdx g)

include hp hcal hrun hwait htick

/-- A sample's conversion starts at once. -/
theorem yields_kinkSample_started (hidle : s.doSelfcalDone.selfcalRuns = false)
    (hopen : s.doSelfcalDone.hkc.calRun ≠ none ∨ s.doSelfcalDone.hkc.group = none ∨
      s.doSelfcalDone.groupEnding = false ∧ s.doSelfcalDone.outranked Inj.coil s.mono) :
    Yields (.kinkSampleTrigger g) s fun t => t.hkc.group = some (Inj.coil, 0, [6 + grpIdx g], grpIdx g) ∧
      (t.eng g).sampling = some ((s.mono - t0) / max 1 (s.eng g).winTicks) := by
  obtain ⟨u, hcoil, hcasks, hinj⟩ := (s.sampleDue g t0).inject_of_open (src := Inj.coil) [6 + grpIdx g] (grpIdx g)
    (State.selfcalRuns_sampleDue.trans hidle)
    (by rwa [State.hkc_sampleDue, State.groupEnding_sampleDue, State.outranked_sampleDue])
  have hdo : s.doSample g = u.startGroup Inj.coil [6 + grpIdx g] (grpIdx g) := by
    rw [State.doSample_of_tick hrun hwait htick, hinj]
    rfl
  refine yields_coilEvent s (exec_kinkSampleTrigger s g) hp ?_ ?_
  · rw [hdo, u.startGroup_casks, hcasks]
    exact State.cal_sampleDue hcal
  · rw [hdo, State.eng_commit, commit_hkc, State.eng_of_coil ((u.startGroup_coil _ _ _).trans hcoil)]
    exact ⟨u.startGroup_group _ _ _, congrArg Eng.sampling (s.eng_setEng g _)⟩

/-- A sample's conversion waits for the group that is complete in this tick. -/
theorem yields_kinkSample_next (hrest : s.doSelfcalDone.hkc.calRun = none) (hlast : s.doSelfcalDone.groupEnding = true)
    (hnext : s.doSelfcalDone.hkc.next = none) :
    Yields (.kinkSampleTrigger g) s fun t => t.hkc.next = some (Inj.coil, [6 + grpIdx g], grpIdx g) ∧
      t.hkc.group = s.doSelfcalDone.hkc.group ∧ (t.eng g).sampling = some ((s.mono - t0) / max 1 (s.eng g).winTicks) := by
  have hhkc := State.hkc_sampleDue (s := s) (g := g) (t0 := t0)
  have hinj := (s.sampleDue g t0).inject_of_ending (src := Inj.coil) [6 + grpIdx g] (grpIdx g) (by rwa [hhkc])
    (State.groupEnding_sampleDue.trans hlast) (by rwa [hhkc])
  have hdo : s.doSample g = { (s.sampleDue g t0).doSelfcalDone with hkc.next := some (Inj.coil, [6 + grpIdx g], grpIdx g) } := by
    rw [State.doSample_of_tick hrun hwait htick, hinj]
    rfl
  refine yields_coilEvent s (exec_kinkSampleTrigger s g) hp ?_ ?_
  · rw [hdo]
    exact State.cal_sampleDue hcal
  · rw [hdo, State.eng_commit, commit_hkc]
    have hgroup : (s.sampleDue g t0).doSelfcalDone.hkc.group = s.doSelfcalDone.hkc.group := congrArg Hkc.group hhkc
    exact ⟨rfl, hgroup, congrArg Eng.sampling State.eng_sampleDue⟩

/-- A sample that the converter turns away is a gap. -/
theorem yields_kinkSample_lost (hbusy : s.doSelfcalDone.selfcalRuns = true ∨ (s.doSelfcalDone.hkc.calRun = none ∧
      s.doSelfcalDone.hkc.group ≠ none ∧ s.doSelfcalDone.groupEnding = false ∧ ¬s.doSelfcalDone.outranked Inj.coil s.mono)) :
    Yields (.kinkSampleTrigger g) s fun t => t.hkc.group = s.doSelfcalDone.hkc.group ∧ (t.eng g).sampling = none ∧
      (t.eng g).gapRec = true ∧ t.flag Fld.COIL_STATUS_GAP_SEEN = true ∧ t.flag Fld.HKC_STATUS_INJ_LOST = true := by
  obtain ⟨off, hinj⟩ := (s.sampleDue g t0).inject_of_busy (src := Inj.coil) [6 + grpIdx g] (grpIdx g)
    (by rwa [State.selfcalRuns_sampleDue, State.hkc_sampleDue, State.groupEnding_sampleDue, State.outranked_sampleDue])
  have hdo : s.doSample g = ((s.sampleDue g t0).doSelfcalDone.injLost off).sampleMissed g := by
    rw [State.doSample_of_tick hrun hwait htick, hinj]
    rfl
  obtain ⟨hhkc, hkept, heng, hgap, hlost⟩ := ((s.sampleDue g t0).doSelfcalDone.injLost off).sampleMissed_spec g
  refine yields_coilEvent s (exec_kinkSampleTrigger s g) hp ?_ ?_
  · rw [hdo, hkept]
    exact State.cal_sampleDue hcal
  · rw [hdo, State.eng_commit, commit_hkc, hhkc, heng, flag_commit (by decide), flag_commit (by decide)]
    exact ⟨congrArg Hkc.group State.hkc_sampleDue, rfl, rfl, hgap, hlost (State.flag_injLost _ _)⟩

end sample

/-! ## Confirmed kinks (R198 to R200) -/

@[simp] theorem State.ctrInc_coil (i : Nat) : (s.ctrInc i).coil = s.coil := by
  have heach : ∀ (u : State) l, (u.nvEach l).coil = u.coil := fun u l =>
    foldl_keeps State.coil (f := fun (v : State) (e : Nat × List Byte) => v.nvStore e.1 e.2 1) (fun _ _ => rfl) l u
  unfold State.ctrInc
  split
  · rfl
  · exact heach _ _

/-- A kink that counts, or does not, changes the position of its mechanism and the counter of its movements alone. -/
theorem counted_keeps (u : State) (c : Bool) (m : MechState) (i : Nat) :
    (if c then (u.setPos g m).ctrInc i else u).eng g = u.eng g ∧ (if c then (u.setPos g m).ctrInc i else u).casks.cal = u.casks.cal := by
  cases c
  · exact ⟨rfl, rfl⟩
  · exact ⟨(State.eng_of_coil (State.ctrInc_coil _ _) g).trans (u.eng_setPos g g m),
      (congrArg Casks.cal (State.ctrInc_casks _ _)).trans (u.setPos_cal g m)⟩

/-- A confirmed kink sends its engine on and records its time. -/
theorem State.confirmKink_spec :
    (s.confirmKink g).casks.cal = s.casks.cal ∧
      (let e := (s.confirmKink g).eng g
       e.kinked = true ∧ e.tKink = s.now ∧ e.pc = (s.eng g).pc + 1 ∧ e.wait = none ∧ e.decided = (s.eng g).decided) := by
  unfold State.confirmKink
  dsimp only
  rw [State.eng_of_coil (coil_offFlush.kinkFlush _ _ _), casks_offFlush.kinkFlush, (counted_keeps g _ _ _ _).1, (counted_keeps g _ _ _ _).2,
    State.eng_setEng, State.setEng_casks]
  exact ⟨rfl, rfl, rfl, rfl, rfl, rfl⟩

/-! ## Windows (R197, R198) -/

/-- What is left of a group's samples when window `m` has been dealt with. -/
def State.windowDone (s : State) (g : Group) (m : Nat) : State :=
  s.setEng g { s.eng g with decided := m + 1, samples := (s.eng g).samples.filter fun x => m ≤ x.1 + 1 }

/-- A window's second difference is recorded where it is the largest of the wait so far. -/
def State.windowShown (s : State) (g : Group) (d : Int) : State :=
  (s.setEng g { s.eng g with dmax := some d }).setRegN (grpDmax g) (wrapN 16 (clampI (-32767) 32767 d))

theorem State.setEng_now (e : Eng) : (s.setEng g e).now = s.now := by cases g <;> rfl

/-- To deal with a window, and to show what came of it, leaves the words, the tick and the calibration. -/
theorem State.windowShown_spec (m : Nat) (d : Int) :
    let u := (s.windowDone g m).windowShown g d
    u.casks.cal = s.casks.cal ∧ u.now = s.now ∧ (u.eng g).decided = m + 1 ∧ (u.eng g).pc = (s.eng g).pc := by
  intro u
  have heng : u.eng g = { (s.windowDone g m).eng g with dmax := some d } := State.eng_setEng _ g _
  have hdone : ((s.windowDone g m).eng g).decided = m + 1 ∧ ((s.windowDone g m).eng g).pc = (s.eng g).pc := by
    rw [State.windowDone, State.eng_setEng]
    exact ⟨rfl, rfl⟩
  rw [heng]
  exact ⟨(cal_offCoil.setEng _ g _).trans (cal_offCoil.setEng s g _), (State.setEng_now _ g _).trans (s.setEng_now g _), hdone⟩

section window

variable {s g} {t0 miss stop : Nat} {pol : Bool} (hrun : (s.eng g).st = .running) (hwait : (s.eng g).wait = some (t0, pol, miss, stop))
  (hover : t0 + ((s.eng g).decided + 1) * (s.eng g).winTicks ≤ s.mono) (hall : (s.eng g).sampling ≠ some (s.eng g).decided)

include hrun hwait hover hall

/-- The decision of a window that has ended: while there are too few windows it is no more than noted; elsewhere its second difference
is shown, and one beyond the threshold confirms a kink. -/
theorem State.doWindow_of_due :
    let m := (s.eng g).decided
    let u := s.windowDone g m
    (m < kinkBlank (s.eng g).kinkCfg + 2 ∨ secondDiff (s.eng g).samples m = none → s.doWindow g = u) ∧
    (∀ num den, kinkBlank (s.eng g).kinkCfg + 2 ≤ m → secondDiff (s.eng g).samples m = some (num, den) → ∃ d, s.doWindow g =
      if (if pol then (kinkThr (s.eng g).kinkCfg * den : Int) ≤ num else num ≤ -(kinkThr (s.eng g).kinkCfg * den : Int))
      then (u.windowShown g d).confirmKink g else u.windowShown g d) := by
  intro m u
  have hdue : ¬((s.eng g).st ≠ .running ∨ s.mono < t0 + (m + 1) * (s.eng g).winTicks ∨ (s.eng g).sampling = some m) :=
    not_or.mpr ⟨not_not.mpr hrun, not_or.mpr ⟨Nat.not_lt.mpr hover, hall⟩⟩
  unfold State.doWindow
  dsimp only
  split
  next hnone => exact absurd (hwait.symm.trans hnone) (Option.some_ne_none _)
  next hsome =>
    obtain ⟨rfl, rfl, -⟩ := by simpa using hwait.symm.trans hsome
    rw [if_neg hdue]
    refine ⟨fun hfew => ?_, fun num den hlate hdiff => ?_⟩
    · split
      · rfl
      next hlate =>
        rw [hfew.resolve_left hlate]
        rfl
    · rw [if_neg (Nat.not_lt.mpr hlate), hdiff]
      exact ⟨_, rfl⟩

/-- A window that has ended is decided, and before enough windows nothing else comes of it; a second difference beyond the threshold
confirms the kink. -/
theorem State.doWindow_spec :
    let m := (s.eng g).decided
    let e := (s.doWindow g).eng g
    (s.doWindow g).casks.cal = s.casks.cal ∧ e.decided = m + 1 ∧
      (m < kinkBlank (s.eng g).kinkCfg + 2 → e.kinked = (s.eng g).kinked ∧ e.pc = (s.eng g).pc) ∧
      (∀ num den, kinkBlank (s.eng g).kinkCfg + 2 ≤ m → secondDiff (s.eng g).samples m = some (num, den) →
        (if pol then (kinkThr (s.eng g).kinkCfg * den : Int) ≤ num else num ≤ -(kinkThr (s.eng g).kinkCfg * den : Int)) →
        e.kinked = true ∧ e.tKink = s.now ∧ e.pc = (s.eng g).pc + 1 ∧ e.wait = none) := by
  intro m e
  obtain ⟨hfew, hshow⟩ := State.doWindow_of_due hrun hwait hover hall
  by_cases hnone : m < kinkBlank (s.eng g).kinkCfg + 2 ∨ secondDiff (s.eng g).samples m = none
  case pos =>
    have hdo := hfew hnone
    have heng : e = _ := (congrArg (State.eng · g) hdo).trans (s.eng_setEng g _)
    rw [hdo, heng]
    refine ⟨congrArg Casks.cal (s.setEng_casks g _), rfl, fun _ => ⟨rfl, rfl⟩, fun num den hlate hdiff => ?_⟩
    rcases hnone with hearly | hnone
    · omega
    · exact absurd (hdiff.symm.trans hnone) (Option.some_ne_none _)
  case neg =>
    obtain ⟨hlate, hsome⟩ := not_or.mp hnone
    obtain ⟨⟨num, den⟩, hdiff⟩ := Option.ne_none_iff_exists'.mp hsome
    obtain ⟨d, hdo⟩ := hshow num den (Nat.not_lt.mp hlate) hdiff
    obtain ⟨hcal, hnow, hdecided, hpc⟩ := s.windowShown_spec g m d
    by_cases hkink : if pol then (kinkThr (s.eng g).kinkCfg * den : Int) ≤ num else num ≤ -(kinkThr (s.eng g).kinkCfg * den : Int)
    · obtain ⟨hkept, hkinked, htime, hnext, hwaits, hsame⟩ := ((s.windowDone g m).windowShown g d).confirmKink_spec g
      rw [if_pos hkink] at hdo
      have heng : e = _ := congrArg (State.eng · g) hdo
      rw [hdo, heng]
      exact ⟨hkept.trans hcal, hsame.trans hdecided, fun hearly => absurd hearly hlate,
        fun _ _ _ _ _ => ⟨hkinked, htime.trans hnow, hnext.trans (congrArg (· + 1) hpc), hwaits⟩⟩
    · rw [if_neg hkink] at hdo
      have heng : e = _ := congrArg (State.eng · g) hdo
      rw [hdo, heng]
      refine ⟨hcal, hdecided, fun hearly => absurd hearly hlate, fun num' den' _ hdiff' hkink' => ?_⟩
      obtain ⟨rfl, rfl⟩ := Prod.mk.inj (Option.some.inj (hdiff.symm.trans hdiff'))
      exact absurd hkink' hkink

end window

/-! ## The hook of a window's end (R175) -/

theorem State.publishCal_coil (k : Cal) (why : Nat) (racked : Option Nat) : (s.publishCal k why racked).coil = s.coil :=
  (State.stickyIf_coil _ _ _).trans (coil_offRecord.formRec s (by decide) _)

theorem State.discardHeld_coil : s.discardHeld.coil = s.coil := by
  unfold State.discardHeld
  split
  · exact State.publishCal_coil _ _ _ _
  · rfl

/-- A held capture that a kink discards leaves the coils and the calibration. -/
theorem State.kinkHook_keeps (before : State) : (s.kinkHook before g).coil = s.coil ∧ (s.kinkHook before g).casks.cal = s.casks.cal := by
  unfold State.kinkHook
  split
  · exact ⟨s.discardHeld_coil, s.discardHeld_cal⟩
  · exact ⟨rfl, rfl⟩

/-- Settles O23: each outcome of a sample by what its trigger comes to, and the windows by `doWindow_spec`. -/
theorem kinksAreDetected : Obligations.KinksAreDetected := by
  unfold Obligations.KinksAreDetected
  intro s g t0 pol miss stop hp hcal hrun hwait e m
  refine ⟨fun htick => ?sample, fun hover hall => ?window⟩
  case sample =>
    exact ⟨yields_kinkSample_started hp hcal hrun hwait htick, yields_kinkSample_next hp hcal hrun hwait htick,
      yields_kinkSample_lost hp hcal hrun hwait htick⟩
  case window =>
    obtain ⟨hkept, hdecided, hearly, hkink⟩ := State.doWindow_spec hrun hwait hover hall
    obtain ⟨hcoil, hhook⟩ := (s.doWindow g).kinkHook_keeps g s
    refine yields_coilEvent s (exec_kinkWindowDecision s g) hp (hhook.trans (hkept.trans hcal)) ?_
    rw [State.eng_commit, State.eng_of_coil hcoil]
    exact ⟨hdecided, hearly, hkink⟩

end Sys2Proof.Machine
end

section
/-! Dies that are withdrawn, and corrected Cellar errors (R227, R233). -/

namespace Sys2Proof.Machine

open Sys2Proof

variable (s : State)

theorem exec_trellisLinkFail (n : Nat) :
    exec (.trellisLinkFail n) s = runIf "TRELLIS_LINK_FAIL" (Instr.wf (.trellisLinkFail n))
      (fun s => if (s.die n).powered then s.withdraw n Gone.link else s) s := rfl
theorem exec_dieWatchdogMiss (n : Nat) :
    exec (.dieWatchdogMiss n) s = runIf "DIE_WATCHDOG_MISS" (Instr.wf (.dieWatchdogMiss n))
      (fun s => if (s.die n).powered then s.withdraw n Gone.watchdog else s) s := rfl
theorem exec_cellarEccError (n : Nat) (g : CellarRegion) (c : Bool) :
    exec (.cellarEccError n g c) s = runIf "CELLAR_ECC_ERROR" (Instr.wf (.cellarEccError n g c)) (fun s => s.doEcc n g c) s := rfl
theorem exec_patrolScrub (n c : Nat) :
    exec (.patrolScrub n c) s = runIf "PATROL_SCRUB" (Instr.wf (.patrolScrub n c)) (fun s => s.doScrub n c) s := rfl

/-! ## What shows that a die is gone -/

/-- The dies, and the bits of those that have been withdrawn (R231). -/
def State.faults (s : State) : List Die × Word := (s.rol.dies, s.reg Reg.ROL_FAULT)

theorem faults_offHost : OffHost State.faults where
  reg s off v h := Prod.ext rfl ((reg_offHost (o := Reg.ROL_FAULT) (by decide)).reg s off v h)
  host _ _ _ := rfl

theorem State.faults_setReg {off : Nat} (h : off ≠ Reg.ROL_FAULT) (v : Word) : (s.setReg off v).faults = s.faults :=
  Prod.ext rfl (s.reg_setReg_ne v h.symm)

theorem State.faults_sticky {f : Fld} (h : f.off ≠ Reg.ROL_FAULT) : (s.sticky f).faults = s.faults := s.faults_setReg h _

theorem State.faults_stickyIf {f : Fld} (h : f.off ≠ Reg.ROL_FAULT) (c : Bool) : (s.stickyIf c f).faults = s.faults := by
  cases c
  · rfl
  · exact s.faults_sticky h

theorem State.faults_setPair {lo : Nat} (hl : lo ≠ Reg.ROL_FAULT) (hh : lo + 4 ≠ Reg.ROL_FAULT) (v : Nat) :
    (s.setPair lo v).faults = s.faults := (State.faults_setReg _ hh _).trans (s.faults_setReg hl _)

theorem State.faults_complete (cid st why : Nat) (v : Option Nat) (b : Option (List Byte)) :
    (s.complete cid st why v b).faults = s.faults :=
  Prod.ext (congrArg Rol.dies (s.complete_rol cid st why v b)) (s.reg_complete_ne (by decide) cid st why v b)

theorem State.faults_fail (cid st why : Nat) : (s.fail cid st why).faults = s.faults :=
  Prod.ext (congrArg Rol.dies (s.fail_rol cid st why)) (s.reg_fail_ne (by decide) cid st why)

/-! ## The work that a withdrawal sets off -/

theorem State.faults_markMissing (k row : Nat) : (s.markMissing k row).faults = s.faults := by
  unfold State.markMissing
  split
  · rfl
  · dsimp only
    split
    · rfl
    · exact (State.faults_sticky _ (by decide)).trans (State.faults_setReg _ (by decide) _)

theorem State.faults_markAll (l : List (Nat × List Nat)) :
    (l.foldl (fun s e => e.2.foldl (fun s r => s.markMissing e.1 r) s) s).faults = s.faults :=
  foldl_keeps State.faults (fun u e => foldl_keeps State.faults (fun v r => v.faults_markMissing e.1 r) e.2 u) l s

theorem State.faults_coldFrom (g : Nat) : (s.coldFrom g).faults = s.faults := by
  unfold State.coldFrom
  split <;> rfl

theorem State.faults_takeDieLost (n : Nat) : (s.takeDieLost n).faults = s.faults := by
  unfold State.takeDieLost
  dsimp only
  split
  · split <;> rfl
  · rfl

/-- What the end of a replay leaves alone: what shows neither channel 4 nor the takes, and what no completion alters (R246, R272, R278). -/
theorem State.endReplay_keeps {β : Type} (g : State → β) (hchan : ∀ (u : State) c, g (u.setChan 4 c) = g u)
    (hreplay : ∀ (u : State) x, g { u with cel.replay := x } = g u)
    (hcomplete : ∀ (u : State) cid st why v b, g (u.complete cid st why v b) = g u)
    (hwaits : ∀ (u : State) a e, g { u with hif.after := a, cel.replayEnd := e } = g u) (r : Replay) (st why : Nat) :
    g (s.endReplay r st why) = g s := by
  have hmarked : ∀ n typ k : Nat, g (if n = 0 then s else s.lastRec typ k) = g s := by
    intro n typ k
    split
    · rfl
    · exact hchan s _
  unfold State.endReplay
  exact (State.completeAfter_keeps _ g hcomplete hwaits _ _ _ _ _ _ _).trans ((hreplay _ _).trans (hmarked _ _ _))

theorem State.faults_endReplay (r : Replay) (st why : Nat) : (s.endReplay r st why).faults = s.faults :=
  s.endReplay_keeps State.faults (fun _ _ => rfl) (fun _ _ => rfl) (fun u => u.faults_complete) (fun _ _ _ => rfl) r st why

theorem State.faults_breakReplay (why : Nat) : (s.breakReplay why).faults = s.faults := by
  unfold State.breakReplay
  split
  · exact s.faults_endReplay _ _ _
  · rfl

theorem State.faults_trainedNow : s.trainedNow.faults = s.faults := by
  unfold State.trainedNow
  split
  · rfl
  · exact (State.faults_setReg _ (by decide) _).trans (State.faults_setReg _ (by decide) _)

theorem State.faults_validCheck : s.validCheck.faults = s.faults := by
  have hrack : s.rackCheck.faults = s.faults := by
    unfold State.rackCheck
    split
    · split
      · rfl
      · dsimp only
        split
        · exact State.faults_fail _ _ _ _
        · rfl
    · rfl
  refine Eq.trans ?_ hrack
  unfold State.validCheck State.saveCheck
  split
  · split
    · rfl
    · exact State.faults_fail _ _ _ _
  · rfl

theorem State.faults_endChain (why : Nat) : (s.endChain why).faults = s.faults := by
  unfold State.endChain
  split
  · rfl
  · exact faults_offHost.event _ _ _

theorem State.faults_showTake (t : Take) (st : Nat) : (s.showTake t st).faults = s.faults := by
  unfold State.showTake
  exact (State.faults_setReg _ (by decide) _).trans ((State.faults_setReg _ (by decide) _).trans
    ((State.faults_setPair _ (by decide) (by decide) _).trans ((State.faults_setPair _ (by decide) (by decide) _).trans
      ((State.faults_setPair _ (by decide) (by decide) _).trans (s.faults_setReg (by decide) _)))))

theorem State.faults_withCel (c : Cel) : State.faults { s with cel := c } = s.faults := rfl

theorem State.faults_interruptTake : s.interruptTake.faults = s.faults := by
  unfold State.interruptTake
  split
  · rfl
  · split
    · exact State.faults_fail _ _ _ _
    · exact (State.faults_withCel (s.showTake _ 0) _).trans (s.faults_showTake _ 0)

theorem State.faults_goState (p : PState) : (s.goState p).faults = s.faults := by
  unfold State.goState
  split
  · rfl
  · exact (faults_offHost.event _ _ _).trans (State.faults_sticky _ (by decide))

theorem State.faults_leaveTake : s.leaveTake.faults = s.faults := by
  unfold State.leaveTake
  split
  · rfl
  · dsimp only
    split
    · exact (State.faults_goState _ _).trans (s.faults_goState _)
    · exact s.faults_goState _

/-! ## A die that is gone -/

/-- Die `n` is withdrawn, has no power, and is shown so (R227). -/
def State.gone (s : State) (n : Nat) : Prop :=
  (s.die n).withdrawn = true ∧ (s.die n).powered = false ∧ (s.reg Reg.ROL_FAULT).getLsbD n = true

theorem State.gone_of_faults {s t : State} {n : Nat} (h : t.faults = s.faults) (hg : s.gone n) : t.gone n := by
  have hd : t.die n = s.die n := congrArg (fun l => l.getD n (dieCold false)) (congrArg Prod.fst h)
  have hr : t.reg Reg.ROL_FAULT = s.reg Reg.ROL_FAULT := congrArg Prod.snd h
  unfold State.gone
  rwa [hd, hr]

theorem State.powered_gateDie {n : Nat} (h : n < s.rol.dies.length) : ((s.gateDie n).die n).powered = false :=
  congrArg Die.powered (s.die_setDie_self h _)

theorem State.withdrawn_gateDie {n : Nat} (h : n < s.rol.dies.length) : ((s.gateDie n).die n).withdrawn = (s.die n).withdrawn := by
  unfold State.gateDie State.modDie
  rw [s.die_setDie_self h]

/-- A die that is withdrawn is among the dies. -/
theorem State.lt_of_withdrawn {n : Nat} (h : (s.die n).withdrawn = true) : n < s.rol.dies.length := by
  by_contra hge
  rw [State.die, List.getD_eq_default _ _ (Nat.not_lt.1 hge)] at h
  cases h

/-- A die that loses its power leaves one gone that is so. -/
theorem State.gone_gateDie {n : Nat} (m : Nat) (hg : s.gone n) : (s.gateDie m).gone n := by
  obtain ⟨hw, hp, hr⟩ := hg
  by_cases hm : n = m
  · subst hm
    exact ⟨(s.withdrawn_gateDie (s.lt_of_withdrawn hw)).trans hw, s.powered_gateDie (s.lt_of_withdrawn hw), hr⟩
  · have hdie : (s.gateDie m).die n = s.die n := getD_modAt_ne s.rol.dies hm _ _
    exact ⟨hdie ▸ hw, hdie ▸ hp, hr⟩

/-- A pending change that is given up leaves a die gone. -/
theorem State.gone_abortPend {n : Nat} (why : Nat) (hg : s.gone n) : (s.abortPend why).gone n := by
  have hdropped : s.dropPend.gone n := by
    unfold State.dropPend
    refine List.foldlRecOn (motive := fun u : State => u.gone n) _ _ ?_ fun u hu m _ => ?_
    · exact hg
    · dsimp only
      split
      · exact u.gone_gateDie m hu
      · exact hu
  unfold State.abortPend
  split
  · dsimp only
    split
    · exact State.gone_of_faults (State.faults_fail _ _ _ _) hdropped
    · exact hdropped
  · exact hg

theorem State.gone_commit {t : State} {n : Nat} (hg : t.gone n) : (commit s t).gone n := by
  obtain ⟨hw, hp, hr⟩ := hg
  refine ⟨?_, ?_, ?_⟩
  · rwa [State.die_commit]
  · rwa [State.die_commit]
  · rwa [reg_commit_ne _ _ (by decide)]

/-- A die that loses its power for good, and whose bit of ROL_FAULT is set, is gone. -/
theorem State.gone_marked {n : Nat} (h : n < s.rol.dies.length) (hn : n < 5) :
    State.gone (State.sticky ((s.gateDie n).modDie n fun d => { d with withdrawn := true }) ⟨Reg.ROL_FAULT, n, 1⟩) n := by
  have hlen : n < (s.gateDie n).rol.dies.length := (length_modAt _ _ _).symm ▸ h
  have hdie := (s.gateDie n).die_setDie_self hlen { (s.gateDie n).die n with withdrawn := true }
  refine ⟨congrArg Die.withdrawn hdie, (congrArg Die.powered hdie).trans (s.powered_gateDie h), ?_⟩
  rw [← flag_eq_getLsbD _ (f := ⟨Reg.ROL_FAULT, n, 1⟩) rfl]
  exact flag_sticky _ (show n < 32 by omega) Nat.one_pos

/-- A die that is present is gone once it is withdrawn (R227): what the withdrawal sets off leaves it so. -/
theorem State.gone_withdraw {n : Nat} (hd : s.diesOk) (hn : n < 5) (hpres : s.present n = true) (hw : (s.die n).withdrawn = false)
    (cause : Nat) : (s.withdraw n cause).gone n := by
  unfold State.withdraw
  rw [if_neg (by simp [hpres, hw])]
  extract_lets owns first s1 lost had abandoned gated marked shown missed logged dead seeded cooled rol moved untaken unreplayed unpended
    uncasked checked
  have hlen : n < abandoned.rol.dies.length := by
    have hdrawn : s1.rol.dies.length = 5 := by
      show (if owns.isEmpty then s.drew else s).rol.dies.length = 5
      split <;> exact hd
    rw [dies_length_of_apart (s := s1) (congrArg Prod.fst (s1.abandonRuns_spec n).1), hdrawn]
    exact hn
  have hmarked : marked.gone n := State.gone_of_faults (State.faults_sticky _ (by decide)) (abandoned.gone_marked hlen hn)
  have hlogged : logged.gone n := by
    refine State.gone_of_faults (faults_offHost.event _ _ _) (State.gone_of_faults (State.faults_markAll shown lost) ?_)
    exact State.gone_of_faults ((State.faults_setReg _ (by decide) _).trans (State.faults_setReg _ (by decide) _)) hmarked
  have hcooled : cooled.gone n :=
    State.gone_of_faults ((foldl_keeps State.faults (fun u g => u.faults_coldFrom g) _ _).trans rfl) hlogged
  have huntaken : untaken.gone n := State.gone_of_faults ((moved.faults_takeDieLost n).trans rfl) hcooled
  have hunreplayed : unreplayed.gone n := by
    refine State.gone_of_faults ?_ huntaken
    dsimp only [unreplayed]
    split
    · split
      · exact untaken.faults_breakReplay _
      · rfl
    · rfl
  have hunpended : unpended.gone n := by
    dsimp only [unpended]
    split
    · split
      · exact unreplayed.gone_abortPend _ hunreplayed
      · exact hunreplayed
    · exact hunreplayed
  have hchecked : checked.gone n :=
    State.gone_of_faults (((State.faults_validCheck _).trans (State.faults_trainedNow _)).trans
      (foldl_keeps State.faults (fun u _ => u.faults_stickyIf (by decide) _) _ unpended)) hunpended
  split
  · exact State.gone_of_faults ((State.faults_leaveTake _).trans ((State.faults_interruptTake _).trans (checked.faults_endChain 3)))
      hchecked
  · exact hchecked

/-! ## Cellar errors -/

/-- A count goes up and its flag is set, and the end of the command leaves both. -/
theorem State.counted_commit (t : State) {off k : Nat} {f : Fld} (hoff : off ≠ f.off) (ho : off ≠ Reg.GLB_INT_SUMMARY)
    (hf : f.off ≠ Reg.GLB_INT_SUMMARY) (hl : f.lo < 32) (hw : 0 < f.wd) :
    (commit t ((s.bump off k).sticky f)).reg off = s.reg off + BitVec.ofNat 32 k ∧ (commit t ((s.bump off k).sticky f)).flag f = true :=
  ⟨(reg_commit_ne _ _ ho).trans ((State.reg_sticky_ne _ hoff).trans (s.reg_bump_self off k)),
    (flag_commit hf).trans (flag_sticky _ hl hw)⟩

/-- Settles O15: a withdrawal of any cause leaves its die gone; corrected errors are counted where they are found. -/
theorem dieFaultsWithdrawAndCount : Obligations.DieFaultsWithdrawAndCount := by
  unfold Obligations.DieFaultsWithdrawAndCount
  intro s n hp hn hpow
  have hdie : dieOk n = true := decide_eq_true hn
  refine ⟨?withdrawn, ?counted, ?scrubbed⟩
  case withdrawn =>
    intro i hd hpres hw hi
    have hgone : ∀ {u t : State} {cause : Nat}, u.rol = s.rol → u.variant = s.variant → t = u.withdraw n cause →
        (commit s t).gone n := by
      rintro u _ cause hrol hvar rfl
      have hdies : u.die n = s.die n := by unfold State.die; rw [hrol]
      have hpres' : u.present n = true := by unfold State.present State.nDies at *; rwa [hvar]
      exact State.gone_commit s (u.gone_withdraw (by rw [State.diesOk, hrol]; exact hd) hn hpres' (hdies ▸ hw) cause)
    obtain rfl | rfl | rfl := hi
    · exact yields_of_runIf (exec_trellisLinkFail s n) hdie hp (hgone rfl rfl (if_pos hpow))
    · exact yields_of_runIf (exec_dieWatchdogMiss s n) hdie hp (hgone rfl rfl (if_pos hpow))
    · refine yields_of_runIf (exec_cellarEccError s n .caskA false) hdie hp
        (hgone (cause := Gone.cellar) (u := (s.bump Reg.CEL_ECC_UNCORR).sticky Fld.CEL_STATUS_ECC_UNCORR_SEEN) rfl rfl ?_)
      simp [State.doEcc, hpow]
  case counted =>
    intro g
    refine yields_of_runIf (exec_cellarEccError s n g true) hdie hp ?_
    have he : s.doEcc n g true = (s.bump Reg.CEL_ECC_CORR).sticky Fld.CEL_STATUS_ECC_CORR_SEEN := by
      simp [State.doEcc, hpow]
    rw [he]
    exact s.counted_commit s (by decide) (by decide) (by decide) (by decide) (by decide)
  case scrubbed =>
    intro c hc hc32 hen
    refine yields_of_runIf (exec_patrolScrub s n c) (by simpa [Instr.wf, hdie, u32] using hc32) hp ?_
    have he : s.doScrub n c = (s.bump Reg.CEL_ECC_CORR c).sticky Fld.CEL_STATUS_ECC_CORR_SEEN := by
      simp [State.doScrub, hpow, hen, hc]
    rw [he]
    exact s.counted_commit s (by decide) (by decide) (by decide) (by decide) (by decide)

end Sys2Proof.Machine
end

section
/-! What judging bursts leaves alone, whatever it is (R136 to R147). -/

namespace Sys2Proof.Machine

open Sys2Proof

/-- What shows no register of the host interface or of restoration, nothing of restoration, and of the frames in flight at most their
numbers and the rows that are still to be read out. -/
structure OffBurst {β : Type} (g : State → β) : Prop where
  host : OffHost g
  reg : ∀ s off v, off / 0x400 = 7 → g (State.setReg s off v) = g s
  trs : ∀ (s : State) x, g { s with trs := x } = g s
  frames : ∀ (s : State) (q : FrameW → FrameW), (∀ f, (q f).k = f.k ∧ (q f).openRows = f.openRows) → g (s.mapFrames q) = g s

namespace OffBurst

variable {β : Type} {g : State → β} (h : OffBurst g) (s : State)

include h

theorem setPair {lo : Nat} (hlo : lo / 0x400 = 7) (hhi : (lo + 4) / 0x400 = 7) (v : Nat) : g (s.setPair lo v) = g s :=
  (h.reg _ _ _ hhi).trans (h.reg s _ _ hlo)

theorem sticky {f : Fld} (ho : f.off / 0x400 = 7) : g (s.sticky f) = g s := (h.host.host _ _ s.hif).trans (h.reg s _ _ ho)

theorem stickyIf {f : Fld} (ho : f.off / 0x400 = 7) (c : Bool) : g (s.stickyIf c f) = g s := by
  cases c
  · rfl
  · exact h.sticky s ho

theorem handleFrom (f : Nat) (seed : Option Nat) : g (s.handleFrom f seed) = g s := by
  refine h.frames s _ fun q => ?_
  dsimp only
  split_ifs <;> exact ⟨rfl, rfl⟩

theorem retractFrom (f : Nat) : g (s.retractFrom f).1 = g s := by
  unfold State.retractFrom
  dsimp only
  split
  · rfl
  · exact h.trs s _

theorem coldFrom (k : Nat) : g (s.coldFrom k) = g s := by
  unfold State.coldFrom
  split
  · rfl
  · refine (h.frames _ _ fun q => ?_).trans (h.trs s _)
    split <;> exact ⟨rfl, rfl⟩

theorem seedAt (k : Nat) : g (s.seedAt k) = g s := by
  refine (h.coldFrom _ k).trans ((h.setPair _ (by decide) (by decide) _).trans ((h.trs _ _).trans ((h.trs _ _).trans
    (h.frames s _ fun q => ?_))))
  dsimp only
  split_ifs <;> exact ⟨rfl, rfl⟩

theorem endEpisode (k : Nat) : g (s.endEpisode k) = g s := by
  have hseeded : ∀ x, g (State.seedAt { s with trs.episode := x } k) = g s := fun _ => (h.seedAt _ k).trans (h.trs s _)
  unfold State.endEpisode
  split
  · rfl
  · dsimp only
    split
    · exact hseeded _
    · exact (h.reg _ _ _ (by decide)).trans (hseeded _)

theorem publishFlush (r : FlushRec) : g (s.publishFlush r) = g s := by
  have hmarked : ∀ (c : Bool) n, g (((s.sticky Fld.TRS_STATUS_FLUSH_SEEN).stickyIf c Fld.TRS_STATUS_RETRACT_SEEN).bump
      Reg.TRS_RETRACT_COUNT n) = g s := fun c n =>
    (h.reg _ _ _ (by decide)).trans ((h.stickyIf _ (by decide) c).trans (h.sticky s (by decide)))
  have hretracted : ∀ (c : Bool) (u : State) q, g (if c then u.formRec 1 q else u) = g u := by
    intro c u q
    cases c
    · rfl
    · exact h.host.formRec u (by decide) q
  unfold State.publishFlush
  exact (h.host.event _ _ _).trans ((hretracted _ _ _).trans (hmarked _ _))

theorem openEpisode (causes f start : Nat) (stop seed : Option Nat) : g (s.openEpisode causes f start stop seed) = g s := by
  have hnoted : ∀ (u : State) (x : Option Nat), g (match x with | some q => u.setPair Reg.TRS_SEED_FRAME_LO q | none => u) = g u := by
    intro u x
    split
    · exact h.setPair u (by decide) (by decide) _
    · rfl
  have hbegun : ∀ (u : State) (x : Option Nat),
      g (match x with | some q => if q ≤ u.integrating then u.endEpisode q else u | none => u) = g u := by
    intro u x
    split
    · split
      · exact h.endEpisode u _
      · rfl
    · rfl
  unfold State.openEpisode
  exact (hbegun _ _).trans ((h.publishFlush _ _).trans ((hnoted _ _).trans ((h.trs _ _).trans
    ((h.retractFrom _ _).trans (h.handleFrom s _ _)))))

theorem burstFlush (f : Nat) : g (s.burstFlush f) = g s := (h.openEpisode _ _ _ _ _ _).trans (h.sticky s (by decide))

theorem burstEnd (k stop : Nat) : g (s.burstEnd k stop) = g s := by
  have hclosed : ∀ (l : List FlushRec) (p : FlushRec → List Byte), g (l.foldl (fun u r => u.event 0x0006 (p r)) s) = g s := fun l p =>
    foldl_keeps g (fun u r => h.host.event u _ (p r)) l s
  have hwaited : ∀ (u : State) (e : Episode) q, g (if e.waiting = 0 then u else u.schedRecord q e.waiting) = g u := by
    intro u e q
    split
    · rfl
    · exact h.publishFlush u _
  have hended : ∀ (u : State) q x y, g (if q ≤ State.integrating { u with trs := x } then State.endEpisode { u with trs := x } q
      else State.setPair { u with trs := y } Reg.TRS_SEED_FRAME_LO q) = g u := by
    intro u q x y
    split
    · exact (h.endEpisode _ q).trans (h.trs u _)
    · exact (h.setPair _ (by decide) (by decide) _).trans (h.trs u _)
  unfold State.burstEnd
  split
  · rfl
  · split
    · rfl
    · exact (hended _ _ _ _).trans ((hwaited _ _ _).trans (hclosed _ _))

theorem judgeBurst (f : FrameW) : g (s.judgeBurst f) = g s := by
  have hflushed : ∀ (u : State) k, g (match (u.burstFlush k).frameOf (f.k + 1) with
      | some q => if q.closed && q.prepared && !q.burst then (u.burstFlush k).burstEnd q.k q.prev else u.burstFlush k
      | none => u.burstFlush k) = g u := by
    intro u k
    split
    · split
      · exact (h.burstEnd _ _ _).trans (h.burstFlush u k)
      · exact h.burstFlush u k
    · exact h.burstFlush u k
  unfold State.judgeBurst
  extract_lets run begun trs judged flushed
  have hjudged : g judged = g s := h.trs s _
  split
  · exact (hflushed _ _).trans ((h.trs judged _).trans hjudged)
  · exact hjudged

theorem judgeBursts : g s.judgeBursts = g s := by
  refine foldl_keeps g (fun u q => ?_) s.frames s
  split
  · dsimp only
    split
    · exact h.judgeBurst u _
    · rfl
  · rfl

end OffBurst

theorem rol_offBurst : OffBurst State.rol :=
  ⟨⟨fun _ _ _ _ => rfl, fun _ _ _ => rfl⟩, fun _ _ _ _ => rfl, fun _ _ => rfl, fun _ _ _ => rfl⟩

/-- A register of another block. -/
theorem reg_offBurst {o : Nat} (hhost : o / 0x400 ≠ 1) (htrs : o / 0x400 ≠ 7) : OffBurst fun u => u.reg o :=
  ⟨reg_offHost hhost, fun s off v hoff => s.reg_setReg_ne v (by rintro rfl; exact htrs hoff), fun _ _ => rfl, fun _ _ _ => rfl⟩

/-- The rows that each frame in flight still has to read out. -/
theorem openRows_offBurst : OffBurst fun u => u.frames.map fun f => (f.k, f.openRows) where
  host := ⟨fun _ _ _ _ => rfl, fun _ _ _ => rfl⟩
  reg _ _ _ _ := rfl
  trs _ _ := rfl
  frames s q hq := by
    show (s.frames.map q).map _ = _
    rw [List.map_map]
    exact List.map_congr_left fun f _ => Prod.ext (hq f).1 (hq f).2

end Sys2Proof.Machine
end

section
/-! Items that go back to the dispatcher, and what it does with them (R220, R231). -/

namespace Sys2Proof.Machine

open Sys2Proof

variable (s : State) (n : Nat) (i : ItemHdr)

theorem exec_readout : exec (.readout n i) s = runIf "READOUT" (Instr.wf (.readout n i)) (fun s => s.doReadout n i) s := rfl
theorem exec_halo (p : Nat) : exec (.halo n i p) s = runIf "HALO" (Instr.wf (.halo n i p)) (fun s => s.doHalo n i p) s := rfl
theorem exec_state : exec (.state n i) s = runIf "STATE" (Instr.wf (.state n i)) (fun s => s.doState n i) s := rfl
theorem exec_history : exec (.history n i) s = runIf "HISTORY" (Instr.wf (.history n i)) (fun s => s.doHistory n i) s := rfl
theorem exec_backfeed : exec (.backfeed n i) s = runIf "BACKFEED" (Instr.wf (.backfeed n i)) (fun s => s.doBackfeed n i) s := rfl
theorem exec_misdeliveredItemReturn : exec (.misdeliveredItemReturn n i) s =
    runIf "MISDELIVERED_ITEM_RETURN" (Instr.wf (.misdeliveredItemReturn n i)) (fun s => s.doItemReturn n i) s := rfl

/-! ## Items that go back -/

/-- An item that goes back joins the returned ones, and MISDELIVER_SEEN is set (R220, R231). -/
def State.WentBack (s t : State) (n kind : Nat) (i : ItemHdr) : Prop :=
  t.rol.returned = s.rol.returned ++ [(n, kind, i)] ∧ t.flag Fld.ROL_STATUS_MISDELIVER_SEEN = true

variable {s n i}

theorem State.wentBack_returnItem (kind : Nat) : s.WentBack (commit s (s.returnItem n kind i)) n kind i :=
  ⟨by rw [commit_rol]; rfl, (flag_commit (by decide)).trans (flag_sticky _ (by decide) (by decide))⟩

theorem State.doHalo_of_not_accepts (h : s.accepts n i.row i.version = false) (p : Nat) : s.doHalo n i p = s.returnItem n 1 i := by
  unfold State.doHalo
  exact if_pos (by rw [h]; rfl)

theorem State.doState_of_not_accepts (h : s.accepts n i.row i.version = false) : s.doState n i = s.returnItem n 2 i := by
  unfold State.doState
  exact if_pos (by rw [h]; rfl)

theorem State.doHistory_of_not_accepts (h : s.accepts n i.row i.version = false) : s.doHistory n i = s.returnItem n 3 i := by
  unfold State.doHistory
  exact if_pos (by rw [h]; rfl)

theorem State.doBackfeed_of_not_accepts (h : s.accepts n i.row i.version = false) : s.doBackfeed n i = s.returnItem n 4 i := by
  unfold State.doBackfeed
  exact if_pos (by rw [h]; rfl)

theorem State.rowSent_rol : (s.rowSent i).rol = s.rol := by
  unfold State.rowSent
  split
  · split <;> rfl
  · rfl

/-- A tile row that its die does not take goes back, and the bursts are judged (R138, R220). -/
theorem State.wentBack_readout (h : s.takesRow n i = false) : s.WentBack (commit s (s.doReadout n i)) n 0 i := by
  have he : s.doReadout n i = ((s.rowSent i).returnItem n 0 i).judgeBursts := by
    unfold State.doReadout
    exact if_pos (by rw [h]; rfl)
  have hrol : ((s.rowSent i).returnItem n 0 i).judgeBursts.rol.returned = s.rol.returned ++ [(n, 0, i)] := by
    rw [rol_offBurst.judgeBursts, ← s.rowSent_rol (i := i)]
    rfl
  have hflag : ((s.rowSent i).returnItem n 0 i).judgeBursts.flag Fld.ROL_STATUS_MISDELIVER_SEEN = true :=
    (flag_of_reg ((reg_offBurst (o := Reg.ROL_STATUS) (by decide) (by decide)).judgeBursts _)).trans
      (flag_sticky _ (by decide) (by decide))
  rw [he]
  exact ⟨by rw [commit_rol, hrol], (flag_commit (by decide)).trans hflag⟩

/-! ## Frames with a missing row -/

theorem FrameW.not_mem_openRows_lose (f : FrameW) (row : Nat) : row ∉ (f.lose row).openRows := fun h => by
  simpa using (List.mem_filter.1 h).2

/-- A row that is added to a list, where it is not there yet, is there. -/
theorem mem_addRow (l : List Nat) (row : Nat) : row ∈ (if l.contains row then l else l ++ [row]) := by
  split
  · next h => exact List.contains_iff_mem.1 h
  · exact List.mem_append_right _ (List.mem_singleton_self row)

theorem FrameW.mem_missCom_lose {f : FrameW} (h : f.comDone = false) (row : Nat) : row ∈ (f.lose row).missCom := by
  have he : (f.lose row).missCom = if f.missCom.contains row then f.missCom else f.missCom ++ [row] := if_neg (by rw [h]; decide)
  exact he ▸ mem_addRow _ _

theorem FrameW.mem_missPrev_lose {f : FrameW} (h : f.prevDone = false) (row : Nat) : row ∈ (f.lose row).missPrev := by
  have he : (f.lose row).missPrev = if f.missPrev.contains row then f.missPrev else f.missPrev ++ [row] := if_neg (by rw [h]; decide)
  exact he ▸ mem_addRow _ _

/-- A frame that was put in place is found under its number. -/
theorem State.frameOf_setFrame {k : Nat} {f g : FrameW} (hf : s.frameOf k = some f) (hg : g.k = k) : (s.setFrame g).frameOf k = some g := by
  have hk : (fun q : FrameW => decide (q.k = k)) ∘ (fun q => if q.k = g.k then g else q) = fun q => decide (q.k = k) := by
    funext q
    by_cases hq : q.k = k
    · simp [hq, hg]
    · simp [hq, hg]
  have hfound : s.frames.find? (fun q => decide (q.k = k)) = some f := hf
  show (s.frames.map fun q => if q.k = g.k then g else q).find? _ = _
  rw [List.find?_map, hk, hfound, Option.map_some, if_pos ((State.k_of_frameOf s hf).trans hg.symm)]

/-! ## The dispatcher -/

/-- The die that owns an item's row under its version. -/
def State.ownerFor (s : State) (i : ItemHdr) : Option Nat := (s.mapOfVersion i.version).bind fun m => ownerOf m i.row

/-- An item goes on from die `n` to die `d` (R220). -/
def State.goesOn (s : State) (n : Nat) (i : ItemHdr) (d : Nat) : Prop :=
  s.ownerFor i = some d ∧ d ≠ n ∧ (s.die d).ready = true ∧ s.accepts d i.row i.version = true

theorem State.dispatch_of_goesOn {d : Nat} (h : s.goesOn n i d) (kind : Nat) :
    s.dispatch n kind i = (s.emit (.item d kind i)).bump Reg.ROL_FWD_COUNT := by
  obtain ⟨ho, hd, hready, hacc⟩ := h
  unfold State.ownerFor at ho
  simp [State.dispatch, ho, hd, hready, hacc]

/-- An item that goes on to no die: its row is missing in its frame, or it is stale. -/
theorem State.dispatch_of_stays (h : ∀ d, ¬s.goesOn n i d) (kind : Nat) :
    s.dispatch n kind i = match (s.frameOf i.frame).filter fun f => !f.comDone with
      | some f => s.putMissing (f.lose i.row)
      | none => s.bump Reg.ROL_STALE_COUNT := by
  have hstays : (match s.ownerFor i with
      | some d => d ≠ n && (s.die d).ready && s.accepts d i.row i.version
      | none => false) = false := by
    cases ho : s.ownerFor i with
    | none => rfl
    | some d =>
      by_contra hgo
      refine h d ⟨ho, ?_⟩
      simpa [and_assoc] using hgo
  unfold State.dispatch
  exact if_neg (ne_true_of_eq_false hstays)

/-- Once the item is off the list, the dispatcher deals with it as if nothing had been returned. -/
theorem State.doItemReturn_of_found {e : Nat × Nat × ItemHdr} (he : s.rol.returned.find? (fun e => e.1 = n ∧ e.2.2 = i) = some e) :
    s.doItemReturn n i = State.dispatch { s with rol.returned := s.rol.returned.erase e } n e.2.1 i := by
  unfold State.doItemReturn
  rw [he]

section returned

variable {e : Nat × Nat × ItemHdr} (hp : s.powered) (hw : Instr.wf (.misdeliveredItemReturn n i) = true)
  (he : s.rol.returned.find? (fun e => e.1 = n ∧ e.2.2 = i) = some e)

include hp hw he

/-- A returned item that goes on to another die. -/
theorem yields_itemReturn_forwarded {d : Nat} (hd : s.goesOn n i d) :
    Yields (.misdeliveredItemReturn n i) s fun t => t.rol.returned = s.rol.returned.erase e ∧ Sent s t (.item d e.2.1 i) ∧
      t.reg Reg.ROL_FWD_COUNT = s.reg Reg.ROL_FWD_COUNT + 1 ∧ t.frames = s.frames := by
  refine yields_of_runIf (exec_misdeliveredItemReturn s n i) hw hp ?_
  let u : State := { s with rol.returned := s.rol.returned.erase e }
  have hu : u.goesOn n i d := hd
  have hsent : Sent s ((u.emit (.item d e.2.1 i)).bump Reg.ROL_FWD_COUNT) (.item d e.2.1 i) := ⟨[_], rfl, .head _⟩
  rw [s.doItemReturn_of_found he, u.dispatch_of_goesOn hu, commit_rol, commit_frames, reg_commit_ne _ _ (by decide)]
  exact ⟨rfl, hsent.later (outs_suffix_commit _ _), State.reg_bump_self _ _ _, rfl⟩

/-- A returned item that goes on to no die, and whose frame has completed, is stale. -/
theorem yields_itemReturn_stale (hstays : ∀ d, ¬s.goesOn n i d) (hf : ∀ f, s.frameOf i.frame = some f → f.comDone = true) :
    Yields (.misdeliveredItemReturn n i) s fun t => t.rol.returned = s.rol.returned.erase e ∧
      t.reg Reg.ROL_STALE_COUNT = s.reg Reg.ROL_STALE_COUNT + 1 ∧ t.frames = s.frames := by
  refine yields_of_runIf (exec_misdeliveredItemReturn s n i) hw hp ?_
  let u : State := { s with rol.returned := s.rol.returned.erase e }
  have hu : ∀ d, ¬u.goesOn n i d := hstays
  have hnone : (u.frameOf i.frame).filter (fun f => !f.comDone) = none := by
    rw [Option.filter_eq_none_iff]
    exact fun f hm => by rw [hf f hm]; decide
  rw [s.doItemReturn_of_found he, u.dispatch_of_stays hu, hnone, commit_rol, commit_frames, reg_commit_ne _ _ (by decide)]
  exact ⟨rfl, State.reg_bump_self _ _ _, rfl⟩

/-- A returned item that goes on to no die, of a frame that is not complete: its row is missing there. -/
theorem yields_itemReturn_missing (hstays : ∀ d, ¬s.goesOn n i d) {f : FrameW} (hf : s.frameOf i.frame = some f)
    (hopen : f.comDone = false) :
    Yields (.misdeliveredItemReturn n i) s fun t => t.rol.returned = s.rol.returned.erase e ∧
      t.reg Reg.ROL_MISSING_COUNT = s.reg Reg.ROL_MISSING_COUNT + 1 ∧ t.flag Fld.ROL_STATUS_MISSING_SEEN = true ∧
      ∃ g, t.frameOf i.frame = some g ∧ i.row ∈ g.missCom ∧ i.row ∉ g.openRows ∧
        (f.prevDone = false → i.row ∈ g.missPrev) := by
  refine yields_of_runIf (exec_misdeliveredItemReturn s n i) hw hp ?_
  let u : State := { s with rol.returned := s.rol.returned.erase e }
  have hu : ∀ d, ¬u.goesOn n i d := hstays
  have hfu : u.frameOf i.frame = some f := hf
  have hsome : (u.frameOf i.frame).filter (fun f => !f.comDone) = some f := by
    rw [hfu, Option.filter_some, if_pos (by rw [hopen]; rfl)]
  have hput : (commit s (u.putMissing (f.lose i.row))).frameOf i.frame = some (f.lose i.row) := by
    unfold State.frameOf
    rw [commit_frames]
    exact State.frameOf_setFrame hfu (State.k_of_frameOf (f := f) s hf)
  obtain ⟨hcount, hseen⟩ := (u.setFrame (f.lose i.row)).counted_commit s (k := 1) (off := Reg.ROL_MISSING_COUNT)
    (f := Fld.ROL_STATUS_MISSING_SEEN) (by decide) (by decide) (by decide) (by decide) (by decide)
  rw [s.doItemReturn_of_found he, u.dispatch_of_stays hu, hsome]
  exact ⟨by rw [commit_rol]; rfl, hcount, hseen, _, hput, FrameW.mem_missCom_lose hopen _, f.not_mem_openRows_lose _,
    fun hprev => FrameW.mem_missPrev_lose hprev _⟩

end returned

/-- Settles O16: a refused item goes back by the rule of its kind; a returned one by where it goes on and what its frame is. -/
theorem misdeliveredItemsGoBack : Obligations.MisdeliveredItemsGoBack := by
  unfold Obligations.MisdeliveredItemsGoBack
  intro s n i hp hn hi seen
  have hdie : dieOk n = true := decide_eq_true hn
  have hw : (dieOk n && itemOk i) = true := by rw [hdie, hi]; rfl
  refine ⟨fun hacc => ⟨fun p h1 h6 => ?halo, ?state, ?history, ?backfeed⟩, fun htakes => ?readout, fun e he => ?returned⟩
  case halo =>
    refine yields_of_runIf (exec_halo s n i p) (by simp [Instr.wf, hdie, hi, h1, h6]) hp ?_
    rw [State.doHalo_of_not_accepts hacc]
    exact State.wentBack_returnItem 1
  case state =>
    refine yields_of_runIf (exec_state s n i) hw hp ?_
    rw [State.doState_of_not_accepts hacc]
    exact State.wentBack_returnItem 2
  case history =>
    refine yields_of_runIf (exec_history s n i) hw hp ?_
    rw [State.doHistory_of_not_accepts hacc]
    exact State.wentBack_returnItem 3
  case backfeed =>
    refine yields_of_runIf (exec_backfeed s n i) hw hp ?_
    rw [State.doBackfeed_of_not_accepts hacc]
    exact State.wentBack_returnItem 4
  case readout => exact yields_of_runIf (exec_readout s n i) hw hp (State.wentBack_readout htakes)
  case returned =>
    exact ⟨fun d => yields_itemReturn_forwarded hp hw he, yields_itemReturn_stale hp hw he,
      fun hstays f hf hopen => yields_itemReturn_missing hp hw he hstays hf hopen⟩

end Sys2Proof.Machine
end

section
/-! Items that their die accepts do their work (R219, R220, R222 to R224). -/

namespace Sys2Proof.Machine

open Sys2Proof

variable (s : State)

/-! ## Rows that are read out -/

/-- Row `row` of frame `k` is no longer to be read out. -/
def State.rowRead (s : State) (k row : Nat) : Prop := ∀ g ∈ s.frames, g.k = k → row ∉ g.openRows

variable {k row : Nat}

theorem State.rowRead_of_frames {s t : State} (h : t.frames = s.frames) (hs : s.rowRead k row) : t.rowRead k row := by
  unfold State.rowRead
  rwa [h]

/-- A frame put in place leaves a row read that it does not open. -/
theorem State.rowRead_setFrame {f : FrameW} (hs : s.rowRead k row) (hf : f.k = k → row ∉ f.openRows) :
    (s.setFrame f).rowRead k row := by
  intro g hg hk
  by_cases hgf : g.k = f.k
  · rw [s.eq_of_mem_setFrame hg hgf]
    exact hf (hgf.symm.trans hk)
  · obtain ⟨q, hq, rfl⟩ := List.mem_map.1 hg
    have hne : q.k ≠ f.k := fun h => hgf (by rw [if_pos h])
    rw [if_neg hne] at hk ⊢
    exact hs q hq hk

theorem State.noteRow_frames (f : FrameW) (g : Array (Array GainOut)) (r : Nat) : (s.noteRow f g r).frames = s.frames :=
  (State.stickyIf_frames _ _ _).trans (State.stickyIf_frames _ _ _)

theorem State.rowRead_commitRow (hs : s.rowRead k row) {f : FrameW} (hf : f ∈ s.frames) (t : List Int) (r : Nat) :
    (s.commitRow f t r).rowRead k row := by
  have hnoted : ∀ g, (s.noteRow f g r).rowRead k row := fun g => State.rowRead_of_frames (s.noteRow_frames f g r) hs
  unfold State.commitRow
  dsimp only
  split
  · exact State.rowRead_setFrame _ (State.rowRead_of_frames (s := s.noteRow f _ r) rfl (hnoted _)) (hs f hf)
  · exact State.rowRead_setFrame _ (hnoted _) (hs f hf)

theorem State.rowRead_tryRow (hs : s.rowRead k row) (m r : Nat) : (s.tryRow m r).rowRead k row := by
  unfold State.tryRow
  split
  · exact hs
  next f hf =>
    split
    · exact hs
    · split
      · exact hs
      · exact s.rowRead_commitRow hs (List.mem_of_find?_eq_some hf) _ r

theorem State.rowRead_catchUp (hs : s.rowRead k row) : s.catchUp.rowRead k row :=
  List.foldlRecOn (motive := fun u : State => u.rowRead k row) _ _ hs fun _ hu f _ =>
    List.foldlRecOn (motive := fun u : State => u.rowRead k row) _ _ hu fun v hv r _ => v.rowRead_tryRow hv f.k r

theorem State.rowRead_judgeBursts (hs : s.rowRead k row) : s.judgeBursts.rowRead k row := by
  intro g hg hk
  have hmem : (g.k, g.openRows) ∈ s.frames.map fun f => (f.k, f.openRows) := by
    rw [← openRows_offBurst.judgeBursts]
    exact List.mem_map_of_mem hg
  obtain ⟨q, hq, he⟩ := List.mem_map.1 hmem
  obtain ⟨hqk, hqo⟩ := Prod.mk.inj he
  rw [← hqo]
  exact hs q hq (hqk.trans hk)

/-- A row that is due is read out. -/
theorem State.rowRead_doReadout {n : Nat} {i : ItemHdr} {f : FrameW} (htakes : s.takesRow n i = true) (hf : s.frameOf i.frame = some f)
    (hdue : s.rowDue f i = true) : (s.doReadout n i).rowRead i.frame i.row := by
  unfold State.doReadout
  rw [if_neg (by rw [htakes]; decide), hf]
  dsimp only
  rw [if_neg (by rw [hdue]; decide)]
  refine fun g hg => State.rowRead_judgeBursts _ (State.rowRead_catchUp _ ?_) g (State.tidy_frames_subset _ hg)
  rintro g hg hk hrow
  obtain ⟨q, -, rfl⟩ := List.mem_map.1 hg
  by_cases hq : q.k = f.k
  · rw [if_pos hq] at hrow
    simpa using (List.mem_filter.1 hrow).2
  · rw [if_neg hq] at hk
    exact hq (hk.trans (State.k_of_frameOf s hf).symm)

/-! ## Moved rows -/

theorem State.commitRow_rol (f : FrameW) (t : List Int) (r : Nat) : (s.commitRow f t r).rol = s.rol := by
  have hnoted : ∀ g, (s.noteRow f g r).rol = s.rol := fun g => (State.stickyIf_rol _ _ _).trans (State.stickyIf_rol _ _ _)
  unfold State.commitRow
  dsimp only
  split <;> exact hnoted _

theorem State.tryRow_rol (m r : Nat) : (s.tryRow m r).rol = s.rol := by
  unfold State.tryRow
  split
  · rfl
  · split
    · rfl
    · split
      · rfl
      · exact s.commitRow_rol _ _ _

theorem State.catchUp_rol : s.catchUp.rol = s.rol :=
  foldl_keeps State.rol (f := fun (u : State) (f : FrameW) => f.gotRows.foldl (fun v r => v.tryRow f.k r) u)
    (fun u f => foldl_keeps State.rol (fun v r => v.tryRow_rol f.k r) f.gotRows u) s.frames s

/-- A move of the row to the die is changed. -/
theorem State.mem_modMove {m : Move} (hm : m ∈ s.rol.moves) {dst : Nat} (hr : m.row = row) (hd : m.dst = dst) (g : Move → Move) :
    g m ∈ (s.modMove row dst g).rol.moves := List.mem_map.2 ⟨m, hm, if_pos ⟨hr, hd⟩⟩

variable {n : Nat} {i : ItemHdr}

/-- The carries of a moved row that was restored before have arrived. -/
theorem State.stateDone_doState (hacc : s.accepts n i.row i.version = true) {m : Move}
    (hm : s.rol.moves.find? (fun m => m.row = i.row && m.dst = n && !m.stateDone) = some m) (hfrom : s.movedFrom m = true) :
    ∃ m' ∈ (s.doState n i).rol.moves, m'.row = i.row ∧ m'.dst = n ∧ m'.stateDone = true := by
  have hfound := List.find?_some hm
  simp only [Bool.and_eq_true, decide_eq_true_eq] at hfound
  obtain ⟨⟨hrow, hdst⟩, -⟩ := hfound
  refine ⟨{ m with stateDone := true }, ?_, hrow, hdst, rfl⟩
  unfold State.doState
  rw [if_neg (by rw [hacc]; decide), hm]
  dsimp only
  rw [if_neg (by rw [hfrom]; decide), State.catchUp_rol]
  exact s.mem_modMove (List.mem_of_find?_eq_some hm) hrow hdst fun m => { m with stateDone := true }

/-- The history of a moved row has arrived, once its carries have. -/
theorem State.historyDone_doHistory (hacc : s.accepts n i.row i.version = true) {m : Move} (hm : m ∈ s.rol.moves) (hrow : m.row = i.row)
    (hdst : m.dst = n) (hst : m.stateDone = true) :
    ∃ m' ∈ (s.doHistory n i).rol.moves, m'.row = i.row ∧ m'.dst = n ∧ m'.historyDone = true := by
  refine ⟨{ m with historyDone := true }, ?_, hrow, hdst, rfl⟩
  unfold State.doHistory
  rw [if_neg (by rw [hacc]; decide), if_pos (List.any_eq_true.2 ⟨m, hm, by simp [hrow, hdst, hst]⟩)]
  exact s.mem_modMove hm hrow hdst fun m => { m with historyDone := true }

/-- A restored value of a moved row goes back to its old owner. -/
theorem State.backfed_doBackfeed (hacc : s.accepts n i.row i.version = true) {m : Move} {f : FrameW}
    (hm : s.rol.moves.find? (fun m => m.row = i.row && m.src = n && m.k0 < i.frame) = some m) (hf : s.frameOf i.frame = some f)
    (hstream : f.streamed = true) (hdone : f.rowDone i.row = true) (hnew : i.frame ∉ m.backfed) :
    ∃ m' ∈ (s.doBackfeed n i).rol.moves, m'.row = i.row ∧ m'.src = n ∧ i.frame ∈ m'.backfed := by
  have hfound := List.find?_some hm
  simp only [Bool.and_eq_true, decide_eq_true_eq] at hfound
  obtain ⟨⟨hrow, hsrc⟩, -⟩ := hfound
  refine ⟨{ m with backfed := m.backfed ++ [i.frame] }, ?_, hrow, hsrc, List.mem_append_right _ (List.mem_singleton_self _)⟩
  unfold State.doBackfeed
  rw [if_neg (by rw [hacc]; decide), hm]
  dsimp only
  rw [hf]
  dsimp only
  rw [if_pos (by simp [hstream, hdone, hnew])]
  exact s.mem_modMove (List.mem_of_find?_eq_some hm) hrow rfl fun m => { m with backfed := m.backfed ++ [i.frame] }

/-! ## Halos -/

/-- A halo part that its sender has, and that is not there yet, is there. -/
theorem State.halos_doHalo (hacc : s.accepts n i.row i.version = true) {f : FrameW} (hf : s.frameOf i.frame = some f)
    (hstream : f.streamed = true) (hver : f.version = i.version) (hopen : (if i.preview then f.prevDone else f.comDone) = false)
    {part edge p : Nat} {down : Bool} (hdown : decide (part ≤ 3) = down) (hp : (if down then part else part - 3) = p)
    (hedge : (if down then i.row - 1 else i.row) = edge) (hrow : down = true → 0 < i.row) (hmem : edge ∈ f.haloEdges)
    (hnew : (edge, p, down, i.preview) ∉ f.halos) (hready : s.haloReady f edge p down i.preview = true) :
    ∃ g ∈ (s.doHalo n i part).frames, g.k = f.k ∧ g.halos = f.halos ++ [(edge, p, down, i.preview)] := by
  have hfirst : (down && decide (i.row = 0)) = false := by
    cases down
    · rfl
    · simpa using Nat.ne_of_gt (hrow rfl)
  have he : s.doHalo n i part = s.setFrame { f with halos := f.halos ++ [(edge, p, down, i.preview)] } := by
    unfold State.doHalo
    rw [if_neg (by rw [hacc]; decide), hf]
    dsimp only
    rw [hdown, hp, hedge]
    exact if_pos (by simp [hstream, hver, hopen, hfirst, hmem, hnew, hready])
  rw [he]
  exact ⟨_, List.mem_map.2 ⟨f, List.mem_of_find?_eq_some hf, if_pos rfl⟩, rfl, rfl⟩

/-- Settles O17: each item by the rule of its kind above. -/
theorem workItemsArrive : Obligations.WorkItemsArrive := by
  unfold Obligations.WorkItemsArrive
  intro s n i hp hn hi
  have hdie : dieOk n = true := decide_eq_true hn
  have hw : (dieOk n && itemOk i) = true := by rw [hdie, hi]; rfl
  refine ⟨fun f htakes hf hdue => ?readout, fun hacc => ⟨?above, ?below, ?state, ?history, ?backfeed⟩⟩
  case readout =>
    refine yields_of_runIf (exec_readout s n i) hw hp ?_
    rw [commit_frames]
    exact s.rowRead_doReadout htakes hf hdue
  case above =>
    intro f p h1 h3 hrow hf hstream hver hopen hmem hnew hready
    refine yields_of_runIf (exec_halo s n i p) (by simp [Instr.wf, hdie, hi, h1]; omega) hp ?_
    rw [commit_frames]
    exact s.halos_doHalo hacc hf hstream hver hopen (decide_eq_true h3) rfl rfl (fun _ => hrow) hmem hnew hready
  case below =>
    intro f p h1 h3 hf hstream hver hopen hmem hnew hready
    refine yields_of_runIf (exec_halo s n i (p + 3)) (by simp [Instr.wf, hdie, hi]; omega) hp ?_
    rw [commit_frames]
    exact s.halos_doHalo hacc hf hstream hver hopen (decide_eq_false (by omega)) (Nat.add_sub_cancel p 3) rfl (fun h => nomatch h) hmem
      hnew hready
  case state =>
    intro m hm hfrom
    refine yields_of_runIf (exec_state s n i) hw hp ?_
    rw [commit_rol]
    exact s.stateDone_doState hacc hm hfrom
  case history =>
    intro m hm hrow hdst hst
    refine yields_of_runIf (exec_history s n i) hw hp ?_
    rw [commit_rol]
    exact s.historyDone_doHistory hacc hm hrow hdst hst
  case backfeed =>
    intro m f hm hf hstream hdone hnew
    refine yields_of_runIf (exec_backfeed s n i) hw hp ?_
    rw [commit_rol]
    exact s.backfed_doBackfeed hacc hm hf hstream hdone hnew

end Sys2Proof.Machine
end

section
/-! BIST_RUN, and CONTROL items on the die that they name (R221, R416). -/

namespace Sys2Proof.Machine

open Sys2Proof

variable (s : State)

theorem exec_bistRun (h : Hdr) (die unit slices : Nat) :
    exec (.bistRun h die unit slices) s =
      runIf "BIST_RUN" (Instr.wf (.bistRun h die unit slices)) (fun s => s.doBistRun h die unit slices) s := rfl

/-! ## Runs of named slices -/

theorem State.takeEgress_runs : s.takeEgress.bst.runs = s.bst.runs := by
  unfold State.takeEgress
  dsimp only
  split <;> rfl

theorem State.startSlice_runs (r : SliceRun) : (s.startSlice r).bst.runs = s.bst.runs := by
  have hbegun : (let s := { s with bst.running := s.bst.running ++ [{ r with start := s.mono }] }
      if r.id.die < 5 then s.setDie r.id.die { s.die r.id.die with renewed := false } else s).bst.runs = s.bst.runs := by
    dsimp only
    split <;> rfl
  rw [← hbegun]
  unfold State.startSlice
  dsimp only
  generalize (if r.id.die < 5 then _ else _ : State) = u
  split_ifs
  · rfl
  · exact State.takeEgress_runs _
  · rfl
  · rfl
  · rfl

theorem State.tryStart_runs (r : SliceRun) : (s.tryStart r).bst.runs = s.bst.runs := by
  unfold State.tryStart
  split
  · exact s.startSlice_runs r
  · rfl

/-- A run that names a slice of its unit begins with it, where no other BIST_RUN stands on the die. -/
theorem State.startNamed_runs {die unit slices : Nat} (hfree : ∀ r ∈ s.bst.runs, r.die = die → r.kind ≠ Owner.bistRun)
    (hany : (unitSlices die unit).any (fun t => bitN slices t.2) = true) (cid : Nat) :
    (s.startNamed die unit slices cid).bst.runs = s.bst.runs ++ [namedRun die unit slices cid s.mono] := by
  let u : State := { s with bst.runs := s.bst.runs ++ [namedRun die unit slices cid s.mono] }
  have hfind : u.bst.runs.find? (fun r => r.isOf die Owner.bistRun (some cid)) = some (namedRun die unit slices cid s.mono) := by
    have hnone : s.bst.runs.find? (fun r => r.isOf die Owner.bistRun (some cid)) = none :=
      List.find?_eq_none.2 fun r hr his => by
        simp only [BistRun.isOf, Bool.and_eq_true, decide_eq_true_eq] at his
        exact hfree r hr his.1.1 his.1.2
    rw [List.find?_append, hnone]
    simp [BistRun.isOf, namedRun]
  obtain ⟨t, ht, hbit⟩ := List.any_eq_true.1 hany
  have hmem : t ∈ (namedRun die unit slices cid s.mono).todo := List.mem_filter.2 ⟨ht, hbit⟩
  show (u.advanceRun die Owner.bistRun (some cid)).bst.runs = u.bst.runs
  unfold State.advanceRun
  rw [hfind]
  dsimp only
  split
  · next h => rw [h] at hmem; cases hmem
  · exact u.tryStart_runs _

/-- The slices that a BIST_RUN may name are there (R416). -/
theorem State.any_of_bistBad {die unit slices : Nat} (h : s.bistBad die unit slices = none) :
    (unitSlices (bistDie die unit) unit).any (fun t => bitN slices t.2) = true := by
  have hslices : slices ≠ 0 ∧ slices < 2 ^ sliceCount (bistDie die unit) unit := by
    unfold State.bistBad at h
    split at h
    · cases h
    · dsimp only at h
      split at h
      · cases h
      · split at h
        · cases h
        · omega
  obtain ⟨b, hb⟩ := Nat.exists_testBit_of_ne_zero hslices.1
  have hlt : b < sliceCount (bistDie die unit) unit := by
    by_contra hge
    have hsmall := hslices.2.trans_le (Nat.pow_le_pow_right (by decide : 0 < 2) (Nat.not_lt.1 hge))
    rw [Nat.testBit_lt_two_pow hsmall] at hb
    cases hb
  exact List.any_eq_true.2 ⟨(unit, b), List.mem_map.2 ⟨b, List.mem_range.2 hlt, rfl⟩, hb⟩

/-! ## BIST_RUN (R416) -/

/-- A command that is given a job is outstanding with it. -/
theorem State.mem_setJob_accepted (h : Hdr) (op : Nat) (j : Job) :
    { s.newCmd h op with job := j } ∈ ((s.accepted h op).setJob s.hif.nextCid j).hif.outstanding :=
  List.mem_map.2 ⟨s.newCmd h op, List.mem_append_right _ (List.mem_singleton_self _), if_pos rfl⟩

section bistRun

variable {h : Hdr} {die unit slices : Nat} (ht : s.taken h Op.bistRun 1) (hd : die < 2 ^ 8) (hu : unit < 2 ^ 8) (hs : slices < 2 ^ 32)
  (hbad : s.bistBad die unit slices = none) (hfree : s.bistBusy (bistDie die unit) unit = false)

include ht hbad hfree in
theorem State.doBistRun_of_good : s.doBistRun h die unit slices =
    if bistDie die unit < 5 then (s.accepted h Op.bistRun).setJob s.hif.nextCid (.bist (bistDie die unit) unit slices)
    else (s.accepted h Op.bistRun).startNamed (bistDie die unit) unit slices s.hif.nextCid := by
  have hfree' : (s.accepted h Op.bistRun).bistBusy (bistDie die unit) unit = false := hfree
  unfold State.doBistRun
  rw [s.acceptCmd_of_taken ht hbad]
  dsimp only
  rw [hfree']
  rfl

include ht hd hu hs in
theorem yields_bistRun {P : State → Prop} (hP : P (commit s (s.doBistRun h die unit slices))) :
    Yields (.bistRun h die unit slices) s P := by
  refine yields_of_runIf (exec_bistRun s h die unit slices) ?_ ht.1 hP
  simp only [Instr.wf, ht.2.1, u8, u32, decide_eq_true hd, decide_eq_true hu, decide_eq_true hs, Bool.and_self]

include ht hd hu hs hbad hfree

/-- A BIST_RUN of a die waits for its CONTROL item. -/
theorem yields_bistRun_sent (hp : bistDie die unit < 5) :
    Yields (.bistRun h die unit slices) s fun t => ∃ c ∈ t.hif.outstanding, c.cid = s.hif.nextCid ∧ c.tag = h.tag ∧
      c.job = .bist (bistDie die unit) unit slices := by
  refine yields_bistRun s ht hd hu hs ?_
  rw [s.doBistRun_of_good ht hbad hfree, if_pos hp, commit_hif]
  exact ⟨_, s.mem_setJob_accepted h Op.bistRun _, rfl, rfl, rfl⟩

/-- A BIST_RUN of H or S2 begins at once. -/
theorem yields_bistRun_begun (hp : 5 ≤ bistDie die unit)
    (hnone : ∀ r ∈ s.bst.runs, r.die = bistDie die unit → r.kind ≠ Owner.bistRun) :
    Yields (.bistRun h die unit slices) s fun t => ∃ r ∈ t.bst.runs, r.die = bistDie die unit ∧ r.unit = unit ∧
      r.requested = slices ∧ r.cid = some s.hif.nextCid := by
  refine yields_bistRun s ht hd hu hs ?_
  rw [s.doBistRun_of_good ht hbad hfree, if_neg (Nat.not_lt.2 hp), commit_bst,
    (s.accepted h Op.bistRun).startNamed_runs hnone (s.any_of_bistBad hbad)]
  exact ⟨_, List.mem_append_right _ (List.mem_singleton_self _), rfl, rfl, rfl, rfl⟩

end bistRun

/-! ## CONTROL items (R221) -/

/-- A CONTROL item begins the run of its BIST_RUN on a die that stays in BIST. -/
theorem State.doControl_begins {die cid unit slices : Nat} (hj : s.jobOf cid = .bist die unit slices) (hh : s.holds die .bist = true)
    (hr : s.rotRunOn die = false) (hfree : ∀ r ∈ s.bst.runs, r.die = die → r.kind ≠ Owner.bistRun)
    (hstays : ∀ m, s.rol.pend = some m → (mapAt m.map die).role ≠ .stripe ∧ (mapAt m.map die).role ≠ .spare)
    (hany : (unitSlices die unit).any (fun t => bitN slices t.2) = true) :
    (s.doControl die cid).bst.runs = s.bst.runs ++ [namedRun die unit slices cid s.mono] := by
  let u := (s.setJob cid .none).startNamed die unit slices cid
  have hpend : u.rol.pend = s.rol.pend := congrArg Apart.pend ((State.apart_advanceRun _ _ _ _).trans rfl : u.apart = s.apart)
  have hleft : u.releave die = u := by
    unfold State.releave
    split
    · next m hm => exact if_neg (not_or.2 (hstays m (hpend ▸ hm)))
    · rfl
  have he : s.doControl die cid = u.releave die := by simp [State.doControl, hj, hh, hr, u]
  rw [he, hleft]
  exact (s.setJob cid .none).startNamed_runs hfree hany cid

/-- A CONTROL item whose die does not hold the role that its command needs ends the command, and alters no run, replay, map or die. -/
theorem State.doControl_misses {die cid : Nat} {c : OutCmd} {role : Role} (hc : s.hif.outstanding.find? (·.cid = cid) = some c)
    (hj : (∃ unit slices, s.jobOf cid = .bist die unit slices ∧ role = Role.bist) ∨
      (∃ take mode first count interval, s.jobOf cid = .replay die take mode first count interval ∧ role = Role.replay))
    (hh : s.holds die role = false) (hb : s.busOk = true) :
    ∃ u : State, s.doControl die cid = u.sticky Fld.ROL_STATUS_MISDELIVER_SEEN ∧
      Completed s u c.tag c.opcode St.misdelivered Why.none ∧ u.bst = s.bst ∧ u.cel = s.cel ∧ u.rol = s.rol := by
  obtain ⟨unit, slices, hj, rfl⟩ | ⟨take, mode, first, count, interval, hj, rfl⟩ := hj
  · refine ⟨s.failBist die unit slices cid St.misdelivered Why.none, ?_, s.completed_complete hc hb _ _ _ _,
      State.complete_bst _ _ _ _ _ _, State.complete_cel _ _ _ _ _ _, State.complete_rol _ _ _ _ _ _⟩
    simp [State.doControl, hj, hh, State.controlMissed]
  · refine ⟨s.fail cid St.misdelivered Why.none, ?_, s.completed_fail hc hb _ _, State.fail_bst _ _ _ _, State.fail_cel _ _ _ _,
      State.fail_rol _ _ _ _⟩
    simp [State.doControl, hj, hh, State.controlMissed]

theorem yields_control_missed {die cid : Nat} {c : OutCmd} {role : Role} (hp : s.powered) (hdie : die < 5)
    (hc : s.hif.outstanding.find? (·.cid = cid) = some c)
    (hj : (∃ unit slices, s.jobOf cid = .bist die unit slices ∧ role = Role.bist) ∨
      (∃ take mode first count interval, s.jobOf cid = .replay die take mode first count interval ∧ role = Role.replay))
    (hh : s.holds die role = false) (hb : s.busOk = true) :
    Yields (.control die cid) s fun t => Completed s t c.tag c.opcode St.misdelivered Why.none ∧
      t.flag Fld.ROL_STATUS_MISDELIVER_SEEN = true ∧ t.bst = s.bst ∧ t.cel = s.cel ∧ t.rol = s.rol := by
  refine yields_of_runIf (exec_control s die cid) (decide_eq_true hdie) hp ?_
  obtain ⟨u, he, hdone, hbst, hcel, hrol⟩ := s.doControl_misses hc hj hh hb
  rw [he, commit_bst, commit_cel, commit_rol]
  exact ⟨hdone.later (outs_suffix_commit s (u.sticky _)), (flag_commit (by decide)).trans (flag_sticky u (by decide) (by decide)),
    hbst, hcel, hrol⟩

/-- Settles O51: BIST_RUN by the die that it names, its CONTROL item by whether the die holds BIST. -/
theorem selfTestRunsBegin : Obligations.SelfTestRunsBegin := by
  unfold Obligations.SelfTestRunsBegin
  intro s hp _
  refine ⟨fun h die unit slices ht hd hu hs hbad hfree => ?run, ?begins, ?missed⟩
  case run => exact ⟨yields_bistRun_sent s ht hd hu hs hbad hfree, yields_bistRun_begun s ht hd hu hs hbad hfree⟩
  case begins =>
    intro die cid unit slices hdie hj hh hr hfree hstays hany
    refine yields_of_runIf (exec_control s die cid) (decide_eq_true hdie) hp ?_
    rw [commit_bst, s.doControl_begins hj hh hr hfree hstays hany]
    exact ⟨_, List.mem_append_right _ (List.mem_singleton_self _), rfl, rfl, rfl, rfl⟩
  case missed => exact fun die cid c role hdie hc hj hh hb => yields_control_missed s hp hdie hc hj hh hb

end Sys2Proof.Machine
end

section
/-! Replays: their start, their records on channel 4 and their end (R246 to R248). -/

namespace Sys2Proof.Machine

open Sys2Proof

variable (s : State)

theorem exec_replayTake (h : Hdr) (die take mode first count interval : Nat) :
    exec (.replayTake h die take mode first count interval) s = runIf "REPLAY_TAKE"
      (Instr.wf (.replayTake h die take mode first count interval)) (fun s => s.doReplayTake h die take mode first count interval) s := rfl
theorem exec_replayRecordQueue : exec .replayRecordQueue s = run State.doReplayRecord s := rfl
theorem exec_abortReplay (h : Hdr) :
    exec (.abortReplay h) s = runIf "ABORT_REPLAY" (Instr.wf (.abortReplay h)) (fun s => s.doAbortReplay h) s := rfl

/-! ## REPLAY_TAKE (R247) -/

theorem State.lt_five_of_present {n : Nat} (h : s.present n = true) : n < 5 := by
  have hn : n < s.variant.dies := of_decide_eq_true h
  revert hn
  cases s.variant <;> (dsimp only [Variant.dies]; omega)

/-- A replay without a fault names a die of the part and a mode that there is. -/
theorem State.of_replayBad {die take mode first count : Nat} (h : s.replayBad die take mode first count = none) :
    die < 5 ∧ mode ≤ 1 := by
  unfold State.replayBad at h
  split at h
  · cases h
  · next hdie =>
    split at h
    · cases h
    · next hmode => exact ⟨s.lt_five_of_present (by simpa using hdie), Nat.not_lt.1 hmode⟩

theorem yields_replayTake {h : Hdr} {die take mode first count interval : Nat} (ht : s.taken h Op.replayTake 1) (htake : take < 2 ^ 8)
    (hfirst : first < 2 ^ 64) (hcount : count < 2 ^ 32) (hinterval : interval < 2 ^ 32)
    (hbad : s.replayBad die take mode first count = none) (hfree : s.cel.replay = none) :
    Yields (.replayTake h die take mode first count interval) s fun t => ∃ c ∈ t.hif.outstanding, c.cid = s.hif.nextCid ∧
      c.opcode = Op.replayTake ∧ c.tag = h.tag ∧ c.job = .replay die take mode first count interval := by
  obtain ⟨hdie, hmode⟩ := s.of_replayBad hbad
  have hdie' : die < 2 ^ 8 := by omega
  have hmode' : mode < 2 ^ 8 := by omega
  refine yields_of_runIf (exec_replayTake s h die take mode first count interval) ?_ ht.1 ?_
  · simp only [Instr.wf, ht.2.1, u8, u32, u64, decide_eq_true hdie', decide_eq_true htake, decide_eq_true hmode', decide_eq_true hfirst,
      decide_eq_true hcount, decide_eq_true hinterval, Bool.and_self]
  · have hnone : (s.accepted h Op.replayTake).cel.replay.isSome = false := Option.isSome_eq_false_iff.2 (Option.isNone_iff_eq_none.2 hfree)
    have hdo : s.doReplayTake h die take mode first count interval =
        (s.accepted h Op.replayTake).setJob s.hif.nextCid (.replay die take mode first count interval) := by
      unfold State.doReplayTake
      rw [s.acceptCmd_of_taken ht hbad, hnone]
      rfl
    rw [hdo, commit_hif]
    exact ⟨_, s.mem_setJob_accepted h Op.replayTake _, rfl, rfl, rfl, rfl⟩

/-! ## The start of a replay -/

theorem cel_offSlices : OffSlices State.cel where
  record := cel_offRecord
  units _ _ _ _ _ _ _ _ _ := rfl
  complete s := s.complete_cel

theorem State.wantHub_cel : s.wantHub.cel = s.cel := cel_offSlices.abortSlices s _

theorem State.startReplay_replay {take : Nat} {tk : Take} (htk : s.takeOf take = some tk) (cid die mode first count interval : Nat) :
    ∃ r, (s.startReplay cid die take mode first count interval).cel.replay = some r ∧ r.cid = cid ∧ r.die = die ∧ r.take = take ∧
      r.decoded = decide (mode = 1) ∧ r.next = first ∧ r.last = (if count = 0 then tk.last else first + count - 1) ∧
      r.interval = interval := by
  unfold State.startReplay
  rw [htk]
  dsimp only
  rw [State.wantHub_cel]
  exact ⟨_, rfl, rfl, rfl, rfl, rfl, rfl, rfl, rfl⟩

/-- A CONTROL item starts the replay of its REPLAY_TAKE on a die that holds REPLAY. -/
theorem State.doControl_startsReplay {die cid take mode first count interval : Nat}
    (hj : s.jobOf cid = .replay die take mode first count interval) (hh : s.holds die .replay = true) :
    s.doControl die cid = (s.setJob cid .none).startReplay cid die take mode first count interval := by
  simp [State.doControl, hj, hh]

/-! ## Records of channel 4 -/

/-- The record in transfer on channel 4. -/
def State.xfer4 : Option Rec := (s.chan 4).xfer.map (·.record)

theorem State.xfer4_of_chans {u v : State} (h : u.hif.chans = v.hif.chans) : u.xfer4 = v.xfer4 := by
  unfold State.xfer4 State.chan
  rw [h]

theorem State.exists_xfer_of_xfer4 {q : Rec} (h : s.xfer4 = some q) : ∃ x, (s.chan 4).xfer = some x ∧ x.record = q :=
  Option.map_eq_some_iff.1 h

/-- A channel with a record in transfer is there. -/
theorem State.four_lt_of_xfer4 {q : Rec} (h : s.xfer4 = some q) : 4 < s.hif.chans.length := by
  by_contra hge
  have hidle : s.chan 4 = chanIdle := List.getD_eq_default _ _ (Nat.not_lt.1 hge)
  rw [State.xfer4, hidle] at h
  cases h

section issued

variable (hlen : s.hif.chans.length = 8)

include hlen

theorem State.chan_take4 (k : Nat) : (s.take 4 k).chan 4 = { s.chan 4 with used := (s.chan 4).used + k } :=
  (s.chan_setChan_self (by omega) { s.chan 4 with used := (s.chan 4).used + k } : _)

/-- A record whose transfer starts in buffers that keep R275's rules is in transfer. -/
theorem State.xfer4_startXfer {q : Rec} {held : Nat} (hbufs : (bufsFor (s.chan 4).bufs q.len).isSome = true)
    (hok : ∀ b ∈ (s.chan 4).bufs, BufDesc.ok b = true) : (s.startXfer 4 q held).xfer4 = some q := by
  obtain ⟨k, hk⟩ := Option.isSome_iff_exists.1 hbufs
  have hall : ((s.chan 4).bufs.take k).all BufDesc.ok = true := List.all_eq_true.2 fun b hb => hok b (List.mem_of_mem_take hb)
  unfold State.startXfer State.xfer4
  dsimp only
  rw [hk]
  dsimp only
  rw [if_pos hall, State.chan_setChan_self _ (by omega)]
  rfl

/-- A record that channel 4 takes is in transfer, where its buffers keep R275's rules. -/
theorem State.xfer4_taken {q : Rec} (hbufs : (bufsFor (s.chan 4).bufs q.len).isSome = true)
    (hok : ∀ b ∈ (s.chan 4).bufs, BufDesc.ok b = true) : ((s.take 4 1).startXfer 4 q 1).xfer4 = some q := by
  have hc := s.chan_take4 hlen 1
  refine State.xfer4_startXfer _ ?_ ?_ ?_
  · exact (length_modAt _ _ _).trans hlen
  · rw [hc]; exact hbufs
  · rw [hc]; exact hok

end issued

theorem State.issue4_of_free {q : Rec} (hon : s.chanOn 4 = true) (hhalt : (s.chan 4).halted = false) (hx : (s.chan 4).xfer = none)
    (hq : (s.chan 4).queue = []) (hbus : s.busOk = true) (hroom : 0 < s.scmpFree 4) (hpool : s.mayTake 4 1 = true)
    (hbufs : (bufsFor (s.chan 4).bufs q.len).isSome = true) : s.issue4 q = ((s.take 4 1).startXfer 4 q 1, true) := by
  unfold State.issue4
  simp [hon, hhalt, hx, hq, hbus, hroom, hpool, hbufs]

/-! ## The end of a replay (R246, R272, R278) -/

/-- No completion alters a channel. -/
theorem State.chans_complete (cid st why : Nat) (v : Option Nat) (b : Option (List Byte)) :
    (s.complete cid st why v b).hif.chans = s.hif.chans :=
  s.complete_keeps Hif.chans (fun _ _ _ _ _ _ _ => rfl) cid st why v b

/-- Marking a record as the last one of its replay says nothing new of one that is marked. -/
theorem State.xfer4_lastRec {q : Rec} (hx : s.xfer4 = some q) (hlast : q.last = true) (typ k : Nat) :
    (s.lastRec typ k).xfer4 = some q := by
  have hchan := s.four_lt_of_xfer4 hx
  obtain ⟨x, hxfer, rfl⟩ := s.exists_xfer_of_xfer4 hx
  unfold State.lastRec State.xfer4
  dsimp only
  rw [State.chan_setChan_self _ hchan]
  dsimp only
  rw [hxfer]
  dsimp only [Option.map_some]
  split
  · rw [← hlast]
  · rfl

theorem State.xfer4_endReplay {q : Rec} (hx : s.xfer4 = some q) (hlast : q.last = true) (r : Replay) (st why : Nat) :
    (s.endReplay r st why).xfer4 = some q := by
  have hmarked : ∀ n typ k : Nat, (if n = 0 then s else s.lastRec typ k).xfer4 = some q := by
    intro n typ k
    split
    · exact hx
    · exact s.xfer4_lastRec hx hlast typ k
  have hafter : ∀ (u : State) typ frame cid v, (u.completeAfter 4 typ frame cid st why v).hif.chans = u.hif.chans :=
    fun u typ frame cid v => u.completeAfter_keeps (fun u => u.hif.chans) (fun u => u.chans_complete) (fun _ _ _ => rfl) _ _ _ _ _ _ _
  exact (State.xfer4_of_chans (hafter _ _ _ _ _)).trans (hmarked _ _ _)

/-- A replay that ends is gone. -/
theorem State.endReplay_replay (r : Replay) (st why : Nat) : (s.endReplay r st why).cel.replay = none := by
  unfold State.endReplay
  exact State.completeAfter_keeps _ (fun u => u.cel.replay) (fun u _ _ _ _ _ => congrArg Cel.replay (u.complete_cel _ _ _ _ _))
    (fun _ _ _ => rfl) _ _ _ _ _ _ _

theorem State.pair_endReplay (r : Replay) (st why : Nat) :
    (s.endReplay r st why).pair Reg.CEL_REPLAY_FRAME_LO = s.pair Reg.CEL_REPLAY_FRAME_LO := by
  refine s.endReplay_keeps (fun u => u.pair Reg.CEL_REPLAY_FRAME_LO) (fun _ _ => rfl) (fun _ _ => rfl) (fun u cid st why v b => ?_)
    (fun _ _ _ => rfl) r st why
  simp only [State.pair, State.regN, u.reg_complete_ne (o := Reg.CEL_REPLAY_FRAME_LO) (by decide),
    u.reg_complete_ne (o := Reg.CEL_REPLAY_FRAME_LO + 4) (by decide)]

theorem State.doAbortReplay_replay {h : Hdr} (ht : s.taken h Op.abortTake 64) {r : Replay} (hr : s.cel.replay = some r) :
    (s.doAbortReplay h).cel.replay = none := by
  have hr' : (s.accepted h Op.abortTake).cel.replay = some r := hr
  unfold State.doAbortReplay
  rw [s.acceptCmd_of_taken ht rfl, hr']
  dsimp only
  rw [State.complete_cel]
  exact State.endReplay_replay _ _ _ _

/-! ## The next record (R248) -/

theorem State.replayNext_pair (r : Replay) :
    (s.replayNext r).pair Reg.CEL_REPLAY_FRAME_LO = s.pair Reg.CEL_REPLAY_FRAME_LO := by
  unfold State.replayNext
  dsimp only
  split
  · exact s.pair_endReplay _ _ _
  · rfl

/-- The record in transfer stays as it is when the replay goes on past it, if the replay's last one is marked so. -/
theorem State.replayNext_xfer4 {q : Rec} (hx : s.xfer4 = some q) {r : Replay}
    (hlast : r.last ≤ r.next → q.last = true) : (s.replayNext r).xfer4 = some q := by
  unfold State.replayNext
  dsimp only
  split
  · next h => exact s.xfer4_endReplay hx (hlast (Nat.lt_succ_iff.1 h)) _ _ _
  · exact hx

/-- A pair of registers holds a number of 64 bits that is put into it. -/
theorem State.pair_setPair {lo v : Nat} (hv : v < 2 ^ 64) : (s.setPair lo v).pair lo = v := by
  have hlow : (s.setPair lo v).reg lo = BitVec.ofNat 32 v :=
    (State.reg_setReg_ne _ _ (by omega)).trans (State.reg_setReg_self _ _ _)
  have hhigh : (s.setPair lo v).reg (lo + 4) = BitVec.ofNat 32 (v / 2 ^ 32) := State.reg_setReg_self _ _ _
  simp only [State.pair, State.regN, hlow, hhigh, BitVec.toNat_ofNat]
  omega

/-- An uncorrectable error in the record of a frame marks the take alone. -/
theorem State.eccIndex_regs (id : Nat) (hit : Take → Bool) : (s.eccIndex id hit).regs = s.regs ∧ (s.eccIndex id hit).hif = s.hif := by
  unfold State.eccIndex
  split <;> exact ⟨rfl, rfl⟩

/-- The state in which the record of frame `k` is with channel 4, and the register shows the frame. -/
def State.shown (q : Rec) (k : Nat) : State := ((s.take 4 1).startXfer 4 q 1).setPair Reg.CEL_REPLAY_FRAME_LO k

section next

variable {s} {r : Replay} {tk : Take} {f : TakeFrame} {q : Rec} (hr : s.cel.replay = some r) (htk : s.takeOf r.take = some tk)
  (hf : tk.frames.find? (·.k = r.next) = some f) (hmile : r.mile = false)
  (hdue : ∀ t0, r.lastStart = some t0 → t0 + r.interval ≤ s.mono)
  (hq : q = tk.replayRec f r.decoded (!(tk.mileOf f).isSome && decide (r.next = r.last)))
  (hissue : s.issue4 q = ((s.take 4 1).startXfer 4 q 1, true))

include hr htk hf hmile hdue hq hissue

/-- A frame's record goes to channel 4 and the register names the frame; then the frame's milestone is next, or the replay goes on. -/
theorem State.doReplayRecord_of_issued : ∃ (w : State) (r' : Replay), w.regs = (s.shown q f.k).regs ∧ w.hif = (s.shown q f.k).hif ∧
    r'.next = r.next ∧ r'.last = r.last ∧ s.doReplayRecord =
      if (tk.mileOf f).isSome then { w with cel.replay := some { r' with mile := true } } else w.replayNext r' := by
  have hnow : (r.lastStart.any fun t0 => s.mono < t0 + r.interval) = false := by
    cases h0 : r.lastStart with
    | none => rfl
    | some t0 => simpa using hdue t0 h0
  let w : State := if q.missing ∧ f.lost.any (fun n => !((s.shown q f.k).die n).withdrawn) then
      { (s.shown q f.k).eccIndex tk.id (fun _ => true) with
        cel.stored := (s.shown q f.k).cel.stored.map fun (x : Take) => if x.id = tk.id then x.mark TFlag.eccLoss else x }
    else s.shown q f.k
  have hkept : w.regs = (s.shown q f.k).regs ∧ w.hif = (s.shown q f.k).hif := by
    dsimp only [w]
    split
    · exact State.eccIndex_regs _ _ _
    · exact ⟨rfl, rfl⟩
  refine ⟨w, { r with queued := r.queued + 1, missing := r.missing || q.missing, lastStart := some w.mono, mile := false },
    hkept.1, hkept.2, rfl, rfl, ?_⟩
  unfold State.doReplayRecord
  simp only [hr, htk, hf, hmile, hnow, ← hq, hissue, Bool.false_eq_true, Bool.not_true, if_false]
  rfl

/-- The register names the frame whose record has gone to channel 4. -/
theorem State.doReplayRecord_pair (hk : f.k < 2 ^ 64) : s.doReplayRecord.pair Reg.CEL_REPLAY_FRAME_LO = f.k := by
  obtain ⟨w, r', hregs, -, -, -, hdo⟩ := State.doReplayRecord_of_issued hr htk hf hmile hdue hq hissue
  have hpair : w.pair Reg.CEL_REPLAY_FRAME_LO = f.k := by
    rw [← State.pair_setPair ((s.take 4 1).startXfer 4 q 1) (lo := Reg.CEL_REPLAY_FRAME_LO) hk]
    unfold State.pair State.regN State.reg
    rw [hregs]
    rfl
  rw [hdo]
  split
  · exact hpair
  · rw [w.replayNext_pair, hpair]

/-- A record whose transfer has started stays in transfer as it is. -/
theorem State.doReplayRecord_xfer4 (hx : ((s.take 4 1).startXfer 4 q 1).xfer4 = some q) (hle : r.next ≤ r.last) :
    s.doReplayRecord.xfer4 = some q := by
  obtain ⟨w, r', -, hhif, hnext, hlast, hdo⟩ := State.doReplayRecord_of_issued hr htk hf hmile hdue hq hissue
  have hw : w.xfer4 = some q := (State.xfer4_of_chans (congrArg Hif.chans hhif)).trans hx
  rw [hdo]
  split
  · exact hw
  · next hms =>
    refine w.replayNext_xfer4 hw fun hend => ?_
    rw [hq]
    simp only [Take.replayRec, Bool.eq_false_iff.2 hms, Bool.not_false, Bool.true_and, decide_eq_true_eq]
    omega

end next

/-- Settles O12: REPLAY_TAKE, its CONTROL item, the next record on channel 4 and ABORT_TAKE with target 1, each by its own lemma. -/
theorem replayStartsQueuesAndStops : Obligations.ReplayStartsQueuesAndStops := by
  unfold Obligations.ReplayStartsQueuesAndStops
  intro s hp hlen
  refine ⟨?take, ?control, ?record, ?abort⟩
  case take =>
    exact fun h die take mode first count interval ht htake hfirst hcount hinterval hbad hfree =>
      yields_replayTake s ht htake hfirst hcount hinterval hbad hfree
  case control =>
    intro die cid take mode first count interval hdie hj
    refine ⟨fun tk hh htk => ?starts, fun c hc hh hb => ?missed⟩
    case starts =>
      refine yields_of_runIf (exec_control s die cid) (decide_eq_true hdie) hp ?_
      rw [commit_cel, s.doControl_startsReplay hj hh]
      exact (s.setJob cid .none).startReplay_replay htk cid die mode first count interval
    case missed =>
      obtain ⟨t, ht, hdone, hseen, -, hcel, -⟩ := yields_control_missed s (role := .replay) hp hdie hc
        (.inr ⟨take, mode, first, count, interval, hj, rfl⟩) hh hb
      exact ⟨t, ht, hdone, hseen, congrArg Cel.replay hcel⟩
  case record =>
    intro r tk f hr htk hf hmile hdue hon hhalt hx hq hbus hroom hpool hbufs hk
    have hissue := s.issue4_of_free hon hhalt hx hq hbus hroom hpool hbufs
    refine yields_of_run (exec_replayRecordQueue s) hp ⟨?pair, fun hok hle => ?xfer⟩
    case pair =>
      have hpair := State.doReplayRecord_pair hr htk hf hmile hdue rfl hissue hk
      simpa only [State.pair, regN_commit (s := s) (o := Reg.CEL_REPLAY_FRAME_LO) (by decide),
        regN_commit (s := s) (o := Reg.CEL_REPLAY_FRAME_LO + 4) (by decide)] using hpair
    case xfer =>
      have hxfer := State.doReplayRecord_xfer4 hr htk hf hmile hdue rfl hissue (s.xfer4_taken hlen hbufs hok) hle
      exact State.exists_xfer_of_xfer4 _ ((State.xfer4_of_chans (by rw [commit_hif])).trans hxfer)
  case abort =>
    intro h r ht hr
    refine yields_of_runIf (exec_abortReplay s h) ht.2.1 ht.1 ?_
    rw [commit_cel]
    exact s.doAbortReplay_replay ht hr

end Sys2Proof.Machine
end

section
/-! The stripe map, its pending change and its versions (R214 to R217, R230). -/

namespace Sys2Proof.Machine

open Sys2Proof

variable (s : State)

theorem exec_roleSet (h : Hdr) (expect handover frame : Nat) (m : List MapReq) : exec (.roleSet h expect handover frame m) s =
    runIf "ROLE_SET" (Instr.wf (.roleSet h expect handover frame m)) (fun s => s.doRoleSet h expect handover frame m) s := rfl
theorem exec_roleSetReadyTimeout : exec .roleSetReadyTimeout s = run State.doReadyTimeout s := rfl
theorem exec_rotationDue : exec .rotationDue s = run State.doRotationDue s := rfl

/-! ## The map apart from the dies' own states -/

/-- Maps, versions, the pending change and the rotation: everything of the roles but the dies' own states. -/
def State.roles : Rol := { s.rol with dies := [] }

theorem State.roles_eq_of_rol {s t : State} (h : t.rol = s.rol) : t.roles = s.roles := by rw [State.roles, h, State.roles]

theorem roles_offRecord : OffRecord State.roles where
  reg _ _ _ _ := rfl
  fresh _ _ := rfl
  chan _ _ _ _ := rfl
  nv _ _ := rfl

theorem State.roles_complete (cid st why : Nat) (v : Option Nat) (b : Option (List Byte)) :
    (s.complete cid st why v b).roles = s.roles := State.roles_eq_of_rol (s.complete_rol cid st why v b)

theorem State.roles_releaseUnit (id : SliceId) : (s.releaseUnit id).roles = s.roles := by
  unfold State.releaseUnit
  split_ifs <;> rfl

theorem State.roles_endRun (r : BistRun) : (s.endRun r).roles = s.roles := by
  have hpost : ∀ u : State, (match r.cid with
      | some c => u.complete c St.ok Why.none (some r.notPassed) (some r.block)
      | none => u).roles = u.roles := by
    intro u
    split
    · exact u.roles_complete _ _ _ _ _
    · rfl
  have hshown : ∀ u : State, (if r.die < 5 ∧ r.kind ≠ Owner.bistRun then
      let s := u.setFld (Fld.BST_DIE_LAST r.die) (r.outcome + 1)
      if r.outcome = 2 then s else s.setDie r.die { s.die r.die with lastRun := some s.mono }
      else u).roles = u.roles := by
    intro u
    dsimp only
    split_ifs <;> rfl
  unfold State.endRun
  exact (hpost _).trans ((hshown _).trans ((roles_offRecord.event _ _ _).trans rfl))

theorem State.roles_abandonRuns (n : Nat) : (s.abandonRuns n).roles = s.roles := by
  have hskipped : ∀ (u : State) (r : BistRun) t, (u.skipSlice r t).roles = u.roles := fun _ _ _ =>
    (roles_offRecord.sticky _ (by decide)).trans ((roles_offRecord.reportSlice _ _ _ _ _).trans rfl)
  have hstopped : ∀ (u : State) (x : SliceRun) misr ref, ((((u.drew.releaseUnit x.id).reportSlice x.id Slice.aborted misr ref).enterOnly
      x Slice.aborted misr ref).sticky Fld.BST_STATUS_ABORT_SEEN).roles = u.roles := fun u x _ _ =>
    (roles_offRecord.sticky _ (by decide)).trans ((roles_offRecord.reportSlice _ _ _ _ _).trans (u.drew.roles_releaseUnit x.id))
  unfold State.abandonRuns
  dsimp only
  exact (foldl_keeps State.roles (fun u r => u.roles_endRun r) _ _).trans
    ((foldl_keeps State.roles (fun u r => foldl_keeps State.roles (fun u t => hskipped u r t) _ u) _ _).trans
      ((foldl_keeps State.roles (fun u x => hstopped u x _ _) _ _).trans (roles_offRecord.stickyIf s (by decide) _)))

theorem State.roles_modCask (c : Nat) (g : Cask → Cask) : (s.modCask c g).roles = s.roles := by
  unfold State.modCask
  split <;> rfl

theorem State.roles_powerDie (n : Nat) : (s.powerDie n).roles = s.roles :=
  (State.roles_modCask _ _ _).trans (State.roles_modCask _ _ _)

theorem State.roles_prepareDie (n : Nat) (role : Role) : (s.prepareDie n role).roles = s.roles := by
  unfold State.prepareDie
  dsimp only
  split_ifs
  · rfl
  · exact s.roles_powerDie n
  · exact s.roles_abandonRuns n
  · rfl

/-- A change that is pending from now on leaves the map in force and its version (R216). -/
theorem State.roles_pendMap (c : MapChange) : (s.pendMap c).roles = { s.roles with pend := some c } := by
  unfold State.pendMap
  refine foldl_keeps State.roles (fun u n => ?_) _ _
  dsimp only
  split
  · exact u.roles_prepareDie _ _
  · rfl

theorem State.map_pendMap (c : MapChange) : (s.pendMap c).rol.map = s.rol.map := (congrArg Rol.map (s.roles_pendMap c) :)
theorem State.version_pendMap (c : MapChange) : (s.pendMap c).rol.version = s.rol.version := (congrArg Rol.version (s.roles_pendMap c) :)
theorem State.pend_pendMap (c : MapChange) : (s.pendMap c).rol.pend = some c := (congrArg Rol.pend (s.roles_pendMap c) :)
theorem State.rotDies_pendMap (c : MapChange) : (s.pendMap c).rol.rotDies = s.rol.rotDies := (congrArg Rol.rotDies (s.roles_pendMap c) :)

/-- A pending change that is dropped leaves the map in force and its version. -/
theorem State.roles_dropPend :
    s.dropPend.roles = (State.rotTidy { s with rol.pend := none }).roles ∧ s.dropPend.hif = s.hif ∧ s.dropPend.outs = s.outs := by
  have hgated : ∀ {β : Type} (g : State → β), (∀ (u : State) n, g (u.gateDie n) = g u) →
      g s.dropPend = g (State.rotTidy { s with rol.pend := none }) := by
    intro β g hg
    unfold State.dropPend
    refine foldl_keeps g (fun u n => ?_) _ _
    dsimp only
    split
    · exact hg u n
    · rfl
  exact ⟨hgated State.roles fun _ _ => rfl, hgated State.hif fun _ _ => rfl, hgated State.outs fun _ _ => rfl⟩

/-! ## ROLE_SET (R214, R216, R217, R243) -/

/-- What keeps a ROLE_SET for the map `m` from being taken up (R217, R243). -/
def State.mapInWay (m : List MapEnt) : Prop :=
  s.rol.pend ≠ none ∨ s.casks.cal ≠ none ∨ (s.pow.st ≠ .ready ∧ s.pow.st ≠ .stream ∧ s.pow.st ≠ .take) ∨
    s.replayHolds m = true ∨ s.changesFull = true

theorem State.mapInWay_iff (hp : s.powered) (m : List MapEnt) :
    (s.rol.pend.isSome ∨ s.casks.cal.isSome ∨ s.pow.st = .recall ∨ s.pow.st = .standby ∨ s.pow.st = .keepWarm ∨
      s.replayHolds m ∨ s.changesFull) ↔ s.mapInWay m := by
  have hbelow : (s.pow.st = .recall ∨ s.pow.st = .standby ∨ s.pow.st = .keepWarm) ↔
      (s.pow.st ≠ .ready ∧ s.pow.st ≠ .stream ∧ s.pow.st ≠ .take) := by
    have hon : s.pow.st ≠ .off := hp
    revert hon
    cases s.pow.st <;> decide
  rw [State.mapInWay, ← hbelow, Option.isSome_iff_ne_none, Option.isSome_iff_ne_none]
  simp only [or_assoc]

/-- The change that a ROLE_SET makes pending. -/
def State.reqChange (handover frame : Nat) (m : List MapReq) : MapChange :=
  { map := reqMap m, frame, cid := some s.hif.nextCid, cause := 0, accept := s.mono
    reseed := decide (if handover = 0 then s.fld Fld.ROL_CFG_HANDOVER = 1 else handover = 2) }

/-- The blind estimate starts anew as HANDOVER says, the command's own or the register's (R217). -/
theorem State.reqChange_reseed (handover frame : Nat) (m : List MapReq) : (s.reqChange handover frame m).reseed = true ↔
    handover = 2 ∨ handover = 0 ∧ s.fld Fld.ROL_CFG_HANDOVER = 1 := by
  rw [State.reqChange, decide_eq_true_eq]
  split <;> omega

section roleSet

variable {h : Hdr} {expect handover frame : Nat} {m : List MapReq} (ht : s.taken h Op.roleSet 1) (hlen : m.length = 5)
  (he : expect < 2 ^ 16) (hh : handover < 2 ^ 8) (hf : frame < 2 ^ 64)
  (hm : ∀ e ∈ m, e.role < 2 ^ 8 ∧ e.first < 2 ^ 8 ∧ e.count < 2 ^ 8)

include ht

theorem State.doRoleSet_of_bad {off : Nat} (hbad : s.atAccept.roleSetBad handover frame m = some off) :
    s.doRoleSet h expect handover frame m =
      (s.accepted h Op.roleSet).complete s.hif.nextCid St.badParam off (lostValue Op.roleSet) none :=
  s.acceptCmd_of_bad ht hbad _ _

/-- With its fields in order ROLE_SET comes to its own checks. -/
theorem State.doRoleSet_of_good (hgood : s.atAccept.roleSetBad handover frame m = none) :
    s.doRoleSet h expect handover frame m =
      if expect ≠ s.rol.version then (s.accepted h Op.roleSet).complete s.hif.nextCid St.misdelivered Why.none
        (some s.rol.version) (some (leBytes 2 s.rol.version))
      else if s.rol.pend.isSome ∨ s.casks.cal.isSome ∨ s.pow.st = .recall ∨ s.pow.st = .standby ∨ s.pow.st = .keepWarm ∨
          s.replayHolds (reqMap m) ∨ s.changesFull then (s.accepted h Op.roleSet).fail s.hif.nextCid St.busy Why.none
      else if sameMap (reqMap m) s.rol.map then (s.accepted h Op.roleSet).complete s.hif.nextCid St.ok Why.none
        (some s.newest) (some (leBytes 2 s.rol.version))
      else (s.accepted h Op.roleSet).pendMap (s.reqChange handover frame m) :=
  s.acceptCmd_of_taken ht hgood _ _

include hlen he hh hf hm

theorem yields_roleSet {P : State → Prop} (hP : P (commit s (s.doRoleSet h expect handover frame m))) :
    Yields (.roleSet h expect handover frame m) s P := by
  have hexpect : u16 expect = true := decide_eq_true he
  have hhand : u8 handover = true := decide_eq_true hh
  have hframe : u64 frame = true := decide_eq_true hf
  have hent : (m.all fun e => u8 e.role && u8 e.first && u8 e.count) = true := List.all_eq_true.2 fun e hmem => by
    obtain ⟨hrole, hfirst, hcount⟩ := hm e hmem
    simp only [u8, decide_eq_true hrole, decide_eq_true hfirst, decide_eq_true hcount, Bool.and_self]
  refine yields_of_runIf (exec_roleSet s h expect handover frame m) ?_ ht.1 hP
  simp only [Instr.wf, ht.2.1, hexpect, hhand, hframe, decide_eq_true hlen, hent, Bool.and_self]

/-- The clauses of ROLE_SET: refused for a field, for its version or as busy, met at once, or pending (log 116). -/
theorem yields_roleSet_cases (hc : s.cidsOk) (hb : s.busOk = true) :
    let i := Instr.roleSet h expect handover frame m
    let ends := fun (t : State) (status why : Nat) => Completed s t h.tag Op.roleSet status why ∧ t.rol = s.rol
    (∀ off, s.atAccept.roleSetBad handover frame m = some off → Yields i s fun t => ends t St.badParam off) ∧
    (s.atAccept.roleSetBad handover frame m = none →
      (expect ≠ s.rol.version → Yields i s fun t => ends t St.misdelivered Why.none) ∧
      (expect = s.rol.version → s.mapInWay (reqMap m) → Yields i s fun t => ends t St.busy Why.none) ∧
      (expect = s.rol.version → ¬s.mapInWay (reqMap m) → reqMap m = s.rol.map → Yields i s fun t => ends t St.ok Why.none) ∧
      (expect = s.rol.version → ¬s.mapInWay (reqMap m) → reqMap m ≠ s.rol.map →
        Yields i s fun t => t.rol.map = s.rol.map ∧ t.rol.version = s.rol.version ∧
          ∃ c, t.rol.pend = some c ∧ c.map = reqMap m ∧ c.frame = frame ∧ c.cause = 0 ∧ c.cid = some s.hif.nextCid ∧
            (c.reseed = true ↔ handover = 2 ∨ handover = 0 ∧ s.fld Fld.ROL_CFG_HANDOVER = 1))) := by
  intro i ends
  have hends : ∀ st why v b, ends (commit s ((s.accepted h Op.roleSet).complete s.hif.nextCid st why v b)) st why := fun st why v b =>
    ⟨s.completed_accepted hc hb h _ _ _ _ _, (commit_rol _ _).trans (State.complete_rol _ _ _ _ _ _)⟩
  refine ⟨fun off hbad => ?_, fun hgood => ?_⟩
  · refine yields_roleSet s ht hlen he hh hf hm ?_
    rw [s.doRoleSet_of_bad ht hbad]
    exact hends _ _ _ _
  · have hyields : ∀ {P : State → Prop}, P (commit s (s.doRoleSet h expect handover frame m)) → Yields i s P :=
      yields_roleSet s ht hlen he hh hf hm
    have hway := s.mapInWay_iff ht.1 (reqMap m)
    rw [s.doRoleSet_of_good ht hgood] at hyields
    refine ⟨fun hv => hyields ?_, fun hv hin => hyields ?_, fun hv hin heq => hyields ?_, fun hv hin hne => hyields ?_⟩
    · rw [if_pos hv]
      exact hends _ _ _ _
    · rw [if_neg (not_not_intro hv), if_pos (hway.2 hin)]
      exact ⟨s.failed_accepted hc hb h _ _ _, (commit_rol _ _).trans (State.fail_rol _ _ _ _)⟩
    · rw [if_neg (not_not_intro hv), if_neg (mt hway.1 hin), if_pos (by simpa [sameMap] using heq)]
      exact hends _ _ _ _
    · rw [if_neg (not_not_intro hv), if_neg (mt hway.1 hin), if_neg (by simpa [sameMap] using hne), commit_rol]
      exact ⟨State.map_pendMap _ _, State.version_pendMap _ _, _, State.pend_pendMap _ _, rfl, rfl, rfl, rfl,
        s.reqChange_reseed handover frame m⟩

end roleSet

/-! ## A ROLE_SET that is given up (R217) -/

/-- A pending ROLE_SET that is given up ends with ABORTED; the map in force and its version stand. -/
theorem State.abortPend_spec {c : MapChange} (hpend : s.rol.pend = some c) (why : Nat) :
    (s.abortPend why).roles = (State.rotTidy { s with rol.pend := none }).roles ∧
    ∀ cid o, c.cid = some cid → s.hif.outstanding.find? (·.cid = cid) = some o → s.busOk = true →
      Completed s (s.abortPend why) o.tag o.opcode St.aborted why := by
  obtain ⟨hroles, hhif, houts⟩ := s.roles_dropPend
  unfold State.abortPend
  rw [hpend]
  dsimp only
  refine ⟨?_, fun cid o hcid ho hb => ?_⟩
  · split
    · exact (State.roles_eq_of_rol (State.fail_rol _ _ _ _)).trans hroles
    · exact hroles
  · rw [hcid]
    have ho' : s.dropPend.hif.outstanding.find? (·.cid = cid) = some o := by rw [hhif]; exact ho
    have hb' : s.dropPend.busOk = true := by rw [State.busOk, hhif]; exact hb
    exact (s.dropPend.completed_fail ho' hb' St.aborted why).earlier (by rw [houts])

theorem yields_roleSetReadyTimeout {c : MapChange} (hp : s.powered) (hpend : s.rol.pend = some c) (hcause : c.cause = 0)
    (hdue : c.accept + 25000000 ≤ s.mono) (hready : (enterDies s.rol.map c.map).all (fun n => (s.die n).ready) = false) :
    Yields .roleSetReadyTimeout s fun t => t.rol.pend = none ∧ t.rol.map = s.rol.map ∧ t.rol.version = s.rol.version ∧
      ∀ cid o, c.cid = some cid → s.hif.outstanding.find? (·.cid = cid) = some o → s.busOk = true →
        Completed s t o.tag o.opcode St.aborted Why.none := by
  obtain ⟨hroles, hdone⟩ := s.abortPend_spec hpend Why.none
  have hdo : s.doReadyTimeout = s.abortPend Why.none := by
    unfold State.doReadyTimeout
    rw [hpend]
    dsimp only
    rw [if_pos ⟨hcause, hdue, by rw [hready]; rfl⟩]
  refine yields_of_run (exec_roleSetReadyTimeout s) hp ?_
  rw [hdo, commit_rol]
  exact ⟨(congrArg Rol.pend hroles :), (congrArg Rol.map hroles :), (congrArg Rol.version hroles :), fun cid o hcid ho hb =>
    (hdone cid o hcid ho hb).later (outs_suffix_commit _ _)⟩

/-! ## Rotation (R230) -/

/-- The stripe die that a rotation takes. -/
theorem State.mem_of_rotPick {d : Nat} (h : s.rotPick = some d) : d ∈ stripeDies s.rol.map := by
  unfold State.rotPick at h
  dsimp only at h
  split at h
  · cases h
  · next d0 l hl =>
    rw [hl, ← Option.some.inj h]
    refine List.foldlRecOn (motive := fun b => b ∈ d0 :: l) _ _ List.mem_cons_self fun b hb n hn => ?_
    split
    · exact List.mem_cons_of_mem _ hn
    · exact hb

theorem State.of_rotPick {d : Nat} (h : s.rotPick = some d) : d < s.rol.map.length ∧ (mapAt s.rol.map d).role = .stripe := by
  obtain ⟨hlt, hrole⟩ := List.mem_filter.1 (s.mem_of_rotPick h)
  exact ⟨List.mem_range.1 hlt, of_decide_eq_true hrole⟩

/-- A rotation's spare is a die of the part in SPARE. -/
theorem State.of_spareReady {sp : Nat} (h : s.spareReady = some sp) : sp < 5 ∧ (mapAt s.rol.map sp).role = .spare := by
  have hsome := List.find?_some h
  simp only [Bool.and_eq_true, decide_eq_true_eq] at hsome
  exact ⟨List.mem_range.1 (List.mem_of_find?_eq_some h), hsome.1⟩

theorem mapAt_putEnt_self {m : List MapEnt} {n : Nat} (h : n < m.length) (e : MapEnt) : mapAt (putEnt m n e) n = e :=
  getD_modAt_self h _ _

theorem mapAt_putEnt_ne (m : List MapEnt) {n k : Nat} (h : k ≠ n) (e : MapEnt) : mapAt (putEnt m n e) k = mapAt m k :=
  getD_modAt_ne m h _ _

/-- The map of a rotation: the rows of die `d` go to the spare `sp`, and `d` is tested. -/
def State.rotMap (d sp : Nat) : List MapEnt :=
  putEnt (putEnt s.rol.map sp (mapAt s.rol.map d)) d { role := .bist, first := 0, count := 0 }

theorem State.rotMap_spec {d sp : Nat} (hlen : s.rol.map.length = 5) (hd : s.rotPick = some d) (hsp : s.spareReady = some sp) :
    mapAt (s.rotMap d sp) sp = mapAt s.rol.map d ∧ (mapAt (s.rotMap d sp) d).role = .bist := by
  obtain ⟨hdlt, hdrole⟩ := s.of_rotPick hd
  obtain ⟨hsplt, hsprole⟩ := s.of_spareReady hsp
  have hne : sp ≠ d := by
    rintro rfl
    rw [hdrole] at hsprole
    cases hsprole
  have hput : d < (putEnt s.rol.map sp (mapAt s.rol.map d)).length := (length_modAt _ _ _).symm ▸ hdlt
  exact ⟨(mapAt_putEnt_ne _ hne _).trans (mapAt_putEnt_self (hlen.symm ▸ hsplt) _), congrArg MapEnt.role (mapAt_putEnt_self hput _)⟩

/-- A rotation that nothing keeps waiting makes its own change pending. -/
theorem State.makeRotation_eq {d sp : Nat} (hd : s.rotPick = some d) (hsp : s.spareReady = some sp) :
    s.makeRotation = State.pendMap { s with rol.rotWait := false, rol.rotDies := s.rol.rotDies ++ [d] }
      { map := s.rotMap d sp, frame := 0, reseed := false, cid := none, cause := 2, accept := s.mono } := by
  unfold State.makeRotation
  rw [hd, hsp]
  rfl

section rotation

variable {from_ : Nat} (hp : s.powered) (hfrom : s.rol.rotFrom = some from_) (hon : s.rotates = true)
  (hst : s.pow.st = .ready ∨ s.pow.st = .stream ∨ s.pow.st = .take) (hdue : from_ + 250000000 * s.rol.rotPeriod ≤ s.mono)
  (hmade : s.rotMade = false)

include hfrom hon hst hdue hmade

/-- A due rotation waits, or makes its map change. -/
theorem State.doRotationDue_of_due :
    s.doRotationDue = if s.rotBlocked then { s with rol.rotWait := true } else s.makeRotation := by
  have hstate : (decide (s.pow.st = .ready) || s.inStream) = true := by
    simpa [State.inStream] using hst
  unfold State.doRotationDue
  rw [hfrom]
  dsimp only
  rw [hon, hstate, decide_eq_true hdue, hmade]
  rfl

include hp

theorem yields_rotationDue_waits (hblocked : s.rotBlocked = true) :
    Yields .rotationDue s fun t => t.rol.rotWait = true ∧ t.rol.pend = s.rol.pend := by
  refine yields_of_run (exec_rotationDue s) hp ?_
  rw [s.doRotationDue_of_due hfrom hon hst hdue hmade, if_pos hblocked, commit_rol]
  exact ⟨rfl, rfl⟩

theorem yields_rotationDue_pends (hlen : s.rol.map.length = 5) {d sp : Nat} (hfree : s.rotBlocked = false) (hd : s.rotPick = some d)
    (hsp : s.spareReady = some sp) :
    Yields .rotationDue s fun t => t.rol.map = s.rol.map ∧ t.rol.version = s.rol.version ∧ d ∈ t.rol.rotDies ∧
      ∃ c, t.rol.pend = some c ∧ c.cause = 2 ∧ mapAt c.map sp = mapAt s.rol.map d ∧ (mapAt c.map d).role = .bist := by
  refine yields_of_run (exec_rotationDue s) hp ?_
  rw [s.doRotationDue_of_due hfrom hon hst hdue hmade, if_neg (ne_true_of_eq_false hfree), s.makeRotation_eq hd hsp, commit_rol,
    State.rotDies_pendMap]
  exact ⟨State.map_pendMap _ _, State.version_pendMap _ _, List.mem_append_right _ (List.mem_singleton_self d), _,
    State.pend_pendMap _ _, rfl, s.rotMap_spec hlen hd hsp⟩

end rotation

/-- Settles O14: ROLE_SET by what refuses it, its time limit, and the rotation by what keeps it waiting. -/
theorem mapChangesPend : Obligations.MapChangesPend := by
  unfold Obligations.MapChangesPend
  intro s hp _ hlen
  refine ⟨?roleSet, ?timeout, ?rotation⟩
  case roleSet =>
    exact fun h expect handover frame m ht hc hb he hh hf hm hents => yields_roleSet_cases s ht hm he hh hf hents hc hb
  case timeout => exact fun c hpend hcause hdue hready => yields_roleSetReadyTimeout s hp hpend hcause hdue hready
  case rotation =>
    intro from_ hfrom hon hst hdue hmade
    exact ⟨yields_rotationDue_waits s hp hfrom hon hst hdue hmade,
      fun d sp hfree hd hsp => yields_rotationDue_pends s hp hfrom hon hst hdue hmade hlen hfree hd hsp⟩

end Sys2Proof.Machine
end

section
/-! Fields of registers, written and read back; what the end of a command leaves of the host interface; and the doorbells (R258, R259,
R285, R286). -/

namespace Sys2Proof.Machine

open Sys2Proof

/-! ## Fields -/

theorem testBit_fldOf (v : Word) (f : Fld) (j : Nat) : (fldOf v f).testBit j = (decide (j < f.wd) && v.getLsbD (f.lo + j)) := by
  rw [Nat.add_comm]
  simp only [fldOf, Nat.testBit_mod_two_pow, Nat.testBit_div_two_pow, BitVec.getLsbD]

/-- A register with a field replaced: the field's bits are the number's, the others stay. -/
theorem getLsbD_fldPut (v : Word) (f : Fld) (x i : Nat) :
    (fldPut v f x).getLsbD i = if f.lo ≤ i ∧ i < f.lo + f.wd then decide (i < 32) && x.testBit (i - f.lo) else v.getLsbD i := by
  have hin : decide (i < 32) = false → v.getLsbD i = false := fun h => BitVec.getLsbD_of_ge _ _ (by simpa using h)
  have hlt : f.lo ≤ i → (i - f.lo < f.wd ↔ i < f.lo + f.wd) := by omega
  simp only [fldPut, BitVec.getLsbD_or, BitVec.getLsbD_and, BitVec.getLsbD_not, BitVec.getLsbD_ofNat, Nat.testBit_mul_two_pow,
    Nat.testBit_two_pow_sub_one]
  cases h : decide (i < 32) with
  | false => simp [hin h]
  | true =>
    by_cases hl : f.lo ≤ i
    · by_cases hi : i < f.lo + f.wd <;> simp [hl, hi, hlt hl]
    · simp [hl]

/-- A field reads as what was put there, as far as it fits. -/
theorem State.fld_setFld_self (s : State) {f : Fld} (hf : f.lo + f.wd ≤ 32) (x : Nat) : (s.setFld f x).fld f = x % 2 ^ f.wd := by
  have hr : (s.setFld f x).reg f.off = fldPut (s.reg f.off) f x := s.reg_setReg_self _ _
  unfold State.fld
  rw [hr]
  refine Nat.eq_of_testBit_eq fun j => ?_
  rw [testBit_fldOf, getLsbD_fldPut, Nat.testBit_mod_two_pow]
  by_cases hj : j < f.wd
  · simp [hj, show f.lo + j < 32 by omega]
  · simp [hj]

/-- A field leaves those of its register that do not overlap it. -/
theorem State.fld_setFld_ne (s : State) {f f' : Fld} (hf : f'.lo + f'.wd ≤ f.lo ∨ f.lo + f.wd ≤ f'.lo) (x : Nat) :
    (s.setFld f x).fld f' = s.fld f' := by
  by_cases ho : f'.off = f.off
  · have hr : (s.setFld f x).reg f.off = fldPut (s.reg f.off) f x := s.reg_setReg_self _ _
    unfold State.fld
    rw [ho, hr]
    refine Nat.eq_of_testBit_eq fun j => ?_
    rw [testBit_fldOf, testBit_fldOf, getLsbD_fldPut]
    by_cases hj : j < f'.wd
    · rw [if_neg (by omega)]
    · simp [hj]
  · exact congrArg (fldOf · f') (s.reg_setFld_ne x ho)

theorem State.flag_setFld_ne (s : State) {f f' : Fld} (hf : f'.lo + f'.wd ≤ f.lo ∨ f.lo + f.wd ≤ f'.lo) (x : Nat) :
    (s.setFld f x).flag f' = s.flag f' := by
  simp only [State.flag, s.fld_setFld_ne hf]

/-- A field of a register that both states hold alike. -/
theorem fld_of_reg {s t : State} {f : Fld} (h : t.reg f.off = s.reg f.off) : t.fld f = s.fld f := congrArg (fldOf · f) h

/-! ## The end of a command -/

variable (s : State)

theorem chans_commit (t : State) : (commit s t).hif.chans = t.hif.chans := by rw [commit_hif]
theorem chan_commit (t : State) (n : Nat) : (commit s t).chan n = t.chan n := by unfold State.chan; rw [chans_commit]
theorem cmdRun_commit (t : State) : (commit s t).cmdRun = t.cmdRun := flag_commit (by decide)

/-- The control register of a channel is not the interrupt summary. -/
theorem chanOn_commit (t : State) (n : Nat) : (commit s t).chanOn n = t.chanOn n :=
  flag_commit (show 0x0490 + 32 * n ≠ 0x0030 by omega)

theorem fld_commit {t : State} {f : Fld} (h : f.off ≠ Reg.GLB_INT_SUMMARY) : (commit s t).fld f = t.fld f :=
  fld_of_reg (reg_commit_ne s t h)

/-! ## Doorbells -/

theorem exec_cmdProd (v : Nat) : exec (.cmdProd v) s = runIf "CMD_PROD" (Instr.wf (.cmdProd v)) (fun s => s.woken.doCmdProd v) s := rfl
theorem exec_cmpCons (v : Nat) : exec (.cmpCons v) s = runIf "CMP_CONS" (Instr.wf (.cmpCons v)) (fun s => s.woken.doCmpCons v) s := rfl
theorem exec_chBufProd (ch v : Nat) (d : List BufDesc) : exec (.chBufProd ch v d) s =
    runIf "CH_BUF_PROD" (Instr.wf (.chBufProd ch v d)) (fun s => s.woken.doBufProd ch v d) s := rfl
theorem exec_chScmpCons (ch v : Nat) : exec (.chScmpCons ch v) s =
    runIf "CH_SCMP_CONS" (Instr.wf (.chScmpCons ch v)) (fun s => s.woken.doScmpCons ch v) s := rfl

/-- A doorbell of a channel names a channel that there is. -/
theorem wf_chBufProd {ch v : Nat} (hch : ch < 8) (hv : v < 2 ^ 32) (d : List BufDesc) : Instr.wf (.chBufProd ch v d) = true := by
  simp only [Instr.wf, chOk, u32, decide_eq_true hch, decide_eq_true hv, Bool.and_self]

theorem wf_chScmpCons {ch v : Nat} (hch : ch < 8) (hv : v < 2 ^ 32) : Instr.wf (.chScmpCons ch v) = true := by
  simp only [Instr.wf, chOk, u32, decide_eq_true hch, decide_eq_true hv, Bool.and_self]

/-! ### Discarded writes (R259, R286) -/

/-- What a discarded doorbell write does: it moves no index, sets DB_REJ and records its ring. -/
def State.DoorbellRejected (s t : State) (kind ch : Nat) : Prop :=
  s.sameIndices t ∧ t.flag Fld.HIF_STATUS_DB_REJ = true ∧ t.fld Fld.HIF_STATUS_DB_RING = kind ∧ t.fld Fld.HIF_STATUS_DB_CH = ch

theorem State.doorbellRejected_commit {kind ch : Nat} (hkind : kind < 4) (hch : ch < 8) :
    s.DoorbellRejected (commit s (s.woken.dbReject kind ch)) kind ch := by
  refine ⟨?same, ?flag, ?ring, ?channel⟩
  case same =>
    have hchan : ∀ n, (commit s (s.woken.dbReject kind ch)).chan n = s.chan n := fun n =>
      (chan_commit s _ n).trans (congrArg (fun h : Hif => h.chans.getD n chanIdle) rfl)
    unfold State.sameIndices
    rw [commit_hif]
    exact ⟨rfl, rfl, rfl, rfl, fun n => by rw [hchan n]; exact ⟨rfl, rfl, rfl, rfl⟩⟩
  case flag =>
    rw [flag_commit (by decide), State.dbReject, State.flag_setFld_ne _ (by decide), State.flag_setFld_ne _ (by decide)]
    exact flag_sticky _ (by decide) (by decide)
  case ring =>
    rw [fld_commit _ (by decide), State.dbReject, State.fld_setFld_ne _ (by decide), State.fld_setFld_self _ (by decide)]
    exact Nat.mod_eq_of_lt hkind
  case channel =>
    rw [fld_commit _ (by decide), State.dbReject, State.fld_setFld_self _ (by decide)]
    exact Nat.mod_eq_of_lt hch

/-- A doorbell write that meets R259's three conditions, and one that fails one of them. -/
theorem doorbell_open {v d room : Nat} {on : Bool} (hv : v < 65536) (hon : on = true) (hd : d ≤ room) :
    (decide (v < 65536) && on && decide (d ≤ room)) = true := by
  simp only [hv, hon, hd, decide_true, Bool.and_self]

theorem doorbell_closed {v d room : Nat} {on : Bool} (h : 65536 ≤ v ∨ on = false ∨ room < d) :
    ¬(decide (v < 65536) && on && decide (d ≤ room)) = true := by
  simp only [Bool.and_eq_true, decide_eq_true_eq]
  rintro ⟨⟨hv, hon⟩, hd⟩
  rcases h with h | h | h
  · omega
  · exact absurd hon (ne_true_of_eq_false h)
  · omega

/-- Settles O2: a write that fails one of its doorbell's three conditions is discarded. -/
theorem doorbellOutOfRangeIsDiscarded : Obligations.DoorbellOutOfRangeIsDiscarded := by
  unfold Obligations.DoorbellOutOfRangeIsDiscarded
  intro s hp _
  refine ⟨?cmd, ?cmp, ?buf, ?scmp⟩
  case cmd =>
    intro v hv hbad
    refine yields_of_runIf (exec_cmdProd s v) (decide_eq_true hv) hp ?_
    rw [show s.woken.doCmdProd v = s.woken.dbReject 0 0 from if_neg (doorbell_closed hbad)]
    exact s.doorbellRejected_commit (by decide) (by decide)
  case cmp =>
    intro v hv hbad
    refine yields_of_runIf (exec_cmpCons s v) (decide_eq_true hv) hp ?_
    rw [show s.woken.doCmpCons v = s.woken.dbReject 1 0 from if_neg (doorbell_closed hbad)]
    exact s.doorbellRejected_commit (by decide) (by decide)
  case buf =>
    intro ch v d hch hv hbad
    refine yields_of_runIf (exec_chBufProd s ch v d) (wf_chBufProd hch hv d) hp ?_
    rw [show s.woken.doBufProd ch v d = s.woken.dbReject 2 ch from if_neg (doorbell_closed hbad)]
    exact s.doorbellRejected_commit (by decide) hch
  case scmp =>
    intro ch v hch hv hbad
    refine yields_of_runIf (exec_chScmpCons s ch v) (wf_chScmpCons hch hv) hp ?_
    rw [show s.woken.doScmpCons ch v = s.woken.dbReject 3 ch from if_neg (doorbell_closed hbad)]
    exact s.doorbellRejected_commit (by decide) hch

/-! ## What records that go on leave alone (R275, R282, R283) -/

/-- What of a channel the records that go on leave alone: whether it is enabled, the host's doorbells and the completions written. -/
def Chan.posted (c : Chan) : Bool × Nat × Nat × Nat × Nat := (c.enabled, c.bufProd, c.scmpProd, c.scmpCons, c.lastDoorbell)

/-- What a record that starts or is dropped cannot alter: it shows no register of the host interface's block, and of the host interface
neither the gap of channel 0 nor the records of a channel. -/
structure OffPump {β : Type} (g : State → β) : Prop where
  reg : ∀ s off v, off / 0x400 = 1 → g (State.setReg s off v) = g s
  fresh : ∀ (s : State) f, g { s with fresh := f } = g s
  gap : ∀ (s : State) b, g { s with hif.gap := b } = g s
  chan : ∀ s n c, c.posted = (State.chan s n).posted → g (State.setChan s n c) = g s

namespace OffPump

variable {β : Type} {g : State → β} (h : OffPump g)

include h

theorem sticky {f : Fld} (hf : f.off / 0x400 = 1) : g (s.sticky f) = g s := (h.fresh _ _).trans (h.reg s _ _ hf)

/-- The status of channel `n` lies in the block (R443). -/
theorem chStatus {n : Nat} (hn : n < 8) (lo wd : Nat) : g (s.sticky ⟨Reg.HIF_CH_STATUS n, lo, wd⟩) = g s :=
  h.sticky s (show (0x0494 + 32 * n) / 0x400 = 1 by omega)

theorem dropRec {n : Nat} (hn : n < 8) (r : Rec) : g (s.dropRec n r) = g s := by
  have hcount : Reg.HIF_CH_DROP_COUNT n / 0x400 = 1 := show (0x0498 + 32 * n) / 0x400 = 1 by omega
  have hdropped : ∀ c : Chan, c.posted = (s.chan n).posted →
      g (((s.setChan n c).bump (Reg.HIF_CH_DROP_COUNT n)).sticky (Fld.HIF_CH_STATUS_DROP_SEEN n)) = g s := fun c hc =>
    (h.chStatus _ hn _ _).trans ((h.reg _ _ _ hcount).trans (h.chan s n c hc))
  unfold State.dropRec
  dsimp only
  split
  · exact (h.gap _ _).trans (hdropped _ rfl)
  · exact hdropped _ rfl

theorem startXfer {n : Nat} (hn : n < 8) (r : Rec) (held : Nat) : g (s.startXfer n r held) = g s := by
  unfold State.startXfer
  dsimp only
  split
  · rfl
  · split
    · exact h.chan s n _ rfl
    · exact (h.dropRec _ hn r).trans ((h.chStatus _ hn _ _).trans (h.chan s n _ rfl))

theorem pump {n : Nat} (hn : n < 8) : g (s.pump n) = g s := by
  unfold State.pump
  dsimp only
  split
  · rfl
  · split
    · exact (h.startXfer _ hn _ _).trans (h.chan s n _ rfl)
    · rfl

end OffPump

/-- A channel that is changed in what `f` does not show. -/
theorem State.chan_setChan_keeps {β : Type} (f : Chan → β) {n : Nat} {c : Chan} (h : f c = f (s.chan n)) (m : Nat) :
    f ((s.setChan n c).chan m) = f (s.chan m) := by
  by_cases hm : m = n
  · subst hm
    by_cases hl : m < s.hif.chans.length
    · rw [s.chan_setChan_self hl, h]
    · have hge : s.hif.chans.length ≤ m := Nat.not_lt.1 hl
      unfold State.chan
      rw [State.setChan_chans, List.getD_eq_default _ _ hge, List.getD_eq_default _ _ (by rwa [length_modAt])]
  · rw [s.chan_setChan_ne hm]

theorem posted_offPump (m : Nat) : OffPump fun u => (u.chan m).posted :=
  ⟨fun _ _ _ _ => rfl, fun _ _ => rfl, fun _ _ => rfl, fun s _ _ h => s.chan_setChan_keeps Chan.posted h m⟩

theorem outs_offPump : OffPump State.outs :=
  ⟨fun _ _ _ _ => rfl, fun _ _ => rfl, fun _ _ => rfl, fun _ _ _ _ => rfl⟩

/-! ## Completions that waited for a record (R272) -/

/-- What no completion alters is left alone where those that waited for a record are written. -/
theorem State.settleAfter_keeps {β : Type} (g : State → β)
    (hcomplete : ∀ (u : State) cid st why v b, g (u.complete cid st why v b) = g u)
    (hwaits : ∀ (u : State) a e, g { u with hif.after := a, cel.replayEnd := e } = g u) : g s.settleAfter = g s := by
  have hsettled : ∀ (u : State) a, g (if (u.chan a.ch).holds a.typ a.frame then { u with hif.after := u.hif.after ++ [a] }
      else State.complete { u with cel.replayEnd := if a.ch = 4 then some u.mono else u.cel.replayEnd } a.cid a.status a.reason
        a.value none) = g u := by
    intro u a
    split
    · exact hwaits u _ u.cel.replayEnd
    · exact (hcomplete _ _ _ _ _ _).trans (hwaits u u.hif.after _)
  unfold State.settleAfter
  dsimp only
  rw [foldl_keeps g hsettled]
  exact hwaits s _ s.cel.replayEnd

@[simp] theorem State.chans_settleAfter : s.settleAfter.hif.chans = s.hif.chans :=
  s.settleAfter_keeps (fun u => u.hif.chans) (fun u => u.chans_complete) (fun _ _ _ => rfl)

@[simp] theorem State.chan_settleAfter (n : Nat) : s.settleAfter.chan n = s.chan n :=
  congrArg (fun l => l.getD n chanIdle) s.chans_settleAfter

theorem State.reg_settleAfter_ne {o : Nat} (h : o ≠ Reg.HIF_STATUS) : s.settleAfter.reg o = s.reg o :=
  s.settleAfter_keeps (fun u => u.reg o) (fun u => u.reg_complete_ne h) (fun _ _ _ => rfl)

theorem State.outs_suffix_settleAfter : s.outs <:+ s.settleAfter.outs := by
  unfold State.settleAfter
  refine List.foldlRecOn (motive := fun u : State => s.outs <:+ u.outs) _ _ List.suffix_rfl fun u hu a _ => ?_
  dsimp only
  split
  · exact hu
  · have hcompleted : ∀ e cid st why v b, u.outs <:+ (State.complete { u with cel.replayEnd := e } cid st why v b).outs := fun e =>
      State.outs_suffix_complete { u with cel.replayEnd := e }
    exact hu.trans (hcompleted _ _ _ _ _ _)

/-! ## Served doorbells (R258, R285) -/

/-- Moderation moves no index and no doorbell of its ring. -/
theorem State.posted_modChan (n m : Nat) : ((s.modChan n).chan m).posted = (s.chan m).posted := by
  have hsignal : ∀ (u : State) v, (u.signal v).chan m = u.chan m := fun u v => by
    unfold State.chan
    rw [State.signal_hif]
  unfold State.modChan
  dsimp only
  split
  · rw [hsignal]
    exact s.chan_setChan_keeps Chan.posted (by rfl) m
  · rfl

variable {s} {ch v : Nat}

theorem State.bufProd_doBufProd (hlen : s.chansOk) (hch : ch < 8) (hv : v < 65536) (hon : s.chanOn ch = true)
    (hd : idxDist (s.chan ch).bufCons v ≤ s.bufSize ch) (d : List BufDesc) : ((s.doBufProd ch v d).chan ch).bufProd = v := by
  unfold State.doBufProd
  dsimp only
  rw [if_pos (doorbell_open hv hon hd), State.chan_settleAfter]
  refine (congrArg (fun p => p.2.1) ((posted_offPump ch).pump _ hch)).trans ?_
  exact congrArg Chan.bufProd (State.chan_setChan_self _ (hch.trans_eq hlen.symm) _)

theorem State.scmpCons_doScmpCons (hlen : s.chansOk) (hch : ch < 8) (hv : v < 65536) (hon : s.chanOn ch = true)
    (hd : idxDist (s.chan ch).scmpCons v ≤ idxDist (s.chan ch).scmpCons (s.chan ch).scmpProd) :
    ((s.doScmpCons ch v).chan ch).scmpCons = v ∧ ((s.doScmpCons ch v).chan ch).lastDoorbell = s.mono := by
  unfold State.doScmpCons
  dsimp only
  rw [if_pos (doorbell_open hv hon hd), State.chan_settleAfter]
  have hposted : ∀ u : State, (((u.modChan ch).pump ch).chan ch).posted = (u.chan ch).posted := fun u =>
    ((posted_offPump ch).pump _ hch).trans (u.posted_modChan ch ch)
  refine ⟨(congrArg (fun p => p.2.2.2.1) (hposted _)).trans ?_, (congrArg (fun p => p.2.2.2.2) (hposted _)).trans ?_⟩
  · exact congrArg Chan.scmpCons (State.chan_setChan_self _ (hch.trans_eq hlen.symm) _)
  · exact congrArg Chan.lastDoorbell (State.chan_setChan_self _ (hch.trans_eq hlen.symm) _)

/-- Settles O1: a write that meets its doorbell's conditions is stored, and what goes on with it moves no index back. -/
theorem doorbellsMoveIndices : Obligations.DoorbellsMoveIndices := by
  unfold Obligations.DoorbellsMoveIndices
  intro s hp hlen
  refine ⟨?cmd, ?cmp, ?buf, ?scmp⟩
  case cmd =>
    intro v hv hrun hd
    refine yields_of_runIf (exec_cmdProd s v) (decide_eq_true (show v < 2 ^ 32 by omega)) hp ?_
    rw [show s.woken.doCmdProd v = { s.woken with hif.cmdProd := v } from if_pos (doorbell_open hv hrun hd), commit_hif]
    exact ⟨rfl, rfl, rfl⟩
  case cmp =>
    intro v hv hrun hd
    refine yields_of_runIf (exec_cmpCons s v) (decide_eq_true (show v < 2 ^ 32 by omega)) hp ?_
    rw [show s.woken.doCmpCons v = State.modCmp _ from if_pos (doorbell_open hv hrun hd), commit_hif, State.modCmp_hif]
    exact ⟨rfl, rfl, rfl⟩
  case buf =>
    intro ch v d hch hv hon hd
    refine yields_of_runIf (exec_chBufProd s ch v d) (wf_chBufProd hch (by omega) d) hp ?_
    rw [chan_commit]
    exact State.bufProd_doBufProd (s := s.woken) hlen hch hv hon hd d
  case scmp =>
    intro ch v hch hv hon hd
    refine yields_of_runIf (exec_chScmpCons s ch v) (wf_chScmpCons hch (by omega)) hp ?_
    rw [chan_commit]
    exact State.scmpCons_doScmpCons (s := s.woken) hlen hch hv hon hd

end Sys2Proof.Machine
end

section
/-! Rings and channels that start and stop, and records that reach host memory (R256, R258, R261, R278, R280, R281, R285, R286). -/

namespace Sys2Proof.Machine

open Sys2Proof

variable (s : State)

theorem exec_cmdEn (v : Word) : exec (.cmdEn v) s = run (fun s => s.woken.doCmdEn v) s := rfl
theorem exec_channelEnable (ch : Nat) (v : Word) : exec (.channelEnable ch v) s =
    runIf "CHANNEL_ENABLE" (Instr.wf (.channelEnable ch v)) (fun s => s.woken.writeChCtrl ch v) s := rfl
theorem exec_channelDisable (ch : Nat) (v : Word) : exec (.channelDisable ch v) s =
    runIf "CHANNEL_DISABLE" (Instr.wf (.channelDisable ch v)) (fun s => s.woken.writeChCtrl ch v) s := rfl
theorem exec_busMasterEnableChange (on : Bool) :
    exec (.busMasterEnableChange on) s = run (fun s => State.resumeBus { s.woken with hif.busMaster := on }) s := rfl
theorem exec_egressBufferAvailable (ch : Nat) : exec (.egressBufferAvailable ch) s =
    runIf "EGRESS_BUFFER_AVAILABLE" (Instr.wf (.egressBufferAvailable ch)) (fun s => s.doEgress ch) s := rfl
theorem exec_recordTransferDone (ch : Nat) (e : Bool) : exec (.recordTransferDone ch e) s =
    runIf "RECORD_TRANSFER_DONE" (Instr.wf (.recordTransferDone ch e)) (fun s => s.doXferDone ch e) s := rfl
theorem exec_interruptModerationTimeout (v : Nat) : exec (.interruptModerationTimeout v) s =
    runIf "INTERRUPT_MODERATION_TIMEOUT" (Instr.wf (.interruptModerationTimeout v)) (fun s => s.doModTimeout v) s := rfl

/-! ## What the rows of the rings leave alone -/

/-- What shows no register of the host interface's block, nothing that leaves the block or waits to, no channel and no completion. -/
structure OffRings {β : Type} (g : State → β) : Prop where
  reg : ∀ s off v, off / 0x400 = 1 → g (State.setReg s off v) = g s
  link : ∀ (s : State) f o l, g { s with fresh := f, outs := o, linkL12 := l } = g s
  wait : ∀ (s : State) gap pv ho hd af e,
    g { s with hif.gap := gap, hif.pendingVectors := pv, hif.heldOuts := ho, hif.held := hd, hif.after := af, cel.replayEnd := e } = g s
  chan : ∀ s n c, g (State.setChan s n c) = g s
  entry : ∀ s e a b, g (State.putCompletion s e a b) = g s
  complete : ∀ s cid st why v b, g (State.complete s cid st why v b) = g s

namespace OffRings

variable {β : Type} {g : State → β} (h : OffRings g)

include h

theorem offPump : OffPump g :=
  ⟨h.reg, fun s f => h.link s f _ _, fun s b => h.wait s b _ _ _ _ _, fun s n c _ => h.chan s n c⟩

theorem settleAfter : g s.settleAfter = g s := s.settleAfter_keeps g h.complete fun u a e => h.wait u _ _ _ _ a e

theorem emit (o : Out) : g (s.emit o) = g s := h.link s _ _ _

theorem post (o : Out) : g (s.post o) = g s := by
  unfold State.post
  split
  · exact h.emit s o
  · exact h.wait s _ _ _ _ _ _

theorem signal (v : Nat) : g (s.signal v) = g s := by
  rcases s.signal_cases v with hs | hs | hs
  · rw [hs]
  · rw [hs]; exact h.emit s _
  · rw [hs]; exact h.wait s _ _ _ _ _ _

theorem modChan (n : Nat) : g (s.modChan n) = g s := by
  unfold State.modChan
  dsimp only
  split
  · exact (h.signal _ _).trans (h.chan s n _)
  · rfl

theorem take (n k : Nat) : g (s.take n k) = g s := (h.reg _ _ _ (by decide)).trans (h.chan s n _)

theorem finishXfer {n : Nat} (hn : n < 8) (e : Bool) : g (s.finishXfer n e) = g s := by
  unfold State.finishXfer
  dsimp only
  split
  · rfl
  · split
    · exact (h.offPump.dropRec _ hn _).trans ((h.offPump.chStatus _ hn _ _).trans (h.chan s n _))
    · exact (h.offPump.pump _ hn).trans ((h.modChan _ n).trans ((h.chan _ n _).trans ((h.post _ _).trans (h.post s _))))

theorem discardQueue {n : Nat} (hn : n < 8) : g (s.discardQueue n) = g s :=
  (foldl_keeps g (fun u r => h.offPump.dropRec u hn r) _ _).trans (h.chan s n _)

/-- Completions, writes, vectors and records that waited for the bus go on. -/
theorem resumeBus : g s.resumeBus = g s := by
  have hposts : g s.flushPosts = g s := by
    unfold State.flushPosts
    dsimp only
    rw [foldl_keeps g h.emit]
    exact h.wait s _ _ _ _ _ _
  have hheld : ∀ u : State, g u.flushHeld = g u := fun u => by
    unfold State.flushHeld
    dsimp only
    rw [foldl_keeps g fun t (e : CmpEntry × Nat × Option (List Byte)) => h.entry t e.1 e.2.1 e.2.2]
    exact h.wait u _ _ _ _ _ _
  have hvectors : ∀ u : State, g u.flushVectors = g u := fun u => by
    unfold State.flushVectors
    dsimp only
    rw [foldl_keeps g h.signal]
    exact h.wait u _ _ _ _ _ _
  have hpumped : ∀ u : State, g ((List.range 8).foldl (fun s n => s.pump n) u) = g u := fun u =>
    List.foldlRecOn (motive := fun t : State => g t = g u) _ _ rfl fun t ht n hn =>
      (h.offPump.pump t (List.mem_range.1 hn)).trans ht
  unfold State.resumeBus
  split
  · exact (h.settleAfter _).trans ((hpumped _).trans ((hvectors _).trans ((hheld _).trans hposts)))
  · rfl

end OffRings

/-- The bus itself. -/
theorem bus_offRings : OffRings fun u => (u.hif.busMaster, u.hif.d3hot) where
  reg _ _ _ _ := rfl
  link _ _ _ _ := rfl
  wait _ _ _ _ _ _ _ := rfl
  chan _ _ _ := rfl
  entry s e a b := by rw [State.putCompletion_hif]
  complete s _ _ _ _ _ := s.complete_keeps (fun h => (h.busMaster, h.d3hot)) (fun _ _ _ _ _ _ _ => rfl) _ _ _ _ _

/-- The channels that there are. -/
theorem chanCount_offRings : OffRings fun u => u.hif.chans.length where
  reg _ _ _ _ := rfl
  link _ _ _ _ := rfl
  wait _ _ _ _ _ _ _ := rfl
  chan _ _ _ := length_modAt _ _ _
  entry s e a b := by rw [State.putCompletion_hif]
  complete s _ _ _ _ _ := congrArg List.length (s.chans_complete _ _ _ _ _)

/-! ## Rings and channels that start (R256, R258) -/

/-- A bit that the host may store is stored (R9). -/
theorem flag_hostSet {f : Fld} (hw : f.wd = 1) (hrw : (rwMask f.off).getLsbD f.lo = true) (v : Word) :
    (s.hostSet f.off v).flag f = v.getLsbD f.lo := by
  rw [flag_eq_getLsbD _ hw, State.hostSet, State.reg_setReg_self, getLsbD_merged, if_pos hrw]

/-- The enable of each channel is such a bit. -/
theorem rwMask_chCtrl {ch : Nat} (hch : ch < 8) : (rwMask (Reg.HIF_CH_CTRL ch)).getLsbD 0 = true := by
  interval_cases ch <;> rfl

theorem fldOf_eq_one {v : Word} {f : Fld} (hw : f.wd = 1) : fldOf v f = 1 ↔ v.getLsbD f.lo = true := by
  unfold fldOf
  rw [hw, BitVec.getLsbD, Nat.testBit_eq_decide_div_mod_eq, decide_eq_true_eq, Nat.pow_one]

theorem State.doCmdEn_starts {v : Word} (hv : v.getLsbD 0 = true) (hrun : s.cmdRun = false) :
    (s.doCmdEn v).cmdRun = true ∧ (s.doCmdEn v).hif.cmdProd = 0 ∧ (s.doCmdEn v).hif.cmdFetch = 0 ∧ (s.doCmdEn v).hif.cmpProd = 0 ∧
      (s.doCmdEn v).hif.cmpCons = 0 := by
  have hon : (s.hostSet Reg.HIF_CTRL v).cmdRun = true := (flag_hostSet s (f := Fld.HIF_CTRL_CMD_EN) rfl rfl v).trans hv
  unfold State.doCmdEn
  dsimp only
  rw [if_pos (by rw [hon, hrun]; rfl)]
  exact ⟨hon, rfl, rfl, rfl, rfl⟩

variable {s} {ch : Nat} {v : Word}

/-- The state of a channel once it is enabled: nothing waits on it, and its indices start at 0; drops since its last completion and
frames lost are remembered. -/
def Chan.started (c : Chan) (now : Nat) : Chan :=
  { chanIdle with enabled := true, lastDoorbell := now, dropsSince := c.dropsSince, lost := c.lost }

theorem State.writeChCtrl_starts (hlen : s.chansOk) (hch : ch < 8) (hv : v.getLsbD 0 = true) (hok : chCtrlOk v = true)
    (hoff : s.chanOn ch = false) :
    (s.writeChCtrl ch v).chanOn ch = true ∧ ∃ c t, (s.writeChCtrl ch v).chan ch = Chan.started c t := by
  have hset : fldOf v (Fld.HIF_CH_CTRL_ENABLE ch) = 1 := (fldOf_eq_one rfl).2 hv
  have hst : Reg.HIF_CH_CTRL ch ≠ Reg.HIF_STATUS := show 0x0490 + 32 * ch ≠ 0x0400 by omega
  unfold State.writeChCtrl
  dsimp only
  rw [if_neg (by simp [hok]), if_neg (by simp [hoff]), if_pos hset]
  refine ⟨?_, ((s.finishXfer ch false).hostSet (Reg.HIF_CH_CTRL ch) v).chan ch,
    ((s.finishXfer ch false).hostSet (Reg.HIF_CH_CTRL ch) v).mono, ?_⟩
  · refine Eq.trans (flag_of_reg (State.reg_settleAfter_ne _ hst)) ?_
    exact (flag_hostSet (s.finishXfer ch false) (f := Fld.HIF_CH_CTRL_ENABLE ch) rfl (rwMask_chCtrl hch) v).trans hv
  · rw [State.chan_settleAfter]
    exact State.chan_setChan_self _ (hch.trans_eq ((chanCount_offRings.finishXfer s hch false).trans hlen).symm) _

/-! ## Channels that stop (R280) -/

/-- Of its channel a dropped record alters the count of drops alone. -/
theorem State.chan_dropRec_keeps {β : Type} (f : Chan → β) (hf : ∀ c d, f { c with dropsSince := d } = f c) (s : State) (n : Nat)
    (r : Rec) (m : Nat) : f ((s.dropRec n r).chan m) = f (s.chan m) := by
  have hchans : (s.dropRec n r).hif.chans =
      (s.setChan n { s.chan n with dropsSince := min ((s.chan n).dropsSince + 1) (2 ^ 32 - 1) }).hif.chans := by
    unfold State.dropRec
    dsimp only
    split <;> rfl
  have hchan : (s.dropRec n r).chan m =
      (s.setChan n { s.chan n with dropsSince := min ((s.chan n).dropsSince + 1) (2 ^ 32 - 1) }).chan m :=
    congrArg (fun l : List Chan => l.getD m chanIdle) hchans
  rw [hchan]
  exact s.chan_setChan_keeps f (hf _ _) m

/-- Of the registers it counts in its channel's drop count and sets DROP_SEEN (R282). -/
theorem State.reg_dropRec (s : State) (n : Nat) (r : Rec) (o : Nat) :
    (s.dropRec n r).reg o = ((s.bump (Reg.HIF_CH_DROP_COUNT n)).sticky (Fld.HIF_CH_STATUS_DROP_SEEN n)).reg o := by
  unfold State.dropRec
  dsimp only
  split <;> rfl

theorem State.chanOn_dropRec (s : State) (n : Nat) (r : Rec) : (s.dropRec n r).chanOn ch = s.chanOn ch := by
  have hs : Reg.HIF_CH_CTRL ch ≠ Reg.HIF_CH_STATUS n := show 0x0490 + 32 * ch ≠ 0x0494 + 32 * n by omega
  have hd : Reg.HIF_CH_CTRL ch ≠ Reg.HIF_CH_DROP_COUNT n := show 0x0490 + 32 * ch ≠ 0x0498 + 32 * n by omega
  refine flag_of_reg ?_
  rw [State.reg_dropRec, State.reg_sticky_ne _ hs, State.reg_bump_ne _ _ hd]

theorem State.queue_discardQueue (hlen : ch < s.hif.chans.length) : ((s.discardQueue ch).chan ch).queue = [] := by
  unfold State.discardQueue
  dsimp only
  rw [foldl_keeps (fun u => (u.chan ch).queue) fun u r => u.chan_dropRec_keeps Chan.queue (fun _ _ => rfl) ch r ch,
    State.chan_setChan_self _ hlen]

theorem State.chanOn_discardQueue (s : State) (n : Nat) : (s.discardQueue n).chanOn ch = s.chanOn ch :=
  foldl_keeps (fun u => u.chanOn ch) (fun u r => u.chanOn_dropRec n r) _ _

theorem State.writeChCtrl_stops (hlen : s.chansOk) (hch : ch < 8) (hv : v.getLsbD 0 = false) (hok : chCtrlOk v = true)
    (hon : s.chanOn ch = true) :
    (s.writeChCtrl ch v).chanOn ch = false ∧ ((s.writeChCtrl ch v).chan ch).enabled = false ∧
      ((s.writeChCtrl ch v).chan ch).queue = [] := by
  have hclear : ¬fldOf v (Fld.HIF_CH_CTRL_ENABLE ch) = 1 := by
    rw [fldOf_eq_one rfl, hv]
    exact Bool.false_ne_true
  have hst : Reg.HIF_CH_CTRL ch ≠ Reg.HIF_STATUS := show 0x0490 + 32 * ch ≠ 0x0400 by omega
  unfold State.writeChCtrl
  dsimp only
  rw [if_neg (by simp [hok]), if_pos hon, if_neg hclear]
  generalize hu : State.setFld _ (Fld.HIF_CH_CTRL_ENABLE ch) 0 = u
  have hoff : u.chanOn ch = false := by
    rw [← hu]
    simp [State.chanOn, State.flag, State.fld_setFld_zero]
  have hlenu : ch < u.hif.chans.length := by
    rw [← hu]
    simpa [hlen] using hch
  have hlend : ch < (u.discardQueue ch).hif.chans.length := by
    rw [chanCount_offRings.discardQueue u hch]
    exact hlenu
  refine ⟨?_, ?_⟩
  · refine Eq.trans (flag_of_reg (State.reg_settleAfter_ne _ hst)) ?_
    exact (u.chanOn_discardQueue ch).trans hoff
  · rw [State.chan_settleAfter, State.chan_setChan_self _ hlend]
    exact ⟨rfl, u.queue_discardQueue hlenu⟩

theorem wf_channelEnable (hch : ch < 8) (hv : v.getLsbD 0 = true) : Instr.wf (.channelEnable ch v) = true := by
  simp only [Instr.wf, chOk, decide_eq_true hch, hv, Bool.and_self]

theorem wf_channelDisable (hch : ch < 8) (hv : v.getLsbD 0 = false) : Instr.wf (.channelDisable ch v) = true := by
  simp only [Instr.wf, chOk, decide_eq_true hch, hv, Bool.not_false, Bool.and_self]

/-- Settles O3: the enables by what their writes start or stop, Bus Master Enable by what goes on with it. -/
theorem ringsAndChannelsStartAndStop : Obligations.RingsAndChannelsStartAndStop := by
  unfold Obligations.RingsAndChannelsStartAndStop
  intro s hp hlen
  refine ⟨?cmdEn, ?enable, ?disable, ?bus⟩
  case cmdEn =>
    intro v hv hrun
    refine yields_of_run (exec_cmdEn s v) hp ?_
    rw [cmdRun_commit, commit_hif]
    exact s.woken.doCmdEn_starts hv hrun
  case enable =>
    intro ch v hch hv hok hoff
    refine yields_of_runIf (exec_channelEnable s ch v) (wf_channelEnable hch hv) hp ?_
    obtain ⟨hon, c, t, hc⟩ := State.writeChCtrl_starts (s := s.woken) hlen hch hv hok hoff
    rw [chanOn_commit, chan_commit, hc]
    exact ⟨hon, rfl, rfl, rfl, rfl, rfl⟩
  case disable =>
    intro ch v hch hv hok hon
    refine yields_of_runIf (exec_channelDisable s ch v) (wf_channelDisable hch hv) hp ?_
    rw [chanOn_commit, chan_commit]
    exact State.writeChCtrl_stops (s := s.woken) hlen hch hv hok hon
  case bus =>
    intro on
    refine yields_of_run (exec_busMasterEnableChange s on) hp ?_
    rw [commit_hif]
    exact congrArg Prod.fst (bus_offRings.resumeBus { s.woken with hif.busMaster := on })

/-! ## Records in transfer (R261, R278, R281, R285) -/

variable (s ch) in
theorem State.reg_dropRec_count (r : Rec) :
    (s.dropRec ch r).reg (Reg.HIF_CH_DROP_COUNT ch) = s.reg (Reg.HIF_CH_DROP_COUNT ch) + 1 := by
  have hs : Reg.HIF_CH_DROP_COUNT ch ≠ Reg.HIF_CH_STATUS ch := show 0x0498 + 32 * ch ≠ 0x0494 + 32 * ch by omega
  rw [State.reg_dropRec, State.reg_sticky_ne _ hs, State.reg_bump_self]
  rfl

theorem State.flag_dropRec {f : Fld} (hw : f.wd = 1) (ho : f.off ≠ Reg.HIF_CH_DROP_COUNT ch) (h : s.flag f = true) (r : Rec) :
    (s.dropRec ch r).flag f = true :=
  (flag_of_reg (s.reg_dropRec ch r f.off)).trans
    (flag_sticky_of_flag _ hw ((flag_of_reg (s.reg_bump_ne 1 ho)).trans h))

theorem State.flag_dropRec_seen (s : State) (n : Nat) (r : Rec) : (s.dropRec n r).flag (Fld.HIF_CH_STATUS_DROP_SEEN n) = true :=
  (flag_of_reg (s.reg_dropRec n r (Reg.HIF_CH_STATUS n))).trans (flag_sticky _ (show 10 < 32 by decide) Nat.one_pos)

/-- A transfer that may end is one in progress, with the bus free. -/
theorem State.of_xferReady (h : s.xferReady ch = true) : (∃ x, (s.chan ch).xfer = some x) ∧ s.busOk = true := by
  unfold State.xferReady at h
  split at h
  · next x hx => exact ⟨⟨x, hx⟩, (Bool.and_eq_true_iff.1 h).1⟩
  · cases h

/-- A transfer that fails halts its channel and drops its record (R281). -/
theorem State.finishXfer_fails (hlen : ch < s.hif.chans.length) {x : Transfer} (hx : (s.chan ch).xfer = some x) :
    let t := s.finishXfer ch true
    (t.chan ch).xfer = none ∧ (t.chan ch).halted = true ∧ t.flag (Fld.HIF_CH_STATUS_DMA_ERR ch) = true ∧
      t.flag (Fld.HIF_CH_STATUS_DROP_SEEN ch) = true ∧
      t.reg (Reg.HIF_CH_DROP_COUNT ch) = s.reg (Reg.HIF_CH_DROP_COUNT ch) + 1 ∧ (t.chan ch).scmpProd = (s.chan ch).scmpProd := by
  have hs : Reg.HIF_CH_STATUS ch ≠ Reg.HIF_CH_DROP_COUNT ch := show 0x0494 + 32 * ch ≠ 0x0498 + 32 * ch by omega
  have hchan : ∀ (u : State) r, let d := (u.dropRec ch r).chan ch
      (d.xfer, d.halted, d.scmpProd) = ((u.chan ch).xfer, (u.chan ch).halted, (u.chan ch).scmpProd) := fun u r =>
    u.chan_dropRec_keeps (fun c => (c.xfer, c.halted, c.scmpProd)) (fun _ _ => rfl) ch r ch
  unfold State.finishXfer
  dsimp only
  rw [hx]
  dsimp only
  rw [if_pos rfl]
  generalize hu : State.setChan s ch _ = u
  have hc := (congrArg (fun t : State => t.chan ch) hu).symm.trans (s.chan_setChan_self hlen _)
  have hreg : u.reg (Reg.HIF_CH_DROP_COUNT ch) = s.reg (Reg.HIF_CH_DROP_COUNT ch) := by
    rw [← hu, State.reg_setChan]
  obtain ⟨h1, h23⟩ := Prod.ext_iff.1 (hchan (u.sticky (Fld.HIF_CH_STATUS_DMA_ERR ch)) x.record)
  obtain ⟨h2, h3⟩ := Prod.ext_iff.1 h23
  refine ⟨h1.trans (congrArg Chan.xfer hc), h2.trans (congrArg Chan.halted hc),
    State.flag_dropRec rfl hs (flag_sticky u (show 9 < 32 by decide) Nat.one_pos) _, State.flag_dropRec_seen _ _ _, ?_,
    h3.trans (congrArg Chan.scmpProd hc :)⟩
  rw [State.reg_dropRec_count, State.reg_sticky_ne _ hs.symm, hreg]

theorem State.outs_suffix_modChan (s : State) (n : Nat) : s.outs <:+ (s.modChan n).outs := by
  unfold State.modChan
  dsimp only
  split
  · exact outs_suffix_signal (s.setChan n { s.chan n with signalled := true }) (n + 1)
  · exact List.suffix_rfl

/-- A transfer that ends with the bus free brings its record and its stream completion to host memory (R261, R278). -/
theorem State.finishXfer_sends (hlen : s.chansOk) (hch : ch < 8) (hb : s.busOk = true) {x : Transfer}
    (hx : (s.chan ch).xfer = some x) :
    let t := s.finishXfer ch false
    Sent s t (.record ch x.record x.bufs) ∧
      Sent s t (.scmp (scmpOf ch x (s.chan ch) (s.scmpSize ch) (s.scmpAddr ch (s.chan ch).scmpProd))) ∧
      (t.chan ch).scmpProd = ((s.chan ch).scmpProd + 1) % 65536 := by
  unfold State.finishXfer
  dsimp only
  rw [hx]
  dsimp only
  rw [if_neg Bool.false_ne_true, s.post_of_bus hb, State.post_of_bus _ (show (s.emit _).busOk = true from hb)]
  generalize hu : State.setChan _ ch _ = u
  have hc := (congrArg (fun t : State => t.chan ch) hu).symm.trans (State.chan_setChan_self _ (hch.trans_eq hlen.symm) _)
  have hsent : u.outs <:+ ((u.modChan ch).pump ch).outs := by
    rw [outs_offPump.pump _ hch]
    exact u.outs_suffix_modChan ch
  have hposted := ((posted_offPump ch).pump (u.modChan ch) hch).trans (u.posted_modChan ch ch)
  refine ⟨Sent.later ⟨[_, _], (congrArg State.outs hu).symm, .tail _ (.head _)⟩ hsent,
    Sent.later ⟨[_, _], (congrArg State.outs hu).symm, .head _⟩ hsent, ?_⟩
  exact (congrArg (fun p => p.2.2.1) hposted).trans (congrArg Chan.scmpProd hc)

/-- A transfer that waits for its pool buffer takes it once it may (R281). -/
theorem State.doEgress_takes (hlen : ch < s.hif.chans.length) {x : Transfer} (hx : (s.chan ch).xfer = some x) (hheld : x.held = 0)
    (htyp : x.record.typ = 0) (htake : s.mayTake ch 1 = true) :
    ((s.doEgress ch).chan ch).xfer = some { x with held := 1 } ∧ ((s.doEgress ch).chan ch).used = (s.chan ch).used + 1 := by
  have htaken : (s.take ch 1).chan ch = { s.chan ch with used := (s.chan ch).used + 1 } := s.chan_setChan_self hlen _
  have hlent : ch < (s.take ch 1).hif.chans.length := hlen.trans_eq (length_modAt _ _ _).symm
  unfold State.doEgress
  dsimp only
  rw [hx]
  dsimp only
  rw [if_pos (by simp [hheld, htyp, htake]), State.chan_setChan_self _ hlent, htaken]
  exact ⟨rfl, rfl⟩

/-- A vector that is due is signalled (R285). -/
theorem State.signalled_modChan (hlen : ch < s.hif.chans.length) (hdue : modDue (s.fld (Fld.HIF_CH_MOD_COUNT ch))
    (s.fld (Fld.HIF_CH_MOD_TIME ch)) (s.chan ch).entryTicks (s.chan ch).lastDoorbell (s.chan ch).signalled s.mono = true) :
    ((s.modChan ch).chan ch).signalled = true := by
  unfold State.modChan
  dsimp only
  rw [if_pos hdue]
  unfold State.chan
  rw [State.signal_hif]
  exact congrArg Chan.signalled (s.chan_setChan_self hlen _)

theorem State.cmpSignalled_modCmp (hdue : modDue (s.fld Fld.HIF_CMP_MOD_COUNT) (s.fld Fld.HIF_CMP_MOD_TIME) s.hif.cmpTicks
    s.hif.cmpLastDoorbell s.hif.cmpSignalled s.mono = true) : s.modCmp.hif.cmpSignalled = true := by
  unfold State.modCmp
  rw [if_pos hdue, State.signal_hif]

/-- The rows of a channel, and those of a ring's vector, name one that there is. -/
theorem wf_egress (hch : ch < 8) : Instr.wf (.egressBufferAvailable ch) = true := decide_eq_true hch
theorem wf_transferDone (hch : ch < 8) (e : Bool) : Instr.wf (.recordTransferDone ch e) = true := decide_eq_true hch

/-- Settles O4: each clause by what its row does to the transfer or the vector, and what follows at the end of the row. -/
theorem recordsReachHostMemory : Obligations.RecordsReachHostMemory := by
  unfold Obligations.RecordsReachHostMemory
  intro s hp hlen
  refine ⟨?egress, ?done, ?fails, ?cmp, ?vector⟩
  case egress =>
    intro ch x hch hx hheld htyp htake
    refine yields_of_runIf (exec_egressBufferAvailable s ch) (wf_egress hch) hp ?_
    rw [chan_commit]
    exact State.doEgress_takes (hch.trans_eq hlen.symm) hx hheld htyp htake
  case done =>
    intro ch x hch hx hready
    refine yields_of_runIf (exec_recordTransferDone s ch false) (wf_transferDone hch false) hp ?_
    obtain ⟨hrec, hscmp, hprod⟩ := State.finishXfer_sends hlen hch (State.of_xferReady hready).2 hx
    have hlater := (State.outs_suffix_settleAfter (s.finishXfer ch false)).trans (outs_suffix_commit s _)
    rw [show s.doXferDone ch false = (s.finishXfer ch false).settleAfter from if_pos hready, chan_commit, State.chan_settleAfter]
    exact ⟨hrec.later hlater, hscmp.later hlater, hprod⟩
  case fails =>
    intro ch hch hready
    refine yields_of_runIf (exec_recordTransferDone s ch true) (wf_transferDone hch true) hp ?_
    obtain ⟨⟨x, hx⟩, -⟩ := State.of_xferReady hready
    obtain ⟨hxfer, hhalt, hdma, hseen, hcount, hprod⟩ := State.finishXfer_fails (hch.trans_eq hlen.symm) hx
    have hreg : ∀ o, o ≠ Reg.HIF_STATUS → o ≠ Reg.GLB_INT_SUMMARY →
        (commit s (s.finishXfer ch true).settleAfter).reg o = (s.finishXfer ch true).reg o := fun o ho hg =>
      (reg_commit_ne _ _ hg).trans (State.reg_settleAfter_ne _ ho)
    have hstatus := hreg (Reg.HIF_CH_STATUS ch) (show 0x0494 + 32 * ch ≠ 0x0400 by omega) (show 0x0494 + 32 * ch ≠ 0x0030 by omega)
    have hdrops := hreg (Reg.HIF_CH_DROP_COUNT ch) (show 0x0498 + 32 * ch ≠ 0x0400 by omega)
      (show 0x0498 + 32 * ch ≠ 0x0030 by omega)
    rw [show s.doXferDone ch true = (s.finishXfer ch true).settleAfter from if_pos hready, chan_commit, State.chan_settleAfter]
    exact ⟨hxfer, hhalt, (flag_of_reg hstatus).trans hdma, (flag_of_reg hstatus).trans hseen, hdrops.trans hcount, hprod⟩
  case cmp =>
    intro hdue
    refine yields_of_runIf (exec_interruptModerationTimeout s 0) rfl hp ?_
    rw [commit_hif]
    exact State.cmpSignalled_modCmp hdue
  case vector =>
    intro ch hch hdue
    have hw : Instr.wf (.interruptModerationTimeout (ch + 1)) = true := decide_eq_true (show ch + 1 < 9 by omega)
    refine yields_of_runIf (exec_interruptModerationTimeout s (ch + 1)) hw hp ?_
    rw [chan_commit]
    exact State.signalled_modChan (hch.trans_eq hlen.symm) hdue

end Sys2Proof.Machine
end

section
/-! The fields that SET_PROFILE and ENERGY_PLAN have checked before anything else (R39, R271). -/

namespace Sys2Proof.Machine

open Sys2Proof

theorem exec_energyPlan (s : State) (h : Hdr) (p : ProfileReq) (frames store : Nat) :
    exec (.energyPlan h p frames store) s =
      runIf "ENERGY_PLAN" (Instr.wf (.energyPlan h p frames store)) (fun s => s.doEnergyPlan h p frames store) s := rfl

variable {s : State} {h : Hdr} {p : ProfileReq}

/-! ## The profile field at fault -/

/-- The profile field at offset `off` is the first at fault (R271). -/
def FieldAtFault (p : ProfileReq) (off : Nat) : Prop :=
  (4 < p.fmt ∧ off = 0x18) ∨ (p.fmt ≤ 4 ∧ 2 < p.mode ∧ off = 0x19) ∨ (p.fmt ≤ 4 ∧ p.mode ≤ 2 ∧ p.l ∉ [0, 1, 2, 4] ∧ off = 0x1A) ∨
    (p.fmt ≤ 4 ∧ p.mode ≤ 2 ∧ p.l ∈ [0, 1, 2, 4] ∧ 1 < p.preview ∧ off = 0x1B)

theorem profileFieldBad_eq_some {off : Nat} : profileFieldBad p = some off ↔ FieldAtFault p off := by
  unfold profileFieldBad FieldAtFault
  rw [eq_comm (a := off), eq_comm (a := off), eq_comm (a := off), eq_comm (a := off)]
  by_cases hf : 4 < p.fmt
  · simp [hf, Nat.not_le.2 hf]
  · by_cases hm : 2 < p.mode
    · simp [hf, hm, Nat.not_lt.1 hf, Nat.not_le.2 hm]
    · by_cases hl : p.l ∈ [0, 1, 2, 4]
      · simp [hf, hm, hl, Nat.not_lt.1 hf, Nat.not_lt.1 hm]
      · simp [hf, hm, hl, Nat.not_lt.1 hf, Nat.not_lt.1 hm]

/-- RAW20 with too long a period is at fault somewhere (R39). -/
theorem profileBad_of_raw20 (hfmt : p.fmt = Fmt.raw20) (hlong : 50000000 < p.period) : ∃ off, profileBad p = some off := by
  unfold profileBad
  split
  · exact ⟨_, rfl⟩
  · split
    · exact ⟨_, rfl⟩
    · split
      · exact ⟨_, rfl⟩
      · exact ⟨_, if_pos ⟨hfmt, hlong⟩⟩

/-! ## A command refused at its acceptance -/

/-- A command with a field at fault, accepted outside recovery, ends with BAD_PARAM (R271). -/
theorem State.acceptCmd_badParam (hf : s.canAccept h.fence = true) (hboot : s.sec.boot ≠ .recovery) {op limit off : Nat}
    {bad : State → Option Nat} {profile : Option Nat} (hbad : firstBad profile h (bad (s.accepted h op)) = some off)
    (body : State → Nat → State) (v : Option Nat) :
    s.acceptCmd h op limit bad body profile v = (s.accepted h op).complete s.hif.nextCid St.badParam off v none := by
  have hb : (s.accepted h op).sec.boot ≠ .recovery := hboot
  unfold State.acceptCmd
  rw [s.accept_eq hf]
  simp [hb, hbad]

/-- The command is completed so, and nothing else has come of it. -/
def State.Refused (s t : State) (h : Hdr) (op why : Nat) : Prop :=
  Completed s t h.tag op St.badParam why ∧ t.tol = s.tol ∧ t.hif.outstanding = s.hif.outstanding

theorem State.refused_accepted (hc : s.cidsOk) (hb : s.busOk = true) (h : Hdr) (op why : Nat) (v : Option Nat) :
    s.Refused (commit s ((s.accepted h op).complete s.hif.nextCid St.badParam why v none)) h op why := by
  refine ⟨s.completed_accepted hc hb h op St.badParam why v none, by rw [commit_tol, State.complete_tol]; rfl, ?_⟩
  rw [commit_hif]
  dsimp only
  rw [State.complete_outstanding]
  show (s.hif.outstanding ++ [s.newCmd h op]).filter _ = _
  rw [List.filter_append, List.filter_eq_self.2 fun c hm => by simpa using Nat.ne_of_lt (hc.1 c hm)]
  simp [State.newCmd]

section

variable (hp : s.powered) (hc : s.cidsOk) (hb : s.busOk = true) (hh : hdrOk h = true)
  (hf : s.canAccept h.fence = true) (hboot : s.sec.boot ≠ .recovery) (hr : profileReqOk p = true)

include hp hc hb hh hf hboot hr

/-- SET_PROFILE with a field at fault is refused. -/
theorem yields_setProfile_refused {n off : Nat} (hn : n < 2 ^ 64) (hbad : firstBad (profileFieldBad p) h (profileBad p) = some off) :
    Yields (.setProfile h p n) s fun t => s.Refused t h Op.setProfile off := by
  refine yields_of_runIf (exec_setProfile s h p n) (by simp only [Instr.wf, hh, hr, u64, decide_eq_true hn, Bool.and_self]) hp ?_
  unfold State.doSetProfile
  rw [State.acceptCmd_badParam hf hboot hbad]
  exact s.refused_accepted hc hb h _ _ _

/-- ENERGY_PLAN with a field of R271 at fault is refused. -/
theorem yields_energyPlan_refused {n store off : Nat} (hn : n < 2 ^ 32) (hstore : store < 2 ^ 8) (hbad : planFieldBad p store = some off) :
    Yields (.energyPlan h p n store) s fun t => s.Refused t h Op.energyPlan off := by
  refine yields_of_runIf (exec_energyPlan s h p n store) ?wf hp ?_
  case wf => simp only [Instr.wf, hh, hr, u32, u8, decide_eq_true hn, decide_eq_true hstore, Bool.and_self]
  unfold State.doEnergyPlan
  rw [hbad, State.acceptCmd_badParam (off := off) hf hboot rfl]
  exact s.refused_accepted hc hb h _ _ _

end

/-- Settles O7: the profile fields are the first that acceptance judges, so the first of them at fault ends the command. -/
theorem profileFieldsAreCheckedFirst : Obligations.ProfileFieldsAreCheckedFirst := by
  intro s h p n hp hc hb hh hf hboot hr atFault refused
  refine ⟨fun hn => ⟨fun off ho => ?_, fun hfmt hlong => ?_⟩, fun hn store hstore => ⟨fun off ho => ?_, fun hnone hbig => ?_⟩⟩
  · exact yields_setProfile_refused hp hc hb hh hf hboot hr hn (by rw [profileFieldBad_eq_some.2 ho]; rfl)
  · obtain ⟨off, hoff⟩ : ∃ off, firstBad (profileFieldBad p) h (profileBad p) = some off := by
      obtain ⟨o, ho⟩ := profileBad_of_raw20 hfmt hlong
      unfold firstBad
      rw [ho]
      split
      · exact ⟨_, rfl⟩
      · split <;> exact ⟨_, rfl⟩
    obtain ⟨t, he, ht⟩ := yields_setProfile_refused hp hc hb hh hf hboot hr hn hoff
    exact ⟨t, he, off, ht⟩
  · exact yields_energyPlan_refused hp hc hb hh hf hboot hr hn hstore (by rw [planFieldBad, profileFieldBad_eq_some.2 ho])
  · have hfields : profileFieldBad p = none := Option.eq_none_iff_forall_ne_some.2 fun o ho => hnone o (profileFieldBad_eq_some.1 ho)
    exact yields_energyPlan_refused hp hc hb hh hf hboot hr hn hstore (by rw [planFieldBad, hfields]; exact if_pos hbig)

end Sys2Proof.Machine
end

section
/-! What the rows of rings, channels and link touch: the host interface and its registers, and the end of a replay (R255, R256, R258,
R259, R280, R281, R285). -/

namespace Sys2Proof.Machine

open Sys2Proof

/-- The registers of the host interface: its block (R443) and the interrupt summary with its enables (R445). -/
def hostReg (o : Nat) : Bool := o / 0x400 = 1 || o = Reg.GLB_INT_EN || o = Reg.GLB_INT_SUMMARY

theorem hostReg_of_block {o : Nat} (h : o / 0x400 = 1) : hostReg o = true := by simp [hostReg, h]

variable (s : State)

theorem exec_glbIntSummaryWrite (v : Word) : exec (.glbIntSummaryWrite v) s = run (fun s => s.woken.doIntSummary v) s := rfl
theorem exec_glbIntEnWrite (v : Word) : exec (.glbIntEnWrite v) s = run (fun s => s.woken.hostSet Reg.GLB_INT_EN v) s := rfl
theorem exec_d3hotEntry : exec .d3hotEntry s = run (fun s => { s with hif.d3hot := true }) s := rfl
theorem exec_d3hotExit : exec .d3hotExit s = run (fun s => State.resumeBus { s with hif.d3hot := false }) s := rfl
theorem exec_linkDown : exec .linkDown s =
    run (fun s => State.drew { s with hif.linkSpeed := 0, hif.linkWidth := s.freeVal % 64, linkL12 := false }) s := rfl
theorem exec_linkUp (speed width : Nat) : exec (.linkUp speed width) s =
    runIf "LINK_UP" (Instr.wf (.linkUp speed width)) (fun s => s.doLinkUp speed width) s := rfl

/-! ## What the host interface's own rows leave alone -/

/-- What shows nothing of the host interface. -/
structure OffHif {β : Type} (g : State → β) : Prop where
  reg : ∀ s off v, hostReg off = true → g (State.setReg s off v) = g s
  hif : ∀ (s : State) f o l n h, g { s with fresh := f, outs := o, linkL12 := l, free := n, hif := h } = g s

namespace OffHif

variable {β : Type} {g : State → β} (h : OffHif g)

include h

theorem stickyIf (c : Bool) {f : Fld} (hf : f.off / 0x400 = 1) : g (s.stickyIf c f) = g s := by
  unfold State.stickyIf
  split
  · exact (h.hif _ _ _ _ _ _).trans (h.reg s _ _ (hostReg_of_block hf))
  · rfl

theorem dbReject (kind ch : Nat) : g (s.dbReject kind ch) = g s :=
  (h.reg _ _ _ (by decide)).trans ((h.reg _ _ _ (by decide)).trans (h.stickyIf s true (by decide)))

theorem signal (v : Nat) : g (s.signal v) = g s := by
  rcases s.signal_cases v with hs | hs | hs
  · rw [hs]
  · rw [hs]; exact h.hif s _ _ _ _ _
  · rw [hs]; exact h.hif s _ _ _ _ _

theorem modCmp : g s.modCmp = g s := by
  unfold State.modCmp
  split
  · exact (h.signal _ _).trans (h.hif s _ _ _ _ _)
  · rfl

theorem modChan (n : Nat) : g (s.modChan n) = g s := by
  unfold State.modChan
  dsimp only
  split
  · exact (h.signal _ _).trans (h.hif s _ _ _ _ _)
  · rfl

theorem putCompletion (e : CmpEntry) (a : Nat) (b : Option (List Byte)) : g (s.putCompletion e a b) = g s := by
  unfold State.putCompletion
  cases b with
  | none => exact (h.modCmp _).trans ((h.hif _ _ _ _ _ _).trans ((h.stickyIf _ _ (by decide)).trans (h.hif s _ _ _ _ _)))
  | some b => exact (h.modCmp _).trans ((h.hif _ _ _ _ _ _).trans ((h.stickyIf _ _ (by decide)).trans (h.hif s _ _ _ _ _)))

theorem complete (cid st why : Nat) (v : Option Nat) (b : Option (List Byte)) : g (s.complete cid st why v b) = g s := by
  have hnoted : ∀ (u : State) c l, g (State.stickyIf { u with hif.outstanding := l } c Fld.HIF_STATUS_DMA_ERR) = g u := fun u c l =>
    (h.stickyIf _ c (by decide)).trans (h.hif u _ _ _ _ _)
  have hput : ∀ (u : State) e a b,
      g (if u.busOk then u.putCompletion e a b else { u with hif.held := u.hif.held ++ [(e, a, b)] }) = g u := fun u e a b => by
    split
    · exact h.putCompletion u e a b
    · exact h.hif u _ _ _ _ _
  unfold State.complete
  split
  · rfl
  · cases v with
    | none => exact (hput _ _ _ _).trans ((hnoted _ _ _).trans (h.hif s _ _ _ _ _))
    | some v => exact (hput _ _ _ _).trans (hnoted _ _ _)

/-- With the end of a replay hidden too, the records' rows are of no effect. -/
theorem offRings (hend : ∀ (u : State) e, g { u with cel.replayEnd := e } = g u) : OffRings g where
  reg u off v hoff := h.reg u off v (hostReg_of_block hoff)
  link u f o l := h.hif u f o l _ _
  wait u gap pv ho hd af e :=
    (hend { u with hif.gap := gap, hif.pendingVectors := pv, hif.heldOuts := ho, hif.held := hd, hif.after := af } e).trans
      (h.hif u _ _ _ _ _)
  chan u _ _ := h.hif u _ _ _ _ _
  entry u := h.putCompletion u
  complete u := h.complete u

theorem doCmdProd (v : Nat) : g (s.woken.doCmdProd v) = g s := by
  unfold State.doCmdProd
  split
  · exact h.hif s _ _ _ _ _
  · exact (h.dbReject _ _ _).trans (h.hif s _ _ _ _ _)

theorem doCmpCons (v : Nat) : g (s.woken.doCmpCons v) = g s := by
  unfold State.doCmpCons
  dsimp only
  split
  · exact (h.modCmp _).trans (h.hif s _ _ _ _ _)
  · exact (h.dbReject _ _ _).trans (h.hif s _ _ _ _ _)

theorem doCmdEn (v : Word) : g (s.woken.doCmdEn v) = g s := by
  have hset : g (s.woken.hostSet Reg.HIF_CTRL v) = g s := (h.reg _ _ _ (by decide)).trans (h.hif s _ _ _ _ _)
  unfold State.doCmdEn
  dsimp only
  split
  · exact (h.hif _ _ _ _ _ _).trans hset
  · exact hset

theorem doModTimeout (v : Nat) : g (s.doModTimeout v) = g s := by
  cases v with
  | zero => exact h.modCmp s
  | succ n => exact h.modChan s n

theorem doIntSummary (v : Word) : g (s.woken.doIntSummary v) = g s := by
  have hset : ∀ w, g ((s.woken.hostSet Reg.GLB_INT_SUMMARY v).setReg Reg.GLB_INT_SUMMARY w) = g s := fun w =>
    (h.reg _ _ _ (by decide)).trans ((h.reg _ _ _ (by decide)).trans (h.hif s _ _ _ _ _))
  unfold State.doIntSummary
  dsimp only
  split
  · exact hset _
  · exact (h.signal _ _).trans (hset _)

theorem doLinkUp (speed width : Nat) : g (s.doLinkUp speed width) = g s := by
  unfold State.doLinkUp
  split
  · exact h.hif s _ _ _ _ _
  · rfl

end OffHif

/-! ## What the records' rows leave alone -/

namespace OffRings

variable {β : Type} {g : State → β} (h : OffRings g)

include h

theorem woken : g s.woken = g s := h.link s _ _ _

theorem dbReject (kind ch : Nat) : g (s.dbReject kind ch) = g s :=
  (h.reg _ _ _ (by decide)).trans ((h.reg _ _ _ (by decide)).trans (h.offPump.sticky s (by decide)))

theorem stickyIf (c : Bool) {f : Fld} (hf : f.off / 0x400 = 1) : g (s.stickyIf c f) = g s := by
  unfold State.stickyIf
  split
  · exact h.offPump.sticky s hf
  · rfl

variable {n : Nat} (hn : n < 8)

include hn

theorem doBufProd (v : Nat) (d : List BufDesc) : g (s.doBufProd n v d) = g s := by
  unfold State.doBufProd
  dsimp only
  split
  · exact (h.settleAfter _).trans ((h.offPump.pump _ hn).trans (h.chan s n _))
  · exact h.dbReject s _ _

theorem doScmpCons (v : Nat) : g (s.doScmpCons n v) = g s := by
  unfold State.doScmpCons
  dsimp only
  split
  · exact (h.settleAfter _).trans ((h.offPump.pump _ hn).trans ((h.modChan _ n).trans (h.chan s n _)))
  · exact h.dbReject s _ _

/-- The control of channel `n` lies in the block (R443). -/
theorem writeChCtrl (v : Word) : g (s.writeChCtrl n v) = g s := by
  have hctrl : Reg.HIF_CH_CTRL n / 0x400 = 1 := show (0x0490 + 32 * n) / 0x400 = 1 by omega
  have hset : ∀ u : State, g (u.hostSet (Reg.HIF_CH_CTRL n) v) = g u := fun u => h.reg u _ _ hctrl
  unfold State.writeChCtrl
  dsimp only
  split
  · exact h.offPump.sticky s (by decide)
  · split
    · split
      · exact h.stickyIf s _ (by decide)
      · exact (h.settleAfter _).trans ((h.chan _ n _).trans ((h.discardQueue _ hn).trans ((h.reg _ _ _ hctrl).trans
          (h.stickyIf s _ (by decide)))))
    · split
      · exact (h.settleAfter _).trans ((h.chan _ n _).trans ((hset _).trans (h.finishXfer s hn false)))
      · exact hset s

theorem doEgress : g (s.doEgress n) = g s := by
  unfold State.doEgress
  dsimp only
  split
  · split
    · exact (h.chan _ n _).trans (h.take s n 1)
    · rfl
  · exact (h.settleAfter _).trans (h.offPump.pump s hn)

theorem doXferDone (e : Bool) : g (s.doXferDone n e) = g s := by
  unfold State.doXferDone
  split
  · exact (h.settleAfter _).trans (h.finishXfer s hn e)
  · rfl

end OffRings

/-! ## All that is beside the host interface -/

/-- The state with the host interface, what leaves the block and the model's own counter left out, and what the other registers read. -/
def State.besideHost (s : State) : State × (Nat → Word) :=
  ({ s with free := 0, regs := [], fresh := [], outs := [], linkL12 := false, hif := hifCold }, fun o => if hostReg o then 0 else s.reg o)

/-- The same with the end of a replay left out. -/
def State.besideReplay (s : State) : State × (Nat → Word) := State.besideHost { s with cel.replayEnd := none }

theorem besideHost_offHif : OffHif State.besideHost where
  hif _ _ _ _ _ _ := rfl
  reg u off v hoff := by
    refine Prod.ext rfl (funext fun o => ?_)
    show (if hostReg o then 0 else (u.setReg off v).reg o) = if hostReg o then 0 else u.reg o
    split
    · rfl
    · next ho => exact u.reg_setReg_ne v fun he => ho (he ▸ hoff)

theorem besideReplay_offHif : OffHif State.besideReplay where
  hif _ _ _ _ _ _ := rfl
  reg u off v hoff := besideHost_offHif.reg { u with cel.replayEnd := none } off v hoff

theorem besideReplay_offRings : OffRings State.besideReplay := besideReplay_offHif.offRings fun _ _ => rfl

/-- What is beside the host interface with its pending vectors alone. -/
theorem besideReplay_of_besideHost {s t : State} (h : t.besideHost = s.besideHost) : t.besideReplay = s.besideReplay :=
  congrArg (fun x : State × (Nat → Word) => ({ x.1 with cel.replayEnd := none }, x.2)) h

/-- Of the host interface, a write of the interrupt summary alters at most the vectors that wait. -/
theorem State.vectors_doIntSummary (v : Word) :
    { (s.woken.doIntSummary v).hif with pendingVectors := [] } = { s.hif with pendingVectors := [] } := by
  unfold State.doIntSummary
  dsimp only
  split
  · rfl
  · rw [State.signal_hif]; rfl

/-! ## Rows that touch the host interface alone -/

/-- Whatever `i` answers has the `g` of the state that it begins in. -/
def Spares {β : Type} (g : State → β) (i : Instr) (s : State) : Prop :=
  ∀ t, exec i s = .next t → t = s ∨ ∃ u, t = commit s u ∧ g u = g s

variable {s} {β : Type} {g : State → β} {i : Instr} {f : State → State}

theorem spares_of_run (he : exec i s = run f s) (hk : g (f s) = g s) : Spares g i s := fun _ ht =>
  (run_next s f (he ▸ ht)).imp And.right fun h => ⟨f s, h.2, hk⟩

theorem spares_of_runIf {m : String} {ok : Bool} (he : exec i s = runIf m ok f s) (hk : ok = true → g (f s) = g s) : Spares g i s :=
  fun _ ht => by
    obtain ⟨hok, h⟩ := runIf_next s f (he ▸ ht)
    exact h.imp And.right fun h => ⟨f s, h.2, hk hok⟩

theorem Part.same_refl (p : Part) (t : State) : p.same t t := by cases p <;> simp [Part.same]

/-- A state that differs from another in the host interface alone, and in the end of a replay. -/
theorem eq_of_besideReplay {u : State} (h : u.besideReplay = s.besideReplay) :
    u = { s with
      free := u.free, regs := u.regs, fresh := u.fresh, outs := u.outs, linkL12 := u.linkL12, hif := u.hif
      cel.replayEnd := u.cel.replayEnd } :=
  congrArg (fun x : State × (Nat → Word) => { x.1 with
    free := u.free, regs := u.regs, fresh := u.fresh, outs := u.outs, linkL12 := u.linkL12, hif := u.hif
    cel.replayEnd := u.cel.replayEnd }) h

theorem same_of_besideReplay {u : State} (h : u.besideReplay = s.besideReplay) {p : Part} (hhif : p ≠ .hif) (hcel : p ≠ .cel) :
    p.same s (commit s u) := by
  rw [eq_of_besideReplay h]
  cases p with
  | hif => exact absurd rfl hhif
  | cel => exact absurd rfl hcel
  | nv =>
    intro hw
    rw [commit_nv]
    dsimp only
    rw [hw, nvApply_nil]
    exact congrArg (fun w => { s.nv with writes := w }) hw.symm
  | _ => simp [Part.same]

/-- The registers of O53: the host interface's block and the interrupt enables. -/
def ringReg (o : Nat) : Prop := (0x400 ≤ o ∧ o < 0x800) ∨ o = Reg.GLB_INT_EN

theorem reg_of_besideReplay {u : State} (h : u.besideReplay = s.besideReplay) {o : Nat} (ho : ¬ringReg o)
    (hsum : o ≠ Reg.GLB_INT_SUMMARY) : (commit s u).reg o = s.reg o := by
  have hout : hostReg o = false := by
    simp only [ringReg, not_or, not_and] at ho
    simp only [hostReg, Bool.or_eq_false_iff, decide_eq_false_iff_not]
    exact ⟨⟨by omega, ho.2⟩, hsum⟩
  have hview := congrFun (congrArg Prod.snd h) o
  rw [reg_commit_ne _ _ hsum]
  simpa [State.besideReplay, State.besideHost, hout, State.reg] using hview

theorem cel_of_besideReplay {u : State} (h : u.besideReplay = s.besideReplay) :
    (commit s u).cel = { s.cel with replayEnd := (commit s u).cel.replayEnd } := by
  rw [commit_cel]
  exact congrArg State.cel (eq_of_besideReplay h)

/-- A row that spares all but the host interface and the end of a replay. -/
theorem touches_of_besideReplay (h : Spares State.besideReplay i s) :
    Touches i s [.hif, .cel] ringReg ∧ ∀ t, exec i s = .next t → t.cel = { s.cel with replayEnd := t.cel.replayEnd } := by
  refine ⟨fun t ht => ?_, fun t ht => ?_⟩
  · obtain rfl | ⟨u, rfl, hu⟩ := h t ht
    · exact ⟨fun p _ => p.same_refl t, fun _ _ _ => rfl⟩
    · exact ⟨fun p hp => same_of_besideReplay hu (fun he => hp (he ▸ .head _)) fun he => hp (he ▸ .tail _ (.head _)),
        fun _ => reg_of_besideReplay hu⟩
  · obtain rfl | ⟨u, rfl, hu⟩ := h t ht
    · rfl
    · exact cel_of_besideReplay hu

/-- A row that spares all but the host interface. -/
theorem touches_of_besideHost (h : Spares State.besideHost i s) : Touches i s [.hif] ringReg := by
  intro t ht
  obtain rfl | ⟨u, rfl, hu⟩ := h t ht
  · exact ⟨fun p _ => p.same_refl t, fun _ _ _ => rfl⟩
  · refine ⟨fun p hp => ?_, fun _ => reg_of_besideReplay (besideReplay_of_besideHost hu)⟩
    by_cases hcel : p = .cel
    · subst hcel
      exact (commit_cel s u).trans (congrArg (fun x => x.1.cel) hu)
    · exact same_of_besideReplay (besideReplay_of_besideHost hu) (fun he => hp (he ▸ .head _)) hcel

/-- A row that spares the host interface as well, but for vectors that wait. -/
theorem touches_of_vectors (h : Spares (fun u => (u.besideHost, { u.hif with pendingVectors := [] })) i s) : Touches i s [] ringReg := by
  intro t ht
  have hhost : Spares State.besideHost i s := fun _ ht =>
    (h _ ht).imp_right fun ⟨u, he, hu⟩ => ⟨u, he, congrArg Prod.fst hu⟩
  obtain ⟨hsame, hregs⟩ := touches_of_besideHost hhost t ht
  refine ⟨fun p _ => ?_, hregs⟩
  by_cases hp : p = .hif
  · subst hp
    obtain rfl | ⟨u, rfl, hu⟩ := h t ht
    · exact Part.same_refl _ t
    · have hhif : u.hif = { s.hif with pendingVectors := u.hif.pendingVectors } :=
        congrArg (fun x : (State × (Nat → Word)) × Hif => { x.2 with pendingVectors := u.hif.pendingVectors }) hu
      show (commit s u).hif = { s.hif with pendingVectors := (commit s u).hif.pendingVectors }
      rw [commit_hif, hhif]
  · exact hsame p fun hm => hp (List.mem_singleton.1 hm)

/-- Settles O53: each row of the rings, the channels and the link spares what is beside the host interface, and those of the records
what is beside the end of a replay. -/
theorem hostRowsTouchTheHostInterfaceOnly : Obligations.HostRowsTouchTheHostInterfaceOnly := by
  have hhost := besideHost_offHif
  have hrings := besideReplay_offRings
  intro s hifReg ends
  have hch : ∀ {ch : Nat} {b : Bool}, (chOk ch && b) = true → ch < 8 := fun h => of_decide_eq_true (Bool.and_eq_true_iff.1 h).1
  refine ⟨fun v => ⟨?cmdProd, ?cmpCons⟩, fun ch v d => ?bufProd, fun ch v => ?scmpCons, fun v => ⟨?cmdEn, ?intSummary, ?intEn⟩,
    fun ch v => ⟨?enable, ?disable⟩, fun n => ⟨?moderation, ?egress⟩, fun ch e => ?xferDone, fun on => ?busMaster, ?d3hotEntry, ?d3hotExit,
    ?linkDown, fun speed width => ?linkUp⟩
  case cmdProd =>
    exact touches_of_besideHost (spares_of_runIf (exec_cmdProd s v) fun _ => hhost.doCmdProd s v)
  case cmpCons =>
    exact touches_of_besideHost (spares_of_runIf (exec_cmpCons s v) fun _ => hhost.doCmpCons s v)
  case bufProd =>
    exact touches_of_besideReplay (spares_of_runIf (exec_chBufProd s ch v d) fun hw =>
      (hrings.doBufProd s.woken (hch hw) v d).trans (hrings.woken s))
  case scmpCons =>
    exact touches_of_besideReplay (spares_of_runIf (exec_chScmpCons s ch v) fun hw =>
      (hrings.doScmpCons s.woken (hch hw) v).trans (hrings.woken s))
  case cmdEn =>
    exact touches_of_besideHost (spares_of_run (exec_cmdEn s v) (hhost.doCmdEn s v))
  case intSummary =>
    exact touches_of_vectors (spares_of_run (exec_glbIntSummaryWrite s v) (Prod.ext (hhost.doIntSummary s v) (s.vectors_doIntSummary v)))
  case intEn =>
    exact touches_of_vectors (spares_of_run (exec_glbIntEnWrite s v)
      (Prod.ext ((hhost.reg _ _ _ (by decide)).trans (hhost.hif s _ _ _ _ _)) rfl))
  case enable =>
    exact touches_of_besideReplay (spares_of_runIf (exec_channelEnable s ch v) fun hw =>
      (hrings.writeChCtrl s.woken (hch hw) v).trans (hrings.woken s))
  case disable =>
    exact touches_of_besideReplay (spares_of_runIf (exec_channelDisable s ch v) fun hw =>
      (hrings.writeChCtrl s.woken (hch hw) v).trans (hrings.woken s))
  case moderation =>
    exact touches_of_besideHost (spares_of_runIf (exec_interruptModerationTimeout s n) fun _ => hhost.doModTimeout s n)
  case egress =>
    exact touches_of_besideReplay (spares_of_runIf (exec_egressBufferAvailable s n) fun hw => hrings.doEgress s (of_decide_eq_true hw))
  case xferDone =>
    exact touches_of_besideReplay (spares_of_runIf (exec_recordTransferDone s ch e) fun hw =>
      hrings.doXferDone s (of_decide_eq_true hw) e)
  case busMaster =>
    exact touches_of_besideReplay (spares_of_run (exec_busMasterEnableChange s on)
      ((hrings.resumeBus { s.woken with hif.busMaster := on }).trans (besideReplay_offHif.hif s _ _ _ _ _)))
  case d3hotEntry =>
    exact touches_of_besideHost (spares_of_run (exec_d3hotEntry s) (hhost.hif s _ _ _ _ _))
  case d3hotExit =>
    exact touches_of_besideReplay (spares_of_run (exec_d3hotExit s)
      ((hrings.resumeBus { s with hif.d3hot := false }).trans (besideReplay_offHif.hif s _ _ _ _ _)))
  case linkDown =>
    exact touches_of_besideHost (spares_of_run (exec_linkDown s) (hhost.hif s _ _ _ _ _))
  case linkUp =>
    exact touches_of_besideHost (spares_of_runIf (exec_linkUp s speed width) fun _ => hhost.doLinkUp s speed width)

end Sys2Proof.Machine
end

section
/-! How the device is in service: what its boot, its resets and its link have made of it, and what work of other parts leaves of that
(R255, R310, R387, R418, R441). -/

namespace Sys2Proof.Machine

open Sys2Proof

/-- How the device is in service: the cause of the last reset, the warm resets counted, PERST_N, the link's speed, what the boot came
to, the full BIST that runs, and the register that reports boot BIST. -/
structure Service where
  cause : Nat
  warmCount : Nat
  perstN : Bool
  linkSpeed : Nat
  boot : BootMode
  full : Option Nat
  report : Word

def State.service (s : State) : Service :=
  { cause := s.pow.cause, warmCount := s.pow.warmCount, perstN := s.pow.perstN, linkSpeed := s.hif.linkSpeed, boot := s.sec.boot
    full := s.bst.full, report := s.reg Reg.BST_BOOT }

variable (s : State)

/-! ## Registers and records -/

theorem State.service_setReg {off : Nat} (h : off ≠ Reg.BST_BOOT) (v : Word) : (s.setReg off v).service = s.service := by
  unfold State.service
  rw [s.reg_setReg_ne v h.symm]
  rfl

theorem State.service_setPair {lo : Nat} (hl : lo ≠ Reg.BST_BOOT) (hh : lo + 4 ≠ Reg.BST_BOOT) (v : Nat) :
    (s.setPair lo v).service = s.service := (State.service_setReg _ hh _).trans (s.service_setReg hl _)

theorem State.service_sticky {f : Fld} (h : f.off ≠ Reg.BST_BOOT) : (s.sticky f).service = s.service := s.service_setReg h _

theorem State.service_stickyIf (c : Bool) {f : Fld} (h : f.off ≠ Reg.BST_BOOT) : (s.stickyIf c f).service = s.service := by
  unfold State.stickyIf
  split
  · exact s.service_sticky h
  · rfl

/-- The part of the service that is no register. -/
theorem service_offRecord : OffRecord fun u => { u.service with report := 0 } where
  reg _ _ _ _ := rfl
  fresh _ _ := rfl
  chan _ _ _ _ := rfl
  nv _ _ := rfl

theorem State.service_formRec {n : Nat} (h0 : n ≠ 0) (h8 : n < 8) (r : Rec) : (s.formRec n r).service = s.service :=
  congrArg₂ (fun (v : Service) w => { v with report := w }) (service_offRecord.formRec s h0 r) ((reg_offHost (by decide)).formRec s h8 r)

theorem State.service_event (typ : Nat) (p : List Byte) : (s.event typ p).service = s.service :=
  s.service_formRec (by decide) (by decide) _

theorem State.service_nvStore (a : Nat) (b : List Byte) (n : Nat) : (s.nvStore a b n).service = s.service :=
  State.service_setPair _ (by decide) (by decide) _

theorem State.service_logWrite (typ : Nat) (p : List Byte) (t : Nat) : (s.logWrite typ p t).service = s.service :=
  (State.service_formRec _ (by decide) (by decide) _).trans ((State.service_setReg _ (by decide) _).trans (s.service_nvStore _ _ _))

theorem State.service_nvLog (typ : Nat) (p : List Byte) : (s.nvLog typ p).service = s.service := by
  unfold State.nvLog
  split
  · exact s.service_logWrite _ _ _
  · split
    · rfl
    · exact s.service_sticky (by decide)

theorem State.service_complete (cid st why : Nat) (v : Option Nat) (b : Option (List Byte)) :
    (s.complete cid st why v b).service = s.service := by
  have hlink := s.complete_keeps Hif.linkSpeed (fun _ _ _ _ _ _ _ => rfl) cid st why v b
  unfold State.service
  rw [State.complete_pow, hlink, State.complete_sec, State.complete_bst, s.reg_complete_ne (by decide)]

theorem State.service_fail (cid st why : Nat) : (s.fail cid st why).service = s.service := by
  unfold State.fail
  split
  · rfl
  · exact State.service_complete _ _ _ _ _ _

/-! ## Self-test slices -/

theorem State.service_reportSlice (id : SliceId) (code misr ref : Nat) : (s.reportSlice id code misr ref).service = s.service := by
  have hcounted : (match code with
      | 0 => s.bump Reg.BST_PASS_COUNT
      | 1 => (s.bump Reg.BST_FAIL_COUNT).sticky Fld.BST_STATUS_FAIL_SEEN
      | 2 => (s.bump Reg.BST_INCOMPLETE_COUNT).sticky Fld.BST_STATUS_INCOMPLETE_SEEN
      | 3 => s.bump Reg.BST_ABORT_COUNT
      | _ => s).service = s.service := by
    split
    · exact s.service_setReg (by decide) _
    · exact (State.service_sticky _ (by decide)).trans (s.service_setReg (by decide) _)
    · exact (State.service_sticky _ (by decide)).trans (s.service_setReg (by decide) _)
    · exact s.service_setReg (by decide) _
    · rfl
  have hshown : ∀ (u : State) a b c p, ((((u.setRegN Reg.BST_LAST_NONPASS a).setPair Reg.BST_SIG_LO b).setPair Reg.BST_REF_LO c).event
      0x0500 p).service = u.service := fun u a b c p =>
    (State.service_event _ _ _).trans ((State.service_setPair _ (by decide) (by decide) _).trans
      ((State.service_setPair _ (by decide) (by decide) _).trans (u.service_setReg (by decide) _)))
  refine Eq.trans ?_ hcounted
  unfold State.reportSlice
  dsimp only
  split_ifs
  · rfl
  · exact (State.service_nvLog _ _ _).trans (hshown _ _ _ _ _)
  · exact hshown _ _ _ _ _

theorem State.service_releaseUnit (id : SliceId) : (s.releaseUnit id).service = s.service := by
  unfold State.releaseUnit
  split_ifs <;> rfl

theorem State.service_takeEgress : s.takeEgress.service = s.service := by
  unfold State.takeEgress
  dsimp only
  split
  · rfl
  · exact State.service_setReg _ (by decide) _

theorem State.service_startSlice (r : SliceRun) : (s.startSlice r).service = s.service := by
  have hbegun : (let s := { s with bst.running := s.bst.running ++ [{ r with start := s.mono }] }
      if r.id.die < 5 then s.setDie r.id.die { s.die r.id.die with renewed := false } else s).service = s.service := by
    dsimp only
    split <;> rfl
  rw [← hbegun]
  unfold State.startSlice
  dsimp only
  generalize (if r.id.die < 5 then _ else _ : State) = u
  split_ifs
  · rfl
  · exact State.service_takeEgress _
  · rfl
  · rfl
  · rfl

theorem State.service_tryStart (r : SliceRun) : (s.tryStart r).service = s.service := by
  unfold State.tryStart
  split
  · exact s.service_startSlice r
  · rfl

theorem State.service_endRun (r : BistRun) : (s.endRun r).service = s.service := by
  have hlast : ∀ u : State, (if r.die < 5 ∧ r.kind ≠ Owner.bistRun then
      let s := u.setFld (Fld.BST_DIE_LAST r.die) (r.outcome + 1)
      if r.outcome = 2 then s else s.setDie r.die { s.die r.die with lastRun := some s.mono }
      else u).service = u.service := by
    intro u
    split
    · next hdie =>
      have hshown : (u.setFld (Fld.BST_DIE_LAST r.die) (r.outcome + 1)).service = u.service :=
        u.service_setReg (show 0x4040 + 4 * r.die ≠ 0x4010 by omega) _
      dsimp only
      split <;> exact hshown
    · rfl
  have hended : ∀ u : State, (match r.cid with
      | some cid => u.complete cid St.ok Why.none (some r.notPassed) (some r.block)
      | none => u).service = u.service := by
    intro u
    split
    · exact u.service_complete _ _ _ _ _
    · rfl
  unfold State.endRun
  exact (hended _).trans ((hlast _).trans (State.service_event _ _ _))

theorem State.service_advanceRun (die kind : Nat) (c : Option Nat) : (s.advanceRun die kind c).service = s.service := by
  unfold State.advanceRun
  split
  · rfl
  · split
    · exact s.service_endRun _
    · exact s.service_tryStart _

theorem State.service_skipSlice (r : BistRun) (t : Nat × Nat) : (s.skipSlice r t).service = s.service :=
  (State.service_sticky _ (by decide)).trans (State.service_reportSlice _ _ _ _ _)

theorem State.service_abandonRuns (n : Nat) : (s.abandonRuns n).service = s.service := by
  have hslice : ∀ (u : State) (x : SliceRun) misr ref,
      ((((u.drew.releaseUnit x.id).reportSlice x.id Slice.aborted misr ref).enterOnly x Slice.aborted misr ref).sticky
        Fld.BST_STATUS_ABORT_SEEN).service = u.service := fun u x _ _ =>
    (State.service_sticky _ (by decide)).trans ((State.service_reportSlice _ _ _ _ _).trans (State.service_releaseUnit u.drew x.id))
  have hskipped : ∀ (u : State) (r : BistRun), (r.todo.foldl (fun s t => s.skipSlice r t) u).service = u.service := fun u r =>
    foldl_keeps State.service (fun u t => u.service_skipSlice r t) _ u
  unfold State.abandonRuns
  dsimp only
  rw [foldl_keeps State.service fun u r => u.service_endRun r, foldl_keeps State.service hskipped,
    foldl_keeps State.service fun u x => hslice u x _ _]
  exact s.service_stickyIf _ (by decide)

end Sys2Proof.Machine
end

section
/-! What dies, maps and transitions of the power state leave of the device's service (R210, R214, R310, R311). -/

namespace Sys2Proof.Machine

open Sys2Proof

variable (s : State)

/-! ## Dies and maps -/

theorem State.service_modCask (c : Nat) (g : Cask → Cask) : (s.modCask c g).service = s.service := by
  unfold State.modCask
  split <;> rfl

theorem State.service_powerDie (n : Nat) : (s.powerDie n).service = s.service :=
  (State.service_modCask _ _ _).trans (State.service_modCask _ _ _)

theorem State.service_prepareDie (n : Nat) (r : Role) : (s.prepareDie n r).service = s.service := by
  unfold State.prepareDie
  dsimp only
  split_ifs
  · rfl
  · exact s.service_powerDie n
  · exact s.service_abandonRuns n
  · rfl

theorem State.service_prepared (l : List Nat) (r : Role) : (l.foldl (fun s n => s.prepareDie n r) s).service = s.service :=
  foldl_keeps State.service (fun u n => u.service_prepareDie n r) l s

theorem State.service_pendMap (c : MapChange) : (s.pendMap c).service = s.service := by
  unfold State.pendMap
  refine (foldl_keeps State.service (fun u n => ?_) _ _).trans rfl
  dsimp only
  split
  · exact u.service_prepareDie _ _
  · rfl

theorem State.service_pendPower (m : List MapEnt) (cause : Nat) : (s.pendPower m cause).service = s.service := by
  unfold State.pendPower
  split
  · rfl
  · exact s.service_pendMap _

theorem State.service_pendWarm : s.pendWarm.service = s.service := by
  unfold State.pendWarm
  split
  · rfl
  · split
    · rfl
    · exact (State.service_pendPower _ _ _).trans (s.service_prepared _ _)

theorem State.service_keepBefore : s.keepBefore.service = s.service := by
  unfold State.keepBefore
  split <;> rfl

/-! ## The sensor, biased (R24, R45, R175) -/

theorem State.service_applyCodes (b : Bool) : (s.applyCodes b).service = s.service := by
  have hlater : ∀ (u : State) (c : Prop) [Decidable c] (t : Nat),
      (if c then { u with sen.settleEnd := some (max (u.sen.settleEnd.getD 0) t) } else u).service = u.service := by
    intro u c _ t
    split <;> rfl
  unfold State.applyCodes
  exact (hlater _ _ _).trans ((hlater _ _ _).trans (s.service_stickyIf _ (by decide)))

theorem State.service_newGrid : s.newGrid.service = s.service := by
  have hcells : ∀ (u : State) (v : State → Nat → Word),
      ((List.range 48).foldl (fun s n => s.setReg (Reg.SEN_GRID n) (v s n)) u).service = u.service := fun u v =>
    List.foldlRecOn (motive := fun t : State => t.service = u.service) _ _ rfl fun t ht n hn =>
      (t.service_setReg (show 0x0C40 + 4 * n ≠ 0x4010 by have := List.mem_range.1 hn; omega) _).trans ht
  unfold State.newGrid
  split
  · unfold State.showGrid
    dsimp only
    split
    · exact State.service_setReg _ (by decide) _
    · exact (hcells _ fun _ _ => _).trans ((State.service_setReg _ (by decide) _).trans
        (State.service_setPair _ (by decide) (by decide) _))
  · rfl

theorem State.service_biasSensor : s.biasSensor.service = s.service := by
  unfold State.biasSensor
  exact (State.service_newGrid _).trans
    ((State.service_setReg _ (off := Reg.SEN_SUBSNAP) (by decide) _).trans (s.service_applyCodes true))

theorem State.service_publishCal (k : Cal) (why : Nat) (r : Option Nat) : (s.publishCal k why r).service = s.service :=
  (State.service_setReg _ (by decide) _).trans ((State.service_setReg _ (by decide) _).trans
    ((State.service_stickyIf _ _ (by decide)).trans ((State.service_sticky _ (by decide)).trans
      (s.service_formRec (by decide) (by decide) _))))

theorem State.service_biasFresh : s.biasFresh.service = s.service := by
  have hheld : ∀ u : State, u.discardHeld.service = u.service := by
    intro u
    unfold State.discardHeld
    split
    · exact State.service_publishCal _ _ _ _
    · rfl
  unfold State.biasFresh
  dsimp only
  split
  · exact (hheld _).trans s.service_biasSensor
  · exact s.service_biasSensor

/-- The same with `f` for the full BIST that runs. -/
def Service.filled (v : Service) (f : Option Nat) : Service := { v with full := f }

/-! ## Transitions (R310, R311) -/

theorem State.service_goState (p : PState) : (s.goState p).service = s.service := by
  unfold State.goState
  split
  · rfl
  · exact (State.service_event _ _ _).trans (State.service_sticky _ (by decide))

/-- A full BIST that starts is all that its start changes of the service (R416, R418). -/
theorem State.service_startFull (kind : Nat) : ∃ f, (s.startFull kind).service = s.service.filled f := by
  have hpowered : ∀ l : List Nat, (l.foldl (fun s n => if (s.die n).powered then s else s.powerDie n) s).service = s.service := fun l =>
    foldl_keeps State.service (fun u n => by
      split
      · rfl
      · exact u.service_powerDie n) l s
  unfold State.startFull
  dsimp only
  rw [foldl_keeps State.service fun u d => u.service_advanceRun d kind none]
  exact ⟨some _, congrArg (Service.filled · _) (hpowered _)⟩

theorem State.service_pursue_standby (h : s.pow.st = .standby) (p : PState) : (s.pursue p).service = s.service := by
  have hbiased : (if s.sen.biased then s else s.biasFresh).service = s.service := by
    split
    · rfl
    · exact s.service_biasFresh
  unfold State.pursue
  rw [h]
  exact (State.service_pendWarm _).trans ((State.service_prepared _ _ _).trans ((State.service_keepBefore _).trans hbiased))

/-- At most a full BIST starts for what a transition asks for (R417). -/
theorem State.service_pursue (p : PState) : ∃ f, (s.pursue p).service = s.service.filled f := by
  by_cases h : s.pow.st = .standby
  · exact ⟨_, s.service_pursue_standby h p⟩
  · unfold State.pursue
    split
    · next hst => exact absurd hst h
    · exact ⟨_, (State.service_pendWarm _).trans s.service_keepBefore⟩
    · split
      · exact ⟨_, rfl⟩
      · exact ⟨_, s.service_pendPower _ _⟩
    · split
      · exact s.service_startFull _
      · exact ⟨_, rfl⟩
    · exact ⟨_, rfl⟩

theorem State.service_startMove_standby (h : s.pow.st = .standby) (p : PState) : (s.startMove p).service = s.service := by
  unfold State.startMove
  split
  · rfl
  · exact State.service_pursue_standby { s with pow.target := some p, pow.since := s.mono } h p

theorem State.service_startMove (p : PState) : ∃ f, (s.startMove p).service = s.service.filled f := by
  unfold State.startMove
  split
  · exact ⟨_, rfl⟩
  · exact State.service_pursue { s with pow.target := some p, pow.since := s.mono } p

/-- A stored request that is carried out in STANDBY, or discarded (R311). -/
theorem State.service_carryOut_standby (h : s.pow.st = .standby) : s.carryOut.service = s.service := by
  unfold State.carryOut
  split
  · rfl
  · dsimp only
    split
    · exact State.service_sticky _ (by decide)
    · exact State.service_startMove_standby { s with pow.stored := none } h _

theorem State.service_carryOut : ∃ f, s.carryOut.service = s.service.filled f := by
  unfold State.carryOut
  split
  · exact ⟨_, rfl⟩
  · dsimp only
    split
    · exact ⟨_, State.service_sticky _ (by decide)⟩
    · exact State.service_startMove { s with pow.stored := none } _

/-- The full BIST ends (R415, R418). -/
theorem State.service_endFull : s.endFull.service = s.service.filled none := by
  unfold State.endFull
  dsimp only
  split
  · refine foldl_keeps State.service (fun u n => ?_) _ _
    split <;> rfl
  · rfl

end Sys2Proof.Machine
end

section
/-! Warm resets (R245, R273, R313, R437, R441, R446). -/

namespace Sys2Proof.Machine

open Sys2Proof

variable (s : State)

/-! ## What a warm reset ends -/

theorem State.service_nvPart (c : OutCmd) : (s.nvPart c).1.service = s.service := by
  have hrow : ∀ (u : State) v, (u.setPair Reg.NVS_ROW_WRITES_LO v).service = u.service := fun u =>
    u.service_setPair (by decide) (by decide)
  have hput : ∀ (u : State) a b, (u.nvPut a b).service = u.service := fun _ _ _ => rfl
  have heach : ∀ (u : State) l, (u.nvEach l).service = u.service := fun u l =>
    foldl_keeps State.service (fun t (p : Nat × List Byte) => t.service_nvStore p.1 p.2 1) l u
  have huser : ∀ (u : State) o d, (u.userPut o d).service = u.service := fun u o d =>
    (hrow _ _).trans (foldl_keeps State.service (fun t (p : Byte × Nat) => hput t _ _) _ u)
  have hposted : ∀ (u : State) o, (u.post o).service = u.service := by
    intro u o
    unfold State.post
    split <;> rfl
  unfold State.nvPart
  dsimp only
  split
  · split
    · rfl
    · dsimp only
      split
      · rfl
      · exact hposted _ _
  · split
    · rfl
    · split
      · exact heach _ _
      · split
        · rfl
        · split
          · rfl
          · split
            · split
              · rfl
              · exact hrow _ _
            · exact huser _ _ _
  · rfl

theorem State.service_nvCut : s.nvCut.service = s.service := by
  unfold State.nvCut
  split
  · split
    · exact s.service_nvPart _
    · rfl
  · rfl

theorem service_offCoil : OffCoil State.service where
  coil _ _ := rfl
  free _ _ := rfl
  shut s m := by
    unfold State.setShut
    dsimp only
    split <;> rfl
  complete s := s.service_complete

theorem State.service_coilPowerStop : s.coilPowerStop.service = s.service :=
  (service_offCoil.dropHeld _ _ _).trans ((service_offCoil.stopProfile _ _ _).trans
    ((service_offCoil.dropHeld _ _ _).trans (service_offCoil.stopProfile s _ _)))

theorem State.service_dropCal : s.dropCal.service = s.service := by
  have hrestored : ∀ u : State, (match u.casks.restore with
      | some p => { u with casks.restore := none, tol.prof := p }
      | none => u).service = u.service := by
    intro u
    split <;> rfl
  unfold State.dropCal
  dsimp only
  split
  · split
    · exact (State.service_modCask _ _ _).trans (hrestored { s with sen.rowStep := none })
    · exact hrestored { s with sen.rowStep := none }
  · exact hrestored { s with sen.rowStep := none }

theorem State.service_warmCasks : s.warmCasks.service = s.service := by
  have hload : (match s.casks.load with
      | some x => if x.stage = 1 then s.modCask x.cask fun c => { c with copying := false } else s
      | none => s).service = s.service := by
    split
    · split
      · exact s.service_modCask _ _
      · rfl
    · rfl
  exact (State.service_dropCal _).trans hload

theorem State.service_setRegN {off : Nat} (h : off ≠ Reg.BST_BOOT) (n : Nat) : (s.setRegN off n).service = s.service :=
  s.service_setReg h _

theorem State.service_showTake (t : Take) (st : Nat) : (s.showTake t st).service = s.service := by
  unfold State.showTake
  dsimp only
  rw [State.service_setRegN _ (by decide), State.service_setRegN _ (by decide), State.service_setPair _ (by decide) (by decide),
    State.service_setPair _ (by decide) (by decide), State.service_setPair _ (by decide) (by decide), State.service_setRegN _ (by decide)]

theorem State.service_interruptTake : s.interruptTake.service = s.service := by
  have hfailed : ∀ r : TakeRun, (State.fail { s with cel.run := none } r.cid St.aborted Why.power).service = s.service := fun r =>
    State.service_fail _ _ _ _
  have hheld : ∀ (u : State) r, u.service = s.service →
      { u with cel.run := none, cel.interrupted := some r, cel.repowered := false }.service = s.service := fun _ _ h => h
  unfold State.interruptTake
  split
  · rfl
  · next r _ =>
    split
    · exact hfailed r
    · exact hheld _ r (s.service_showTake r.t 0)

theorem State.service_endChain (cause : Nat) : (s.endChain cause).service = s.service := by
  unfold State.endChain
  split
  · rfl
  · exact State.service_event _ _ _

theorem State.service_warmStreams : s.warmStreams.service = s.service := by
  have hchain : ∀ u : State, (if u.sec.chain.isSome then u.endChain 2 else u).service = u.service := by
    intro u
    split
    · exact u.service_endChain 2
    · rfl
  have hinterrupted := State.service_interruptTake { s with cel.replay := none }
  unfold State.warmStreams
  dsimp only
  generalize State.interruptTake { s with cel.replay := none } = u at hinterrupted ⊢
  exact (hchain { u with cel.repowered := u.cel.interrupted.isSome }).trans hinterrupted

theorem State.service_takeRole (n : Nat) : (s.takeRole n).service = s.service := by
  unfold State.takeRole
  split
  · split <;> rfl
  · unfold State.startRotRun
    split
    · exact State.service_advanceRun _ _ _ _
    · rfl
  · rfl

theorem State.service_endDrains : s.endDrains.service = s.service := by
  have hdrained : ∀ (u : State) n, (u.doDrainEnd n).service = u.service := by
    intro u n
    unfold State.doDrainEnd
    dsimp only
    split
    · split
      · rfl
      · exact State.service_takeRole _ _
    · rfl
  exact foldl_keeps State.service hdrained _ s

theorem State.service_dropSlices : s.dropSlices.service = s.service.filled none := by
  have hended : ∀ (u : State) (r : BistRun), (match r.cid with
      | some c => u.complete c St.aborted Why.power (some r.notPassed) (some r.block)
      | none => u).service = u.service := by
    intro u r
    split
    · exact u.service_complete _ _ _ _ _
    · rfl
  unfold State.dropSlices
  dsimp only
  refine (foldl_keeps State.service hended _ _).trans ?_
  exact congrArg (Service.filled · none) (foldl_keeps State.service (fun u (x : SliceRun) => u.service_releaseUnit x.id) _ s)

theorem State.service_warmBist : s.warmBist.service = s.service.filled none := by
  unfold State.warmBist
  dsimp only
  split
  · rw [State.service_endFull, State.service_dropSlices]
    rfl
  · exact s.service_dropSlices

theorem State.service_resumeSnaps : s.resumeSnaps.service = s.service := by
  unfold State.resumeSnaps
  split <;> rfl

/-- A warm reset before it clears the registers. -/
def State.warmEnded (s : State) (cause : Nat) : State :=
  let s := ((s.nvCut.warmHif).warmCause cause).coilPowerStop.warmCasks
  let s := (s.warmStreams.warmPend.endDrains.warmBist).warmHkc.resumeSnaps
  if s.inStream then s.goState .ready else s

theorem State.warmReset_eq (cause : Nat) : s.warmReset cause = (s.warmEnded cause).warmHif.warmClear := by
  unfold State.warmReset State.warmEnded
  dsimp only

theorem State.service_warmPend : s.warmPend.service = s.service := rfl
theorem State.service_warmHkc : s.warmHkc.service = s.service := rfl
theorem State.service_warmHif : s.warmHif.service = s.service := rfl

/-- The warm reset's cause, and one more warm reset (R441). -/
def Service.counted (v : Service) (cause : Nat) : Service := { v with cause, warmCount := min 255 (v.warmCount + 1) }

theorem State.service_warmCause (cause : Nat) : (s.warmCause cause).service = s.service.counted cause := rfl

theorem State.service_warmEnded (cause : Nat) : (s.warmEnded cause).service = (s.service.counted cause).filled none := by
  have hstate : ∀ u : State, (if u.inStream then u.goState .ready else u).service = u.service := by
    intro u
    split
    · exact u.service_goState _
    · rfl
  unfold State.warmEnded
  dsimp only
  rw [hstate, State.service_resumeSnaps, State.service_warmHkc, State.service_warmBist, State.service_endDrains, State.service_warmPend,
    State.service_warmStreams, State.service_warmCasks, State.service_coilPowerStop, State.service_warmCause, State.service_warmHif,
    State.service_nvCut]

/-! ## Registers after a warm reset (R446) -/

/-- The bits that R446 names keep their values, the others take their reset value. -/
theorem reg_warmRegs (regs : Tab Word) (o : Nat) :
    ∃ v, tabGet resetVal (warmRegs regs) o = (v &&& keptMask o) ||| (resetVal o &&& ~~~(keptMask o)) := by
  unfold warmRegs
  refine List.foldlRecOn
    (motive := fun t => ∃ v, tabGet resetVal t o = (v &&& keptMask o) ||| (resetVal o &&& ~~~(keptMask o))) _ _ ?_ fun t ht p _ => ?_
  · refine ⟨resetVal o, BitVec.eq_of_getLsbD_eq fun i _ => ?_⟩
    show (resetVal o).getLsbD i = _
    simp only [BitVec.getLsbD_or, BitVec.getLsbD_and, BitVec.getLsbD_not]
    cases (resetVal o).getLsbD i <;> cases (keptMask o).getLsbD i <;> simp_all
  · rw [tabGet_tabSet]
    split
    · next ho => exact ⟨p.2, by rw [ho]⟩
    · exact ht

/-- A flag that is not kept and whose reset value is 0. -/
theorem State.flag_warmClear {f : Fld} (hw : f.wd = 1) (hkept : (keptMask f.off).getLsbD f.lo = false)
    (hreset : (resetVal f.off).getLsbD f.lo = false) : s.warmClear.flag f = false := by
  obtain ⟨v, hv⟩ := reg_warmRegs s.regs f.off
  rw [flag_eq_getLsbD _ hw, show s.warmClear.reg f.off = _ from hv]
  simp only [BitVec.getLsbD_or, BitVec.getLsbD_and, hkept, hreset, Bool.and_false, Bool.false_and, Bool.or_self]

/-- The enables of the channels are such flags. -/
theorem State.chanOn_warmClear {ch : Nat} (hch : ch < 8) : s.warmClear.chanOn ch = false := by
  have hmask : (keptMask (Reg.HIF_CH_CTRL ch)).getLsbD 0 = false ∧ (resetVal (Reg.HIF_CH_CTRL ch)).getLsbD 0 = false := by
    interval_cases ch <;> exact ⟨rfl, rfl⟩
  exact s.flag_warmClear rfl hmask.1 hmask.2

/-- What a warm reset forgets (R273, R437, R446) and counts (R441). -/
def State.WarmReset (s t : State) (cause : Nat) : Prop :=
  t.hif.outstanding = [] ∧ t.hif.held = [] ∧ t.cmdRun = false ∧ (∀ ch, ch < 8 → t.chanOn ch = false) ∧ t.hif.busMaster = false ∧
    t.cap = [] ∧ t.pow.cause = cause ∧ t.pow.warmCount = min 255 (s.pow.warmCount + 1)

theorem State.cleared_spec {u : State} {cause : Nat} (h : u.service = (s.service.counted cause).filled none) :
    s.WarmReset u.warmHif.warmClear cause :=
  ⟨rfl, rfl, State.flag_warmClear _ rfl rfl rfl, fun _ => State.chanOn_warmClear _, rfl, rfl, congrArg Service.cause h,
    congrArg Service.warmCount h⟩

theorem State.warmReset_spec (cause : Nat) : s.WarmReset (s.warmReset cause) cause := by
  rw [State.warmReset_eq]
  exact s.cleared_spec (s.service_warmEnded cause)

theorem State.pow_cleared : s.warmHif.warmClear.pow = s.pow := rfl
theorem State.linkSpeed_cleared : s.warmHif.warmClear.hif.linkSpeed = s.hif.linkSpeed := rfl

theorem perstN_of_service {s : State} {v : Service} (h : s.service = v) : s.pow.perstN = v.perstN := congrArg Service.perstN h

theorem linkSpeed_of_service {s : State} {v : Service} (h : s.service = v) : s.hif.linkSpeed = v.linkSpeed := congrArg Service.linkSpeed h

theorem State.perstN_warmReset (cause : Nat) : (s.warmReset cause).pow.perstN = s.pow.perstN := by
  rw [State.warmReset_eq, State.pow_cleared, perstN_of_service (s.service_warmEnded cause)]
  rfl

theorem State.linkSpeed_warmReset (cause : Nat) : (s.warmReset cause).hif.linkSpeed = s.hif.linkSpeed := by
  rw [State.warmReset_eq, State.linkSpeed_cleared, linkSpeed_of_service (s.service_warmEnded cause)]
  rfl

/-- The end of the command touches nothing of that. -/
theorem State.warmReset_commit {t u : State} {cause : Nat} (h : s.WarmReset t cause) : s.WarmReset (commit u t) cause := by
  unfold State.WarmReset at *
  simp only [cmdRun_commit, chanOn_commit, commit_cap, commit_pow]
  rw [commit_hif]
  exact h

theorem linkSpeed_commit (t : State) : (commit s t).hif.linkSpeed = t.hif.linkSpeed := by
  rw [commit_hif]

/-! ## The two causes (R437) -/

/-- PERST_N is asserted, and the link is down (R437). -/
def State.unlinked (s : State) : State :=
  State.drew { s with pow.perstN := false, hif.linkSpeed := 0, hif.linkWidth := s.freeVal % 64, linkL12 := false }

variable {s}

theorem State.warmReset_unlinked {t : State} {cause : Nat} (h : s.WarmReset t cause) : s.WarmReset t.unlinked cause := h

theorem exec_functionLevelReset : exec .functionLevelReset s = run (fun s => if s.pow.perstN then s.warmReset 9 else s) s := rfl

theorem yields_perstNAssert (hp : s.powered) (hperst : s.pow.perstN = true) :
    Yields .perstNAssert s fun t => s.WarmReset t 8 ∧ t.pow.perstN = false ∧ t.hif.linkSpeed = 0 := by
  have hreset := s.warmReset_commit (u := s) (State.warmReset_unlinked (s.warmReset_spec 8))
  have hexec : ∃ m, exec .perstNAssert s = .next { commit s (s.warmReset 8).unlinked with mono := m } := by
    show ∃ m, execPerstNAssert s = _
    unfold execPerstNAssert runPower
    dsimp only
    rw [hperst, Bool.not_true, if_neg Bool.false_ne_true, if_neg hp]
    generalize s.warmReset 8 = u
    exact ⟨_, rfl⟩
  generalize s.warmReset 8 = u at hreset hexec
  obtain ⟨m, hm⟩ := hexec
  exact ⟨_, hm, hreset, congrArg Pow.perstN (commit_pow s _), linkSpeed_commit s _⟩

theorem yields_functionLevelReset (hp : s.powered) (hperst : s.pow.perstN = true) :
    Yields .functionLevelReset s fun t => s.WarmReset t 9 ∧ t.pow.perstN = true ∧ t.hif.linkSpeed = s.hif.linkSpeed := by
  refine ⟨commit s (s.warmReset 9), ?_, s.warmReset_commit (s.warmReset_spec 9), ?_, ?_⟩
  · rw [exec_functionLevelReset, run_of_powered _ _ hp, if_pos hperst]
  · rw [commit_pow, State.perstN_warmReset, hperst]
  · rw [linkSpeed_commit, State.linkSpeed_warmReset]

/-- Settles O40: a warm reset clears the host interface and the registers last, and what it ends before spares the cause and the count. -/
theorem warmResetsForgetCommands : Obligations.WarmResetsForgetCommands := fun _ hp hperst =>
  ⟨yields_perstNAssert hp hperst, yields_functionLevelReset hp hperst, 
    fun u => ⟨_, rfl, commit_pow u { u with pow.perstN := true }⟩⟩

end Sys2Proof.Machine
end

section
/-! Start-up: RECALL, the boot, boot BIST and the link (R255, R256, R310, R377, R387, R388, R418). -/

namespace Sys2Proof.Machine

open Sys2Proof

variable (s : State)

theorem exec_recallComplete (us : Nat) : exec (.recallComplete us) s =
    runIf "RECALL_COMPLETE" (Instr.wf (.recallComplete us)) (fun s => s.doRecall us) s := rfl
theorem exec_bootComplete (d : SpiSlots) : exec (.bootComplete d) s = run (fun s => s.doBoot d) s := rfl
theorem exec_bootBistEnd : exec .bootBistEnd s = run State.doBootBist s := rfl

/-! ## RECALL (R310, R377) -/

theorem pow_offRecord : OffRecord State.pow := ⟨fun _ _ _ _ => rfl, fun _ _ => rfl, fun _ _ _ _ => rfl, fun _ _ => rfl⟩

theorem State.st_goState (p : PState) : (s.goState p).pow.st = p := by
  unfold State.goState
  split
  · next h => exact h
  · exact congrArg Pow.st (pow_offRecord.event _ _ _)

theorem State.reg_goState {o : Nat} (hblock : o / 0x400 ≠ 1) (hev : o ≠ Reg.GLB_EVENT) (p : PState) :
    (s.goState p).reg o = s.reg o := by
  unfold State.goState
  split
  · rfl
  · exact ((reg_offHost hblock).event _ _ _).trans (State.reg_setReg_ne _ _ hev)

theorem State.regN_goState {o : Nat} (hblock : o / 0x400 ≠ 1) (hev : o ≠ Reg.GLB_EVENT) (p : PState) :
    (s.goState p).regN o = s.regN o := congrArg BitVec.toNat (s.reg_goState hblock hev p)

/-- The time that RECALL took is the last thing that it writes (R377). -/
theorem State.regN_recallNv (recs : List AbRec) {us : Nat} (hus : us < 2 ^ 32) : (s.recallNv recs us).regN Reg.NVS_RECALL_US = us := by
  unfold State.recallNv
  dsimp only
  exact regN_setRegN hus

theorem State.doRecall_spec {us : Nat} (hus : us < 2 ^ 32) (hst : s.pow.st = .recall) :
    (s.doRecall us).pow.st = .standby ∧ (s.doRecall us).regN Reg.NVS_RECALL_US = us := by
  have hrecalled := s.regN_recallNv [abTrims, abFwMeta, abBist] hus
  unfold State.doRecall
  rw [if_neg (not_not.2 hst)]
  generalize s.recallNv [abTrims, abFwMeta, abBist] us = u at hrecalled ⊢
  exact ⟨State.st_goState _ _, (State.regN_goState _ (by decide) (by decide) _).trans hrecalled⟩

theorem yields_recallComplete {s : State} (hp : s.powered) {us : Nat} (hus : us < 2 ^ 32) (hst : s.pow.st = .recall) :
    Yields (.recallComplete us) s fun t => t.pow.st = .standby ∧ t.regN Reg.NVS_RECALL_US = us := by
  obtain ⟨hstandby, htime⟩ := s.doRecall_spec hus hst
  refine yields_of_runIf (exec_recallComplete s us) (decide_eq_true hus) hp ⟨?_, ?_⟩
  · rw [commit_pow, hstandby]
  · unfold State.regN at htime ⊢
    rw [reg_commit_ne _ _ (by decide), htime]

/-! ## Boot (R387, R388) -/

theorem sec_offRecord : OffRecord State.sec := ⟨fun _ _ _ _ => rfl, fun _ _ => rfl, fun _ _ _ _ => rfl, fun _ _ => rfl⟩

theorem State.sec_putMeta (typ : Nat) (e : MetaEnt) : (s.putMeta typ e).sec = s.sec := by
  unfold State.putMeta
  dsimp only
  split
  · unfold State.abWrite
    dsimp only
    rw [sec_offRecord.nvRows, sec_offRecord.nvRows]
    rfl
  · rfl

/-- The boot metadata touches no slot. -/
theorem State.slots_bootMeta : s.bootMeta.1.sec.slots = s.sec.slots := by
  have hput : ∀ e, (s.putMeta 0 e).sec.slots = s.sec.slots := fun e => congrArg Sec.slots (s.sec_putMeta 0 e)
  unfold State.bootMeta
  dsimp only
  split
  · rfl
  · split
    · exact hput _
    · exact hput _

/-- Where the SPI NOR device did not answer, no image verifies. -/
theorem State.bootImage_of_erased {typ : Nat} (h : s.sec.slots.getD typ (none, none) = (none, none)) (slot : Nat) :
    (s.bootImage typ slot).2 = none := by
  have herased : ∀ (u : State), u.sec.slots = s.sec.slots → ∀ k, u.verifies typ (u.slotImg typ k) = false := by
    intro u hu k
    unfold State.slotImg
    rw [hu, h]
    split <;> rfl
  have hlogged := congrArg Sec.slots (sec_offRecord.nvLog (s.sticky Fld.SEC_STATUS_FW_FALLBACK) 0x10 (leBytes 1 typ ++ leBytes 1 slot))
  unfold State.bootImage
  rw [herased s rfl, if_neg Bool.false_ne_true]
  dsimp only
  generalize (s.sticky Fld.SEC_STATUS_FW_FALLBACK).nvLog 0x10 (leBytes 1 typ ++ leBytes 1 slot) = u at hlogged ⊢
  split
  · next hv => exact absurd ((herased { u with sec.fallback := true } hlogged (1 - slot)).symm.trans hv) Bool.false_ne_true
  · rfl

/-- The boot ends in the normal mode, or in recovery; in recovery where the SPI NOR device does not answer (R387, R388). -/
theorem State.boot_bootChain (d : SpiSlots) :
    (s.bootChain d).sec.boot ≠ .booting ∧ (d.answers = false → (s.bootChain d).sec.boot = .recovery) := by
  unfold State.bootChain
  dsimp only
  split
  · exact ⟨BootMode.noConfusion, fun _ => rfl⟩
  · next used hused =>
    refine ⟨BootMode.noConfusion, fun hanswers => ?_⟩
    have hnone := hused.symm.trans (State.bootImage_of_erased _ (by
      rw [State.slots_bootMeta, hanswers]
      rfl) _)
    exact absurd hnone (Option.some_ne_none used)

theorem State.boot_carryOut : s.carryOut.sec.boot = s.sec.boot := by
  obtain ⟨f, hf⟩ := s.service_carryOut
  exact congrArg Service.boot hf

theorem State.boot_startFull (kind : Nat) : (s.startFull kind).sec.boot = s.sec.boot := by
  obtain ⟨f, hf⟩ := s.service_startFull kind
  exact congrArg Service.boot hf

theorem State.boot_bootBist : s.bootBist.sec.boot = s.sec.boot := by
  have hshown : ∀ (u : State) f x, (u.setFld f x).sec.boot = u.sec.boot := fun _ _ _ => rfl
  have hrun : ∀ u : State, (if u.skipsBist then u.setFld Fld.BST_BOOT_SKIPPED 1
      else (u.setFld Fld.BST_BOOT_RAN 1).startFull Owner.boot).sec.boot = u.sec.boot := by
    intro u
    split
    · exact hshown _ _ _
    · exact (State.boot_startFull _ _).trans (hshown _ _ _)
  unfold State.bootBist
  dsimp only
  rw [hrun, hshown]

/-- What follows the chain of R387 leaves the outcome of the boot. -/
theorem State.boot_doBoot (d : SpiSlots) (hboot : s.sec.boot = .booting) (hst : s.pow.st = .standby) :
    (s.doBoot d).sec.boot = (s.bootChain d).sec.boot := by
  unfold State.doBoot
  rw [if_neg (not_or.2 ⟨not_not.2 hboot, not_not.2 hst⟩)]
  dsimp only
  generalize s.bootChain d = u
  split
  · have hserved : ∀ w : State, (if w.startedUp then w.carryOut else w).sec.boot = w.sec.boot := by
      intro w
      split
      · exact w.boot_carryOut
      · rfl
    exact (hserved _).trans (State.boot_bootBist _)
  · exact u.boot_carryOut

theorem yields_bootComplete {s : State} (hp : s.powered) (d : SpiSlots) (hboot : s.sec.boot = .booting) (hst : s.pow.st = .standby) :
    Yields (.bootComplete d) s fun t => t.sec.boot ≠ .booting ∧ (d.answers = false → t.sec.boot = .recovery) := by
  refine yields_of_run (exec_bootComplete s d) hp ?_
  rw [commit_sec, s.boot_doBoot d hboot hst]
  exact s.boot_bootChain d

/-! ## Boot BIST (R418, R420) -/

theorem State.st_endFull : s.endFull.pow.st = s.pow.st := by
  unfold State.endFull
  dsimp only
  split
  · refine foldl_keeps (fun u : State => u.pow.st) (fun u n => ?_) _ _
    split <;> rfl
  · rfl

/-- In STANDBY a request that waited for the end of a full BIST starts no other one, and spares the outcome. -/
theorem State.endFull_carryOut (hst : s.pow.st = .standby) :
    s.endFull.carryOut.bst.full = none ∧ s.endFull.carryOut.flag Fld.BST_BOOT_PASSED = s.flag Fld.BST_BOOT_PASSED := by
  have hservice : s.endFull.carryOut.service = s.service.filled none :=
    (s.endFull.service_carryOut_standby (s.st_endFull.trans hst)).trans s.service_endFull
  exact ⟨congrArg Service.full hservice, flag_of_reg (f := Fld.BST_BOOT_PASSED) (congrArg Service.report hservice)⟩

/-- The outcome shows beside the time that the boot BIST took (R420). -/
theorem State.flag_passed (passed : Bool) (ms : Nat) :
    ((s.setFld Fld.BST_BOOT_PASSED (b2n passed)).setFld Fld.BST_BOOT_DUR_MS ms).flag Fld.BST_BOOT_PASSED = passed := by
  rw [State.flag_setFld_ne _ (.inl (by decide)), State.flag, State.fld_setFld_self _ (by decide)]
  cases passed <;> rfl

theorem State.doBootBist_spec (hst : s.pow.st = .standby) (hover : s.fullOver = true) :
    s.doBootBist.bst.full = none ∧ s.doBootBist.flag Fld.BST_BOOT_PASSED = !s.bst.fullBad := by
  have hended := fun ms =>
    State.endFull_carryOut ((s.setFld Fld.BST_BOOT_PASSED (b2n (!s.bst.fullBad))).setFld Fld.BST_BOOT_DUR_MS ms) hst
  unfold State.doBootBist
  rw [if_neg (by simp [hst, hover])]
  dsimp only
  exact ⟨(hended _).1, (hended _).2.trans (s.flag_passed _ _)⟩

theorem yields_bootBistEnd {s : State} (hp : s.powered) (hst : s.pow.st = .standby) (hover : s.fullOver = true) :
    Yields .bootBistEnd s fun t => t.bst.full = none ∧ t.flag Fld.BST_BOOT_PASSED = !s.bst.fullBad := by
  refine yields_of_run (exec_bootBistEnd s) hp ?_
  rw [commit_bst, flag_commit (by decide)]
  exact s.doBootBist_spec hst hover

/-! ## Link and bus (R255, R256, R438) -/

theorem yields_linkUp {s : State} (hp : s.powered) {speed width : Nat} (h3 : 3 ≤ speed) (h5 : speed ≤ 5) (hw : width ∈ [1, 2, 4, 8])
    (hperst : s.pow.perstN = true) (hst : s.pow.st ≠ .recall) :
    Yields (.linkUp speed width) s fun t => t.hif.linkSpeed = speed ∧ t.hif.linkWidth = width := by
  have hwf : Instr.wf (.linkUp speed width) = true := by simpa [Instr.wf, h3, h5] using hw
  refine yields_of_runIf (exec_linkUp s speed width) hwf hp ?_
  rw [show s.doLinkUp speed width = { s with hif.linkSpeed := speed, hif.linkWidth := width, linkL12 := false } from
    if_pos (by simp [hperst, hst]), commit_hif]
  exact ⟨rfl, rfl⟩

theorem busOk_commit (t : State) : (commit s t).busOk = t.busOk := by
  unfold State.busOk
  rw [commit_hif]

/-- Settles O41: each step of start-up writes its outcome, and what follows in the same command leaves it. -/
theorem startUpEndsInService : Obligations.StartUpEndsInService := by
  intro s hp
  refine ⟨fun _ => yields_recallComplete hp, fun d => yields_bootComplete hp d, yields_bootBistEnd hp, fun _ _ => yields_linkUp hp,
    ?linkDown, ?d3hotEntry, ?d3hotExit⟩
  case linkDown => exact yields_of_run (exec_linkDown s) hp (linkSpeed_commit s _)
  case d3hotEntry =>
    exact yields_of_run (exec_d3hotEntry s) hp ((busOk_commit s _).trans (Bool.and_false _))
  case d3hotExit =>
    refine yields_of_run (exec_d3hotExit s) hp ?_
    have hbus := bus_offRings.resumeBus { s with hif.d3hot := false }
    rw [busOk_commit]
    exact (congrArg (fun b : Bool × Bool => b.1 && !b.2) hbus).trans (Bool.and_true _)

end Sys2Proof.Machine
end
